-- ==== Sys2Proof/Word.lean ====
section
/-!
DEFINITION. The word types of the end: register words, flits, slots, messages and sideband frames (R7, R8, R87, R157).
-/

namespace Sys2Proof

/-- A 64-bit register, table word or message (R439, R176). -/
abbrev Word := BitVec 64

/-- A value of the beat counter, unsigned modulo 2^64 (R359). -/
abbrev Beat := BitVec 64

/-- A byte of memory (R8). -/
abbrev Byte := BitVec 8

/-- A 16-byte slot of a bulk flit, or unit of the die port (R160, R32). -/
abbrev Slot := BitVec 128

/-- A 256-byte bulk flit; bit b is bit b mod 8 of byte b div 8 (R157). -/
abbrev BulkFlit := BitVec 2048

/-- A 32-byte control flit (R174). -/
abbrev CtrlFlit := BitVec 256

/-- A 64-bit sideband or strap frame (R87). -/
abbrev Frame := BitVec 64

/-- A 64-byte Basin line (R331). -/
abbrev Line := BitVec 512

end Sys2Proof
end

