-- ==== Sys2Proof/Syntax.lean ====
section
/-!
DEFINITION. The commands of the end: one constructor of `Instr` for each row of spec/opcode_table.json, with the operands the
outside world supplies. A row whose happening is timed in beats carries `now`, the beat at which it happens; a row timed in
cycles of another clock carries `cycles`, the cycles its timer has run (R4). A sideband row carries the three channel copies
(R90). Rows whose happening concerns an item the end already queues (a message of the control stream, an engine request, a
DMA instruction) carry no copy of it: they act on the head of that queue. An operand `ue` says which word the row's own read of an
array finds uncorrectable (R418); it is none, and the other operands with a default have it, where the row does not say.
-/

namespace Sys2Proof

/-- The clock domains, in clock bit order (R442). -/
inductive Clock where
  | mclk | dclk | eclk | bclk | lclk | phyTx | phyRx0 | phyRx1 | phyRx2 | phyRx3 | phyRx4 | sbTx
  deriving DecidableEq, Repr

/-- The fuse inputs of R64. -/
structure Fuses where
  /-- FUSE_OK -/
  ok : Bool
  /-- FUSE_ASSY -/
  assy : BitVec 4
  /-- FUSE_DIE -/
  die : BitVec 4
  /-- FUSE_ROLE -/
  role : BitVec 2
  /-- FUSE_COL -/
  col : BitVec 6
  /-- FUSE_QID, entry i at [32i+31:32i] -/
  qid : BitVec 256
  /-- FUSE_QID_EN -/
  qidEn : BitVec 8
  deriving DecidableEq, Repr

/-- What the three sideband channels bring about the time of one frame: on each a copy, or none, and the bit time in which its SOF
arrives. Copies of one frame have one FSEQ and arrive within 4 bit times of one another (R90). `idle` counts the high bit times on the
channel before the SOF (R87, R88). -/
structure SbCopies where
  ch0 : Option Frame
  ch1 : Option Frame
  ch2 : Option Frame
  at0 : Nat := 0
  at1 : Nat := 0
  at2 : Nat := 0
  idle0 : Nat := 8
  idle1 : Nat := 8
  idle2 : Nat := 8
  deriving DecidableEq, Repr

/-- One cycle offered on the inbound die port (R32): DPI_CLASS, the units offered and DPI_LAST. -/
structure DieCycle where
  cls : BitVec 2
  units : List Slot
  last : Bool
  deriving DecidableEq, Repr

/-- The trims that a receiving end holds (R115). -/
inductive TrimKind where
  | duty | phase | deskew | offset
  deriving DecidableEq, Repr

/-- What the shadow sampler of one site counted in a correction window (R116), for even and odd n. -/
structure EdgeCounts where
  site : Nat
  rE : Nat
  srE : Nat
  fE : Nat
  sfE : Nat
  rO : Nat
  srO : Nat
  fO : Nat
  sfO : Nat
  deriving DecidableEq, Repr

/-- What the shadow sampler of one site found in a measurement window (R117): its clean bins, phase bin k at (k − 32)/64 UI about the
sampling point and threshold bin k at 4 k − 126 mV about the trimmed threshold. -/
structure EyeMeas where
  site : Nat
  phase : BitVec 64
  thr : BitVec 64
  deriving DecidableEq, Repr

/-- What a bring-up calibration window found (R119): the codes its sweeps chose, or the eyes and working groups of a
measurement window. -/
structure CalWindow where
  /-- (group, code) of the duty sweep -/
  duty : List (Nat × BitVec 5)
  /-- (group, code) of the phase sweep -/
  phase : List (Nat × BitVec 7)
  /-- (site, code) of the deskew sweep -/
  deskew : List (Nat × BitVec 7)
  /-- (site, code) of the offset sweep -/
  offset : List (Nat × BitVec 6)
  /-- (site, code) that the drive window aims the far drive at -/
  drive : List (Nat × BitVec 4)
  /-- transition counts of the window that makes a background-style correction -/
  counts : List EdgeCounts
  /-- measured eyes -/
  eyes : List EyeMeas
  /-- groups whose clock and valid lane work, bit 4 the control group -/
  working : BitVec 5
  deriving DecidableEq, Repr

/-- What a finished interconnect pattern observed (R494, R496). -/
inductive TestObs where
  /-- the 64 samples of the 166 RX wires in beats 96 to 159 of each of the 167 steps, in runs: for how many beats, and the levels -/
  | walking (steps : List (List (Nat × BitVec 166)))
  /-- die loopback, in which every receiver is joined to this end's own transmitter: the samples that a fault inside the die inverts, by
  step, beat and wire -/
  | joined (faults : List (Nat × Nat × Nat))
  /-- the bits, by wire and by number from the start of the pattern, that come other than the PRBS31 stream which reaches the wire -/
  | prbs (flips : List (Nat × Nat))
  deriving DecidableEq, Repr

/-- How memory answers an access (R388, R423, R240). -/
inductive MemAnswer where
  | ok | poison | error | drained | denied | retry
  deriving DecidableEq, Repr

/-- Which write memory answered with an error or DRAINED (R353, R484, R388). -/
inductive WriteOwner where
  /-- a result or accumulator write of a window's close action -/
  | close (w : BitVec 10)
  /-- the completion record of a window -/
  | record (w : BitVec 10)
  /-- the escape-slot write of a block, with its context -/
  | escape (ctx : BitVec 14)
  /-- a write of DMA channel n -/
  | dma (ch : Fin 4)
  deriving DecidableEq, Repr

/-- An error the decoder of an array finds in a code word (R414). -/
inductive EccError where
  | correctable | uncorrectable
  deriving DecidableEq, Repr

/-- A code word of an array that a functional read finds in error (R413, R414). -/
structure ArrayErr where
  array : Nat
  index : Nat
  kind : EccError
  deriving DecidableEq, Repr

/-- The commands of the end, one constructor a row of spec/opcode_table.json. -/
inductive Instr where
  -- resets, clocks and pins
  | dieRstAssert
  | dieRstDeassert (f : Fuses)
  | dieSupplyLoss
  -- die port
  | dpiHeaderOffer (c : DieCycle)
  | dpiContinuation (c : DieCycle)
  | dieResponseOffer (c : DieCycle)
  | dpoTransferTaken (cls : BitVec 2)
  | msgInOffer (cls : BitVec 3) (data : Word)
  | msgOutTaken (cls : BitVec 3)
  | dirVerdict (tag : BitVec 12) (dirty : Bool)
  | verdictTimeout (tag : BitVec 12) (now : Beat)
  | msvReqAck
  | msvSumValid (sum : BitVec 256)
  | dmqReqEdge (ch : Fin 4)
  | dmqFillChange (ch : Fin 4) (fill : BitVec 12)
  | beatLoad (seed : Beat)
  | beatLockFall
  | tempUpdate (temp : BitVec 10) (valid : Bool)
  | budgetChange (budget : BitVec 8) (valid : Bool)
  | stkThrChange (thr : BitVec 8)
  | clockStopDetect (clk : Clock)
  | clockRestart (clk : Clock)
  | pllLock
  | pllLockTimeout (now : Beat)
  | phyUnlock
  | rxFifoSlip (g : Fin 5)
  | eclkStop
  -- management host port
  | chainAddrWrite (ti : Bool) (data : Word)
  | broadcastWrite (aper : Bool) (addr : BitVec 18) (data : Word) (wr : Bool := true)
  | registerWrite (addr : BitVec 18) (data : Word)
  | beatLoRead
  | wideRegisterRead (addr : BitVec 18) (aper : Bool := false) (errs : List ArrayErr := [])
  | evtStatClear (page : Fin 16) (mask : Word) (hw : Option (Nat × BitVec 48))
  | evtForce (page : Fin 16) (mask : Word)
  | evtFirstClear (page : Fin 16)
  | cntClr (page : Fin 16)
  | colEnableSet
  | colEnableClear
  | colRelease
  | colRstGo
  | colRstNow
  | softClr
  | applyO3 (errs : List ArrayErr := [])
  | retrainGo
  | rpaRead (page : BitVec 4) (word : BitVec 9) (lsb : BitVec 6) (width : BitVec 4)
  | rpaWrite (page : BitVec 4) (word : BitVec 9) (lsb : BitVec 6) (width : BitVec 4) (data : BitVec 16)
  | rpaRetry (now : Beat)
  | rpaTimeout (now : Beat)
  | txDriveWrite (site : Nat) (code : BitVec 4)
  | trimWrite (kind : TrimKind) (idx : Nat) (code : BitVec 7)
  | calRunGo
  | markSite (site : BitVec 8)
  | widthCmd (dir : Bool) (groups : BitVec 4) (force : Bool)
  | lowlandCmd
  | rateCtlWrite (rate : BitVec 2)
  | lLevelWrite (v : BitVec 8)
  | drainGo
  | mdrainGo
  | mdrainBound (now : Beat)
  | mscrubGo
  | lostFifoRead
  | basinInitGo
  | basinInitDone (cycles : Nat)
  | peekLineWrite (data : Word) (errs : List ArrayErr := [])
  | dmaStart (ch : Fin 4) (disable : Bool)
  | dmaDisable (ch : Fin 4)
  | cqHeadWrite (ch : Fin 4) (data : Word)
  | cqConfigWrite (ch : Fin 4) (ctl : Bool) (data : Word)
  | escNextWrite (data : Word)
  | tokenRelease
  | mirBegin
  | mirSealed
  | parkGo
  | parkWake
  | testEnter (errs : List ArrayErr := [])
  | testGo
  | testExit
  | testPatternStart (now : Beat)
  | testPatternEnd (now : Beat) (obs : TestObs)
  -- table aperture
  | bindingWrite (entry : BitVec 17) (data : Word)
  | contextWrite (ctx : BitVec 14) (word : BitVec 2) (data : Word)
  | recipeWrite (slot : BitVec 6) (word : BitVec 5) (data : Word)
  | windowArm (w : BitVec 10) (data : Word)
  | windowFree (w : BitVec 10) (data : Word)
  | windowAbort (w : BitVec 10) (data : Word)
  | windowWordWrite (w : BitVec 10) (word : BitVec 3) (data : Word)
  | overlayWrite (slot : BitVec 2) (entry : BitVec 6) (hi : Bool) (data : Word)
  | mirrorBlockWrite (off : BitVec 21) (data : Word)
  -- test wrapper
  | wsBypass (wir : BitVec 8 := 0) (wsi : Bool := false)
  | wsExtest (drive : BitVec 332) (rx : BitVec 166)
  | wsPreload (drive : BitVec 332)
  | wsIntestScan
  | bxWire (ctl : BitVec 32)
  | bxRes
  | bxLoopback (ctl : BitVec 32)
  | bxArrayBist
  | bistDone (pass : BitVec 12)
  | wrapperReset
  -- sideband and bring-up
  | trainFrame (c : SbCopies)
  | sbFrameReserved (c : SbCopies)
  | identChunk (c : SbCopies)
  | identAttemptTimeout (now : Beat)
  | sbUpTimeout (now : Beat)
  | calTimeout (now : Beat)
  | repairTimeout (now : Beat)
  | creditInitTimeout (now : Beat)
  | trainPeriodic (now : Beat)
  | sbKeepalive (now : Beat)
  | farSilentSb (now : Beat)
  | farSilentCtrl (cycles : Nat)
  | resetReq (c : SbCopies)
  | resetAck (c : SbCopies)
  | resetReqRepeat (now : Beat)
  | resetSettleBeat (now : Beat)
  | resetBeat (now : Beat)
  | resetReleaseStep (now : Beat) (cycles : Nat := 0)
  | beatMarkRx (c : SbCopies) (stamp : Beat)
  | beatMarkSend (now : Beat)
  | slewStep (now : Beat)
  | beatMarkTimeout (now : Beat)
  | heartbeatSbRx (c : SbCopies)
  | heartbeatMsgRx
  | strapHeartbeatRx (f : Frame) (idle : Nat := 8)
  | heartbeatSend (now : Beat)
  | hbPathTimeout (orig : Fin 4) (now : Beat)
  | leaseRenew (now : Beat)
  | leaseClaim (now : Beat)
  | mirrorLoadDone
  | resyncSealRead (now : Beat)
  | initOwnerTimeout (now : Beat)
  | pageRdRx (c : SbCopies)
  | pageWrRx (c : SbCopies)
  | pageRspRx (c : SbCopies)
  | repairProposeRx (c : SbCopies)
  | repairAcceptRx (c : SbCopies)
  | repairDeclineRx (c : SbCopies)
  | repairCancelRx (c : SbCopies)
  | widthProposeRx (c : SbCopies)
  | widthAcceptRx (c : SbCopies)
  | widthDeclineRx (c : SbCopies)
  | widthLowlandRx (c : SbCopies)
  | widthCancelRx (c : SbCopies)
  | calApplyProposeRx (c : SbCopies)
  | calApplyAcceptRx (c : SbCopies)
  | calApplyDeclineRx (c : SbCopies)
  | calProposeRepeat (now : Beat)
  | parkProposeRx (c : SbCopies)
  | parkAcceptRx (c : SbCopies)
  | parkDeclineRx (c : SbCopies)
  | parkCancelRx (c : SbCopies)
  | proposalRepeat (now : Beat)
  | proposalCancelDue (now : Beat)
  -- streams
  | bulkFlitArrival (flit : BulkFlit) (pos : Nat)
  | bulkCrcResult (ue : Option (Nat × Nat) := none) (errs : List ArrayErr := [])
  | ctrlFlitRx (flit : CtrlFlit)
  | creditAdvRx
  | creditRetRx
  | advDoneRx
  | squashRx
  | bulkFlitStart (ue : Option (BitVec 4) := none)
  | ctrlFlitStart (ue : Option (BitVec 1) := none)
  | ackOnlySend
  | ackOnlyKeepalive (cycles : Nat)
  | probeInterval (cycles : Nat)
  | replayTimeout (cycles : Nat)
  | nakTimeout (cycles : Nat)
  | ctrlReplayTimeout (cycles : Nat)
  | creditReturnSend
  | levelRelease (now : Beat)
  | staleCut (now : Beat)
  -- engine and windows
  | engineMemoryData (addr : BitVec 40) (data : BitVec 512) (ans : MemAnswer)
  | viewRead (errs : List ArrayErr := [])
  | viewWrite (errs : List ArrayErr := []) (miss : Bool := false)
  | xfApply (errs : List ArrayErr := []) (miss : Bool := false)
  | xfApplyR (errs : List ArrayErr := []) (miss : Bool := false)
  | xfAcc (errs : List ArrayErr := []) (miss : Bool := false)
  | atFadd (errs : List ArrayErr := [])
  | atSwap (errs : List ArrayErr := [])
  | atCas (errs : List ArrayErr := [])
  | contrib (ue : Option (BitVec 18) := none) (errs : List ArrayErr := []) (miss : Bool := false)
  | windowZeroingDone (w : BitVec 10) (cycles : Nat)
  | windowOpenBeat (w : BitVec 10) (now : Beat)
  | windowCloseBeat (w : BitVec 10) (now : Beat) (ue : Option (BitVec 18) := none) (miss : Bool := false)
  | closeWritesAccepted (w : BitVec 10)
  -- draining
  | drainQuiet
  | drainTimer (now : Beat)
  | drainToDown
  -- calibration and repair
  | scramblerRepropose (now : Beat)
  | scramblerStartBeat (now : Beat)
  | validRiseTimeout (now : Beat)
  | calWindowEnd (r : CalWindow)
  | rateStepDone
  | repairVerifyEnd (now : Beat) (mismatch : BitVec 5)
  | calCorrectionEnd (counts : List EdgeCounts)
  | calApplyBeat (now : Beat)
  | calMeasureEnd (eyes : List EyeMeas)
  | attrWindowExpiry (idx : Nat) (now : Beat) (grp : Bool := false)
  | qrPauseBeat (now : Beat)
  | qrMaskSwitch (now : Beat)
  | qrResume (now : Beat) (mismatch : Bool)
  | widthChangeBeat (now : Beat)
  | widthSwitch (now : Beat)
  | widthResume (now : Beat)
  | lowlandEntryBeat (now : Beat)
  -- arrays, power, parking
  | scrubRow (array : Nat) (errs : List (Nat × EccError)) (cycles : Nat := 0)
  | eccWriteBack (array : Nat) (index : Nat) (written : Bool := false)
  | mergeFlush (array : Nat) (cycles : Nat := 0)
  | idleClockedEntry (cycles : Nat)
  | engineCapRecompute (now : Beat) (ready : Nat) (period : Nat)
  | rateAutoStep (now : Beat)
  | parkIdleTimeout (now : Beat)
  | parkBeat (now : Beat)
  | lanesStop
  | farClockDetect
  | wakeHoldEnd
  -- DMA
  | move (ch : Fin 4)
  | loop (ch : Fin 4)
  | wait (ch : Fin 4)
  | signal (ch : Fin 4)
  | dmaWaitBeat (ch : Fin 4) (now : Beat)
  | dmaProgramFetch (ch : Fin 4) (data : BitVec 1024) (ans : MemAnswer)
  | dmaReadData (ch : Fin 4) (data : BitVec 512) (ans : MemAnswer) (errs : List ArrayErr := [])
  | dmaWritesAccepted (ch : Fin 4)
  | dmaBusRetry (ch : Fin 4) (now : Beat) (ans : MemAnswer)
  -- lanes, engine clock, memory errors, event crossings
  | validLaneRise (g : Fin 5)
  | eclkRestart
  | memoryWriteError (o : WriteOwner) (ans : MemAnswer)
  | eventCrossingIdle (clk : Clock)
  deriving DecidableEq, Repr

end Sys2Proof
end

