-- ==== Sys2Proof/Decode.lean ====
section
/-!
DEFINITION. The opcode table gives no row any bits: a word spells no command.
-/

namespace Sys2Proof

/-- The command that a word spells by the table's bits. No row of spec/opcode_table.json has bits, so none does. -/
def decodeTableWord (_nbits _w : Nat) : Option Instr := none

end Sys2Proof
end

