-- ==== Sys2Proof/Machine/Registers.lean ====
section
/-!
DEFINITION. The register map: every field of pages 0 to 15 with the manual's own names, the rows that say what each register
resets to and what a host-port write may put into it (R439 to R464), and the sparse maps that hold registers, tables, Basin
lines and memory in one canonical form.
-/

namespace Sys2Proof.Machine

/-! ### Sparse maps -/

/-- The entry at key `k`, if listed. -/
def Sparse.find {α : Type} : List (Nat × α) → Nat → Option α
  | [], _ => none
  | (k', v) :: m, k => if k' = k then some v else Sparse.find m k

/-- List `v` at key `k` of a map with rising keys. -/
def Sparse.insert {α : Type} (k : Nat) (v : α) : List (Nat × α) → List (Nat × α)
  | [] => [(k, v)]
  | (k', v') :: m =>
    if k < k' then (k, v) :: (k', v') :: m
    else if k = k' then (k, v) :: m
    else (k', v') :: Sparse.insert k v m

/-- List `v` at key `k` of a map with rising keys; `none` takes the entry away. -/
def Sparse.set {α : Type} (k : Nat) (v : Option α) (m : List (Nat × α)) : List (Nat × α) :=
  match v with
  | some x => Sparse.insert k x m
  | none => m.filter (fun e => e.1 != k)

/-- Canonical form: keys strictly rising, and no entry that equals what an unlisted key reads as. -/
def Sparse.wf {α : Type} [DecidableEq α] (dflt : Nat → Option α) : List (Nat × α) → Bool
  | [] => true
  | [(k, v)] => decide (some v ≠ dflt k)
  | (k, v) :: (k', v') :: m => decide (some v ≠ dflt k) && decide (k < k') && Sparse.wf dflt ((k', v') :: m)

/-! ### Fields and words -/

/-- A field of a register: the register's key (4096 times its page, plus its byte offset), its lowest bit and its width. -/
structure Field where
  key : Nat
  lo : Nat
  width : Nat
  deriving DecidableEq, Repr

/-- The bits [lo + width - 1 : lo] of a number. -/
def bits (n lo width : Nat) : Nat := (n >>> lo) % 2 ^ width

/-- `w` with the bits [lo + width - 1 : lo] replaced by `v` modulo 2^width. -/
def setBits (w : Word) (lo width v : Nat) : Word :=
  BitVec.ofNat 64 (w.toNat - (bits w.toNat lo width <<< lo) + ((v % 2 ^ width) <<< lo))

/-- Which roles a field serves (R453). -/
inductive Serves where
  | all | mEnd | hEnd
  deriving DecidableEq, Repr

/-- A writable field of a register: its place, its programmable range (R6) and the roles it serves (R453). -/
structure RwField where
  lo : Nat
  width : Nat
  min : Nat := 0
  max : Nat := 2 ^ width - 1
  serves : Serves := .all
  deriving DecidableEq, Repr

/-- One register, or an array of registers, of a page. -/
structure RegRow where
  off : Nat
  count : Nat := 1
  stride : Nat := 8
  reset : Nat := 0
  rw : List RwField := []
  /-- mask of the WO bits -/
  wo : Nat := 0
  deriving DecidableEq, Repr

/-! ### Fields that every page holds (R443, R446) -/

/-- PAGE_CTL.CNT_CLR of page `p` (R443). -/
def PAGE.PAGE_CTL.CNT_CLR (p : Nat) : Field := ⟨4096 * p + 0x010, 0, 1⟩
/-- PAGE_STAT.CLK_ALIVE of page `p` (R443). -/
def PAGE.PAGE_STAT.CLK_ALIVE (p : Nat) : Field := ⟨4096 * p + 0x018, 0, 12⟩
/-- PAGE_STAT.EVT_COUNT of page `p` (R443). -/
def PAGE.PAGE_STAT.EVT_COUNT (p : Nat) : Field := ⟨4096 * p + 0x018, 32, 32⟩
/-- EVT_FIRST.BIT of page `p` (R443). -/
def PAGE.EVT_FIRST.BIT (p : Nat) : Field := ⟨4096 * p + 0x038, 0, 6⟩
/-- EVT_FIRST.VALID of page `p` (R443). -/
def PAGE.EVT_FIRST.VALID (p : Nat) : Field := ⟨4096 * p + 0x038, 6, 1⟩
/-- EVT_FIRST.FORCED of page `p` (R443). -/
def PAGE.EVT_FIRST.FORCED (p : Nat) : Field := ⟨4096 * p + 0x038, 7, 1⟩
/-- EVT_FIRST.VALUE of page `p` (R443). -/
def PAGE.EVT_FIRST.VALUE (p : Nat) : Field := ⟨4096 * p + 0x038, 16, 48⟩
/-- REFUSED.OFFSET of page `p` (R443). -/
def PAGE.REFUSED.OFFSET (p : Nat) : Field := ⟨4096 * p + 0x040, 0, 12⟩
/-- REFUSED.APER of page `p` (R443). -/
def PAGE.REFUSED.APER (p : Nat) : Field := ⟨4096 * p + 0x040, 12, 1⟩
/-- REFUSED.STATE of page `p` (R443). -/
def PAGE.REFUSED.STATE (p : Nat) : Field := ⟨4096 * p + 0x040, 16, 4⟩
/-- REFUSED.REASON of page `p` (R443). -/
def PAGE.REFUSED.REASON (p : Nat) : Field := ⟨4096 * p + 0x040, 20, 8⟩
/-- REFUSED.DATA of page `p` (R443). -/
def PAGE.REFUSED.DATA (p : Nat) : Field := ⟨4096 * p + 0x040, 32, 16⟩
/-- REFUSED.COUNT of page `p` (R443). -/
def PAGE.REFUSED.COUNT (p : Nat) : Field := ⟨4096 * p + 0x040, 48, 16⟩
/-- EVT_STAT of page `p` (R443). -/
def PAGE.EVT_STAT (p : Nat) : Field := ⟨4096 * p + 0x020, 0, 64⟩
/-- EVT_EN of page `p` (R443). -/
def PAGE.EVT_EN (p : Nat) : Field := ⟨4096 * p + 0x028, 0, 64⟩
/-- EVT_FORCE of page `p` (R443). -/
def PAGE.EVT_FORCE (p : Nat) : Field := ⟨4096 * p + 0x030, 0, 64⟩
/-- ECC_STAT.CE of page `p` (R446). -/
def PAGE.ECC_STAT.CE (p : Nat) : Field := ⟨4096 * p + 0x100, 0, 32⟩
/-- ECC_STAT.UE of page `p` (R446). -/
def PAGE.ECC_STAT.UE (p : Nat) : Field := ⟨4096 * p + 0x100, 32, 32⟩
/-- ECC_CAPTURE.ARRAY of page `p` (R446). -/
def PAGE.ECC_CAPTURE.ARRAY (p : Nat) : Field := ⟨4096 * p + 0x108, 0, 8⟩
/-- ECC_CAPTURE.VALID of page `p` (R446). -/
def PAGE.ECC_CAPTURE.VALID (p : Nat) : Field := ⟨4096 * p + 0x108, 8, 1⟩
/-- ECC_CAPTURE.UE of page `p` (R446). -/
def PAGE.ECC_CAPTURE.UE (p : Nat) : Field := ⟨4096 * p + 0x108, 9, 1⟩
/-- ECC_CAPTURE.INDEX of page `p` (R446). -/
def PAGE.ECC_CAPTURE.INDEX (p : Nat) : Field := ⟨4096 * p + 0x108, 16, 32⟩
/-- SCRUB_CTL.EN of page `p` (R446). -/
def PAGE.SCRUB_CTL.EN (p : Nat) : Field := ⟨4096 * p + 0x110, 0, 1⟩
/-- SCRUB_CTL.INTERVAL of page `p` (R446). -/
def PAGE.SCRUB_CTL.INTERVAL (p : Nat) : Field := ⟨4096 * p + 0x110, 16, 16⟩
/-- SCRUB_STAT.PASSES of page `p` (R446). -/
def PAGE.SCRUB_STAT.PASSES (p : Nat) : Field := ⟨4096 * p + 0x118, 0, 32⟩
/-- SCRUB_STAT.ROW of page `p` (R446). -/
def PAGE.SCRUB_STAT.ROW (p : Nat) : Field := ⟨4096 * p + 0x118, 32, 32⟩

/-! ### Page 0, IDENT -/

def IDENT.BEAT_LO.COUNT : Field := ⟨0x100, 0, 32⟩
def IDENT.BEAT_HI.COUNT : Field := ⟨0x108, 0, 32⟩
def IDENT.COL_STATE.STATE : Field := ⟨0x110, 0, 4⟩
def IDENT.COL_STATE.PWR : Field := ⟨0x110, 4, 2⟩
def IDENT.COL_STATE.STEER : Field := ⟨0x110, 6, 1⟩
def IDENT.FAULT_SUM.CAUSE : Field := ⟨0x118, 0, 10⟩
def IDENT.FAULT_SUM.VALID : Field := ⟨0x118, 10, 1⟩
def IDENT.FAULT_SUM.FROM : Field := ⟨0x118, 12, 4⟩
def IDENT.FAULT_SUM.BEAT : Field := ⟨0x118, 16, 48⟩
def IDENT.CLK_ALIVE.ALIVE : Field := ⟨0x120, 0, 12⟩
def IDENT.EVT_PAGES.PEND : Field := ⟨0x128, 0, 16⟩
def IDENT.EVT_PAGES.ANY : Field := ⟨0x128, 16, 16⟩
def IDENT.CHAIN_ADDR.ADDR : Field := ⟨0x130, 0, 12⟩
def IDENT.CHAIN_ADDR.ASSIGNED : Field := ⟨0x130, 12, 1⟩
def IDENT.SCRATCH.DATA : Field := ⟨0x138, 0, 64⟩
def IDENT.FUSE_STAT.OK : Field := ⟨0x140, 0, 1⟩
def IDENT.FUSE_STAT.ASSY : Field := ⟨0x140, 4, 4⟩
def IDENT.FUSE_STAT.DIE : Field := ⟨0x140, 8, 4⟩
def IDENT.FUSE_STAT.ROLE : Field := ⟨0x140, 12, 2⟩
def IDENT.FUSE_STAT.COL : Field := ⟨0x140, 16, 6⟩
def IDENT.FUSE_STAT.QID_EN : Field := ⟨0x140, 24, 8⟩
def IDENT.FUSE_STAT.INVALID : Field := ⟨0x140, 32, 1⟩
def IDENT.FUSE_QID.LO (i : Nat) : Field := ⟨0x148 + 8 * i, 0, 32⟩
def IDENT.FUSE_QID.HI (i : Nat) : Field := ⟨0x148 + 8 * i, 32, 32⟩
def IDENT.REC_STAT.CRC_BAD : Field := ⟨0x168, 0, 16⟩
def IDENT.REC_STAT.FAR_HELD : Field := ⟨0x168, 16, 1⟩
def IDENT.QUAL_STAT.MATCH : Field := ⟨0x170, 0, 3⟩
def IDENT.QUAL_STAT.PASS : Field := ⟨0x170, 3, 1⟩
def IDENT.QUAL_STAT.FAR_QID : Field := ⟨0x170, 32, 32⟩
def IDENT.IDENT_STAT.FAR_STATUS : Field := ⟨0x178, 0, 4⟩
def IDENT.IDENT_STAT.OWN_STATUS : Field := ⟨0x178, 4, 4⟩
def IDENT.IDENT_STAT.ATTEMPTS : Field := ⟨0x178, 8, 2⟩
def IDENT.IDENT_STAT.FAR_STATE : Field := ⟨0x178, 12, 4⟩
def IDENT.IDENT_STAT.FAR_STEP : Field := ⟨0x178, 16, 4⟩
def IDENT.CAP_AGREED.CAP : Field := ⟨0x180, 0, 32⟩
def IDENT.CAP_AGREED.VALID : Field := ⟨0x180, 32, 1⟩
def IDENT.OWN_REC.DATA (i : Nat) : Field := ⟨0x188 + 8 * i, 0, 64⟩
def IDENT.FAR_REC.DATA (i : Nat) : Field := ⟨0x1c8 + 8 * i, 0, 64⟩

/-- The registers of page 0, from offset 0x100. -/
def IDENT.rows : List RegRow := [
  { off := 0x100 },
  { off := 0x108 },
  { off := 0x110, reset := 0x70 },
  { off := 0x118 },
  { off := 0x120 },
  { off := 0x128 },
  { off := 0x130, reset := 0xfff, rw := [{ lo := 0, width := 12 }] },
  { off := 0x138, rw := [{ lo := 0, width := 64 }] },
  { off := 0x140 },
  { off := 0x148, count := 4 },
  { off := 0x168 },
  { off := 0x170 },
  { off := 0x178 },
  { off := 0x180 },
  { off := 0x188, count := 8 },
  { off := 0x1c8, count := 8 }]

/-! ### Page 1, RESET -/

def RESET.COL_CTL.ENABLE : Field := ⟨0x1120, 0, 1⟩
def RESET.COL_CTL.RELEASE : Field := ⟨0x1120, 1, 1⟩
def RESET.COL_RST_CMD.GO : Field := ⟨0x1128, 0, 1⟩
def RESET.COL_RST_CMD.NOW : Field := ⟨0x1128, 1, 1⟩
def RESET.COL_STAT.DONE : Field := ⟨0x1130, 0, 1⟩
def RESET.COL_STAT.ONE_SIDED : Field := ⟨0x1130, 1, 1⟩
def RESET.COL_STAT.WAIT_CLK : Field := ⟨0x1130, 2, 1⟩
def RESET.COL_STAT.PENDING : Field := ⟨0x1130, 3, 1⟩
def RESET.COL_STAT.B_LOW : Field := ⟨0x1130, 32, 32⟩
def RESET.PREV_FAULT.DATA : Field := ⟨0x1138, 0, 64⟩
def RESET.SOFT_CLR.GO : Field := ⟨0x1140, 0, 1⟩
def RESET.XING_STAT.TORN : Field := ⟨0x1148, 0, 14⟩
def RESET.XING_STAT.TORN_COL : Field := ⟨0x1148, 15, 1⟩
def RESET.XING_STAT.OVERRUN : Field := ⟨0x1148, 16, 12⟩
def RESET.CLK_STAT.LOST : Field := ⟨0x1150, 0, 12⟩
def RESET.OVL_STAT.LAST : Field := ⟨0x1158, 0, 2⟩
def RESET.OVL_STAT.ANY : Field := ⟨0x1158, 2, 1⟩
def RESET.OVL_STAT.WRITES : Field := ⟨0x1158, 8, 8⟩
def RESET.OVL_STAT.BAD : Field := ⟨0x1158, 16, 1⟩
def RESET.OVL_CMD.APPLY_O3 : Field := ⟨0x1160, 0, 1⟩

/-- The registers of page 1, from offset 0x100. -/
def RESET.rows : List RegRow := [
  { off := 0x100 },
  { off := 0x108 },
  { off := 0x110, reset := 0x4000000, rw := [{ lo := 0, width := 1 }, { lo := 16, width := 16, min := 16 }] },
  { off := 0x118 },
  { off := 0x120, rw := [{ lo := 0, width := 1 }], wo := 0x2 },
  { off := 0x128, wo := 0x3 },
  { off := 0x130 },
  { off := 0x138 },
  { off := 0x140, wo := 0x1 },
  { off := 0x148 },
  { off := 0x150 },
  { off := 0x158 },
  { off := 0x160, wo := 0x1 }]

/-! ### Page 2, PHY -/

def PHY.RATE_CTL.RATE : Field := ⟨0x2100, 0, 2⟩
def PHY.RATE_STAT.RATE : Field := ⟨0x2108, 0, 2⟩
def PHY.RATE_STAT.SERVICE : Field := ⟨0x2108, 4, 2⟩
def PHY.PLL_STAT.LOCKED : Field := ⟨0x2110, 0, 1⟩
def PHY.RETRAIN_CMD.GO : Field := ⟨0x2118, 0, 1⟩
def PHY.SB_STAT.DROPPED : Field := ⟨0x2120, 0, 32⟩
def PHY.SB_STAT.LOST_MASK : Field := ⟨0x2120, 32, 3⟩
def PHY.SB_STAT.STRIKES0 : Field := ⟨0x2120, 40, 5⟩
def PHY.SB_STAT.STRIKES1 : Field := ⟨0x2120, 45, 5⟩
def PHY.SB_STAT.STRIKES2 : Field := ⟨0x2120, 50, 5⟩
def PHY.RPA_CMD.GO : Field := ⟨0x2128, 0, 1⟩
def PHY.RPA_CMD.WR : Field := ⟨0x2128, 1, 1⟩
def PHY.RPA_CMD.PAGE : Field := ⟨0x2128, 2, 4⟩
def PHY.RPA_CMD.WORD : Field := ⟨0x2128, 6, 9⟩
def PHY.RPA_CMD.LSB : Field := ⟨0x2128, 15, 6⟩
def PHY.RPA_CMD.WIDTH : Field := ⟨0x2128, 21, 4⟩
def PHY.RPA_CMD.DATA : Field := ⟨0x2128, 32, 16⟩
def PHY.RPA_STAT.BUSY : Field := ⟨0x2130, 0, 1⟩
def PHY.RPA_STAT.DONE : Field := ⟨0x2130, 1, 1⟩
def PHY.RPA_STAT.STATUS : Field := ⟨0x2130, 4, 4⟩
def PHY.RPA_STAT.DATA : Field := ⟨0x2130, 32, 16⟩
def PHY.TX_DRIVE.CODE (i : Nat) : Field := ⟨0x2200 + 8 * i, 0, 4⟩
def PHY.TX_DRIVE.PENDING (i : Nat) : Field := ⟨0x2200 + 8 * i, 8, 4⟩
def PHY.TX_DRIVE.PEND_V (i : Nat) : Field := ⟨0x2200 + 8 * i, 15, 1⟩

/-- The registers of page 2, from offset 0x100. -/
def PHY.rows : List RegRow := [
  { off := 0x100, reset := 0x3, rw := [{ lo := 0, width := 2 }] },
  { off := 0x108 },
  { off := 0x110 },
  { off := 0x118, wo := 0x1 },
  { off := 0x120 },
  { off := 0x128, wo := 0xffff01ffffff },
  { off := 0x130 },
  { off := 0x200, count := 145, reset := 0x8, rw := [{ lo := 0, width := 4 }] }]

/-! ### Page 3, CAL -/

def CAL.DT_CTL.DELTA_T : Field := ⟨0x3100, 0, 6⟩
def CAL.RUN_CMD.GO : Field := ⟨0x3108, 0, 1⟩
def CAL.GAIN_CTL.KP : Field := ⟨0x3110, 0, 8⟩
def CAL.GAIN_CTL.KO : Field := ⟨0x3110, 8, 8⟩
def CAL.GAIN_CTL.KD : Field := ⟨0x3110, 16, 8⟩
def CAL.DRIVE_CTL.TARGET : Field := ⟨0x3118, 0, 8⟩
def CAL.RUN_STAT.REJECTED : Field := ⟨0x3120, 0, 32⟩
def CAL.RUN_STAT.RUN : Field := ⟨0x3120, 32, 4⟩
def CAL.RUN_STAT.ACTIVE : Field := ⟨0x3120, 36, 1⟩
def CAL.RUN_STAT.FAILS : Field := ⟨0x3120, 37, 2⟩
def CAL.RUN_STAT.T_LAST : Field := ⟨0x3120, 40, 10⟩
def CAL.TRIM_DUTY.CODE (i : Nat) : Field := ⟨0x3128 + 8 * i, 0, 5⟩
def CAL.TRIM_DUTY.PENDING (i : Nat) : Field := ⟨0x3128 + 8 * i, 8, 7⟩
def CAL.TRIM_DUTY.PEND_V (i : Nat) : Field := ⟨0x3128 + 8 * i, 15, 1⟩
def CAL.TRIM_PHASE.CODE (i : Nat) : Field := ⟨0x3150 + 8 * i, 0, 7⟩
def CAL.TRIM_PHASE.PENDING (i : Nat) : Field := ⟨0x3150 + 8 * i, 8, 7⟩
def CAL.TRIM_PHASE.PEND_V (i : Nat) : Field := ⟨0x3150 + 8 * i, 15, 1⟩
def CAL.TRIM_DESKEW.CODE (i : Nat) : Field := ⟨0x3200 + 8 * i, 0, 7⟩
def CAL.TRIM_DESKEW.PENDING (i : Nat) : Field := ⟨0x3200 + 8 * i, 8, 7⟩
def CAL.TRIM_DESKEW.PEND_V (i : Nat) : Field := ⟨0x3200 + 8 * i, 15, 1⟩
def CAL.TRIM_OFFSET.CODE (i : Nat) : Field := ⟨0x3690 + 8 * i, 0, 6⟩
def CAL.TRIM_OFFSET.PENDING (i : Nat) : Field := ⟨0x3690 + 8 * i, 8, 7⟩
def CAL.TRIM_OFFSET.PEND_V (i : Nat) : Field := ⟨0x3690 + 8 * i, 15, 1⟩
def CAL.EYE.WIDTH (i : Nat) : Field := ⟨0x3b18 + 8 * i, 0, 7⟩
def CAL.EYE.HEIGHT (i : Nat) : Field := ⟨0x3b18 + 8 * i, 16, 9⟩
def CAL.EYE.VALID (i : Nat) : Field := ⟨0x3b18 + 8 * i, 31, 1⟩

/-- The registers of page 3, from offset 0x100. -/
def CAL.rows : List RegRow := [
  { off := 0x100, reset := 0x8, rw := [{ lo := 0, width := 6, min := 2, max := 32 }] },
  { off := 0x108, wo := 0x1 },
  { off := 0x110, reset := 0x104010, rw := [{ lo := 0, width := 8, min := 1 }, { lo := 8, width := 8, min := 1 }, { lo := 16, width := 8, min := 1 }] },
  { off := 0x118, reset := 0x6e, rw := [{ lo := 0, width := 8, min := 40, max := 250 }] },
  { off := 0x120 },
  { off := 0x128, count := 5, rw := [{ lo := 0, width := 5 }] },
  { off := 0x150, count := 5, reset := 0x40, rw := [{ lo := 0, width := 7 }] },
  { off := 0x200, count := 145, reset := 0x40, rw := [{ lo := 0, width := 7 }] },
  { off := 0x690, count := 145, rw := [{ lo := 0, width := 6 }] },
  { off := 0xb18, count := 145 }]

/-! ### Page 4, REPAIR -/

def REPAIR.ATTR_CTL.THRESHOLD : Field := ⟨0x4100, 0, 8⟩
def REPAIR.ATTR_CTL.WINDOW : Field := ⟨0x4100, 8, 32⟩
def REPAIR.MARK_CMD.GO : Field := ⟨0x4108, 0, 1⟩
def REPAIR.MARK_CMD.SITE : Field := ⟨0x4108, 8, 8⟩
def REPAIR.QR_CTL.PAUSE : Field := ⟨0x4110, 0, 6⟩
def REPAIR.WIDTH_CMD.GO : Field := ⟨0x4118, 0, 1⟩
def REPAIR.WIDTH_CMD.DIR : Field := ⟨0x4118, 1, 1⟩
def REPAIR.WIDTH_CMD.GROUPS : Field := ⟨0x4118, 2, 4⟩
def REPAIR.WIDTH_CMD.FORCE : Field := ⟨0x4118, 6, 1⟩
def REPAIR.AUTO_CTL.LEVEL_POLICY : Field := ⟨0x4120, 0, 1⟩
def REPAIR.WIDTH_STAT.TX_GROUPS : Field := ⟨0x4128, 0, 4⟩
def REPAIR.WIDTH_STAT.RX_GROUPS : Field := ⟨0x4128, 4, 4⟩
def REPAIR.LOWLAND_CMD.GO : Field := ⟨0x4130, 0, 1⟩
def REPAIR.LOWLAND_STAT.CAUSE : Field := ⟨0x4138, 0, 4⟩
def REPAIR.LOWLAND_STAT.GROUP : Field := ⟨0x4138, 4, 2⟩
def REPAIR.RPR_STAT.QR_DONE : Field := ⟨0x4140, 0, 16⟩
def REPAIR.RPR_STAT.QR_FAIL : Field := ⟨0x4140, 16, 16⟩
def REPAIR.RPR_STAT.WIDTH : Field := ⟨0x4140, 32, 16⟩
def REPAIR.BAD_SITES_LG.MASK (i : Nat) : Field := ⟨0x4148 + 8 * i, 0, 34⟩
def REPAIR.BAD_SITES_CG.MASK : Field := ⟨0x4168, 0, 9⟩
def REPAIR.BAD_SITES_TX_LG.MASK (i : Nat) : Field := ⟨0x4170 + 8 * i, 0, 34⟩
def REPAIR.BAD_SITES_TX_CG.MASK : Field := ⟨0x4190, 0, 9⟩
def REPAIR.GROUP_ERR.COUNT (i : Nat) : Field := ⟨0x4198 + 8 * i, 0, 8⟩
def REPAIR.SITE_ERR.COUNT (i : Nat) : Field := ⟨0x4200 + 8 * i, 0, 8⟩
def REPAIR.SITE_ERR.FIRST (i : Nat) : Field := ⟨0x4200 + 8 * i, 32, 32⟩

/-- The registers of page 4, from offset 0x100. -/
def REPAIR.rows : List RegRow := [
  { off := 0x100, reset := 0x100000004, rw := [{ lo := 0, width := 8, min := 1 }, { lo := 8, width := 32, min := 65536, max := 1073741824 }] },
  { off := 0x108, wo := 0xff01 },
  { off := 0x110, reset := 0x18, rw := [{ lo := 0, width := 6, min := 20, max := 31 }] },
  { off := 0x118, wo := 0x7f },
  { off := 0x120, rw := [{ lo := 0, width := 1 }] },
  { off := 0x128 },
  { off := 0x130, wo := 0x1 },
  { off := 0x138 },
  { off := 0x140 },
  { off := 0x148, count := 4 },
  { off := 0x168 },
  { off := 0x170, count := 4 },
  { off := 0x190 },
  { off := 0x198, count := 5 },
  { off := 0x200, count := 145 }]

/-! ### Page 5, BULK -/

def BULK.SEQ_STAT.NEXT_TX : Field := ⟨0x5120, 0, 12⟩
def BULK.SEQ_STAT.OLDEST : Field := ⟨0x5120, 16, 12⟩
def BULK.SEQ_STAT.NEXT_RX : Field := ⟨0x5120, 32, 12⟩
def BULK.SEQ_STAT.EXP : Field := ⟨0x5120, 48, 12⟩
def BULK.RPL_CTL.PROBE_INTERVAL : Field := ⟨0x5128, 0, 8⟩
def BULK.RPL_CTL.TIMEOUT : Field := ⟨0x5128, 16, 12⟩
def BULK.RPL_CTL.LIMIT : Field := ⟨0x5128, 32, 8⟩
def BULK.NAK_CTL.TIMEOUT : Field := ⟨0x5130, 0, 12⟩
def BULK.TX_STAT.REPLAYS : Field := ⟨0x5138, 0, 32⟩
def BULK.TX_STAT.TIMEOUTS : Field := ⟨0x5138, 32, 32⟩
def BULK.RX_STAT.CRC_BAD : Field := ⟨0x5140, 0, 24⟩
def BULK.RX_STAT.NAKS : Field := ⟨0x5140, 24, 24⟩
def BULK.RX_STAT.SLOT_BAD : Field := ⟨0x5140, 48, 8⟩
def BULK.RX_STAT.RSVD_NONZERO : Field := ⟨0x5140, 56, 8⟩
def BULK.RPL_STAT.OUTSTANDING : Field := ⟨0x5148, 0, 9⟩
def BULK.RPL_STAT.NAK_PENDING : Field := ⟨0x5148, 9, 1⟩
def BULK.RPL_STAT.FULL : Field := ⟨0x5148, 10, 1⟩

/-- The registers of page 5, from offset 0x100. -/
def BULK.rows : List RegRow := [
  { off := 0x100 },
  { off := 0x108 },
  { off := 0x110, reset := 0x4000001, rw := [{ lo := 0, width := 1 }, { lo := 16, width := 16, min := 16 }] },
  { off := 0x118 },
  { off := 0x120 },
  { off := 0x128, reset := 0x4004000020, rw := [{ lo := 0, width := 8, min := 8 }, { lo := 16, width := 12, min := 256 }, { lo := 32, width := 8, min := 4 }] },
  { off := 0x130, reset := 0x200, rw := [{ lo := 0, width := 12, min := 128 }] },
  { off := 0x138 },
  { off := 0x140 },
  { off := 0x148 }]

/-! ### Page 6, CTRL -/

def CTRL.SEQ_STAT.NEXT_TX : Field := ⟨0x6120, 0, 8⟩
def CTRL.SEQ_STAT.OLDEST : Field := ⟨0x6120, 8, 8⟩
def CTRL.SEQ_STAT.NEXT_RX : Field := ⟨0x6120, 16, 8⟩
def CTRL.RPL_CTL.TIMEOUT : Field := ⟨0x6128, 0, 12⟩
def CTRL.RPL_CTL.LIMIT : Field := ⟨0x6128, 16, 8⟩
def CTRL.TX_STAT.TIMEOUTS : Field := ⟨0x6130, 0, 32⟩
def CTRL.TX_STAT.ACK_ONLY : Field := ⟨0x6130, 32, 32⟩
def CTRL.RX_STAT.CRC_BAD : Field := ⟨0x6138, 0, 32⟩
def CTRL.RX_STAT.MSG_BAD : Field := ⟨0x6138, 32, 16⟩
def CTRL.RX_STAT.RSVD_NONZERO : Field := ⟨0x6138, 48, 16⟩
def CTRL.FAIL_STAT.MSG_LOST : Field := ⟨0x6140, 0, 32⟩

/-- The registers of page 6, from offset 0x100. -/
def CTRL.rows : List RegRow := [
  { off := 0x100 },
  { off := 0x108 },
  { off := 0x110, reset := 0x4000001, rw := [{ lo := 0, width := 1 }, { lo := 16, width := 16, min := 16 }] },
  { off := 0x118 },
  { off := 0x120 },
  { off := 0x128, reset := 0x100100, rw := [{ lo := 0, width := 12, min := 64 }, { lo := 16, width := 8, min := 2 }] },
  { off := 0x130 },
  { off := 0x138 },
  { off := 0x140 }]

/-! ### Page 7, CREDIT -/

def CREDIT.HDR_CTL.TC0 : Field := ⟨0x7120, 0, 10⟩
def CREDIT.HDR_CTL.TC1 : Field := ⟨0x7120, 16, 10⟩
def CREDIT.HDR_CTL.TC2 : Field := ⟨0x7120, 32, 10⟩
def CREDIT.HDR_CTL.TC3 : Field := ⟨0x7120, 48, 10⟩
def CREDIT.DATA_CTL.TC1 : Field := ⟨0x7128, 0, 12⟩
def CREDIT.DATA_CTL.TC2 : Field := ⟨0x7128, 16, 12⟩
def CREDIT.DATA_CTL.TC3 : Field := ⟨0x7128, 32, 12⟩
def CREDIT.MSG_CTL.MC0 : Field := ⟨0x7130, 0, 7⟩
def CREDIT.MSG_CTL.MC1 : Field := ⟨0x7130, 8, 7⟩
def CREDIT.MSG_CTL.MC3 : Field := ⟨0x7130, 16, 7⟩
def CREDIT.MSG_CTL.MC4 : Field := ⟨0x7130, 24, 7⟩
def CREDIT.RSP_STAT.FREE : Field := ⟨0x7138, 0, 14⟩
def CREDIT.TX_STAT.AVAIL (i : Nat) : Field := ⟨0x7140 + 8 * i, 0, 16⟩
def CREDIT.TX_STAT.ADV (i : Nat) : Field := ⟨0x7140 + 8 * i, 16, 16⟩
def CREDIT.TX_STAT.CONS (i : Nat) : Field := ⟨0x7140 + 8 * i, 32, 16⟩
def CREDIT.TX_STAT.RET (i : Nat) : Field := ⟨0x7140 + 8 * i, 48, 16⟩
def CREDIT.RX_STAT.RETURNED (i : Nat) : Field := ⟨0x7198 + 8 * i, 0, 16⟩
def CREDIT.RX_STAT.ADV (i : Nat) : Field := ⟨0x7198 + 8 * i, 16, 16⟩

/-- The registers of page 7, from offset 0x100. -/
def CREDIT.rows : List RegRow := [
  { off := 0x100 },
  { off := 0x108 },
  { off := 0x110, reset := 0x4000001, rw := [{ lo := 0, width := 1 }, { lo := 16, width := 16, min := 16 }] },
  { off := 0x118 },
  { off := 0x120, reset := 0x100010002000200, rw := [{ lo := 0, width := 10, min := 16, max := 512 }, { lo := 16, width := 10, min := 16, max := 512 }, { lo := 32, width := 10, min := 16, max := 256 }, { lo := 48, width := 10, min := 16, max := 256 }] },
  { off := 0x128, reset := 0x30003000600, rw := [{ lo := 0, width := 12, min := 4, max := 3064 }, { lo := 16, width := 12, min := 4, max := 3064 }, { lo := 32, width := 12, min := 4, max := 3064 }] },
  { off := 0x130, reset := 0x10102040, rw := [{ lo := 0, width := 7, min := 4, max := 64 }, { lo := 8, width := 7, min := 4, max := 64 }, { lo := 16, width := 7, min := 4, max := 64 }, { lo := 24, width := 7, min := 4, max := 64 }] },
  { off := 0x138, reset := 0x2000 },
  { off := 0x140, count := 11 },
  { off := 0x198, count := 11 }]

/-! ### Page 8, TXN -/

def TXN.OUT_STAT.REQ : Field := ⟨0x8120, 0, 13⟩
def TXN.OUT_STAT.SERVED : Field := ⟨0x8120, 16, 13⟩
def TXN.ERR_STAT.TAG_REUSE : Field := ⟨0x8128, 0, 16⟩
def TXN.ERR_STAT.ORPHAN_DIE : Field := ⟨0x8128, 16, 16⟩
def TXN.ERR_STAT.ORPHAN_COL : Field := ⟨0x8128, 32, 16⟩
def TXN.ERR_STAT.RSP_LEN_BAD : Field := ⟨0x8128, 48, 16⟩
def TXN.ERR_CAPTURE.TAG : Field := ⟨0x8130, 0, 12⟩
def TXN.ERR_CAPTURE.CTX : Field := ⟨0x8130, 16, 14⟩
def TXN.ERR_CAPTURE.KIND : Field := ⟨0x8130, 32, 3⟩
def TXN.LEVEL_CTL.TC_MASK : Field := ⟨0x8138, 0, 3⟩
def TXN.SPEC_CTL.RUNAHEAD_EN : Field := ⟨0x8140, 0, 1⟩
def TXN.SPEC_CTL.EARLY_EN : Field := ⟨0x8140, 1, 1⟩
def TXN.SPEC_CTL.VERDICT_TIMEOUT : Field := ⟨0x8140, 32, 20⟩
def TXN.SPEC_STAT.RUNAHEAD_COMMITTED : Field := ⟨0x8148, 0, 40⟩
def TXN.SPEC_STAT.RUNAHEAD_DISCARDED : Field := ⟨0x8148, 40, 24⟩
def TXN.SPEC_STAT_HI.EARLY_ISSUED : Field := ⟨0x8150, 0, 32⟩
def TXN.SPEC_STAT_HI.SQUASHED : Field := ⟨0x8150, 32, 16⟩
def TXN.SPEC_STAT_HI.SQUASH_LATE : Field := ⟨0x8150, 48, 16⟩
def TXN.DRAIN_CMD.GO : Field := ⟨0x8158, 0, 1⟩
def TXN.DRAIN_CTL.BOUND : Field := ⟨0x8160, 0, 20⟩
def TXN.DRAIN_STAT.PHASE : Field := ⟨0x8168, 0, 2⟩
def TXN.FAIL_STAT.RSP_DROPPED : Field := ⟨0x8170, 0, 32⟩
def TXN.FAIL_STAT.RETRY : Field := ⟨0x8170, 32, 32⟩
def TXN.MDRAIN_CMD.GO : Field := ⟨0x8178, 0, 1⟩
def TXN.MDRAIN_STAT.DONE : Field := ⟨0x8180, 0, 1⟩
def TXN.MDRAIN_STAT.RUNNING : Field := ⟨0x8180, 1, 1⟩
def TXN.MDRAIN_STAT.DRAINED : Field := ⟨0x8180, 16, 16⟩
def TXN.MDRAIN_STAT.POSTED_DROPPED : Field := ⟨0x8180, 32, 32⟩
def TXN.MSCRUB_CTL.PAGE : Field := ⟨0x8188, 0, 17⟩
def TXN.MSCRUB_CTL.COUNT : Field := ⟨0x8188, 32, 17⟩
def TXN.MSCRUB_CMD.GO : Field := ⟨0x8190, 0, 1⟩
def TXN.MSCRUB_STAT.STATE : Field := ⟨0x8198, 0, 2⟩
def TXN.MSCRUB_SUM.DATA (i : Nat) : Field := ⟨0x81a0 + 8 * i, 0, 64⟩
def TXN.LOST_FIFO.CTX : Field := ⟨0x81c0, 0, 14⟩
def TXN.LOST_FIFO.VALID : Field := ⟨0x81c0, 14, 1⟩
def TXN.LOST_FIFO.OVERFLOW : Field := ⟨0x81c0, 15, 1⟩
def TXN.LOST_FIFO.CAUSE : Field := ⟨0x81c0, 16, 4⟩
def TXN.LOST_FIFO.BEAT : Field := ⟨0x81c0, 32, 32⟩
def TXN.TBL_CAPTURE.ADDR : Field := ⟨0x81c8, 0, 21⟩
def TXN.OFFER_STAT.BAD : Field := ⟨0x81d0, 0, 32⟩

/-- The registers of page 8, from offset 0x100. -/
def TXN.rows : List RegRow := [
  { off := 0x100 },
  { off := 0x108 },
  { off := 0x110, reset := 0x4000000, rw := [{ lo := 0, width := 1 }, { lo := 16, width := 16, min := 16 }] },
  { off := 0x118 },
  { off := 0x120 },
  { off := 0x128 },
  { off := 0x130 },
  { off := 0x138, rw := [{ lo := 0, width := 3 }] },
  { off := 0x140, reset := 0x186a000000003, rw := [{ lo := 0, width := 1, serves := .mEnd }, { lo := 1, width := 1, serves := .hEnd }, { lo := 32, width := 20, min := 1000, max := 1000000 }] },
  { off := 0x148 },
  { off := 0x150 },
  { off := 0x158, wo := 0x1 },
  { off := 0x160, reset := 0xc350, rw := [{ lo := 0, width := 20, min := 1000, max := 1000000 }] },
  { off := 0x168 },
  { off := 0x170 },
  { off := 0x178, wo := 0x1 },
  { off := 0x180 },
  { off := 0x188, rw := [{ lo := 0, width := 17, serves := .mEnd }, { lo := 32, width := 17, serves := .mEnd }] },
  { off := 0x190, wo := 0x1 },
  { off := 0x198 },
  { off := 0x1a0, count := 4 },
  { off := 0x1c0 },
  { off := 0x1c8 },
  { off := 0x1d0 }]

/-! ### Page 9, TIME -/

def TIME.SEED_STAT.IGNORED_LOADS : Field := ⟨0x9100, 0, 16⟩
def TIME.SEED_STAT.LOADS : Field := ⟨0x9100, 16, 16⟩
def TIME.LEVEL_CTL.L_LEVEL : Field := ⟨0x9108, 0, 8⟩
def TIME.LEVEL_STAT.L_MIN : Field := ⟨0x9110, 0, 8⟩
def TIME.LEVEL_STAT.L_RPL : Field := ⟨0x9110, 8, 8⟩
def TIME.LEVEL_STAT.SUSP : Field := ⟨0x9110, 16, 1⟩
def TIME.LEVEL_STAT.ON : Field := ⟨0x9110, 17, 1⟩
def TIME.LATE_STAT.COUNT : Field := ⟨0x9118, 0, 32⟩
def TIME.LATE_STAT.SUSPENDED : Field := ⟨0x9118, 32, 32⟩
def TIME.MARK_STAT.OWN_MEAS : Field := ⟨0x9120, 0, 16⟩
def TIME.MARK_STAT.FAR_MEAS : Field := ⟨0x9120, 16, 16⟩
def TIME.MARK_STAT.OFFSET : Field := ⟨0x9120, 32, 16⟩
def TIME.MARK_STAT.REF : Field := ⟨0x9120, 48, 1⟩
def TIME.SLEW_STAT.PENDING : Field := ⟨0x9128, 0, 8⟩
def TIME.SLEW_STAT.DIR : Field := ⟨0x9128, 8, 1⟩
def TIME.SLEW_STAT.TOTAL : Field := ⟨0x9128, 16, 16⟩
def TIME.LOCK_STAT.BEAT_LOCK : Field := ⟨0x9130, 0, 1⟩
def TIME.LOCK_STAT.ALIGN_FAIL : Field := ⟨0x9130, 1, 1⟩

/-- The registers of page 9, from offset 0x100. -/
def TIME.rows : List RegRow := [
  { off := 0x100 },
  { off := 0x108, reset := 0x40, rw := [{ lo := 0, width := 8, min := 32 }] },
  { off := 0x110, reset := 0x4030 },
  { off := 0x118 },
  { off := 0x120, reset := 0x80008000 },
  { off := 0x128 },
  { off := 0x130 }]

/-! ### Page 10, DEFILE -/

def DEFILE.BIND_STAT.BAD : Field := ⟨0xa120, 0, 32⟩
def DEFILE.BIND_STAT.MIG_POSTED_DROPPED : Field := ⟨0xa120, 32, 32⟩
def DEFILE.BIND_CAPTURE.INDEX : Field := ⟨0xa128, 0, 17⟩
def DEFILE.BIND_CAPTURE.CAUSE : Field := ⟨0xa128, 20, 4⟩
def DEFILE.BIND_CAPTURE.VALID : Field := ⟨0xa128, 24, 1⟩
def DEFILE.RCP_STAT.REFUSED : Field := ⟨0xa130, 0, 32⟩
def DEFILE.RCP_STAT.SLOT : Field := ⟨0xa130, 32, 6⟩
def DEFILE.RCP_STAT.CAUSE : Field := ⟨0xa130, 40, 4⟩
def DEFILE.SAFE_STAT.SAT : Field := ⟨0xa138, 0, 24⟩
def DEFILE.SAFE_STAT.ESC : Field := ⟨0xa138, 24, 24⟩
def DEFILE.SAFE_STAT.NF : Field := ⟨0xa138, 48, 16⟩
def DEFILE.SAFE_STAT_HI.SCALE_LOW : Field := ⟨0xa140, 0, 16⟩
def DEFILE.SAFE_STAT_HI.SCALE_HIGH : Field := ⟨0xa140, 16, 16⟩
def DEFILE.SAFE_STAT_HI.PARTIAL_REFUSED : Field := ⟨0xa140, 32, 16⟩
def DEFILE.SAFE_STAT_HI.PARTIAL_REQUANT : Field := ⟨0xa140, 48, 16⟩
def DEFILE.SAFE_CAPTURE.CTX : Field := ⟨0xa148, 0, 14⟩
def DEFILE.SAFE_CAPTURE.EVENT : Field := ⟨0xa148, 16, 4⟩
def DEFILE.ESC_BASE.ADDR : Field := ⟨0xa150, 6, 32⟩
def DEFILE.ESC_LIMIT.SLOTS : Field := ⟨0xa158, 0, 24⟩
def DEFILE.ESC_STAT.NEXT : Field := ⟨0xa160, 0, 24⟩
def DEFILE.GUARD_CTL.INTERVAL : Field := ⟨0xa168, 0, 17⟩
def DEFILE.GUARD_STAT.SAMPLED : Field := ⟨0xa170, 0, 32⟩
def DEFILE.GUARD_STAT.MISMATCH : Field := ⟨0xa170, 32, 32⟩
def DEFILE.GUARD_CAPTURE.ADDR : Field := ⟨0xa178, 6, 34⟩
def DEFILE.GUARD_CAPTURE.CTX : Field := ⟨0xa178, 40, 14⟩
def DEFILE.GUARD_CAPTURE.VALID : Field := ⟨0xa178, 63, 1⟩
def DEFILE.RA_STAT.REFETCH : Field := ⟨0xa180, 0, 32⟩
def DEFILE.RA_STAT.OVERFLOWS : Field := ⟨0xa180, 32, 32⟩
def DEFILE.TBL_CAPTURE.ADDR : Field := ⟨0xa188, 0, 21⟩

/-- The registers of page 10, from offset 0x100. -/
def DEFILE.rows : List RegRow := [
  { off := 0x100 },
  { off := 0x108 },
  { off := 0x110, reset := 0x4000000, rw := [{ lo := 0, width := 1 }, { lo := 16, width := 16, min := 16 }] },
  { off := 0x118 },
  { off := 0x120 },
  { off := 0x128 },
  { off := 0x130 },
  { off := 0x138 },
  { off := 0x140 },
  { off := 0x148 },
  { off := 0x150, rw := [{ lo := 6, width := 32 }] },
  { off := 0x158, rw := [{ lo := 0, width := 24 }] },
  { off := 0x160, rw := [{ lo := 0, width := 24 }] },
  { off := 0x168, reset := 0x400, rw := [{ lo := 0, width := 17 }] },
  { off := 0x170 },
  { off := 0x178 },
  { off := 0x180 },
  { off := 0x188 }]

/-! ### Page 11, BASIN -/

def BASIN.INIT_CMD.GO : Field := ⟨0xb120, 0, 1⟩
def BASIN.INIT_STAT.DONE : Field := ⟨0xb128, 0, 1⟩
def BASIN.INIT_STAT.RUNNING : Field := ⟨0xb128, 1, 1⟩
def BASIN.WIN_CTL.SLACK : Field := ⟨0xb130, 0, 16⟩
def BASIN.PEEK_CTL.LINE : Field := ⟨0xb138, 0, 16⟩
def BASIN.PEEK_CTL.CONV : Field := ⟨0xb138, 16, 1⟩
def BASIN.PEEK_DATA.DATA (i : Nat) : Field := ⟨0xb140 + 8 * i, 0, 64⟩
def BASIN.XWIN_STAT.LOW : Field := ⟨0xb180, 0, 32⟩
def BASIN.XWIN_STAT.HIGH : Field := ⟨0xb180, 32, 32⟩
def BASIN.GUARD_STAT.MISMATCH : Field := ⟨0xb188, 0, 32⟩
def BASIN.ADM_STAT.DENIED : Field := ⟨0xb190, 0, 32⟩
def BASIN.ADM_STAT.EARLY : Field := ⟨0xb190, 32, 32⟩
def BASIN.ADM_STAT_HI.LATE : Field := ⟨0xb198, 0, 32⟩
def BASIN.ADM_STAT_HI.RETRY : Field := ⟨0xb198, 32, 32⟩
def BASIN.WIN_CAPTURE.WINDOW : Field := ⟨0xb1a0, 0, 10⟩
def BASIN.WIN_CAPTURE.LINE : Field := ⟨0xb1a0, 16, 16⟩
def BASIN.WIN_CAPTURE.EVENT : Field := ⟨0xb1a0, 32, 4⟩
def BASIN.WIN_CAPTURE.VALID : Field := ⟨0xb1a0, 36, 1⟩
def BASIN.TBL_CAPTURE.ADDR : Field := ⟨0xb1a8, 0, 21⟩

/-- The registers of page 11, from offset 0x100. -/
def BASIN.rows : List RegRow := [
  { off := 0x100 },
  { off := 0x108 },
  { off := 0x110, reset := 0x4000000, rw := [{ lo := 0, width := 1 }, { lo := 16, width := 16, min := 16 }] },
  { off := 0x118 },
  { off := 0x120, wo := 0x1 },
  { off := 0x128 },
  { off := 0x130, rw := [{ lo := 0, width := 16 }] },
  { off := 0x138, reset := 0x10000, rw := [{ lo := 0, width := 16 }, { lo := 16, width := 1 }] },
  { off := 0x140, count := 8 },
  { off := 0x180 },
  { off := 0x188 },
  { off := 0x190 },
  { off := 0x198 },
  { off := 0x1a0 },
  { off := 0x1a8 }]

/-! ### Page 12, DMA -/

def DMA.CH_PROG.ADDR (i : Nat) : Field := ⟨0xc100 + 64 * i, 0, 40⟩
def DMA.CH_CMD.START (i : Nat) : Field := ⟨0xc108 + 64 * i, 0, 1⟩
def DMA.CH_CMD.DISABLE (i : Nat) : Field := ⟨0xc108 + 64 * i, 1, 1⟩
def DMA.CH_CTL.RAW (i : Nat) : Field := ⟨0xc110 + 64 * i, 0, 1⟩
def DMA.CH_CTL.CTX (i : Nat) : Field := ⟨0xc110 + 64 * i, 16, 14⟩
def DMA.CH_CTL.BURST (i : Nat) : Field := ⟨0xc110 + 64 * i, 32, 7⟩
def DMA.CH_CTL.RETRIES (i : Nat) : Field := ⟨0xc110 + 64 * i, 40, 4⟩
def DMA.CH_STAT.STATE (i : Nat) : Field := ⟨0xc118 + 64 * i, 0, 3⟩
def DMA.CH_STAT.WAIT_ON (i : Nat) : Field := ⟨0xc118 + 64 * i, 4, 2⟩
def DMA.CH_STAT.PENDING (i : Nat) : Field := ⟨0xc118 + 64 * i, 8, 4⟩
def DMA.CH_STAT.ERR (i : Nat) : Field := ⟨0xc118 + 64 * i, 16, 8⟩
def DMA.CH_STAT.PC (i : Nat) : Field := ⟨0xc118 + 64 * i, 24, 24⟩
def DMA.CH_STAT.REQ_OVERRUN (i : Nat) : Field := ⟨0xc118 + 64 * i, 48, 16⟩
def DMA.CH_CNT.RD_OUT (i : Nat) : Field := ⟨0xc120 + 64 * i, 0, 10⟩
def DMA.CH_CNT.WR_OUT (i : Nat) : Field := ⟨0xc120 + 64 * i, 10, 10⟩
def DMA.CH_CNT.RETRIES (i : Nat) : Field := ⟨0xc120 + 64 * i, 20, 8⟩
def DMA.CH_CNT.BYTES_READ_LO (i : Nat) : Field := ⟨0xc120 + 64 * i, 28, 36⟩
def DMA.CH_CNT_HI.BYTES_READ_HI (i : Nat) : Field := ⟨0xc128 + 64 * i, 0, 12⟩
def DMA.CH_CNT_HI.BYTES_WRITTEN (i : Nat) : Field := ⟨0xc128 + 64 * i, 12, 48⟩
def DMA.CH_WM.LOW (i : Nat) : Field := ⟨0xc130 + 64 * i, 0, 12⟩
def DMA.CH_WM.HIGH (i : Nat) : Field := ⟨0xc130 + 64 * i, 16, 12⟩
def DMA.CQ_BASE.ADDR (i : Nat) : Field := ⟨0xc200 + 32 * i, 0, 40⟩
def DMA.CQ_CTL.SIZE (i : Nat) : Field := ⟨0xc208 + 32 * i, 0, 5⟩
def DMA.CQ_TAIL.COUNT (i : Nat) : Field := ⟨0xc210 + 32 * i, 0, 17⟩
def DMA.CQ_HEAD.COUNT (i : Nat) : Field := ⟨0xc218 + 32 * i, 0, 17⟩

/-- The registers of page 12, from offset 0x100. -/
def DMA.rows : List RegRow := [
  { off := 0x100, count := 4, stride := 64, rw := [{ lo := 0, width := 40 }] },
  { off := 0x108, count := 4, stride := 64, wo := 0x3 },
  { off := 0x110, count := 4, stride := 64, reset := 0x30800000000, rw := [{ lo := 0, width := 1 }, { lo := 16, width := 14 }, { lo := 32, width := 7, min := 1, max := 64 }, { lo := 40, width := 4 }] },
  { off := 0x118, count := 4, stride := 64 },
  { off := 0x120, count := 4, stride := 64 },
  { off := 0x128, count := 4, stride := 64 },
  { off := 0x130, count := 4, stride := 64, reset := 0xc000400, rw := [{ lo := 0, width := 12 }, { lo := 16, width := 12 }] },
  { off := 0x200, count := 4, stride := 32, rw := [{ lo := 0, width := 40 }] },
  { off := 0x208, count := 4, stride := 32, reset := 0x4, rw := [{ lo := 0, width := 5, min := 4, max := 16 }] },
  { off := 0x210, count := 4, stride := 32 },
  { off := 0x218, count := 4, stride := 32, rw := [{ lo := 0, width := 17 }] }]

/-! ### Page 13, PAIR -/

def PAIR.PAIR_CTL.ENABLE : Field := ⟨0xd100, 0, 1⟩
def PAIR.PAIR_CTL.INIT_OWNER : Field := ⟨0xd100, 1, 1⟩
def PAIR.LEASE_CTL.LEN : Field := ⟨0xd108, 0, 20⟩
def PAIR.LEASE_CTL.RENEW : Field := ⟨0xd108, 20, 20⟩
def PAIR.LEASE_CTL.GUARD : Field := ⟨0xd108, 40, 13⟩
def PAIR.TOKEN_CMD.RELEASE : Field := ⟨0xd110, 0, 1⟩
def PAIR.ROLE_STAT.PROLE : Field := ⟨0xd118, 0, 3⟩
def PAIR.ROLE_STAT.HOLDER : Field := ⟨0xd118, 4, 2⟩
def PAIR.ROLE_STAT.LEASE : Field := ⟨0xd118, 32, 32⟩
def PAIR.TOKEN_STAT.RETRY : Field := ⟨0xd120, 0, 32⟩
def PAIR.TOKEN_STAT.GAINED : Field := ⟨0xd120, 32, 16⟩
def PAIR.TOKEN_STAT.RELEASED : Field := ⟨0xd120, 48, 16⟩
def PAIR.HB_STAT.BAD : Field := ⟨0xd128, 0, 32⟩
def PAIR.HB_STAT.FORWARDED : Field := ⟨0xd128, 32, 32⟩
def PAIR.LIVE_STAT.ALIVE : Field := ⟨0xd130, 0, 4⟩
def PAIR.LIVE_STAT.COL_PATH : Field := ⟨0xd130, 8, 4⟩
def PAIR.LIVE_STAT.STRAP_PATH : Field := ⟨0xd130, 16, 4⟩
def PAIR.MIR_BASE.ADDR : Field := ⟨0xd138, 22, 18⟩
def PAIR.MIR_CTL.PARTS : Field := ⟨0xd140, 0, 4⟩
def PAIR.MIR_CMD.BEGIN : Field := ⟨0xd148, 0, 1⟩
def PAIR.MIR_CMD.SEALED : Field := ⟨0xd148, 1, 1⟩
def PAIR.MIR_STAT.BEGUN : Field := ⟨0xd150, 0, 32⟩
def PAIR.MIR_STAT.SEALED : Field := ⟨0xd150, 32, 32⟩
def PAIR.MIR_STAT_HI.LOADED : Field := ⟨0xd158, 0, 32⟩
def PAIR.MIR_STAT_HI.LOST_CTX : Field := ⟨0xd158, 32, 15⟩
def PAIR.MIR_STAT_HI.DIRTY_N : Field := ⟨0xd158, 47, 15⟩
def PAIR.MIR_STAT_HI.OPEN : Field := ⟨0xd158, 62, 1⟩
def PAIR.TBL_CAPTURE.ADDR : Field := ⟨0xd160, 0, 21⟩

/-- The registers of page 13, from offset 0x100. -/
def PAIR.rows : List RegRow := [
  { off := 0x100, rw := [{ lo := 0, width := 1, serves := .mEnd }, { lo := 1, width := 1, serves := .mEnd }] },
  { off := 0x108, reset := 0x1000400010000, rw := [{ lo := 0, width := 20, min := 16384, max := 262144, serves := .mEnd }, { lo := 20, width := 20, min := 1024, max := 65536, serves := .mEnd }, { lo := 40, width := 13, min := 16, max := 4096, serves := .mEnd }] },
  { off := 0x110, wo := 0x1 },
  { off := 0x118 },
  { off := 0x120 },
  { off := 0x128 },
  { off := 0x130 },
  { off := 0x138, rw := [{ lo := 22, width := 18, serves := .mEnd }] },
  { off := 0x140, reset := 0x5, rw := [{ lo := 0, width := 4, serves := .mEnd }] },
  { off := 0x148, wo := 0x3 },
  { off := 0x150 },
  { off := 0x158 },
  { off := 0x160 }]

/-! ### Page 14, POWER -/

def POWER.PWR_STAT.STATE : Field := ⟨0xe100, 0, 2⟩
def POWER.PWR_STAT.ECLK_IDLE : Field := ⟨0xe100, 2, 1⟩
def POWER.PWR_STAT.WAIT_ECLK : Field := ⟨0xe100, 3, 1⟩
def POWER.BUDGET_STAT.ENG_CAP : Field := ⟨0xe108, 0, 7⟩
def POWER.BUDGET_STAT.BUDGET : Field := ⟨0xe108, 8, 8⟩
def POWER.BUDGET_STAT.BUDGET_VALID : Field := ⟨0xe108, 16, 1⟩
def POWER.BUDGET_STAT.DEMAND : Field := ⟨0xe108, 24, 8⟩
def POWER.BUDGET_STAT.TEMP : Field := ⟨0xe108, 32, 10⟩
def POWER.BUDGET_STAT.TEMP_VALID : Field := ⟨0xe108, 42, 1⟩
def POWER.THR_CTL.RATE_AUTO : Field := ⟨0xe110, 0, 1⟩
def POWER.THR_CTL.STK_ALWAYS : Field := ⟨0xe110, 1, 1⟩
def POWER.THR_CTL.HOLD : Field := ⟨0xe110, 8, 27⟩
def POWER.TEMP_CTL.HOT : Field := ⟨0xe118, 0, 10⟩
def POWER.STK_STAT.HELD0 : Field := ⟨0xe120, 0, 32⟩
def POWER.STK_STAT.HELD1 : Field := ⟨0xe120, 32, 32⟩
def POWER.STK_STAT_HI.HELD2 : Field := ⟨0xe128, 0, 32⟩
def POWER.STK_STAT_HI.HELD3 : Field := ⟨0xe128, 32, 32⟩
def POWER.PARK_CMD.GO : Field := ⟨0xe130, 0, 1⟩
def POWER.PARK_CMD.WAKE : Field := ⟨0xe130, 1, 1⟩
def POWER.PARK_CTL.AUTO : Field := ⟨0xe138, 0, 1⟩
def POWER.PARK_CTL.IDLE : Field := ⟨0xe138, 8, 25⟩
def POWER.PARK_STAT.PARKS : Field := ⟨0xe140, 0, 32⟩
def POWER.PARK_STAT.WAKES : Field := ⟨0xe140, 32, 32⟩

/-- The registers of page 14, from offset 0x100. -/
def POWER.rows : List RegRow := [
  { off := 0x100, reset := 0x3 },
  { off := 0x108, reset := 0x40 },
  { off := 0x110, reset := 0xf424000, rw := [{ lo := 0, width := 1 }, { lo := 1, width := 1, serves := .mEnd }, { lo := 8, width := 27, min := 10000, max := 67108864 }] },
  { off := 0x118, reset := 0x1a4, rw := [{ lo := 0, width := 10, min := 340, max := 500 }] },
  { off := 0x120 },
  { off := 0x128 },
  { off := 0x130, wo := 0x3 },
  { off := 0x138, reset := 0x1000000, rw := [{ lo := 0, width := 1 }, { lo := 8, width := 25, min := 1024, max := 16777216 }] },
  { off := 0x140 }]

/-! ### Page 15, TEST -/

def TEST.TEST_CTL.MODE : Field := ⟨0xf100, 0, 2⟩
def TEST.TEST_CTL.PATTERN : Field := ⟨0xf100, 4, 2⟩
def TEST.TEST_CTL.RATE : Field := ⟨0xf100, 8, 2⟩
def TEST.TEST_CTL.LENGTH : Field := ⟨0xf100, 16, 16⟩
def TEST.TEST_CMD.ENTER : Field := ⟨0xf108, 0, 1⟩
def TEST.TEST_CMD.GO : Field := ⟨0xf108, 1, 1⟩
def TEST.TEST_CMD.EXIT : Field := ⟨0xf108, 2, 1⟩
def TEST.TEST_STAT.IN_TEST : Field := ⟨0xf110, 0, 1⟩
def TEST.TEST_STAT.RUNNING : Field := ⟨0xf110, 1, 1⟩
def TEST.TEST_STAT.DONE : Field := ⟨0xf110, 2, 1⟩
def TEST.TEST_STAT.FAIL_N : Field := ⟨0xf110, 8, 8⟩
def TEST.WRAP_STAT.WIR : Field := ⟨0xf118, 0, 8⟩
def TEST.WRAP_STAT.OWNER : Field := ⟨0xf118, 8, 1⟩
def TEST.WIRE_RES.TESTED (i : Nat) : Field := ⟨0xf200 + 8 * i, 0, 1⟩
def TEST.WIRE_RES.STUCK0 (i : Nat) : Field := ⟨0xf200 + 8 * i, 1, 1⟩
def TEST.WIRE_RES.STUCK1 (i : Nat) : Field := ⟨0xf200 + 8 * i, 2, 1⟩
def TEST.WIRE_RES.FOREIGN (i : Nat) : Field := ⟨0xf200 + 8 * i, 3, 1⟩
def TEST.WIRE_RES.ERRORS (i : Nat) : Field := ⟨0xf200 + 8 * i, 8, 24⟩
def TEST.WIRE_RES.SEEN (i : Nat) : Field := ⟨0xf200 + 8 * i, 40, 8⟩

/-- The registers of page 15, from offset 0x100. -/
def TEST.rows : List RegRow := [
  { off := 0x100, reset := 0x10000, rw := [{ lo := 0, width := 2, max := 2 }, { lo := 4, width := 2, max := 2 }, { lo := 8, width := 2 }, { lo := 16, width := 16, min := 1 }] },
  { off := 0x108, wo := 0x7 },
  { off := 0x110 },
  { off := 0x118 },
  { off := 0x200, count := 166 }]

/-- The registers of a page above the common ones. -/
def pageRows : Nat → List RegRow
  | 0 => IDENT.rows
  | 1 => RESET.rows
  | 2 => PHY.rows
  | 3 => CAL.rows
  | 4 => REPAIR.rows
  | 5 => BULK.rows
  | 6 => CTRL.rows
  | 7 => CREDIT.rows
  | 8 => TXN.rows
  | 9 => TIME.rows
  | 10 => DEFILE.rows
  | 11 => BASIN.rows
  | 12 => DMA.rows
  | 13 => PAIR.rows
  | 14 => POWER.rows
  | 15 => TEST.rows
  | _ => []

/-- The row that holds byte offset `off`. -/
def RegRow.holds (r : RegRow) (off : Nat) : Bool :=
  decide (r.off ≤ off) && decide ((off - r.off) % r.stride = 0) && decide ((off - r.off) / r.stride < r.count)

/-- The row of the register at key `k`; `none` at a reserved offset and among the common registers. -/
def rowOf (k : Nat) : Option RegRow := (pageRows (k / 4096)).find? (fun r => r.holds (k % 4096))

/-- What the register at key `k` holds after reset (the Reset columns of R443 to R464; R418 for SCRUB_CTL.EN). -/
def regReset (k : Nat) : Word :=
  match rowOf k with
  | some r => BitVec.ofNat 64 r.reset
  | none => 0

/-- The statistics counters of a page above its common registers (R441). -/
def pageCounters : Nat → List Field
  | 0 => [IDENT.REC_STAT.CRC_BAD]
  | 2 => [PHY.SB_STAT.DROPPED]
  | 3 => [CAL.RUN_STAT.REJECTED]
  | 4 => [REPAIR.RPR_STAT.QR_DONE, REPAIR.RPR_STAT.QR_FAIL, REPAIR.RPR_STAT.WIDTH]
  | 5 => [BULK.TX_STAT.REPLAYS, BULK.TX_STAT.TIMEOUTS, BULK.RX_STAT.CRC_BAD, BULK.RX_STAT.NAKS, BULK.RX_STAT.SLOT_BAD, BULK.RX_STAT.RSVD_NONZERO]
  | 6 => [CTRL.TX_STAT.TIMEOUTS, CTRL.TX_STAT.ACK_ONLY, CTRL.RX_STAT.CRC_BAD, CTRL.RX_STAT.MSG_BAD, CTRL.RX_STAT.RSVD_NONZERO, CTRL.FAIL_STAT.MSG_LOST]
  | 8 => [TXN.ERR_STAT.TAG_REUSE, TXN.ERR_STAT.ORPHAN_DIE, TXN.ERR_STAT.ORPHAN_COL, TXN.ERR_STAT.RSP_LEN_BAD, TXN.SPEC_STAT.RUNAHEAD_COMMITTED, TXN.SPEC_STAT.RUNAHEAD_DISCARDED, TXN.SPEC_STAT_HI.EARLY_ISSUED, TXN.SPEC_STAT_HI.SQUASHED, TXN.SPEC_STAT_HI.SQUASH_LATE, TXN.FAIL_STAT.RSP_DROPPED, TXN.FAIL_STAT.RETRY, TXN.MDRAIN_STAT.DRAINED, TXN.MDRAIN_STAT.POSTED_DROPPED, TXN.OFFER_STAT.BAD]
  | 9 => [TIME.SEED_STAT.IGNORED_LOADS, TIME.SEED_STAT.LOADS, TIME.LATE_STAT.COUNT, TIME.LATE_STAT.SUSPENDED]
  | 10 => [DEFILE.BIND_STAT.BAD, DEFILE.BIND_STAT.MIG_POSTED_DROPPED, DEFILE.RCP_STAT.REFUSED, DEFILE.SAFE_STAT.SAT, DEFILE.SAFE_STAT.ESC, DEFILE.SAFE_STAT.NF, DEFILE.SAFE_STAT_HI.SCALE_LOW, DEFILE.SAFE_STAT_HI.SCALE_HIGH, DEFILE.SAFE_STAT_HI.PARTIAL_REFUSED, DEFILE.SAFE_STAT_HI.PARTIAL_REQUANT, DEFILE.GUARD_STAT.SAMPLED, DEFILE.GUARD_STAT.MISMATCH, DEFILE.RA_STAT.REFETCH, DEFILE.RA_STAT.OVERFLOWS]
  | 11 => [BASIN.XWIN_STAT.LOW, BASIN.XWIN_STAT.HIGH, BASIN.GUARD_STAT.MISMATCH, BASIN.ADM_STAT.DENIED, BASIN.ADM_STAT.EARLY, BASIN.ADM_STAT_HI.LATE, BASIN.ADM_STAT_HI.RETRY]
  | 12 => [DMA.CH_STAT.REQ_OVERRUN 0, DMA.CH_STAT.REQ_OVERRUN 1, DMA.CH_STAT.REQ_OVERRUN 2, DMA.CH_STAT.REQ_OVERRUN 3]
  | 13 => [PAIR.TOKEN_STAT.RETRY, PAIR.TOKEN_STAT.GAINED, PAIR.TOKEN_STAT.RELEASED, PAIR.HB_STAT.BAD, PAIR.HB_STAT.FORWARDED]
  | 14 => [POWER.STK_STAT.HELD0, POWER.STK_STAT.HELD1, POWER.STK_STAT_HI.HELD2, POWER.STK_STAT_HI.HELD3, POWER.PARK_STAT.PARKS, POWER.PARK_STAT.WAKES]
  | _ => []

/-- Pages that hold SRAM arrays, and so the four registers of R446. -/
def hasEcc (p : Nat) : Bool := [1, 5, 6, 7, 8, 10, 11].contains p

end Sys2Proof.Machine
end

