-- ==== Sys2Proof/Machine/Operands.lean ====
section
/-!
DEFINITION. Operand forms: the checks and layouts of sideband frames and identity records (R87, R88, R104, R105), bit lists,
signed and rounded integers, and the modular beats that frames carry.
-/

namespace Sys2Proof.Machine

/-! ### Bits and integers -/

/-- Bit `i` of `n`. -/
def bit (n i : Nat) : Bool := (n >>> i) % 2 = 1

/-- 1 for true, 0 for false. -/
def b2n (b : Bool) : Nat := if b then 1 else 0

/-- `n` with bit `i` set. -/
def setBit (n i : Nat) : Nat := if bit n i then n else n + 2 ^ i

/-- `n` with bit `i` clear. -/
def clearBit (n i : Nat) : Nat := if bit n i then n - 2 ^ i else n

/-- How many of the bits [w - 1 : 0] of `n` are set. -/
def popCount : Nat → Nat → Nat
  | 0, _ => 0
  | w + 1, n => b2n (bit n w) + popCount w n

/-- The set bits of `n` below `w`, lowest first. -/
def setBitsOf (w n : Nat) : List Nat := (List.range w).filter (fun i => bit n i)

/-- The two's complement value of the low `w` bits of `n`. -/
def toInt (w n : Nat) : Int :=
  let v := n % 2 ^ w
  if 2 * v < 2 ^ w then (v : Int) else (v : Int) - (2 ^ w : Nat)

/-- The `w`-bit two's complement code of an integer. -/
def ofInt (w : Nat) (i : Int) : Nat := (i % ((2 ^ w : Nat) : Int)).toNat

/-- num / den rounded half away from zero, for den > 0 (R125). -/
def roundAway (num : Int) (den : Nat) : Int :=
  let q := ((2 * num.natAbs + den) / (2 * den) : Nat)
  if num < 0 then -(q : Int) else (q : Int)

/-- Concatenate fields, each (value, width), the first one lowest. -/
def packLow : List (Nat × Nat) → Nat
  | [] => 0
  | (v, w) :: fs => v % 2 ^ w + 2 ^ w * packLow fs

/-! ### Cyclic redundancy checks -/

/-- One bit into a CRC of width `w` that shifts towards its high end. -/
def crcStepMsb (w poly crc : Nat) (b : Bool) : Nat :=
  let c := (2 * crc) % 2 ^ w
  if bit crc (w - 1) = b then c else c ^^^ poly

/-- The CRC of the bits n - 1 down to 0 of `data`, highest first. -/
def crcMsb (w poly : Nat) : Nat → Nat → Nat → Nat
  | 0, _, crc => crc
  | n + 1, data, crc => crcMsb w poly n data (crcStepMsb w poly crc (bit data n))

/-- The reflected CRC of `n` bits of `data`, lowest first; `poly` is the reflected polynomial. -/
def crcLsb (poly : Nat) : Nat → Nat → Nat → Nat
  | 0, _, crc => crc
  | n + 1, data, crc =>
    let c := crc / 2
    crcLsb poly n (data / 2) (if bit crc 0 = bit data 0 then c else c ^^^ poly)

/-- FCRC over the 48 bits [59:12] of a frame (R88). -/
def fcrc (body : Nat) : Nat := crcMsb 8 0x07 48 body 0

/-- CRC-32 of R105 over `n` bits, lowest first. -/
def crc32 (n data : Nat) : Nat := crcLsb 0xEDB88320 n data 0xFFFFFFFF ^^^ 0xFFFFFFFF

/-! ### Sideband frames (R87) -/

/-- Frame TYPE codes (R89). -/
inductive SbType where
  | train | ident | reset | beatMark | heartbeat | pageRd | pageWr | pageRsp | repair | width | calApply | park
  deriving DecidableEq, Repr

/-- The code of a frame type (R89). -/
def SbType.code : SbType → Nat
  | .train => 1 | .ident => 2 | .reset => 3 | .beatMark => 4 | .heartbeat => 5 | .pageRd => 6 | .pageWr => 7
  | .pageRsp => 8 | .repair => 9 | .width => 10 | .calApply => 11 | .park => 12

/-- The 64-bit frame that carries a payload (R87, R88). -/
def sbFrame (type fseq payload : Nat) : Frame :=
  let body := (type % 16) * 2 ^ 44 + (fseq % 16) * 2 ^ 40 + payload % 2 ^ 40
  BitVec.ofNat 64 (5 * 2 ^ 60 + body * 2 ^ 12 + fcrc body * 2 ^ 4 + 0xE)

/-- What a copy carries between SOF and FCRC: bits [59:12]. -/
def sbBody (f : Frame) : Nat := bits f.toNat 12 48

/-- A copy is valid: SOF, EOF and FCRC are correct (R88). -/
def sbValid (f : Frame) : Bool :=
  decide (bits f.toNat 60 4 = 5) && decide (bits f.toNat 0 4 = 0xE) && decide (bits f.toNat 4 8 = fcrc (sbBody f))

/-- TYPE, FSEQ and PAYLOAD of a frame body. -/
def bodyType (b : Nat) : Nat := bits b 44 4
def bodyFseq (b : Nat) : Nat := bits b 40 4
def bodyPayload (b : Nat) : Nat := bits b 0 40

/-! ### Scrambler generators (R83 to R85) -/

/-- seed(i) of stream index i. -/
def scramblerSeed (i : Nat) : Nat := (i * 0x2545F491) % 2 ^ 31

/-- One UI of a generator: its output bit and its next state. -/
def prbsStep (st : Nat) : Bool × Nat :=
  let out := bit st 30 != bit st 27
  (out, (2 * st + b2n out) % 2 ^ 31)

/-- The state of a generator after `n` UI. -/
def prbsState : Nat → Nat → Nat
  | 0, st => st
  | n + 1, st => prbsState n (prbsStep st).2

/-- Bits through a generator in a state, one UI each: the transmitter's line bits from data bits, and the receiver's data bits from line
bits, for the two are one operation (R83). -/
def scramble : Nat → List Bool → List Bool
  | _, [] => []
  | st, b :: bs => (b != (prbsStep st).1) :: scramble (prbsStep st).2 bs

/-! ### Eyes (R117) -/

/-- Set bits in a row: from bit `i` upward, and from bit `i` downward. -/
def runUp (m : Nat) : Nat → Nat → Nat
  | 0, _ => 0
  | n + 1, i => if bit m i then 1 + runUp m n (i + 1) else 0
def runDown (m : Nat) : Nat → Nat
  | 0 => 0
  | i + 1 => if bit m i then 1 + runDown m i else 0

end Sys2Proof.Machine

namespace Sys2Proof

/-- Eye width in 1/64 UI: the contiguous clean phase bins that contain the sampling point, which is bin 32 (R117). -/
def EyeMeas.width (e : EyeMeas) : Nat :=
  if Machine.bit e.phase.toNat 32 then Machine.runUp e.phase.toNat 32 32 + Machine.runDown e.phase.toNat 32 else 0

/-- Eye height in mV: 4 mV times the contiguous clean threshold bins about the trimmed threshold (R117). DESIGN CHOICE: that threshold
lies between bins 31 and 32, and the clean runs on both sides of it count. -/
def EyeMeas.height (e : EyeMeas) : Nat := 4 * (Machine.runUp e.thr.toNat 32 32 + Machine.runDown e.thr.toNat 32)

end Sys2Proof

namespace Sys2Proof.Machine

/-! ### Beats that frames carry modulo 2^w -/

/-- The first beat at or after `now` whose low `w` bits are `low` (R113, R138). -/
def resolveBeat (w low : Nat) (now : Beat) : Beat :=
  let m := 2 ^ w
  now + BitVec.ofNat 64 ((low % m + m - now.toNat % m) % m)

/-! ### The identity record (R104) -/

/-- Record bits [479:0] of an end: GEN is 0x2 for this generation. -/
def identBody (role die assy pos qid cap : Nat) : Nat :=
  packLow [(0x0001, 16), (0x01, 8), (0x2, 4), (role, 2), (0, 2), (die, 4), (assy, 4), (pos, 6), (0, 2),
    (pos ^^^ 1, 6), (0, 10), (qid, 32), (cap, 32), (256, 16), (64, 8), (0, 328)]

/-- The whole 512-bit record with its RCRC. -/
def identRecord (role die assy pos qid cap : Nat) : Nat :=
  let b := identBody role die assy pos qid cap
  b + crc32 480 b * 2 ^ 480

/-- The record's RCRC is good (R105). -/
def recordOk (r : Nat) : Bool := decide (bits r 480 32 = crc32 480 (bits r 0 480))

end Sys2Proof.Machine
end

