-- ==== Sys2Proof/Config.lean ====
section
/-!
DEFINITION. What an implementation fixes and the manual leaves open: free values without a body (R12, R251, R419), so that
nothing can be proved of them, and the defined ranges that the manual does bound, made of such a value by construction.
-/

namespace Sys2Proof.Config

/-- The n-th undefined value: result data that R12 calls undefined, and every other value the manual does not fix. -/
opaque freeBits : Nat → Nat

/-- An undefined 64-bit table or register word: the word `idx` of the aperture in the reset epoch `epoch` (R419). -/
opaque undefWord : Nat → Nat → Word

/-- An undefined Basin line before INIT_CMD.GO in a reset epoch (R419, R333). -/
opaque undefLine : Nat → Nat → Line

/-- A value from `lo` to `hi`, otherwise free: the lead of a proposed beat, and other choices the manual bounds. -/
def bounded (lo hi raw : Nat) : Nat := lo + raw % (hi - lo + 1)

end Sys2Proof.Config
end

