-- ==== Sys2Proof/Machine/Flits.lean ====
section
/-!
DEFINITION. Flits, slots and messages (06_flits_slots_and_messages.md): transaction headers, how slots are delimited, bulk and
control flits with their checks, and messages of the control stream.
-/

namespace Sys2Proof.Machine

/-! ### Opcodes and lengths -/

/-- The operations of R169. -/
inductive Op where
  | nop | rd | wr | wrP | wrBe | wrBeP | xfApply | xfApplyR | xfAcc | atFadd | atSwap | atCas | contrib | cpl | cplD
  deriving DecidableEq, Repr

/-- The code of an operation. -/
def Op.code : Op → Nat
  | .nop => 0x00 | .rd => 0x01 | .wr => 0x10 | .wrP => 0x11 | .wrBe => 0x12 | .wrBeP => 0x13 | .xfApply => 0x20
  | .xfApplyR => 0x21 | .xfAcc => 0x22 | .atFadd => 0x28 | .atSwap => 0x29 | .atCas => 0x2A | .contrib => 0x30
  | .cpl => 0x80 | .cplD => 0x81

/-- Every operation. -/
def Op.all : List Op :=
  [.nop, .rd, .wr, .wrP, .wrBe, .wrBeP, .xfApply, .xfApplyR, .xfAcc, .atFadd, .atSwap, .atCas, .contrib, .cpl, .cplD]

/-- The operation of a code; `none` is a reserved code. -/
def opOf (c : Nat) : Option Op := Op.all.find? (fun o => o.code == c)

/-- The traffic class of a request (R169). -/
def Op.tc : Op → Nat
  | .wr | .wrP | .wrBe | .wrBeP => 1
  | .xfApply | .xfApplyR | .xfAcc | .atFadd | .atSwap | .atCas => 2
  | .contrib => 3
  | _ => 0

def Op.isResponse : Op → Bool
  | .cpl | .cplD => true
  | _ => false

def Op.isPosted : Op → Bool
  | .wrP | .wrBeP => true
  | _ => false

def Op.isAtomic : Op → Bool
  | .atFadd | .atSwap | .atCas => true
  | _ => false

def Op.masked : Op → Bool
  | .wrBe | .wrBeP => true
  | _ => false

/-- The request is followed by data slots (R514). -/
def Op.hasData : Op → Bool
  | .nop | .rd | .cpl => false
  | _ => true

/-- The opcode returns data: R169 gives CPL_D as its response (R171). -/
def Op.returnsData : Op → Bool
  | .rd | .xfApplyR | .atFadd | .atSwap | .atCas => true
  | _ => false

/-- The LEN codes an opcode allows (R169). -/
def Op.lenOk : Op → Nat → Bool
  | .nop, n | .cpl, n => n == 0
  | .atFadd, n | .atSwap, n | .atCas, n => n == 1
  | .cplD, n => decide (1 ≤ n) && decide (n ≤ 4)
  | _, n => decide (2 ≤ n) && decide (n ≤ 4)

/-- Data bytes of a LEN code; `none` is reserved (R166). -/
def lenBytes : Nat → Option Nat
  | 0 => some 0 | 1 => some 16 | 2 => some 64 | 3 => some 128 | 4 => some 256
  | _ => none

/-- Data credits of an opcode and LEN: LEN bytes / 64 rounded up (R169, R180). -/
def dataCredits (o : Op) (len : Nat) : Nat :=
  if o.hasData && !o.isResponse then ((lenBytes len).getD 0 + 63) / 64 else 0

/-- Mask slots before the data (R170). -/
def maskSlots (o : Op) (len : Nat) : Nat := if o.masked then ((lenBytes len).getD 0 + 127) / 128 else 0

/-- The slots that follow a header, by opcode and LEN alone; `none` cannot be delimited (R514). -/
def slotsAfter (o : Option Op) (len : Nat) : Option Nat :=
  match o, lenBytes len with
  | some o, some b => some (if o.hasData then maskSlots o len + b / 16 else 0)
  | _, _ => none

/-- Status codes (R171). -/
inductive Status where
  | ok | poison | denied | fmtRefused | late | early | drained | squashed | retry
  deriving DecidableEq, Repr

def Status.code : Status → Nat
  | .ok => 0 | .poison => 1 | .denied => 2 | .fmtRefused => 3 | .late => 4 | .early => 5 | .drained => 6 | .squashed => 7
  | .retry => 8

/-! ### Transaction headers (R165) -/

/-- The fields of a transaction header. -/
structure Hdr where
  op : Nat := 0
  tc : Nat := 0
  lvl : Bool := false
  rsvd : Bool := false
  tag : Nat := 0
  len : Nat := 0
  status : Nat := 0
  addr : Nat := 0
  ctx : Nat := 0
  attr : Nat := 0
  opd : Nat := 0
  dbeat : Nat := 0
  deriving DecidableEq, Repr

/-- The header that a 16-byte unit spells. -/
def hdrOf (u : Nat) : Hdr :=
  { op := bits u 0 8, tc := bits u 8 2, lvl := bit u 10, rsvd := bit u 11, tag := bits u 12 12, len := bits u 24 4,
    status := bits u 28 4, addr := bits u 32 46, ctx := bits u 78 14, attr := bits u 92 8, opd := bits u 100 12,
    dbeat := bits u 112 16 }

/-- The unit of a header; the reserved bit is zero. -/
def Hdr.unit (h : Hdr) : Nat :=
  packLow [(h.op, 8), (h.tc, 2), (b2n h.lvl, 1), (0, 1), (h.tag, 12), (h.len, 4), (h.status, 4), (h.addr, 46), (h.ctx, 14),
    (h.attr, 8), (h.opd, 12), (h.dbeat, 16)]

/-- The operation of a header. -/
def Hdr.operation (h : Hdr) : Option Op := opOf h.op

/-- The attributes of R167. -/
def Hdr.early (h : Hdr) : Bool := bit h.attr 0
def Hdr.poison (h : Hdr) : Bool := bit h.attr 1
def Hdr.last (h : Hdr) : Bool := bit h.attr 2

/-- The byte address (R165). -/
def Hdr.byteAddr (h : Hdr) : Nat := 64 * h.addr

/-- ADDR has the alignment of LEN (R166). -/
def Hdr.aligned (h : Hdr) : Bool :=
  match h.len with
  | 3 => h.addr % 2 == 0
  | 4 => h.addr % 4 == 0
  | _ => true

/-- VFMT, RECIPE, WORD, WINDOW, OFFSET and CONTRIBUTOR (R168). -/
def Hdr.vfmt (h : Hdr) : Nat := bits h.opd 0 6
def Hdr.recipe (h : Hdr) : Nat := bits h.opd 6 6
def Hdr.atWord (h : Hdr) : Nat := bits h.opd 0 3
def Hdr.window (h : Hdr) : Nat := bits h.opd 0 10
def Hdr.offset (h : Hdr) : Nat := bits h.addr 0 30
def Hdr.contributor (h : Hdr) : Nat := bits h.addr 30 16

/-- The operand selector bits that R168 leaves zero are zero. -/
def Hdr.opdClean (h : Hdr) (o : Op) : Bool :=
  match o with
  | .nop => h.opd == 0
  | .xfApply | .xfApplyR | .xfAcc => true
  | .atFadd | .atSwap | .atCas => bits h.opd 3 9 == 0
  | .contrib => bits h.opd 10 2 == 0
  | _ => bits h.opd 6 6 == 0

/-- A response header for a request header (R169, R171). -/
def respHdr (q : Hdr) (st : Status) : Hdr :=
  let o := (q.operation).getD .rd
  let data := o.returnsData && (st == .ok || st == .poison || st == .drained)
  { op := if data then Op.cplD.code else Op.cpl.code, tc := q.tc, tag := q.tag, len := if data then q.len else 0,
    status := st.code, ctx := q.ctx, attr := if st == .poison || st == .drained then 2 else 0 }

/-! ### Bulk flits (R160 to R164) -/

/-- The header fields of a bulk flit. -/
structure BulkHdr where
  seq : Nat
  ack : Nat
  ackt : Nat
  ftype : Nat
  crv : Bool
  crTc : Nat
  crKind : Nat
  crCount : Nat
  hdrMap : Nat
  rsvd : Bool := false
  deriving DecidableEq, Repr

/-- The header of a bulk flit. -/
def bulkHdr (f : Nat) : BulkHdr :=
  { seq := bits f 0 12, ack := bits f 12 12, ackt := bits f 24 2, ftype := bits f 26 2, crv := bit f 28, crTc := bits f 29 2,
    crKind := bits f 31 1, crCount := bits f 32 16, hdrMap := bits f 48 15, rsvd := bit f 63 }

/-- The 64 bits of a bulk flit header. -/
def BulkHdr.word (h : BulkHdr) : Nat :=
  packLow [(h.seq, 12), (h.ack, 12), (h.ackt, 2), (h.ftype, 2), (b2n h.crv, 1), (h.crTc, 2), (h.crKind, 1), (h.crCount, 16),
    (h.hdrMap, 15), (0, 1)]

/-- The 15 slots of a bulk flit. -/
def bulkSlots (f : Nat) : List Nat := (List.range 15).map (fun s => bits f (64 + 128 * s) 128)

/-- CRC-64 over `n` bytes of `f` from byte `i` on, each most significant bit first (R178). -/
def crc64Bytes (f : Nat) : Nat → Nat → Nat → Nat
  | 0, _, crc => crc
  | n + 1, i, crc => crc64Bytes f n (i + 1) (crcMsb 64 0x42F0E1EBA9EA3693 8 (bits f (8 * i) 8) crc)

/-- The CRC-64 of bytes 0 to 247. -/
def bulkCrc (f : Nat) : Nat := crc64Bytes f 248 0 0xFFFFFFFFFFFFFFFF ^^^ 0xFFFFFFFFFFFFFFFF

/-- Slots in flit order, as a number. -/
def slotsNat : List Nat → Nat
  | [] => 0
  | s :: l => s % 2 ^ 128 + 2 ^ 128 * slotsNat l

/-- A bulk flit from its header and slots, with its CRC. -/
def buildBulk (h : BulkHdr) (slots : List Nat) : BulkFlit :=
  let body := h.word + 2 ^ 64 * (slotsNat (slots.take 15))
  BitVec.ofNat 2048 (body + bulkCrc body * 2 ^ 1984)

/-- The CRC-64 of a received flit is good. -/
def bulkOk (f : Nat) : Bool := bits f 1984 64 == bulkCrc f

/-- A transaction whose slots are not all received: its header and the slots still to come. -/
structure OpenTxn where
  hdr : Hdr
  left : Nat
  deriving DecidableEq, Repr

/-- The part of a transaction that one flit carries: units after the header, in order. -/
structure Piece where
  hdr : Hdr
  /-- the header unit is in this piece -/
  first : Bool
  units : List Nat
  /-- the transaction's last slot is in this piece -/
  last : Bool
  deriving DecidableEq, Repr

/-- Walk the slots of a TXN flit from slot `i` (R162, R514); `none` is a flit that contradicts them (R180, first row). -/
def walkSlots (hdrMap : Nat) : List Nat → Nat → Option OpenTxn → Option (List Piece × Option OpenTxn)
  | [], _, o => some ([], o)
  | u :: us, i, o =>
    match o with
    | some t =>
      if bit hdrMap i then none
      else
        let rest := if t.left ≤ 1 then none else some { t with left := t.left - 1 }
        match walkSlots hdrMap us (i + 1) rest with
        | none => none
        | some (ps, o2) =>
          match ps with
          | p :: ps2 =>
            if t.left ≤ 1 || p.first then some (⟨t.hdr, false, [u], t.left ≤ 1⟩ :: p :: ps2, o2)
            else some ({ p with units := u :: p.units } :: ps2, o2)
          | [] => some ([⟨t.hdr, false, [u], t.left ≤ 1⟩], o2)
    | none =>
      if !bit hdrMap i then none
      else
        let h := hdrOf u
        match slotsAfter h.operation h.len with
        | none => none
        | some n =>
          match walkSlots hdrMap us (i + 1) (if n = 0 then none else some ⟨h, n⟩) with
          | none => none
          | some (ps, o2) =>
            if h.operation = some .nop then some (ps, o2)
            else if n = 0 then some (⟨h, true, [], true⟩ :: ps, o2)
            else match ps with
              | p :: ps2 =>
                if p.first then some (⟨h, true, [], false⟩ :: p :: ps2, o2)
                else some ({ p with first := true } :: ps2, o2)
              | [] => some ([⟨h, true, [], false⟩], o2)

/-! ### Control flits and messages (R174 to R177) -/

/-- The fields of a control flit. -/
structure CtrlHdr where
  cseq : Nat
  cack : Nat
  back : Nat
  backt : Nat
  cft : Nat
  msgs : List Nat
  deriving DecidableEq, Repr

/-- The fields of a received control flit. -/
def ctrlHdr (f : Nat) : CtrlHdr :=
  { cseq := bits f 0 8, cack := bits f 8 8, back := bits f 16 12, backt := bits f 28 2, cft := bits f 30 2,
    msgs := [bits f 32 64, bits f 96 64, bits f 160 64] }

/-- The EMPTY message slot. -/
def emptyMsg : Nat := 7

/-- A control flit from its fields, with its CRC. -/
def buildCtrl (h : CtrlHdr) : CtrlFlit :=
  let m (i : Nat) := h.msgs.getD i emptyMsg
  let body := packLow [(h.cseq, 8), (h.cack, 8), (h.back, 12), (h.backt, 2), (h.cft, 2), (m 0, 64), (m 1, 64), (m 2, 64)]
  BitVec.ofNat 256 (body + crc32 224 body * 2 ^ 224)

/-- The CRC-32 of a received control flit is good (R178). -/
def ctrlOk (f : Nat) : Bool := bits f 224 32 == crc32 224 (bits f 0 224)

/-- CLASS and LTYPE of a message (R176, R177). -/
def msgClass (m : Nat) : Nat := bits m 0 3
def msgLtype (m : Nat) : Nat := bits m 3 5

/-- An MC2 message of a type and body bits [63:8]. -/
def linkMsg (ltype body : Nat) : Nat := 2 + 8 * (ltype % 32) + 2 ^ 8 * (body % 2 ^ 56)

/-- The eleven kinds of credit in the order of R199: the STREAM, CLASS and KIND of index k. -/
def creditKey (k : Nat) : Nat × Nat × Nat :=
  if k < 4 then (0, k, 0) else if k < 7 then (0, k - 3, 1) else (1, [0, 1, 3, 4].getD (k - 7) 0, 0)

/-- The credit index that STREAM, CLASS and KIND name; `none` names none (R180). -/
def creditIndex (stream cls kind : Nat) : Option Nat := (List.range 11).find? (fun k => creditKey k == (stream, cls, kind))

/-- A CREDIT_ADV (1) or CREDIT_RET (2) message. -/
def creditMsg (ltype k count : Nat) : Nat :=
  let (st, cl, kd) := creditKey k
  linkMsg ltype (st + 2 * cl + 16 * kd + 2 ^ 8 * (count % 2 ^ 16))

/-- The credit index and count that a CREDIT_ADV or CREDIT_RET names. -/
def creditOf (m : Nat) : Option Nat × Nat := (creditIndex (bits m 8 1) (bits m 9 3) (bits m 12 1), bits m 16 16)

end Sys2Proof.Machine
end

