-- ==== Sys2Proof/Machine/State.lean ====
section
/-!
DEFINITION. The state of one end as plain data: its registers, tables, Basin and memory in sparse canonical form, the state
the manual implies between its rules (handshakes in progress, queues, buffers, timers), the trace of what the end drives out,
and the queue of waiting commands. Reset values are the manual's; the log names the others.
-/

namespace Sys2Proof.Machine

/-- Why the machine would stop with a fault. The end has no such stop: what it cannot do it refuses in hardware and logs
(R440), and an impossible meeting of commands only lets time pass. Nobody raises it; it is safe. -/
inductive Fault where
  /-- raised by no command; safe -/
  | none
  deriving DecidableEq, Repr

/-- Why a command is refused by the model. -/
inductive Refusal where
  /-- raised by an arm of `exec` whose command has no meaning yet; safe -/
  | notModelled (mnemonic : String)
  deriving DecidableEq, Repr

/-- The Col states, in the order of their codes 0 to 14 (R96). -/
inductive ColState where
  | off | resetHeld | sbUp | ident | cal | repair | creditInit | active | retrain | quietRepair | widthChange | lowland
  | drain | down | fault
  deriving DecidableEq, Repr

/-- The code of a Col state (R96). -/
def ColState.code : ColState → Nat
  | .off => 0 | .resetHeld => 1 | .sbUp => 2 | .ident => 3 | .cal => 4 | .repair => 5 | .creditInit => 6 | .active => 7
  | .retrain => 8 | .quietRepair => 9 | .widthChange => 10 | .lowland => 11 | .drain => 12 | .down => 13 | .fault => 14

/-- What the end drives out, oldest last in `State.out`. -/
inductive Out where
  /-- a sideband frame, and the channels it is sent on (R87, R90, R92) -/
  | sb (frame : Frame) (channels : BitVec 3)
  /-- a heartbeat frame on the pair strap (R393) -/
  | strap (frame : Frame)
  /-- a bulk flit (R157) -/
  | bulk (flit : BulkFlit)
  /-- the end of a burst: so many pad bits of data value zero fill its last frame, and the valid lanes go low (R158) -/
  | burstEnd (pad : Nat)
  /-- a control flit (R174) -/
  | ctrl (flit : CtrlFlit)
  /-- DPO_CNF_: a confirm or cancel for a sequence (R41) -/
  | cnf (cancel : Bool) (seq : Nat)
  /-- MSV_REQ_: a relayed scrub request (R49) -/
  | msvReq (page count : Nat)
  /-- an engine memory access presented to the die: kind and byte address -/
  | memRead (addr : Nat)
  | memWrite (addr : Nat) (bytes : List Byte)
  /-- read data returned on the host port; the flag is MB_ERR (R51, R53) -/
  | mb (data : Word) (err : Bool)
  /-- bits shifted out of the wrapper (R489) -/
  | wso (bits : List Bool)
  /-- levels driven on the transmit wires, by the wrapper or in a step of a walking pattern (R488, R494) -/
  | wires (drive : Nat)
  /-- a PRBS31 test pattern starts on the transmit wires: the lane rate, the generator state of each wire that carries a stream, the wires
  that run as clocks, and whether the receivers are terminated (R93, R496) -/
  | streams (rate : Nat) (gens : List (Nat × Nat)) (clocks : List Nat) (terminated : Bool)
  deriving DecidableEq, Repr

/-- An event on its way into MCLK: its page, bit and captured value (R244, X13). -/
structure EvtPulse where
  page : Nat
  bit : Nat
  value : Nat
  deriving DecidableEq, Repr

/-- A Col reset that is agreed or requested (R264). -/
structure ResetPlan where
  /-- the reset beat B -/
  beat : Beat
  /-- this end sent REQ -/
  initiator : Bool
  /-- ACK has been received, or this end answers the far end's REQ -/
  acked : Bool
  /-- when REQ was last sent -/
  lastReq : Beat
  /-- R207 and R208 have been applied at B − 4,096 -/
  settled : Bool
  deriving DecidableEq, Repr

/-- Resets, clocks, Col state and host port. -/
structure Chip where
  /-- DIE_RST_N is asserted (R67) -/
  dieRst : Bool := true
  /-- Col state (R96) -/
  col : ColState := .off
  /-- beat of entry to the Col state (R96) -/
  entry : Beat := 0
  /-- STEP of R100 -/
  step : Nat := 0
  /-- beat of entry to the step (R100) -/
  stepEntry : Beat := 0
  /-- alive bits in clock bit order (R252) -/
  clk : BitVec 12 := 0
  /-- where X09 is torn, the beat counter itself, which counts on in BCLK; every domain keeps the last count that it read (R246, R258) -/
  counter : Option Beat := none
  /-- clocks that do not run: their levels stand outside the end, and every reset finds them as they are (R266) -/
  stopped : BitVec 12 := 0
  /-- clocks that have stopped unexpectedly since their domain was last reset (R255, R256) -/
  lostRun : BitVec 12 := 0
  /-- domains whose crossings are torn because their clock has restarted (R256, R258) -/
  torn : BitVec 12 := 0
  /-- release steps of R266 done, 0 to 4; 0 while reset is held -/
  released : Nat := 0
  /-- beat at which the first release step of a Col reset is due (R266) -/
  releaseAt : Option Beat := none
  /-- the reset in progress is a Col reset (R263, R266) -/
  colReset : Bool := false
  /-- the agreed or requested Col reset (R264) -/
  plan : Option ResetPlan := none
  /-- an access to a stopped domain holds MB_WAIT (R52) -/
  mbHung : Bool := false
  /-- upper words latched by reads of wide registers, by key of the upper word (R452) -/
  wide : List (Nat × Word) := []
  /-- ENUM_TO (R54) -/
  enumTo : Bool := false
  /-- level of BEAT_LOCK, as last sampled (R31, R60) -/
  beatLock : Bool := true
  /-- BEAT_LOCK has fallen while no BCLK edge could sample it (R31) -/
  lockFell : Bool := false
  /-- sideband drivers enabled (R67, R96) -/
  drivers : Bool := false
  /-- drivers of the lane groups and of the control group enabled (R96, R108) -/
  laneDrv : Bool := false
  /-- the Col went to DOWN or FAULT from service, and its TRAIN frames go on (R206) -/
  announce : Bool := false
  /-- forwarded clocks that this end drives, bit 4 the control group's (R80) -/
  fwd : BitVec 5 := 0
  /-- receive-clock groups whose X02 is released (R266 step 5), bit 4 the control group -/
  rxReleased : BitVec 5 := 0
  /-- source domains whose event crossing is busy, in clock bit order (R248) -/
  evtBusy : BitVec 12 := 0
  /-- the pending pulse of each source domain (R248) -/
  evtPend : List (Nat × EvtPulse) := []
  /-- compatibility crossings are in force, and what is agreed for them, which takes force while no event is in flight (R250) -/
  compat : Bool := false
  compatDue : Bool := false
  /-- entries that wait in a crossing Xk whose destination clock stands, by k (R244, R246) -/
  fill : List (Nat × Nat) := []
  /-- overlay slots with an uncorrectable word, until written again (R422) -/
  badOvl : List Nat := []
  deriving DecidableEq, Repr

/-- One remote access over the sideband (R451). -/
structure RpaSlot where
  wr : Bool
  /-- payload bits [39:0] -/
  payload : Nat
  /-- FSEQ of each copy sent -/
  seqs : List Nat
  /-- when the last copy was sent -/
  lastSent : Beat
  /-- firmware's access; false for the calibration's -/
  firmware : Bool
  deriving DecidableEq, Repr

/-- The sideband and the identity exchange. -/
structure Sideband where
  /-- FSEQ of the next frame (R87) -/
  fseq : Nat := 0
  /-- when this end last sent a frame (R89, R92) -/
  lastTx : Beat := 0
  /-- when a frame was last accepted (R260) -/
  lastRx : Beat := 0
  /-- when this end last sent a TRAIN frame (R100) -/
  lastTrain : Beat := 0
  /-- channels 1 or 2 have delivered a copy since SB_UP entry (R102) -/
  otherCh : Bool := false
  /-- STATUS and ARG now sent (R100) -/
  status : Nat := 0
  arg : Nat := 0
  /-- far state, step and status last acted on (R101) -/
  acted : List (Nat × Nat × Nat) := []
  /-- consecutive TRAIN frames showing SB_UP or later (R96) -/
  trains : Nat := 0
  /-- a TRAIN frame has shown IDENT or a later state since this end's last reset (R260) -/
  farIdentSeen : Bool := false
  /-- a TRAIN frame has been accepted since entry to the present state: last far state code -/
  farState : Nat := 0
  /-- far record chunks held (R103) -/
  chunks : List (Nat × BitVec 32) := []
  /-- the next own chunk to send (R103) -/
  nextChunk : Nat := 0
  /-- REC_OK received (R103) -/
  recOk : Bool := false
  /-- own checks of R107 passed -/
  ownPass : Bool := false
  /-- IDENT_PASS received (R107) -/
  farPass : Bool := false
  /-- a check failed here, or a reject was received (R108) -/
  rejected : Bool := false
  /-- the remote access in the slot (R451) -/
  rpa : Option RpaSlot := none
  /-- drive writes that calibration still has to send: (site, code) (R119) -/
  rpaQueue : List (Nat × Nat) := []
  /-- data read by the remote access (R449, R451) -/
  rpaData : Nat := 0
  deriving DecidableEq, Repr

/-- A lost-context report that waits to be read (R456). -/
structure LostEntry where
  ctx : Nat
  cause : Nat
  beat : Nat
  deriving DecidableEq, Repr

/-- The levels that the die drives on the inputs of R61 to R63, whether or not an edge has sampled them (R31). -/
structure Pins where
  /-- TEMP -/
  temp : BitVec 10 := 0
  /-- TEMP_VALID -/
  tempValid : Bool := false
  /-- BUDGET -/
  budget : BitVec 8 := 0
  /-- BUDGET_VALID -/
  budgetValid : Bool := false
  /-- STK_THR -/
  stkThr : BitVec 8 := 0
  deriving DecidableEq, Repr

/-- The inputs of R50 and R61 to R63 as last sampled, and the levels on the pins. -/
structure Inputs where
  /-- what the die drives now -/
  pin : Pins := {}
  /-- TEMP (R61) -/
  temp : BitVec 10 := 0
  /-- TEMP_VALID (R61) -/
  tempValid : Bool := false
  /-- BUDGET (R62) -/
  budget : BitVec 8 := 0
  /-- BUDGET_VALID (R62) -/
  budgetValid : Bool := false
  /-- STK_THR (R63) -/
  stkThr : BitVec 8 := 0
  /-- DMQ_REQ (R50) -/
  dmqReq : BitVec 4 := 0
  /-- DMQ_FILL by group, where not zero (R50) -/
  dmqFill : List (Nat × Nat) := []
  deriving DecidableEq, Repr

/-- Why a rate step and phase B, or both calibration phases, are running (R119, R122, R152, R154). -/
inductive CalMode where
  | bringUp | lowBringUp | retrain | lowEntry | lowRetrain
  deriving DecidableEq, Repr

/-- Where a background calibration run stands (R124 to R130). -/
inductive RunStage where
  /-- correction window open -/
  | correct
  /-- codes computed; drive writes and the application point are being agreed -/
  | agree
  /-- measurement window open -/
  | measure
  /-- old codes of worse sites wait for a second application point (R127) -/
  | restore
  deriving DecidableEq, Repr

/-- An application beat under agreement (R129): proposed by this end, or accepted from the far end. -/
structure ApplyPlan where
  beat : Beat
  run : Nat
  accepted : Bool
  lastSent : Beat
  declined : Bool := false
  deriving DecidableEq, Repr

/-- A background calibration run of this end's receive direction. -/
structure CalRun where
  stage : RunStage
  /-- old codes of the sites changed: (site, deskew, offset, drive) -/
  old : List (Nat × Nat × Nat × Nat)
  /-- drive requests not yet written to the far end: (site, code) -/
  drive : List (Nat × Nat)
  /-- sites rejected in this run, and whether a group was -/
  rejSites : List Nat
  rejGroup : Bool
  /-- the run was started by a change of temperature (R61) -/
  temp : Bool := false
  /-- trims whose codes wait for the run's application point, with those codes (R129) -/
  pended : List (TrimKind × Nat × Nat) := []
  deriving DecidableEq, Repr

/-- Calibration: phases, scrambler starts and background runs. -/
structure Cal where
  mode : CalMode := .bringUp
  /-- windows of the present phase that have ended -/
  window : Nat := 0
  /-- the scrambler start beat S (R113) -/
  startAt : Option Beat := none
  /-- this end proposed S -/
  starter : Bool := false
  /-- READY sent or received for S -/
  ready : Bool := false
  /-- the transmitters have seeded their generators (R114) -/
  seeded : Bool := false
  /-- groups whose valid lane has risen since S, and those that failed to -/
  risen : BitVec 5 := 0
  noRise : BitVec 5 := 0
  /-- candidate groups of this end's receive and transmit directions, bit 4 the control group -/
  candRx : BitVec 5 := 0
  candTx : BitVec 5 := 0
  /-- the group masks of both ends' reports (R120) -/
  ownRep : Option (BitVec 5) := none
  /-- a periodic TRAIN frame of CAL has shown this end's report again (R101) -/
  shown : Bool := false
  farRep : Option (BitVec 5) := none
  /-- failed phase B passes (R122) -/
  fails : Nat := 0
  /-- sites of passing groups below 16/64 UI (R120) -/
  bad : List Nat := []
  /-- sites whose EYE_BELOW_TARGET has been raised (R123) -/
  below : List Nat := []
  /-- the background run in progress -/
  run : Option CalRun := none
  /-- this end's proposed application beat, and the far end's accepted one -/
  own : Option ApplyPlan := none
  far : Option ApplyPlan := none
  /-- consecutive runs in which a site was rejected (R128) -/
  rejects : List (Nat × Nat) := []
  /-- a trigger to start again after a void beat (R130) -/
  again : Bool := false
  /-- that trigger is a change of temperature, which starts no run while TEMP_VALID is low (R61) -/
  againTemp : Bool := false
  /-- drive codes written to the far end, by site; 8 where none was (R115) -/
  farDrive : List (Nat × Nat) := []
  /-- UI that have passed, up to the count `uiAt` of the beat counter; from there on each BCLK edge brings those of one beat at the rate in
  use (R81, R83) -/
  uiBase : Nat := 0
  uiAt : Beat := 0
  /-- the UI at which the generators were last seeded: all transmit generators, and the receive generators of each group (R114); R85 gives
  their states from then on -/
  txSeed : Option Nat := none
  rxSeed : List (Nat × Nat) := []
  deriving DecidableEq, Repr

/-- What a REPAIR, WIDTH or PARK proposal asks for. -/
inductive PropKind where
  /-- quiet repair of a site: group, site of the group, pause in units of 64 beats (R137) -/
  | quiet (grp site n : Nat)
  /-- the direction received by this end keeps the groups (R146) -/
  | width (rx : Bool) (groups : BitVec 4) (force : Bool) (reason : Nat)
  /-- Lowland entry (R152) -/
  | lowland (groups : BitVec 4) (reason : Nat)
  /-- lane park (R433) -/
  | park
  deriving DecidableEq, Repr

/-- A proposal on its way, accepted, or running. -/
structure Proposal where
  kind : PropKind
  beat : Beat
  /-- this end proposed it -/
  own : Bool
  /-- ACCEPT received (own), or sent (far end's) -/
  accepted : Bool
  lastSent : Beat
  /-- CANCEL copies sent (R139) -/
  cancels : Nat := 0
  /-- 0 before its beat, 1 begun, 2 masks or groups switched -/
  stage : Nat := 0
  deriving DecidableEq, Repr

/-- A trigger of R135 that waits to be evaluated again (R136, R139, R150). -/
inductive Trigger where
  | site (i : Nat)
  | group (g reason : Nat) (rx : Bool)
  | lowland (reason : Nat)
  /-- a RETRAIN that firmware or a rate step asked for while the lanes were parked -/
  | retrain
  /-- a width change that firmware asked for while the lanes were parked (R435) -/
  | widthCmd (rx : Bool) (groups : BitVec 4) (force : Bool)
  /-- a park that was declined or cancelled (R139, R433) -/
  | park
  deriving DecidableEq, Repr

/-- Lane repair and width changes. -/
structure Repair where
  props : List Proposal := []
  waiting : List Trigger := []
  /-- groups removed by command, per direction; only RETRAIN restores them (R149) -/
  cmdRx : BitVec 4 := 0
  cmdTx : BitVec 4 := 0
  /-- REPAIR: when verification began (R143), READY sent and received -/
  verify : Option Beat := none
  ownReady : Bool := false
  farReady : Bool := false
  /-- triggers whose proposal the far end declined, and when (R139) -/
  declined : List (Trigger × Beat) := []
  /-- triggers of proposals that were withdrawn, with the winner's proposal whose end they wait for (R150) -/
  yielded : List (Trigger × PropKind × Beat) := []
  /-- the first error that each group's count holds (R134) -/
  grpFirst : List (Nat × Beat) := []
  /-- sites, and groups from 145 on, that error attribution has declared since their count was last zero (R132, R133) -/
  charged : List Nat := []
  /-- this end entered RETRAIN by a request of its own that no far RETRAIN has met (R150) -/
  retrainOwn : Bool := false
  /-- the last flit of each stream that failed its CRC (R133) -/
  keptBulk : Option (BulkFlit × Nat) := none
  keptCtrl : Option CtrlFlit := none
  deriving DecidableEq, Repr

/-- A suspension of the Level guarantee: the receive direction or not, from and to (R142, R148, R370). -/
structure Suspension where
  rx : Bool
  start : Beat
  stop : Beat
  deriving DecidableEq, Repr

/-- A transaction in the transmit path: its slots still to be sent, the header slot first while `fresh` (R162, R186). -/
structure TxItem where
  hdr : Hdr
  slots : List Nat
  fresh : Bool := true
  /-- an early read that waits for its verdict (R230) -/
  held : Bool := false
  deriving DecidableEq, Repr

/-- What becomes of the cycles of the transaction being taken on the die port (R35). -/
inductive TakeMode where
  /-- the units go to the transmit path -/
  | send
  /-- the units are discarded (R213, R512, R513) -/
  | sink
  /-- the units are discarded and the read waits for its verdict (R230) -/
  | hold
  deriving DecidableEq, Repr

/-- A TXN flit in the replay buffer (R164), and the header of the transaction that it continues at slot 0 (R162). -/
structure RplFlit where
  seq : Nat
  hdrMap : Nat
  slots : List Nat
  cont : Option Hdr := none
  deriving DecidableEq, Repr

/-- A bulk flit that has arrived and whose CRC is not checked yet: its place in its burst, its sequence if it was presented
tentatively, and which of its pieces were shown to the die (R190). -/
structure RxFlit where
  raw : BulkFlit
  pos : Nat
  presented : Option Nat
  shown : List Bool
  deriving DecidableEq, Repr

/-- A confirmed transaction whose slots are being gathered: a Level one keeps its release beat (R362). -/
structure Gather where
  hdr : Hdr
  units : List Nat
  release : Option Beat
  /-- the binding entry of its page as its header was taken; none where it holds an uncorrectable word (R239, R422) -/
  bind : Option Word
  /-- its pieces go straight to the die -/
  direct : Bool
  /-- its header came in a flit of a stale cut (R371) -/
  cut : Bool
  /-- entries written since, as they stood when its header was taken, by page (R239) -/
  binds : List (Nat × Option Word) := []
  deriving DecidableEq, Repr

/-- A transfer presented on DPO_ (R40, R41). -/
structure DpoItem where
  hdr : Hdr
  first : Bool
  units : List Nat
  last : Bool
  tent : Bool
  seq : Nat
  /-- the credits of this request are freed when its last transfer is confirmed and taken (R203) -/
  credit : Bool
  /-- response landing entries freed when it is taken (R205) -/
  resv : Nat
  /-- its flit has been confirmed while it waited: the confirm is presented after it (R42) -/
  cnf : Bool := false
  /-- on a spine Col, the Level posted writes that arrived earlier and must be presented before it: sequence and TAG (R220) -/
  behind : List (Nat × Nat) := []
  deriving DecidableEq, Repr

/-- The two streams of the Col (R181): replay buffers, queues and receive state; sequence numbers are in their registers. -/
structure Link where
  /-- transmit path: complete transactions, oldest first -/
  txQ : List TxItem := []
  /-- the transaction whose cycles are being taken -/
  txCur : Option (TakeMode × TxItem) := none
  /-- flits sent in the burst that is open (R158) -/
  burst : Option Nat := none
  rpl : List RplFlit := []
  /-- sequences whose buffer entry holds an uncorrectable word (R422) -/
  marked : List Nat := []
  /-- next flit a replay sends; NEXT_TX when none runs (R186) -/
  ptr : Nat := 0
  noProgress : Nat := 0
  /-- the next reverse flit carries NAK (R192) -/
  nakMark : Bool := false
  /-- NEXT_RX values last carried, bulk and control (R185) -/
  carriedB : Nat := 0
  carriedC : Nat := 0
  /-- messages that wait for a MSG flit -/
  msgQ : List Nat := []
  /-- MSG flits in the control replay buffer -/
  crpl : List (Nat × List Nat) := []
  cMarked : List Nat := []
  cptr : Nat := 0
  cNoProgress : Nat := 0
  /-- MC2 messages delivered and not yet acted on -/
  linkQ : List Nat := []
  /-- messages received for the die, oldest first -/
  msgOut : List Nat := []
  rxQ : List RxFlit := []
  /-- the transaction open at the end of the last flit presented (R162, R190) -/
  openT : Option OpenTxn := none
  /-- the transaction open at the end of the last flit confirmed (R162, R191) -/
  openC : Option OpenTxn := none
  /-- on a spine Col, requests of flits not confirmed yet that were not shown to the die, with their sequence: later ones must not pass them (R219, R220) -/
  withheld : List (Nat × Hdr) := []
  /-- the pieces of `openT` are shown to the die (R40, R41) -/
  openShown : Bool := false
  gather : Option Gather := none
  dpoQ : List DpoItem := []
  /-- transfers taken tentatively and not yet confirmed -/
  dpoTaken : List DpoItem := []
  /-- sequences confirmed here whose confirm waits for the last transfer that carries them, oldest first (R42) -/
  cnfWait : List Nat := []
  /-- the transaction whose continuation alone may be presented (R40): its header -/
  dpoLock : Option Hdr := none
  /-- credit counts last sent, by index, and the index next in turn (R203) -/
  crSent : List (Nat × Nat) := []
  crTurn : Nat := 0
  /-- CREDIT_ADV received at this CREDIT_INIT, and the far ADV_DONE (R200) -/
  advSeen : Nat := 0
  farDone : Bool := false
  /-- the beat since which NEXT_RX has not advanced after a failure (R371) -/
  stall : Option Beat := none
  /-- S0 of the stale cut that runs (R371) -/
  cut : Option Nat := none
  deriving DecidableEq, Repr

/-- An early read of an H-end (R225, R230). -/
structure EarlyRead where
  hdr : Hdr
  since : Beat
  /-- the verdict: `some true` is dirty -/
  verdict : Option Bool := none
  /-- it waits in the transmit path for its verdict (EARLY_EN 0) -/
  held : Bool
  /-- VERDICT_TIMEOUT when it was taken (R232, R455) -/
  limit : Nat
  /-- its confirmed response, held until the verdict -/
  resp : Option (Hdr × List Nat) := none
  deriving DecidableEq, Repr

/-- A confirmed Level request that waits for its release beat (R363). -/
structure LevelItem where
  hdr : Hdr
  units : List Nat
  release : Beat
  seq : Nat
  deriving DecidableEq, Repr

/-- A request the engine holds after its confirmation, in commit order (R228). -/
structure EngReq where
  hdr : Hdr
  units : List Nat
  release : Option Beat
  /-- the request was released under a stale cut or in Lowland -/
  late : Bool
  /-- the binding entry of its page as its header was taken; none where it holds an uncorrectable word (R239, R422) -/
  bind : Option Word
  /-- the sequence of its last slot (R225) -/
  seq : Nat
  /-- it was taken in run-ahead (R227) -/
  ahead : Bool
  /-- entries written since, as they stood when its header was taken, by page (R239) -/
  binds : List (Nat × Option Word) := []
  deriving DecidableEq, Repr

/-- A transaction that the engine takes before its confirmation: the sequence of its last slot, and whether that is confirmed (R227). -/
structure Ahead where
  hdr : Hdr
  seq : Nat
  conf : Bool := false
  deriving DecidableEq, Repr

/-- A read of a granule of memory for the engine (R325). -/
structure Prefetch where
  granule : Nat
  /-- the transaction whose operand it is: the sequence of its last slot and its TAG; none for any other read of the engine's -/
  owner : Option (Nat × Nat)
  /-- memory's answer, once it has come -/
  ans : Option MemAnswer := none
  /-- the end has written the granule since the read was issued -/
  stale : Bool := false
  /-- the transaction was cancelled: what the read brings is dropped (R225) -/
  dropped : Bool := false
  /-- its operand is being used -/
  now : Bool := false
  deriving DecidableEq, Repr

/-- Transactions. -/
structure Txns where
  /-- registered requests by TAG (R212) -/
  outT : List (Nat × Hdr) := []
  /-- requests presented to the die and not answered, by TAG (R214) -/
  served : List (Nat × Hdr) := []
  /-- served tags marked SQUASHED (R231) -/
  squashed : List Nat := []
  early : List (Nat × EarlyRead) := []
  levelQ : List LevelItem := []
  engQ : List EngReq := []
  /-- transactions in the run-ahead buffer, and those that wait for room there, in order (R227) -/
  runAhead : List Ahead := []
  aheadWait : List Ahead := []
  /-- beat at which the drain timer last started (R234, R236) -/
  drainAt : Beat := 0
  /-- beat at which the memory drain started (R240) -/
  mdrainAt : Beat := 0
  /-- tags of requests answered DRAINED whose late memory answer is discarded (R240) -/
  gone : List Nat := []
  /-- reads issued for the engine, oldest first (R325) -/
  prefetch : List Prefetch := []
  /-- the record of granules written while prefetches are outstanding (R325) -/
  written : List Nat := []
  /-- pages whose binding entry holds an uncorrectable word, until it is written again (R422) -/
  badBinds : List Nat := []
  deriving DecidableEq, Repr

/-- Power: parking and budgets (R426 to R436). -/
structure Power where
  /-- the park beat has passed and the lane groups have not stopped yet (R434) -/
  stopping : Bool := false
  /-- the transmit clocks have been restarted and the valid lanes are held low (R435) -/
  waking : Bool := false
  /-- the trigger of a wake that waits for ECLK (R437) -/
  waitEclk : Option Nat := none
  /-- triggers that are to be evaluated once a wake is complete (R435) -/
  afterWake : List Trigger := []
  /-- a calibration run starts at the end of the wake (R436), asked for by a change of temperature alone (R61) -/
  runAfterWake : Bool := false
  runTemp : Bool := false
  /-- bulk flit content was last sent or received (R433) -/
  lastContent : Beat := 0
  /-- BUDGET_SHORT holds since (R428, R430) -/
  shortSince : Option Beat := none
  /-- the hot limit is in force (R431) -/
  hot : Bool := false
  /-- TEMP_INVALID has been raised in this low period (R61) -/
  tempLow : Bool := false
  /-- when the stack throttle levels last changed (R432) -/
  thrSince : Beat := 0
  deriving DecidableEq, Repr

/-- Beat marks and the stale-level state (R364 to R367). -/
structure Marks where
  /-- a mark has been sent since CAL entry, and when -/
  lastTx : Option Beat := none
  /-- when a mark was last accepted, or CAL was entered -/
  lastRx : Beat := 0
  /-- BEAT_MARK_MISSING has been raised since then -/
  missing : Bool := false
  /-- when the slew in progress next moves the count -/
  nextSlew : Beat := 0
  deriving DecidableEq, Repr

/-- One link's record of the heartbeat words of one originator (R396). -/
structure HbLink where
  /-- SEQ values seen, newest first -/
  recent : List Nat := []
  /-- when a word with a new SEQ last arrived -/
  at_ : Beat := 0
  /-- HB_PATH_LOST has been raised in this silence -/
  lost : Bool := false
  deriving DecidableEq, Repr

/-- What the headers and seals of the mirror buffers showed at entry to LOADING (R408). -/
structure MirLoad where
  /-- the newest complete generation -/
  gen : Option Nat
  /-- the other header shows the next generation, and its HCRC is good or not -/
  next : Bool
  hdrGood : Bool
  /-- the contexts of that header's dirty bitmap -/
  dirty : List Nat
  /-- the newest header GEN found -/
  newest : Nat
  deriving DecidableEq, Repr

/-- Heartbeats, token and mirror (R392 to R411). -/
structure Pair where
  /-- SEQ of this end's next word -/
  seq : Nat := 0
  /-- FSEQ of the next strap frame (R87, R393) -/
  strapSeq : Nat := 0
  /-- the links by 2 · ORIG, plus 1 for the strap -/
  links : List (Nat × HbLink) := []
  /-- latest PROLE seen, by ORIG -/
  proles : List (Nat × Nat) := []
  /-- the partner's latest lease expiry (R398), and when its last new word came -/
  eLast : Beat := 0
  lastWord : Beat := 0
  /-- the partner has sent PROLE OUT since CLAIMING or STANDBY was entered -/
  outSeen : Bool := false
  /-- the lease expiry of this end and its next renewal (R399) -/
  expiry : Beat := 0
  /-- the Col has left service, and the token is released once the confirmed token-scope requests are performed (R207, R400) -/
  leaving : Bool := false
  renewAt : Beat := 0
  /-- entry to the present PROLE -/
  since : Beat := 0
  /-- complete generations that the buffers held at RESYNC entry (R411) -/
  heldGens : List Nat := []
  /-- an OWNER word of the partner has come since RESYNC entry -/
  ownerSeen : Bool := false
  /-- the partner's last word with PROLE CLAIMING, LOADING or OWNER since RESYNC entry -/
  busyAt : Option Beat := none
  /-- contexts marked since the last BEGIN, rising, and those of the open generation (R405) -/
  dirty : List (Nat × Unit) := []
  openDirty : List (Nat × Unit) := []
  /-- the next read of the mirror seals (R398) -/
  sealAt : Beat := 0
  /-- the load in progress (R408) -/
  load : Option MirLoad := none
  deriving DecidableEq, Repr

/-- A write of a DMA MOVE that is not issued yet: a die-local address and bytes within one granule (R380). -/
structure DmaWrite where
  addr : Nat
  bytes : List Byte
  deriving DecidableEq, Repr

/-- A MOVE in progress (R378): the instruction, its adjusted bases, and how far it has come. -/
structure DmaMove where
  word : Nat
  src : Nat
  dst : Nat
  /-- the piece in progress; the bytes of it whose reads have been issued; and those that have come back, in order -/
  piece : Nat := 0
  asked : Nat := 0
  data : List Byte := []
  /-- the piece's addresses are known and in range -/
  begun : Bool := false
  /-- granule writes of the piece that are not issued yet, and issued bytes of a view whose block is not complete yet -/
  buf : List DmaWrite := []
  part : List Byte := []
  /-- granules that the present burst may still issue (R384) -/
  burst : Nat := 0
  /-- bytes of the piece that have become writes, so that `data` holds those after them; and granules of it whose writes have been
  issued (R384) -/
  cut : Nat := 0
  issued : Nat := 0
  deriving DecidableEq, Repr

/-- What an access of a channel is for: a 128-byte group of the program, a granule of a source or of a destination, or a record. -/
inductive DmaUse where
  | fetch (group : Nat)
  | read
  | write
  | record
  deriving DecidableEq, Repr

/-- An access of a channel that has been issued and has not ended (R380, R388). -/
structure DmaAccess where
  use : DmaUse
  /-- its first byte: a die-local address, or a byte offset of the table aperture -/
  addr : Nat
  /-- bytes that a read wants -/
  len : Nat := 0
  /-- the bytes that a write still has to bring to memory, or that a read has brought -/
  bytes : List Byte := []
  tbl : Bool := false
  /-- the entry of the VIEW page that it goes through, as it was issued -/
  view : Option Word := none
  /-- memory, or the engine, has been given the write -/
  sent : Bool := false
  /-- the data of the read has come -/
  got : Bool := false
  /-- its data is discarded when it returns -/
  gone : Bool := false
  /-- it met a bus error and is issued again at a beat; the retries it has had -/
  due : Option Beat := none
  retries : Nat := 0
  deriving DecidableEq, Repr

/-- One loop counter (R381). -/
structure DmaLoop where
  active : Bool := false
  owner : Nat := 0
  done : Nat := 0
  adjS : Int := 0
  adjD : Int := 0
  deriving DecidableEq, Repr

/-- One DMA channel (R374 to R390); what its registers show is held there. -/
structure DmaChan where
  /-- 128-byte groups of program units fetched (eight units each) -/
  groups : List (Nat × Nat) := []
  /-- accesses that have been issued and have not ended, oldest first -/
  acc : List DmaAccess := []
  mov : Option DmaMove := none
  loop0 : DmaLoop := {}
  loop1 : DmaLoop := {}
  /-- the beat a WAIT ends at -/
  waitBeat : Option Beat := none
  /-- a SIGNAL waits for its earlier writes, or for the queue -/
  signal : Bool := false
  /-- the error of a halt whose outstanding accesses have not all finished -/
  halting : Option Nat := none
  /-- a HALT record waits for the completion queue (R389) -/
  haltPend : Bool := false
  /-- Lowland entry halts the channel at the end of its instruction (R389) -/
  lowHalt : Bool := false
  /-- the pacing gate is closed (R384) -/
  gateShut : Bool := false
  deriving DecidableEq, Repr

/-- The Defile engine and the windows. -/
structure Engine where
  /-- ESC_FULL has been raised since NEXT was written (R327) -/
  escFull : Bool := false
  /-- blocks encoded since the last guard sample (R329) -/
  guardN : Nat := 0
  /-- recipe slots with an uncorrectable word, until written again (R422) -/
  badSlots : List Nat := []
  /-- windows that still zero their lines -/
  zeroing : List Nat := []
  /-- windows for which WIN_ARM_LATE has been raised -/
  lateArm : List Nat := []
  /-- windows in CLOSING whose result writes memory has not accepted yet -/
  closing : List Nat := []
  /-- escaped blocks whose slot write memory may still turn away, newest first: context, address and size of the element field,
  and the slot (R327, R484) -/
  escWrites : List (Nat × Nat × Nat × Nat) := []
  /-- firmware has written BASIN.SCRUB_CTL.EN as 1 since the reset: window descriptors are checked (R506) -/
  winChecks : Bool := false
  /-- the encoder is in error where the guard unit samples it in the command under way (R329) -/
  encErr : Bool := false
  /-- windows in CLOSING whose result the stack throttle has kept from being issued (R432) -/
  unissued : List Nat := []
  /-- Lowland has been entered since the reset: no DMA channel starts (R155, R391) -/
  noStart : Bool := false
  deriving DecidableEq, Repr

/-- One SRAM array as its scrubber and correction logic see it (R413 to R421). -/
structure SramArray where
  /-- code words corrected and waiting for write-back -/
  pending : List Nat := []
  /-- of those, the words whose write-back is suppressed: written since, or held by a merge entry -/
  suppressed : List Nat := []
  /-- words corrected and written back in the scrubber's present pass and in its previous one -/
  fixedNow : List Nat := []
  fixedPrev : List Nat := []
  /-- code words found uncorrectable in an array that the end does not rewrite, until they are written (R422) -/
  bad : List Nat := []
  /-- words corrected in the scrubber's previous pass whose write-back is still to come (R416) -/
  late : List Nat := []
  /-- code words held in the merge buffer, oldest first (arrays 7, 10 and 11), and in the order of their last writes (R420) -/
  merge : List Nat := []
  idle : List Nat := []
  /-- the next row the scrubber reads -/
  row : Nat := 0
  deriving DecidableEq, Repr

/-- Package test: patterns and the IEEE 1500 wrapper (R486 to R497). -/
structure TestLogic where
  /-- the aligned beat at which a pattern started by GO begins, and whether it has begun -/
  startAt : Option Beat := none
  begun : Bool := false
  /-- the pattern was started by the wrapper -/
  byWrapper : Bool := false
  /-- MODE, PATTERN, RATE and LENGTH in force, as BX_CTL lays them out -/
  ctl : Nat := 0
  /-- the drive cells and the captured cells of the WBR -/
  drive : BitVec 332 := 0
  capture : BitVec 166 := 0
  /-- the bypass register and BX_CTL (R487) -/
  bypass : Bool := false
  bxCtl : BitVec 32 := 0
  /-- BX_BIST -/
  bist : BitVec 16 := 0
  bistRuns : Bool := false
  deriving DecidableEq, Repr


/-- The state of the end. -/
structure State where
  /-- commands that wait, first in first out -/
  pending : List Instr := []
  /-- everything driven out since die reset, newest first -/
  out : List Out := []
  /-- the counter to which `Config.freeBits` is applied -/
  freeCtr : Nat := 0
  /-- resets so far: undefined contents differ from one to the next (R419) -/
  epoch : Nat := 0
  /-- the beat counter (R359) -/
  beat : Beat := 0
  /-- registers that differ from their reset values, by key -/
  regs : List (Nat × Word) := []
  /-- table aperture words written since reset, by aperture word index (R465) -/
  tbl : List (Nat × Word) := []
  /-- every unlisted table aperture word reads zero, after the array self-test (R492); undefined before -/
  tblZeroed : Bool := false
  /-- Basin lines written since reset, by line number (R331) -/
  basin : List (Nat × Line) := []
  /-- every unlisted Basin line reads zero (R333); undefined before -/
  basinZeroed : Bool := false
  /-- die-local memory as the engine and the DMA channels find it -/
  mem : List Host.Cell := []
  /-- poisoned 64-byte granules of memory, by number (R423, R425) -/
  poison : List Nat := []
  chip : Chip := {}
  sb : Sideband := {}
  inp : Inputs := {}
  /-- lost-context reports, oldest first, and whether one was dropped since the previous read (R456) -/
  lostQ : List LostEntry := []
  lostOvf : Bool := false
  cal : Cal := {}
  rep : Repair := {}
  /-- suspensions of the Level guarantee (R370) -/
  susp : List Suspension := []
  lnk : Link := {}
  txn : Txns := {}
  pwr : Power := {}
  marks : Marks := {}
  pair : Pair := {}
  dma : List DmaChan := [{}, {}, {}, {}]
  eng : Engine := {}
  /-- arrays by ID (R413) -/
  arrays : List (Nat × SramArray) := []
  test : TestLogic := {}
  deriving DecidableEq, Repr

/-- The end right after reset: DIE_RST_N asserted, every register at its reset value, nothing written, nothing waiting. -/
def State.reset : State := {}

end Sys2Proof.Machine
end

