-- ==== Sys2Proof/Machine/Flags.lean ====
section
/-!
DEFINITION. The events of the sixteen pages (the event tables of R443 to R464), the domain each is raised in, and the way a
raised event reaches the event status of its page (R244 X13, R248, R249, R444).
-/

namespace Sys2Proof.Machine

/-- An event: page, bit, and the domain it is raised in, in clock bit order (0 is MCLK, which needs no crossing). -/
structure Event where
  page : Nat
  bit : Nat
  dom : Nat
  deriving DecidableEq, Repr

/-- The code of an event (R444). -/
def Event.code (e : Event) : Nat := 64 * e.page + e.bit

/-! ### Events of page 0 -/

def EV.IDENT.FUSE_INVALID : Event := ⟨0, 0, 0⟩
def EV.IDENT.IDENT_FORMAT_BAD : Event := ⟨0, 1, 0⟩
def EV.IDENT.CONNECT_MISMATCH : Event := ⟨0, 2, 0⟩
def EV.IDENT.QUAL_REJECT : Event := ⟨0, 3, 0⟩
def EV.IDENT.CAP_BAD : Event := ⟨0, 4, 0⟩
def EV.IDENT.IDENT_FAR_REJECT : Event := ⟨0, 5, 0⟩
def EV.IDENT.COMPAT_MODE : Event := ⟨0, 6, 0⟩
def EV.IDENT.SB_NO_PARTNER : Event := ⟨0, 7, 0⟩
def EV.IDENT.IDENT_TIMEOUT : Event := ⟨0, 8, 0⟩
def EV.IDENT.REPAIR_TIMEOUT : Event := ⟨0, 9, 0⟩
def EV.IDENT.CREDIT_INIT_TIMEOUT : Event := ⟨0, 10, 0⟩
def EV.IDENT.FAR_DOWN : Event := ⟨0, 11, 0⟩
def EV.IDENT.COL_FAULT : Event := ⟨0, 12, 0⟩
def EV.IDENT.COL_DOWN : Event := ⟨0, 13, 0⟩
def EV.IDENT.ARRAY_UE : Event := ⟨0, 14, 0⟩

/-! ### Events of page 1 -/

def EV.RESET.COL_RESET_DONE : Event := ⟨1, 0, 0⟩
def EV.RESET.RESET_ONE_SIDED : Event := ⟨1, 1, 0⟩
def EV.RESET.TORN : Event := ⟨1, 2, 0⟩
def EV.RESET.XING_OVERRUN : Event := ⟨1, 3, 0⟩
def EV.RESET.CLOCK_STOP : Event := ⟨1, 4, 0⟩
def EV.RESET.FAR_SILENT : Event := ⟨1, 5, 0⟩
def EV.RESET.OVERLAY_BAD : Event := ⟨1, 6, 0⟩
def EV.RESET.ECC_CE : Event := ⟨1, 7, 0⟩
def EV.RESET.ECC_UE : Event := ⟨1, 8, 0⟩
def EV.RESET.ECC_CE_STUCK : Event := ⟨1, 9, 0⟩

/-! ### Events of page 2 -/

def EV.PHY.PLL_LOCK_FAIL : Event := ⟨2, 0, 0⟩
def EV.PHY.PHY_UNLOCK : Event := ⟨2, 1, 0⟩
def EV.PHY.RX_FIFO_SLIP : Event := ⟨2, 2, 4⟩
def EV.PHY.SB_CHANNEL_LOST : Event := ⟨2, 3, 0⟩
def EV.PHY.SB_FAULT : Event := ⟨2, 4, 0⟩
def EV.PHY.SB_TYPE_BAD : Event := ⟨2, 5, 0⟩
def EV.PHY.RPA_DONE : Event := ⟨2, 6, 0⟩

/-! ### Events of page 3 -/

def EV.CAL.CAL_FAIL : Event := ⟨3, 0, 4⟩
def EV.CAL.CAL_REJECT : Event := ⟨3, 1, 4⟩
def EV.CAL.EYE_BELOW_TARGET : Event := ⟨3, 2, 4⟩
def EV.CAL.TEMP_INVALID : Event := ⟨3, 3, 0⟩
def EV.CAL.CAL_RUN_FAIL : Event := ⟨3, 4, 4⟩

/-! ### Events of page 4 -/

def EV.REPAIR.SITE_FAILING : Event := ⟨4, 0, 4⟩
def EV.REPAIR.QR_DONE : Event := ⟨4, 1, 4⟩
def EV.REPAIR.QR_VERIFY_FAIL : Event := ⟨4, 2, 4⟩
def EV.REPAIR.WIDTH_CHANGED : Event := ⟨4, 3, 4⟩
def EV.REPAIR.WIDTH_HELD : Event := ⟨4, 4, 4⟩
def EV.REPAIR.REQ_WITHDRAWN : Event := ⟨4, 5, 4⟩
def EV.REPAIR.LOWLAND_ENTRY : Event := ⟨4, 6, 4⟩
def EV.REPAIR.CG_LOST : Event := ⟨4, 7, 4⟩
def EV.REPAIR.NO_LANE_GROUP : Event := ⟨4, 8, 4⟩
def EV.REPAIR.LOWLAND_LOST : Event := ⟨4, 9, 4⟩

/-! ### Events of page 5 -/

def EV.BULK.FLIT_FORMAT : Event := ⟨5, 0, 4⟩
def EV.BULK.SLOT_BAD : Event := ⟨5, 1, 4⟩
def EV.BULK.RSP_STATUS_BAD : Event := ⟨5, 2, 4⟩
def EV.BULK.ACK_BAD : Event := ⟨5, 3, 4⟩
def EV.BULK.REPLAY_LIMIT : Event := ⟨5, 4, 4⟩
def EV.BULK.ECC_CE : Event := ⟨5, 5, 4⟩
def EV.BULK.ECC_UE : Event := ⟨5, 6, 4⟩
def EV.BULK.ECC_CE_STUCK : Event := ⟨5, 7, 4⟩

/-! ### Events of page 6 -/

def EV.CTRL.CTRL_FORMAT : Event := ⟨6, 0, 4⟩
def EV.CTRL.MSG_FORMAT : Event := ⟨6, 1, 4⟩
def EV.CTRL.CTRL_REPLAY_LIMIT : Event := ⟨6, 2, 4⟩
def EV.CTRL.MSG_LOST : Event := ⟨6, 3, 4⟩
def EV.CTRL.MSG_CLASS_BAD : Event := ⟨6, 4, 4⟩
def EV.CTRL.ECC_CE : Event := ⟨6, 5, 4⟩
def EV.CTRL.ECC_UE : Event := ⟨6, 6, 4⟩
def EV.CTRL.ECC_CE_STUCK : Event := ⟨6, 7, 4⟩

/-! ### Events of page 7 -/

def EV.CREDIT.CREDIT_INIT_BAD : Event := ⟨7, 0, 4⟩
def EV.CREDIT.CREDIT_BAD : Event := ⟨7, 1, 4⟩
def EV.CREDIT.ECC_CE : Event := ⟨7, 2, 4⟩
def EV.CREDIT.ECC_UE : Event := ⟨7, 3, 4⟩
def EV.CREDIT.ECC_CE_STUCK : Event := ⟨7, 4, 4⟩

/-! ### Events of page 8 -/

def EV.TXN.TAG_REUSE : Event := ⟨8, 0, 1⟩
def EV.TXN.RSP_ORPHAN : Event := ⟨8, 1, 1⟩
def EV.TXN.RSP_LEN_BAD : Event := ⟨8, 2, 1⟩
def EV.TXN.DIR_ORPHAN : Event := ⟨8, 3, 1⟩
def EV.TXN.DIR_TIMEOUT : Event := ⟨8, 4, 1⟩
def EV.TXN.DRAIN_BOUND : Event := ⟨8, 5, 1⟩
def EV.TXN.CTX_LOST : Event := ⟨8, 6, 1⟩
def EV.TXN.MSCRUB_DONE : Event := ⟨8, 7, 1⟩
def EV.TXN.MSCRUB_ORPHAN : Event := ⟨8, 8, 1⟩
def EV.TXN.ECC_CE : Event := ⟨8, 9, 1⟩
def EV.TXN.ECC_UE : Event := ⟨8, 10, 1⟩
def EV.TXN.ECC_CE_STUCK : Event := ⟨8, 11, 1⟩
def EV.TXN.OFFER_BAD : Event := ⟨8, 12, 1⟩

/-! ### Events of page 9 -/

def EV.TIME.BEAT_UNLOCK : Event := ⟨9, 0, 3⟩
def EV.TIME.LEVEL_LATE : Event := ⟨9, 1, 3⟩
def EV.TIME.LEVEL_BELOW_MIN : Event := ⟨9, 2, 3⟩
def EV.TIME.BEAT_SLEW : Event := ⟨9, 3, 3⟩
def EV.TIME.BEAT_ALIGN_FAIL : Event := ⟨9, 4, 3⟩
def EV.TIME.BEAT_MARK_MISSING : Event := ⟨9, 5, 3⟩

/-! ### Events of page 10 -/

def EV.DEFILE.BIND_BAD : Event := ⟨10, 0, 2⟩
def EV.DEFILE.RECIPE_BAD : Event := ⟨10, 1, 2⟩
def EV.DEFILE.SCALE_RANGE : Event := ⟨10, 2, 2⟩
def EV.DEFILE.ESC_FULL : Event := ⟨10, 3, 2⟩
def EV.DEFILE.ESC_MISMATCH : Event := ⟨10, 4, 2⟩
def EV.DEFILE.GUARD_MISMATCH : Event := ⟨10, 5, 2⟩
def EV.DEFILE.BUDGET_SPENT : Event := ⟨10, 6, 2⟩
def EV.DEFILE.FMT_CODE_BAD : Event := ⟨10, 7, 2⟩
def EV.DEFILE.ECC_CE : Event := ⟨10, 8, 2⟩
def EV.DEFILE.ECC_UE : Event := ⟨10, 9, 2⟩
def EV.DEFILE.ECC_CE_STUCK : Event := ⟨10, 10, 2⟩

/-! ### Events of page 11 -/

def EV.BASIN.XWIN_RANGE : Event := ⟨11, 0, 2⟩
def EV.BASIN.BASIN_GUARD_MISMATCH : Event := ⟨11, 1, 2⟩
def EV.BASIN.WIN_CLOSED : Event := ⟨11, 2, 2⟩
def EV.BASIN.WIN_INCOMPLETE : Event := ⟨11, 3, 2⟩
def EV.BASIN.WIN_FAILED : Event := ⟨11, 4, 2⟩
def EV.BASIN.WIN_ARM_LATE : Event := ⟨11, 5, 2⟩
def EV.BASIN.INIT_DONE : Event := ⟨11, 6, 2⟩
def EV.BASIN.ECC_CE : Event := ⟨11, 7, 2⟩
def EV.BASIN.ECC_UE : Event := ⟨11, 8, 2⟩
def EV.BASIN.ECC_CE_STUCK : Event := ⟨11, 9, 2⟩

/-! ### Events of page 13 -/

def EV.PAIR.HB_PATH_LOST : Event := ⟨13, 0, 1⟩
def EV.PAIR.END_DEAD : Event := ⟨13, 1, 1⟩
def EV.PAIR.TOKEN_GAINED : Event := ⟨13, 2, 1⟩
def EV.PAIR.TOKEN_RELEASED : Event := ⟨13, 3, 1⟩
def EV.PAIR.TOKEN_CONFLICT : Event := ⟨13, 4, 1⟩
def EV.PAIR.TOKEN_MOVED : Event := ⟨13, 5, 1⟩
def EV.PAIR.MIRROR_INCOMPLETE : Event := ⟨13, 6, 1⟩
def EV.PAIR.MIRROR_HDR_BAD : Event := ⟨13, 7, 1⟩
def EV.PAIR.MIRROR_NONE : Event := ⟨13, 8, 1⟩

/-! ### Events of page 14 -/

def EV.POWER.BUDGET_SHORT : Event := ⟨14, 0, 0⟩
def EV.POWER.RATE_STEP_DOWN : Event := ⟨14, 1, 0⟩
def EV.POWER.TEMP_HOT : Event := ⟨14, 2, 0⟩
def EV.POWER.PARKED : Event := ⟨14, 3, 0⟩
def EV.POWER.WOKEN : Event := ⟨14, 4, 0⟩

/-! ### Events of page 15 -/

def EV.TEST.TEST_DONE : Event := ⟨15, 0, 0⟩
def EV.TEST.TEST_WIRE_FAIL : Event := ⟨15, 1, 0⟩

/-! ### Events of page 12: channel `n` has bits 4n to 4n + 3 -/

def EV.DMA.DMA_SIGNAL (n : Nat) : Event := ⟨12, 4 * n + 0, 1⟩
def EV.DMA.DMA_HALT (n : Nat) : Event := ⟨12, 4 * n + 1, 1⟩
def EV.DMA.DMA_CQ_FULL (n : Nat) : Event := ⟨12, 4 * n + 2, 1⟩
def EV.DMA.DMA_REQ_OVERRUN (n : Nat) : Event := ⟨12, 4 * n + 3, 1⟩

/-- How many event bits a page has; the bits above are reserved (R443). -/
def eventCount : Nat → Nat
  | 0 => 15 | 1 => 10 | 2 => 7 | 3 => 5 | 4 => 10 | 5 => 8 | 6 => 8 | 7 => 5
  | 8 => 13 | 9 => 6 | 10 => 11 | 11 => 10 | 12 => 16 | 13 => 9 | 14 => 5 | 15 => 2
  | _ => 0

/-! ### Registers -/

/-- The 64 bits of the register at a key. -/
def State.reg (s : State) (k : Nat) : Word := (Sparse.find s.regs k).getD (regReset k)

/-- The register at a key takes a word; a word equal to the reset value is not listed. -/
def State.setReg (s : State) (k : Nat) (w : Word) : State :=
  { s with regs := Sparse.set k (if w = regReset k then none else some w) s.regs }

/-- The value of a register field. -/
def State.get (s : State) (f : Field) : Nat := bits (s.reg f.key).toNat f.lo f.width

/-- A register field takes a value, modulo its width. -/
def State.put (s : State) (f : Field) (v : Nat) : State := s.setReg f.key (setBits (s.reg f.key) f.lo f.width v)

/-- A field holds a non-zero value. -/
def State.on (s : State) (f : Field) : Bool := s.get f != 0

/-- A statistics counter counts `n` upward and stops at its all-ones value (R441). -/
def State.bumpBy (s : State) (f : Field) (n : Nat) : State := s.put f (min (s.get f + n) (2 ^ f.width - 1))

/-- A statistics counter counts one. -/
def State.bump (s : State) (f : Field) : State := s.bumpBy f 1

/-- Clear fields. -/
def State.clearAll (s : State) : List Field → State
  | [] => s
  | f :: fs => (s.put f 0).clearAll fs

/-! ### Raising events -/

/-- The end is powered and out of die reset. -/
def State.alive (s : State) : Bool := !s.chip.dieRst

/-- Set an event's status bit, count it and capture it if no capture is held (R444). -/
def State.deliver (s : State) (page bit value : Nat) (forced : Bool) : State :=
  let s1 := (s.put (PAGE.EVT_STAT page) (setBit (s.get (PAGE.EVT_STAT page)) bit)).bump (PAGE.PAGE_STAT.EVT_COUNT page)
  if s1.on (PAGE.EVT_FIRST.VALID page) then s1
  else (((s1.put (PAGE.EVT_FIRST.BIT page) bit).put (PAGE.EVT_FIRST.VALID page) 1).put (PAGE.EVT_FIRST.FORCED page) (b2n forced)).put
    (PAGE.EVT_FIRST.VALUE page) (value % 2 ^ 48)

/-- The crossing from source domain `d` into MCLK is a compatibility crossing (R250). -/
def State.compatCrossing (s : State) (d : Nat) : Bool := s.chip.compat && (d == 4 || (5 ≤ d && d ≤ 10))

/-- What is agreed for the crossings takes force while none of them has an event in flight (R250). -/
def State.compatSettle (s : State) : State :=
  if s.chip.evtBusy &&& 0x7F0 = 0 ∧ s.chip.evtPend.all (fun p => p.1 < 4 || p.1 == 11) = true then
    { s with chip := { s.chip with compat := s.chip.compatDue } }
  else s

/-- The overrun of the event crossing from domain `d` is recorded and raised (R248, R249). DESIGN CHOICE: XING_OVERRUN is raised
at every further merge, also while the overrun bit is set already. -/
def State.overrun (s : State) (d : Nat) : State :=
  (s.put RESET.XING_STAT.OVERRUN (setBit (s.get RESET.XING_STAT.OVERRUN) d)).deliver 1 EV.RESET.XING_OVERRUN.bit d false

/-- Raise an event: at once from MCLK, through the pulse crossing of its domain otherwise (R248, R249, R251). A torn crossing
carries none (R258). -/
def State.raise (s : State) (e : Event) (value : Nat) : State :=
  if e.dom = 0 then s.deliver e.page e.bit value false
  else if s.chip.torn.getLsbD e.dom then s
  else if s.chip.evtBusy.getLsbD e.dom then
    if s.compatCrossing e.dom || (Sparse.find s.chip.evtPend e.dom).isSome then s.overrun e.dom
    else { s with chip := { s.chip with evtPend := Sparse.set e.dom (some ⟨e.page, e.bit, value⟩) s.chip.evtPend } }
  else
    { s with chip := { s.chip with evtBusy := s.chip.evtBusy ||| BitVec.ofNat 12 (2 ^ e.dom) } }.deliver e.page e.bit value false

end Sys2Proof.Machine
end

