-- ==== Sys2Proof/WellFormed.lean ====
section
/-!
DEFINITION. Which commands are well formed: operands that no pin, frame or port of the end can carry are not commands of it.
-/

namespace Sys2Proof

/-- A die-port cycle offers 1 to 16 units (R32, DPI_UNITS). -/
def DieCycle.wf (c : DieCycle) : Bool := decide (1 ≤ c.units.length) && decide (c.units.length ≤ 16)

/-- A site index of R115 is 0 to 144. -/
def siteOk (i : Nat) : Bool := decide (i < 145)

/-- A trim names a group 0 to 4 (duty, phase) or a site 0 to 144 (R115). -/
def trimOk : TrimKind → Nat → Bool
  | .duty, i | .phase, i => decide (i < 5)
  | .deskew, i | .offset, i => decide (i < 145)

/-- The arrays of R413 are 1 to 12. -/
def arrayOk (a : Nat) : Bool := decide (1 ≤ a) && decide (a ≤ 12)

/-- The groups and sites that a calibration window reports exist. -/
def CalWindow.wf (r : CalWindow) : Bool :=
  r.duty.all (fun x => decide (x.1 < 5)) && r.phase.all (fun x => decide (x.1 < 5)) &&
  r.deskew.all (fun x => siteOk x.1) && r.offset.all (fun x => siteOk x.1) && r.drive.all (fun x => siteOk x.1) &&
  r.counts.all (fun x => siteOk x.site) &&
  r.eyes.all (fun e => siteOk e.site)

/-- What a test pattern observed names the 167 steps of the walk, or wires 0 to 165 (R494, R496). -/
def TestObs.wf : TestObs → Bool
  | .walking steps => decide (steps.length = 167) && steps.all (fun st => st.foldl (fun n r => n + r.1) 0 == 64)
  | .joined faults => faults.all (fun f => decide (f.1 < 167) && decide (96 ≤ f.2.1) && decide (f.2.1 < 160) && decide (f.2.2 < 166))
  | .prbs flips => flips.all (fun e => decide (e.1 < 166))

/-- A command is well formed. -/
def Instr.wf : Instr → Bool
  | .dpiHeaderOffer c | .dpiContinuation c | .dieResponseOffer c => c.wf
  | .txDriveWrite i _ => siteOk i
  | .trimWrite k i _ => trimOk k i
  | .calWindowEnd r => r.wf
  | .calCorrectionEnd cs => cs.all (fun c => siteOk c.site)
  | .calMeasureEnd es => es.all (fun e => siteOk e.site)
  | .attrWindowExpiry i _ g => if g then decide (i < 5) else siteOk i
  | .testPatternEnd _ o => o.wf
  | .scrubRow a _ _ | .eccWriteBack a _ _ | .mergeFlush a _ => arrayOk a
  | .evtStatClear _ _ (some (b, _)) => decide (b < 64)
  | _ => true

end Sys2Proof
end

