-- ==== Sys2Proof/Machine/Ops.lean ====
section
/-!
DEFINITION. Named operations that every family shares: time, role and capability, the refused-command registers (R443, R445),
whole-or-nothing register writes (R439, R440), table words, Basin lines and memory bytes, sideband frames sent, and reports of
lost contexts.
-/

namespace Sys2Proof.Machine

/-! ### Time -/

/-- The role the end behaves as: 0 unused, 1 M, 2 H, 3 S; invalid fuses make it unused (R65). -/
def State.role (s : State) : Nat := if s.on IDENT.FUSE_STAT.INVALID then 0 else s.get IDENT.FUSE_STAT.ROLE

/-- BCLK brings edges: die reset does not hold the counter, the role uses BCLK (R70), and BCLK runs (R59, R246). -/
def State.beatRuns (s : State) : Bool := !s.chip.dieRst && s.role != 0 && !s.chip.stopped.getLsbD 3

/-- The beat counter itself. `beat` is what the domains read through X09, which is the same unless X09 is torn (R258). -/
def State.count (s : State) : Beat := s.chip.counter.getD s.beat

/-- The beat counter stands at `b`. -/
def State.setCount (s : State) (b : Beat) : State :=
  match s.chip.counter with
  | none => { s with beat := b }
  | some _ => { s with chip := { s.chip with counter := some b } }

/-- A command that happens at beat `now` moves the beat counter there, if it runs and is not there yet. -/
def State.at (s : State) (now : Beat) : State := if s.beatRuns && decide (s.count < now) then s.setCount now else s

/-- At least `n` beats of the counter lie between `t` and now (R97). -/
def State.past (s : State) (t : Beat) (n : Nat) : Bool := decide (n ≤ (s.beat - t).toNat)

/-- The counter has reached `t`. -/
def State.reached (s : State) (t : Beat) : Bool := decide (t ≤ s.beat)

/-- The beat `n` beats ahead. -/
def State.ahead (s : State) (n : Nat) : Beat := s.beat + BitVec.ofNat 64 n

/-- Draw a free value: nothing is known of it. -/
def State.draw (s : State) : Nat × State := (Config.freeBits s.freeCtr, { s with freeCtr := s.freeCtr + 1 })

/-- The end drives something out. -/
def State.emit (s : State) (o : Out) : State := { s with out := o :: s.out }

/-! ### Identity -/

def State.isM (s : State) : Bool := s.role == 1
def State.isH (s : State) : Bool := s.role == 2
def State.isS (s : State) : Bool := s.role == 3

/-- This end wins simultaneous requests: the H-end, or the S-end on die 0 (R20). -/
def State.wins (s : State) : Bool := s.isH || (s.isS && s.get IDENT.FUSE_STAT.DIE == 0)

/-- GEN of the far record: 1 BXC-1, 2 BXC-2; 0 while none is held (R104). -/
def State.farGen (s : State) : Nat := if s.on IDENT.REC_STAT.FAR_HELD then bits (s.get (IDENT.FAR_REC.DATA 0)) 24 4 else 0

/-- A capability bit is agreed (R110). -/
def State.cap (s : State) (b : Nat) : Bool := s.on IDENT.CAP_AGREED.VALID && bit (s.get IDENT.CAP_AGREED.CAP) b

/-- An alive bit (R252). -/
def State.clkOn (s : State) (c : Nat) : Bool := s.chip.clk.getLsbD c

/-- The bit of a clock domain (R442). -/
def clockBit : Clock → Nat
  | .mclk => 0 | .dclk => 1 | .eclk => 2 | .bclk => 3 | .lclk => 4 | .phyTx => 5 | .phyRx0 => 6 | .phyRx1 => 7
  | .phyRx2 => 8 | .phyRx3 => 9 | .phyRx4 => 10 | .sbTx => 11

/-! ### Col state -/

/-- The Col is in one of some states. -/
def State.colIn (s : State) (l : List ColState) : Bool := l.contains s.chip.col

/-- States that carry traffic or pause it: from the end of CREDIT_INIT to DRAIN. -/
def inService : List ColState := [.active, .retrain, .quietRepair, .widthChange, .lowland, .drain]

/-- DPI_STEER (R36, R70, R255). -/
def State.steer (s : State) : Bool :=
  s.chip.dieRst || s.role == 0 || !s.clkOn 0 || !s.colIn [.active, .retrain, .quietRepair, .widthChange, .lowland] ||
  (match s.chip.plan with | some p => p.settled | none => false)

/-! ### Refused commands (R443 to R445) -/

/-- Reason codes common to every page (R445). -/
inductive Reason where
  | state | range | capability | busy | role | sum | address | level
  deriving DecidableEq, Repr

def Reason.code : Reason → Nat
  | .state => 1 | .range => 2 | .capability => 3 | .busy => 4 | .role => 5 | .sum => 6 | .address => 7 | .level => 8

/-- Log a refused write in a page (R443). -/
def State.refuseCode (s : State) (page off : Nat) (aper : Bool) (reason : Nat) (data : Word) : State :=
  ((((((s.put (PAGE.REFUSED.OFFSET page) off).put (PAGE.REFUSED.APER page) (b2n aper)).put
    (PAGE.REFUSED.STATE page) s.chip.col.code).put (PAGE.REFUSED.REASON page) reason).put
    (PAGE.REFUSED.DATA page) data.toNat).bump (PAGE.REFUSED.COUNT page))

/-- Log a refused write of a register with a common reason. -/
def State.refuse (s : State) (key : Nat) (r : Reason) (data : Word) : State :=
  s.refuseCode (key / 4096) (key % 4096) false r.code data

/-- The page serves the end's role (R453). -/
def State.present (s : State) (page : Nat) : Bool :=
  match page with
  | 0 | 1 | 14 => true
  | 2 | 3 | 4 | 5 | 6 | 7 | 8 | 9 | 13 | 15 => s.role != 0
  | 10 | 11 | 12 => s.isM
  | _ => false

/-- A role-marked field serves the end (R453). -/
def State.serves (s : State) : Serves → Bool
  | .all => true
  | .mEnd => s.isM
  | .hEnd => s.isH

/-- Why the fields of a write would be refused, the first field that is out of place deciding (R440, R453). -/
def State.fieldRefusal (s : State) (data : Word) : List RwField → Option Reason
  | [] => none
  | f :: fs =>
    let v := bits data.toNat f.lo f.width
    if s.serves f.serves then
      if v < f.min || f.max < v then some .range else s.fieldRefusal data fs
    else if v != 0 then some .role else s.fieldRefusal data fs

/-- The word that a write leaves in a register: RW fields that serve the role take the data, all else stays (R439). -/
def State.mergeRw (s : State) (old data : Word) : List RwField → Word
  | [] => old
  | f :: fs =>
    s.mergeRw (if s.serves f.serves then setBits old f.lo f.width (bits data.toNat f.lo f.width) else old) data fs

/-! ### Depths of crossings (R244, R246) -/

/-- The depth of the gray-FIFO crossing Xk, in its entries. -/
def crossDepth : Nat → Nat
  | 1 => 8
  | 2 => 16
  | 11 => 128
  | 12 => 2
  | _ => 64

/-- The clock on which the entries of Xk are read. -/
def crossDest : Nat → Nat
  | 1 => 5
  | 2 | 3 | 6 => 4
  | 4 | 7 => 1
  | 5 | 8 => 2
  | 12 => 11
  | _ => 0

/-- The source of Xk sees room: its destination runs, or the entries written since it stopped are fewer than the depth. -/
def State.crossRoom (s : State) (k : Nat) : Bool :=
  s.clkOn (crossDest k) || decide ((Sparse.find s.chip.fill k).getD 0 < crossDepth k)

/-- An entry is written into Xk: it waits there where the destination stands. -/
def State.crossIn (s : State) (k : Nat) : State :=
  if s.clkOn (crossDest k) then s
  else { s with chip := { s.chip with fill := Sparse.set k (some ((Sparse.find s.chip.fill k).getD 0 + 1)) s.chip.fill } }

/-- The destination `c` runs again: what waited in its crossings has been read, or is discarded where they are torn (R258). -/
def State.crossOut (s : State) (c : Nat) : State :=
  { s with chip := { s.chip with fill := s.chip.fill.filter (fun x => crossDest x.1 != c) } }

/-! ### Domains of registers (R252) -/

/-- The clock bits whose domains hold a page's registers, its common registers apart. -/
def pageDomains : Nat → Nat
  | 2 => 0x011
  | 4 | 5 | 6 => 0x010
  | 3 => 0x7D0
  | 7 => 0x012
  | 8 | 13 => 0x002
  | 9 => 0x018
  | 10 | 11 => 0x004
  | 12 => 0x006
  | _ => 0x001

/-- The clock bits an access to the register at a key needs: quick registers, event registers and PLL_STAT are in MCLK. The
CAL page's control registers are taken to be in LCLK and its trims and eyes in LCLK too, each group's copy being read there. -/
def keyDomains (key : Nat) : Nat :=
  if key % 4096 < 0x100 || key = PHY.PLL_STAT.LOCKED.key then 0x001
  else if key / 4096 = 3 then 0x010
  else pageDomains (key / 4096)

/-- The clock bits an access to an aperture word needs (R252). -/
def aperDomains (idx : Nat) : Nat :=
  if idx < 0x20000 then 0x002 else if idx < 0x32800 then 0x004 else if idx < 0x32A00 then 0x001 else 0x002

/-- The clock bits that an access to the register at a key needs on this end: a page that does not serve the role is in no domain of
its own, since it reads as zero and refuses its commands whatever clocks the role lacks (R453). -/
def State.needs (s : State) (key : Nat) : Nat := if s.present (key / 4096) then keyDomains key else 1

/-- The word is an overlay's, which every role has. -/
def tblOverlay (idx : Nat) : Bool := decide (0x32800 ≤ idx) && decide (idx < 0x32A00)

/-- The clock bits that an access to an aperture word needs on this end: a range that the role lacks reads as zero (R465). -/
def State.aperNeeds (s : State) (idx : Nat) : Nat :=
  if s.isM || tblOverlay idx then aperDomains idx else 1

/-- Every clock of a mask is alive, and MCLK, from which every access comes (R255). -/
def State.clocksOn (s : State) (mask : Nat) : Bool := s.chip.clk.toNat &&& (mask ||| 1) == mask ||| 1

/-- A crossing that an access to the domains of a mask passes is torn (R258). -/
def State.tornAt (s : State) (mask : Nat) : Bool := s.chip.torn.toNat &&& mask != 0

/-- A host-port access to a domain: it goes on, or holds MB_WAIT for good (R52). A torn crossing suppresses a write and discards
what a read brings back (R258). DESIGN CHOICE: an access presented while a Col reset holds MCLK has no effect. -/
def State.access (s : State) (mask : Nat) (go : State → State) : State :=
  if s.chip.dieRst || s.chip.mbHung then s
  else if s.clocksOn mask then (if s.tornAt mask then s else go s)
  else if s.chip.released = 0 then s
  else { s with chip := { s.chip with mbHung := true } }

/-- A command written to a register of a page: it needs the page's clocks and role, is refused and logged for the reason that
`check` gives, and otherwise acts (R439, R440, R453). -/
def State.command (s : State) (key : Nat) (data : Word) (check : State → Option Reason) (act : State → State) : State :=
  s.access (s.needs key) fun s =>
    if !s.present (key / 4096) then s.refuse key .role data
    else match check s with
      | some r => s.refuse key r data
      | none => act s

/-! ### Tables, Basin, memory -/

/-- What a table aperture word that nothing has written since reset reads as, by word index: undefined (R419), but the STATE of
a window is FREE (R343), and the mirror block and reserved ranges read zero (R465, R466). -/
def State.tblDefault (s : State) (idx : Nat) : Word :=
  if 0x32A00 ≤ idx || s.tblZeroed then 0
  else if 0x30800 ≤ idx ∧ idx < 0x32800 ∧ idx % 8 = 0 then Config.undefWord s.epoch idx &&& ~~~ 7
  else Config.undefWord s.epoch idx

/-- A table aperture word by word index (byte offset div 8). -/
def State.tblWord (s : State) (idx : Nat) : Word := (Sparse.find s.tbl idx).getD (s.tblDefault idx)

/-- The array and the code word that hold a table word (R413); array 0 is none. -/
def tblArray (idx : Nat) : Nat × Nat :=
  if idx < 0x20000 then (6, idx)
  else if idx < 0x30000 then (7, idx - 0x20000)
  else if idx < 0x30800 then (8, idx - 0x30000)
  else if idx < 0x32800 then (10, idx - 0x30800)
  else if idx < 0x32A00 then (12, idx - 0x32800)
  else (0, 0)

/-- A write of a code word reaches the array, or its merge entry: a write-back that is due for the word is suppressed (R415), and the entry,
whose data a whole word replaces, has been written last (R420). -/
def State.wordWritten (s : State) (w : Nat × Nat) : State :=
  match Sparse.find s.arrays w.1 with
  | some a =>
    let sup := a.pending.contains w.2 && !a.suppressed.contains w.2
    if sup || a.merge.contains w.2 || a.bad.contains w.2 then
      { s with arrays := Sparse.set w.1 (some
          { a with suppressed := if sup then w.2 :: a.suppressed else a.suppressed
                   bad := a.bad.filter (· != w.2)
                   idle := if a.merge.contains w.2 then a.idle.filter (· != w.2) ++ [w.2] else a.idle }) s.arrays }
    else s
  | none => s

/-- Code words are written from an index on. -/
def State.wordsWritten (s : State) (a first n : Nat) : State :=
  if (Sparse.find s.arrays a).isNone then s else ((List.range n).map (first + ·)).foldl (fun t i => t.wordWritten (a, i)) s

/-- A write narrower than its code word goes into the merge buffer: into the word's entry, or into a new one, for which the oldest of
eight makes room (R420). A write-back that is due for the word is suppressed (R421). -/
def State.wordMerged (s : State) (w : Nat × Nat) : State :=
  let a := (Sparse.find s.arrays w.1).getD {}
  let kept := if a.merge.contains w.2 || a.merge.length < 8 then a.merge else a.merge.drop 1
  let m := if a.merge.contains w.2 then kept else kept ++ [w.2]
  let i := (a.idle.filter (fun x => x != w.2 && kept.contains x)) ++ [w.2]
  { s with arrays := Sparse.set w.1 (some { a with merge := m, idle := i }) s.arrays }.wordWritten w

/-- A table word is written. -/
def State.setTbl (s : State) (idx : Nat) (w : Word) : State := { s with tbl := Sparse.set idx (some w) s.tbl }.wordWritten (tblArray idx)

/-- A part of a table word is written. -/
def State.setTblPart (s : State) (idx : Nat) (w : Word) : State := { s with tbl := Sparse.set idx (some w) s.tbl }.wordMerged (tblArray idx)

/-- What an unlisted Basin line reads as. -/
def State.lineDefault (s : State) (n : Nat) : Line := if s.basinZeroed then 0 else Config.undefLine s.epoch n

/-- A Basin line (R331). -/
def State.line (s : State) (n : Nat) : Line := (Sparse.find s.basin n).getD (s.lineDefault n)

/-- A Basin line takes a value. -/
def State.lineIs (s : State) (n : Nat) (l : Line) : State :=
  { s with basin := Sparse.set n (if s.basinZeroed && l == 0 then none else some l) s.basin }

/-- A Basin line is written whole: its four code words of 128 bits. -/
def State.setLine (s : State) (n : Nat) (l : Line) : State := (s.lineIs n l).wordsWritten 11 (4 * n) 4

/-- The bits [lo + n - 1 : lo] of a Basin line are written: the code words of 128 bits that hold them are merged (R420). -/
def State.setLinePart (s : State) (n : Nat) (l : Line) (lo w : Nat) : State :=
  ((List.range ((lo + w + 127) / 128 - lo / 128)).map (fun i => 4 * n + lo / 128 + i)).foldl (fun t i => t.wordMerged (11, i)) (s.lineIs n l)

/-- What a byte of memory that nothing has written reads as. DESIGN CHOICE: zero. -/
def memDefault : Byte := 0

/-- Memory is in canonical form. -/
def Memory.wf (m : List Host.Cell) : Bool := Sparse.wf (fun _ => some memDefault) m

/-- One byte of die-local memory. -/
def State.memByte (s : State) (a : Nat) : Byte := (Sparse.find s.mem a).getD memDefault

/-- One byte of memory is written. -/
def State.setMem (s : State) (a : Nat) (b : Byte) : State :=
  { s with mem := Sparse.set a (if b = memDefault then none else some b) s.mem }

/-- Bytes are written from an address on. -/
def State.setMemBytes (s : State) (a : Nat) : List Byte → State
  | [] => s
  | b :: bs => (s.setMem a b).setMemBytes (a + 1) bs

/-- The little-endian number that `n` bytes from an address hold (R8). -/
def State.memNat (s : State) (a : Nat) : Nat → Nat
  | 0 => 0
  | n + 1 => (s.memByte a).toNat + 256 * s.memNat (a + 1) n

/-- The `n` bytes of a number, lowest first (R8). -/
def natBytes (v : Nat) : Nat → List Byte
  | 0 => []
  | n + 1 => BitVec.ofNat 8 v :: natBytes (v / 256) n

/-- The number that bytes spell, lowest first. -/
def bytesNat : List Byte → Nat
  | [] => 0
  | b :: bs => b.toNat + 256 * bytesNat bs

/-! ### Context records (R308) -/

/-- The aperture word index of word `w` of a context record. -/
def ctxIdx (ctx w : Nat) : Nat := 0x20000 + 4 * (ctx % 16384) + w

/-- LOST is set in the record of a context, on an M-end (R29, R309). -/
def State.markLost (s : State) (ctx : Nat) : State :=
  if s.isM then s.setTblPart (ctxIdx ctx 1) (s.tblWord (ctxIdx ctx 1) ||| BitVec.ofNat 64 (2 ^ 59)) else s

/-- Append a lost-context report, drop it if the queue of 64 is full, and raise CTX_LOST (R456). -/
def State.reportLost (s : State) (ctx cause : Nat) : State :=
  let s0 := s.markLost ctx
  let s1 : State :=
    if s0.lostQ.length < 64 then { s0 with lostQ := s0.lostQ ++ [⟨ctx, cause, s0.beat.toNat % 2 ^ 32⟩] }
    else { s0 with lostOvf := true }
  s1.raise EV.TXN.CTX_LOST (ctx + cause * 2 ^ 16)

/-! ### Sending on the sideband -/

/-- The Col has only channel 0: a BXC-1 far end, from CAL entry (R92, R102). -/
def State.oneChannel (s : State) : Bool :=
  s.farGen == 1 && !s.colIn [.off, .resetHeld, .sbUp, .ident]

/-- The sideband runs: from SB_UP on (R86); its frames are formed and read in MCLK (R244, R255). -/
def State.sbRuns (s : State) : Bool := !s.chip.dieRst && !s.colIn [.off, .resetHeld] && s.clkOn 0

/-- The sideband sends: SB TX runs, and X12 is not torn (R255, R258). -/
def State.sbSends (s : State) : Bool := s.sbRuns && s.clkOn 11 && !s.chip.torn.getLsbD 11

/-- A frame takes its FSEQ (R87). -/
def State.nextFrame (s : State) : State := { s with sb := { s.sb with fseq := (s.sb.fseq + 1) % 16, lastTx := s.beat } }

/-- Send one frame (R87, R90). With SB TX stopped it enters X12 and stays there, or waits where X12 is full (R244, R246). -/
def State.sbSend (s : State) (t : SbType) (payload : Nat) : State :=
  if s.sbSends then
    { s.nextFrame with out := .sb (sbFrame t.code s.sb.fseq payload) (if s.oneChannel then 1 else 7) :: s.out }
  else if s.sbRuns && !s.clkOn 11 && !s.chip.torn.getLsbD 11 && s.crossRoom 12 then s.nextFrame.crossIn 12
  else s

/-- The TRAIN payload of the present state, step and status (R100). -/
def State.trainPayload (s : State) : Nat :=
  s.chip.col.code % 16 * 2 ^ 36 + s.chip.step % 16 * 2 ^ 32 + s.sb.status % 16 * 2 ^ 28 + s.sb.arg % 2 ^ 28

/-- Send a TRAIN frame now (R101). -/
def State.train (s : State) : State :=
  (s.sbSend .train s.trainPayload).put IDENT.IDENT_STAT.OWN_STATUS s.sb.status |>
    fun t => { t with sb := { t.sb with lastTrain := t.beat } }

/-- The STATUS sent changes, and a TRAIN frame goes at once (R101). -/
def State.setStatus (s : State) (status arg : Nat) : State :=
  { s with sb := { s.sb with status := status, arg := arg } }.train

/-- The STEP changes, with STATUS WORKING, and a TRAIN frame goes at once (R101). -/
def State.setStep (s : State) (step : Nat) : State :=
  { s with
    chip := { s.chip with step := step, stepEntry := s.beat }
    sb := { s.sb with status := 0, arg := 0, acted := [] } }.train

/-- The Col enters a state in a step with STATUS WORKING, and a TRAIN frame goes at once (R96, R100, R101). -/
def State.setColStep (s : State) (c : ColState) (step : Nat) : State :=
  { s with
    chip := { s.chip with col := c, entry := s.beat, step := step, stepEntry := s.beat }
    sb := { s.sb with status := 0, arg := 0, acted := [] } }.train

/-- The Col enters a state with STEP 0. -/
def State.setCol (s : State) (c : ColState) : State := s.setColStep c 0

/-! ### Answers -/

/-- A host-port read completes with data (R51). -/
def State.mbRead (s : State) (d : Word) : State := s.emit (.mb d false)

/-- A host-port access completes with MB_ERR, its data undefined (R53, R57, R447). -/
def State.mbError (s : State) : State :=
  let (v, s1) := s.draw
  s1.emit (.mb (BitVec.ofNat 64 v) true)

/-- A host-port read of a domain: as any access, but what a torn crossing brings back is undefined (R258). -/
def State.accessRead (s : State) (mask : Nat) (go : State → State) : State :=
  if !s.chip.dieRst && !s.chip.mbHung && s.clocksOn mask && s.tornAt mask then
    let (v, s1) := s.draw
    s1.mbRead (BitVec.ofNat 64 v)
  else s.access mask go

end Sys2Proof.Machine
end

