-- ==== Sys2Proof/Machine/Bind.lean ====
section
/-!
DEFINITION. Format codes (R268, R269, R275, R284), binding entries and context records (R299, R300, R308), and where a request
that reaches an M-end goes (R304 to R306, R238, R270).
-/

namespace Sys2Proof.Machine

/-! ### Format codes -/

/-- A code of a scalar format. -/
def fmtScalar (f : Nat) : Bool := decide (1 ≤ f) && decide (f ≤ 5)

/-- A code of an MX format. -/
def fmtMx (f : Nat) : Bool := decide (0x10 ≤ f) && decide (f ≤ 0x15)

/-- A code of a Fuson format. -/
def fmtFuson (f : Nat) : Bool := decide (0x20 ≤ f) && decide (f ≤ 0x28)

/-- A code of a block-scaled format. -/
def fmtBlock (f : Nat) : Bool := fmtMx f || fmtFuson f

/-- Bytes of an element of a scalar format; 1 for every other code. -/
def fmtBytes (f : Nat) : Nat :=
  match f with
  | 1 => 4 | 2 => 2 | 3 => 2 | _ => 1

/-- Elements of a block. -/
def blockSize (f : Nat) : Nat := if f = 0x20 then 16 else 32

/-- Element bytes of a block (R275). -/
def elemBytes (f : Nat) : Nat :=
  match f with
  | 0x10 | 0x11 | 0x15 => 32
  | 0x12 | 0x13 => 24
  | 0x14 | 0x21 | 0x24 => 16
  | 0x20 | 0x23 | 0x26 => 8
  | 0x22 | 0x25 => 12
  | 0x27 => 7
  | 0x28 => 4
  | _ => 0

/-- A format has a zero offset beside its scale. -/
def fmtZero (f : Nat) : Bool := f == 0x24 || f == 0x25 || f == 0x26

/-- Scale bytes of a block (R275). -/
def scaleBytes (f : Nat) : Nat := if fmtZero f then 2 else 1

/-- Blocks, element-area bytes and size of one extent of 2^22 elements (R283, R284). -/
def extentBlocks (f : Nat) : Nat := 2 ^ 22 / blockSize f
def extentElems (f : Nat) : Nat := extentBlocks f * elemBytes f
def extentSize (f : Nat) : Nat := extentBlocks f * (elemBytes f + scaleBytes f)

/-- A format's capability bit is agreed, where it needs one (R268, R110). -/
def State.fmtAgreed (s : State) (f : Nat) : Bool :=
  if fmtMx f then s.cap 17 else if fmtFuson f then s.cap 18 else true

/-! ### Binding entries (R299) -/

/-- Kinds of page. -/
inductive PageKind where
  | absent | storage | view | migrating | draining
  deriving DecidableEq, Repr

/-- A binding entry. -/
structure Binding where
  word : Nat
  deriving DecidableEq, Repr

def Binding.kind (b : Binding) : Option PageKind :=
  match bits b.word 0 3 with
  | 0 => some .absent | 1 => some .storage | 2 => some .view | 3 => some .migrating | 4 => some .draining | _ => none
def Binding.partialOk (b : Binding) : Bool := bit b.word 3
def Binding.rcpEn (b : Binding) : Bool := bit b.word 4
def Binding.recipe (b : Binding) : Nat := bits b.word 5 6
def Binding.sfmt (b : Binding) : Nat := bits b.word 11 6
def Binding.vfmt (b : Binding) : Nat := bits b.word 17 6
def Binding.xoff (b : Binding) : Nat := bits b.word 23 1
def Binding.extent (b : Binding) : Nat := bits b.word 24 23 * 2 ^ 17
def Binding.mfrom (b : Binding) : Bool := bit b.word 47
def Binding.tenant (b : Binding) : Nat := bits b.word 48 16

/-- The page is read as a view: VIEW, or MIGRATING from VIEW. -/
def Binding.isView (b : Binding) : Bool := b.kind == some .view || (b.kind == some .migrating && b.mfrom)

/-- Extents of a view's run: one half rounded up for FP32, one for two-byte and two for one-byte elements (R302). -/
def Binding.extents (b : Binding) : Nat := if fmtBytes b.vfmt = 1 then 2 else 1

/-- Why an entry is bad, by the codes of BIND_CAPTURE.CAUSE (R300). -/
def State.badBind (s : State) (b : Binding) : Option Nat :=
  match b.kind with
  | none => some 1
  | some _ =>
    if !b.isView then none
    else if !fmtBlock b.sfmt || !fmtScalar b.vfmt then some 2
    else if b.xoff = 1 ∧ b.vfmt ≠ 1 then some 3
    else if 2 ^ 40 < b.extent + b.extents * extentSize b.sfmt then some 4
    else if !s.fmtAgreed b.sfmt then some 5
    else none

/-- Each value of a list once. -/
def dedup (l : List Nat) : List Nat := l.foldl (fun a x => if a.contains x then a else a ++ [x]) []

/-- The 64-byte granules that `n` bytes from an address lie in. -/
def granules (a n : Nat) : List Nat := (List.range ((a + n + 63) / 64 - a / 64)).map (fun i => a / 64 + i)

/-- Bytes of a request's LEN. -/
def Hdr.bytes (h : Hdr) : Nat := (lenBytes h.len).getD 0

/-- The binding entry of a page (R465). -/
def State.bindingOf (s : State) (page : Nat) : Word := s.tblWord (page % 131072)

/-- The entry of a page as it stands; none where it holds an uncorrectable word (R422). -/
def State.entryOf (s : State) (page : Nat) : Option Word := if s.txn.badBinds.contains page then none else some (s.bindingOf page)

/-- The fields of an entry; one with an uncorrectable word has none. -/
def Binding.of (e : Option Word) : Binding := ⟨(e.getD 0).toNat⟩

/-- A bad entry is counted, captured and raised (R300, R422). -/
def State.bindBad (s : State) (page cause : Nat) : State :=
  ((((s.bump DEFILE.BIND_STAT.BAD).put DEFILE.BIND_CAPTURE.INDEX page).put DEFILE.BIND_CAPTURE.CAUSE cause).put
    DEFILE.BIND_CAPTURE.VALID 1).raise EV.DEFILE.BIND_BAD (page + cause * 2 ^ 32)

/-! ### Context records (R308) -/

/-- A context record. -/
structure Ctx where
  w0 : Nat
  w1 : Nat
  w2 : Nat
  w3 : Nat
  deriving DecidableEq, Repr

def State.ctxOf (s : State) (c : Nat) : Ctx :=
  ⟨(s.tblWord (ctxIdx c 0)).toNat, (s.tblWord (ctxIdx c 1)).toNat, (s.tblWord (ctxIdx c 2)).toNat, (s.tblWord (ctxIdx c 3)).toNat⟩

def Ctx.srKey (c : Ctx) : Nat := c.w0
def Ctx.srEpoch (c : Ctx) : Nat := bits c.w1 0 32
def Ctx.tenant (c : Ctx) : Nat := bits c.w1 32 16
def Ctx.texp (c : Ctx) : Int := toInt 7 (bits c.w1 48 7)
def Ctx.valid (c : Ctx) : Bool := bit c.w1 55
def Ctx.nfClamp (c : Ctx) : Bool := bit c.w1 56
def Ctx.nfReadPoison (c : Ctx) : Bool := bit c.w1 57
def Ctx.errEscape (c : Ctx) : Bool := bit c.w1 58
def Ctx.lost (c : Ctx) : Bool := bit c.w1 59
def Ctx.errThresh (c : Ctx) : Nat := bits c.w1 60 4
def Ctx.xwin (c : Ctx) : Nat := bits c.w2 0 8
def Ctx.budget (c : Ctx) : Nat := bits c.w2 16 16
def Ctx.satCount (c : Ctx) : Nat := bits c.w2 32 32
def Ctx.escCount (c : Ctx) : Nat := bits c.w3 0 32
def Ctx.nfCount (c : Ctx) : Nat := bits c.w3 32 32

/-- The context may not access a page of a tenant (R306). -/
def State.ctxDenied (s : State) (ctx tenant : Nat) (engine : Bool) : Bool :=
  (engine || tenant != 0) && (!(s.ctxOf ctx).valid || (tenant != 0 && (s.ctxOf ctx).tenant != tenant))

/-! ### Where a request goes -/

/-- What a posted write leaves when it is turned away (R238, R304, R305, R320). -/
inductive PostedFx where
  | none | dropped | migrating | partialRefused
  deriving DecidableEq, Repr

/-- Where a confirmed request goes. -/
inductive Route where
  /-- presented on the die port -/
  | direct
  /-- handled by the engine at commit -/
  | engine
  /-- answered at once -/
  | answer (st : Status) (fx : PostedFx)
  /-- DENIED for a bad entry of the page -/
  | bad (page cause : Nat)
  deriving DecidableEq, Repr

/-- A request whose VFMT no opcode accepts (R270, R305). -/
def vfmtBad (f : Nat) : Bool := f != 0 && !fmtScalar f

/-- The order of R172. -/
def precedence : List Status := [.squashed, .drained, .denied, .fmtRefused, .retry, .early, .late, .poison]

/-- The first status of R172 among those that apply. -/
def firstStatus (l : List Status) : Status := (precedence.find? (fun st => l.contains st)).getD .ok

/-- The status holds when the condition does. -/
def stIf (b : Bool) (st : Status) : List Status := if b then [st] else []

/-- What the entry of a page gives an engine request: its fields, the statuses that apply, and the cause of a bad entry. -/
structure PageCheck where
  bind : Binding
  sts : List Status
  bad : Option Nat
  deriving DecidableEq, Repr

/-- The checks of R304, R306, R238 and R300 that look at a page and its entry alone. -/
def State.pageCheck (s : State) (ctx page : Nat) (entry : Option Word) : PageCheck :=
  let b := Binding.of entry
  let denied (cause : Option Nat) : PageCheck := ⟨b, [.denied], cause⟩
  if 131072 ≤ page then denied none
  else if entry.isNone then denied (some 6)
  else match s.badBind b with
    | some c => denied (some c)
    | none =>
      ⟨b, if b.kind = some .draining then [.drained] else if b.kind = some .absent then [.denied]
          else stIf (s.ctxDenied ctx b.tenant true) .denied ++ stIf (b.kind == some .migrating) .retry, none⟩

/-- The engine handles a request: transforms, atomic operations, contributions, and what is for a VIEW page, or reads a MIGRATING one
that was a VIEW (R296, R304). -/
def engineHandles (o : Op) (b : Binding) : Bool :=
  o.tc == 2 || o == .contrib || b.kind == some .view || (o == .rd && b.isView)

/-- The route of a request at an M-end under a binding entry (R296, R304 to R306, R238). What the engine handles is judged at its
commit (R228); the rest is judged here. -/
def State.routeM (s : State) (h : Hdr) (o : Op) (entry : Option Word) : Route :=
  let page := h.byteAddr / 2 ^ 23
  let b := Binding.of entry
  if o.tc = 2 ∨ o = .contrib then .engine
  else if 2 ^ 40 ≤ h.byteAddr then .answer .denied .dropped
  else if entry.isNone then .bad page 6
  else if engineHandles o b then .engine
  else match s.badBind b with
    | some c => .bad page c
    | none =>
      if b.kind = some .draining then .answer .drained .dropped
      else if b.kind = some .absent then .answer .denied .dropped
      else if s.ctxDenied h.ctx b.tenant false then .answer .denied .none
      else if b.kind = some .migrating ∧ o ≠ .rd then .answer (if vfmtBad h.vfmt then .fmtRefused else .retry) .migrating
      else if h.vfmt ≠ 0 then .answer .fmtRefused .none
      else .direct

/-- The route of a request that reaches this end across the Col: only an M-end has an engine and a binding table (R296, R38). -/
def State.routeOf (s : State) (h : Hdr) (o : Op) (entry : Option Word) : Route := if s.isM then s.routeM h o entry else .direct

end Sys2Proof.Machine
end

