-- ==== Sys2Proof/Machine/Num.lean ====
section
/-!
DEFINITION. Numbers (10_narrow_formats_and_rounding.md): scalar formats and exact binary32 arithmetic (R272 to R274, R313),
rounding on a grid (R290, R291), random bits (R292), and the decoding and encoding of blocks (R275 to R289, R294, R295).
-/

namespace Sys2Proof.Machine

/-! ### Exact values -/

/-- A value of a floating-point format: a finite one is (−1)^neg × m × 2^e. -/
inductive FVal where
  | nan
  | inf (neg : Bool)
  | fin (neg : Bool) (m : Nat) (e : Int)
  deriving DecidableEq, Repr

/-- An exact fraction n / d with d positive. -/
structure Frac where
  n : Int
  d : Nat
  deriving DecidableEq, Repr

/-- m × 2^e as a fraction. -/
def Frac.dyadic (n : Int) (e : Int) : Frac := if 0 ≤ e then ⟨n * 2 ^ e.toNat, 1⟩ else ⟨n, 2 ^ (-e).toNat⟩

def Frac.add (a b : Frac) : Frac := ⟨a.n * b.d + b.n * a.d, a.d * b.d⟩
def Frac.sub (a b : Frac) : Frac := ⟨a.n * b.d - b.n * a.d, a.d * b.d⟩
def Frac.mul (a b : Frac) : Frac := ⟨a.n * b.n, a.d * b.d⟩
def Frac.neg (a : Frac) : Frac := ⟨-a.n, a.d⟩
def Frac.abs (a : Frac) : Frac := ⟨a.n.natAbs, a.d⟩
/-- a / b for a positive b. -/
def Frac.div (a b : Frac) : Frac := ⟨a.n * b.d, a.d * b.n.natAbs⟩
def Frac.le (a b : Frac) : Bool := decide (a.n * b.d ≤ b.n * a.d)
def Frac.lt (a b : Frac) : Bool := decide (a.n * b.d < b.n * a.d)
def Frac.max (a b : Frac) : Frac := if a.le b then b else a
def Frac.min (a b : Frac) : Frac := if a.le b then a else b
def Frac.zero : Frac := ⟨0, 1⟩
def Frac.isZero (a : Frac) : Bool := a.n == 0

/-- A finite value as a fraction; zero for every other. -/
def FVal.frac : FVal → Frac
  | .fin s m e => Frac.dyadic (if s then -(m : Int) else m) e
  | _ => Frac.zero

def FVal.isNan : FVal → Bool
  | .nan => true
  | _ => false

def FVal.isInf : FVal → Bool
  | .inf _ => true
  | _ => false

def FVal.neg : FVal → Bool
  | .nan => false
  | .inf s | .fin s _ _ => s

/-- floor(log2(a / b)) for positive a and b. -/
def fracLog2 (a b : Nat) : Int :=
  let l : Int := (Nat.log2 a : Int) - Nat.log2 b
  let ge := if 0 ≤ l then decide (b * 2 ^ l.toNat ≤ a) else decide (b ≤ a * 2 ^ (-l).toNat)
  if ge then l else l - 1

/-! ### Rounding (R290, R291) -/

/-- Rounding modes, by code (R310). -/
inductive Rnd where
  | rne | sr | rz
  deriving DecidableEq, Repr

/-- The mode of a code; the reserved code 3 is refused before it is used. -/
def rndOf : Nat → Rnd
  | 1 => .sr | 2 => .rz | _ => .rne

/-- a / b rounded to an integer: the lower neighbour or the next, by mode and 24 random bits. -/
def roundInt (mode : Rnd) (r a b : Nat) : Nat :=
  let k := a / b
  let f := a % b
  if f = 0 then k
  else match mode with
    | .rz => k
    | .rne => if 2 * f < b then k else if b < 2 * f then k + 1 else if k % 2 = 0 then k else k + 1
    | .sr => if r < f * 2 ^ 24 / b then k + 1 else k

/-- A floating-point format: mantissa bits, bias, largest finite code, infinity code, NaN code and width (R272, R273, R277). -/
structure FpFmt where
  mbits : Nat
  bias : Nat
  maxCode : Nat
  infCode : Option Nat
  nanCode : Nat
  width : Nat
  deriving DecidableEq, Repr

def fmtFP32 : FpFmt := ⟨23, 127, 0x7F7FFFFF, some 0x7F800000, 0x7FC00000, 32⟩
def fmtFP16 : FpFmt := ⟨10, 15, 0x7BFF, some 0x7C00, 0x7E00, 16⟩
def fmtBF16 : FpFmt := ⟨7, 127, 0x7F7F, some 0x7F80, 0x7FC0, 16⟩
def fmtE4M3 : FpFmt := ⟨3, 7, 0x7E, none, 0x7F, 8⟩
def fmtE5M2 : FpFmt := ⟨2, 15, 0x7B, some 0x7C, 0x7F, 8⟩
def fmtE3M2 : FpFmt := ⟨2, 3, 0x1F, none, 0, 6⟩
def fmtE2M3 : FpFmt := ⟨3, 1, 0x1F, none, 0, 6⟩
def fmtE2M1 : FpFmt := ⟨1, 1, 0x7, none, 0, 4⟩

/-- The scalar format of a code of R268. -/
def scalarFmt : Nat → FpFmt
  | 2 => fmtFP16 | 3 => fmtBF16 | 4 => fmtE4M3 | 5 => fmtE5M2 | _ => fmtFP32

/-- The value of a code (R277). -/
def FpFmt.decode (f : FpFmt) (code : Nat) : FVal :=
  let s := bit code (f.width - 1)
  let mag := code % 2 ^ (f.width - 1)
  if f.maxCode < mag then (if f.infCode = some mag then .inf s else .nan)
  else
    let x := mag / 2 ^ f.mbits
    let m := mag % 2 ^ f.mbits
    if x = 0 then .fin s m (1 - (f.bias : Int) - f.mbits) else .fin s (2 ^ f.mbits + m) ((x : Int) - f.bias - f.mbits)

/-- The magnitude code that a positive fraction a / b rounds to, with no upper bound. -/
def FpFmt.roundMag (f : FpFmt) (mode : Rnd) (r a b : Nat) : Nat :=
  if a = 0 then 0
  else
    let lowest : Int := 1 - (f.bias : Int)
    let top := fracLog2 a b
    let q := (if lowest ≤ top then top else lowest) - f.mbits
    let k := if 0 ≤ q then roundInt mode r a (b * 2 ^ q.toNat) else roundInt mode r (a * 2 ^ (-q).toNat) b
    ((q - (lowest - f.mbits)).toNat) * 2 ^ f.mbits + k

/-- The sign bit of a format. -/
def FpFmt.signBit (f : FpFmt) (s : Bool) : Nat := if s then 2 ^ (f.width - 1) else 0

/-- The largest finite value as a fraction. -/
def FpFmt.largest (f : FpFmt) : Frac := (f.decode f.maxCode).frac

/-- Conversion into a scalar format: the code, and whether a finite value was clamped (R274). -/
def FpFmt.convert (f : FpFmt) (mode : Rnd) (r : Nat) (v : FVal) : Nat × Bool :=
  match v with
  | .nan => (f.nanCode, false)
  | .inf s =>
    match f.infCode with
    | some i => (f.signBit s + i, false)
    | none => (f.nanCode, false)
  | .fin s m e =>
    let q := (Frac.dyadic m e)
    let beyond := f.largest.lt q
    let c := f.roundMag mode r q.n.natAbs q.d
    let sat := (f.signBit s + f.maxCode, beyond)
    if beyond then
      if f.width = 8 ∨ mode ≠ .rne ∨ c ≤ f.maxCode then sat
      else match f.infCode with
        | some i => (f.signBit s + i, false)
        | none => sat
    else (f.signBit s + c, false)

/-- Widen a scalar code to binary32 exactly (R272). -/
def widen (fmt code : Nat) : Nat := (fmtFP32.convert .rne 0 ((scalarFmt fmt).decode code)).1

/-- The value of a binary32 code. -/
def f32 (c : Nat) : FVal := fmtFP32.decode c

/-- The binary32 code of an exact value under RNE. -/
def toF32 (v : FVal) : Nat := (fmtFP32.convert .rne 0 v).1

/-! ### binary32 arithmetic, each operation rounded once to nearest even (R272, R313) -/

/-- The value n / d, whose zero has the sign given. -/
def roundF32 (q : Frac) (zeroNeg : Bool) : Nat :=
  if q.n = 0 then fmtFP32.signBit zeroNeg
  else
    let s := decide (q.n < 0)
    let c := fmtFP32.roundMag .rne 0 q.n.natAbs q.d
    fmtFP32.signBit s + (if fmtFP32.maxCode < c then 0x7F800000 else c)

/-- A × B + C on values. -/
def fmaV (a b c : FVal) : Nat :=
  match a, b, c with
  | .nan, _, _ | _, .nan, _ | _, _, .nan => fmtFP32.nanCode
  | .inf s, .inf t, .inf u => if (s != t) = u then toF32 (.inf u) else fmtFP32.nanCode
  | .inf s, .inf t, .fin _ _ _ => toF32 (.inf (s != t))
  | .inf s, .fin t m _, c | .fin t m _, .inf s, c =>
    if m = 0 then fmtFP32.nanCode
    else match c with
      | .inf u => if (s != t) = u then toF32 (.inf u) else fmtFP32.nanCode
      | _ => toF32 (.inf (s != t))
  | .fin _ _ _, .fin _ _ _, .inf u => toF32 (.inf u)
  | .fin s m e, .fin t n f, .fin u k g =>
    let p := s != t
    let sum := (Frac.dyadic (if p then -((m * n : Nat) : Int) else (m * n : Nat)) (e + f)).add (FVal.fin u k g).frac
    roundF32 sum (p && u)

def fmaF (a b c : Nat) : Nat := fmaV (f32 a) (f32 b) (f32 c)

/-- A + B. -/
def addF (a b : Nat) : Nat := fmaV (f32 a) (.fin false 1 0) (f32 b)

/-- A − B. -/
def subF (a b : Nat) : Nat := addF a (b ^^^ 0x80000000)

/-- A × B: the sign of a zero product is that of its factors. -/
def mulF (a b : Nat) : Nat :=
  let s := (f32 a).neg != (f32 b).neg
  fmaV (f32 a) (f32 b) (.fin s 0 0)

/-- A × 2^K. -/
def scaleF (a : Nat) (k : Int) : Nat :=
  match f32 a with
  | .fin s m e => roundF32 (FVal.fin s m (e + k)).frac s
  | v => toF32 v

def isNanF (a : Nat) : Bool := (f32 a).isNan
def isFinF (a : Nat) : Bool := !(f32 a).isNan && !(f32 a).isInf
def absF (a : Nat) : Nat := if isNanF a then fmtFP32.nanCode else a % 2 ^ 31

/-- An ordering key of binary32 codes that are no NaN: −0 lies below +0. -/
def keyF (a : Nat) : Int := if bit a 31 then -((a % 2 ^ 31 : Nat) : Int) - 1 else (a % 2 ^ 31 : Nat)

def maxF (a b : Nat) : Nat := if isNanF a || isNanF b then fmtFP32.nanCode else if keyF a < keyF b then b else a
def minF (a b : Nat) : Nat := if isNanF a || isNanF b then fmtFP32.nanCode else if keyF b < keyF a then b else a

/-- The integer square root of `n`, built from bit `i - 1` down. -/
def isqrt (n : Nat) : Nat → Nat → Nat
  | 0, r => r
  | i + 1, r => isqrt n i (if (r + 2 ^ i) * (r + 2 ^ i) ≤ n then r + 2 ^ i else r)

/-- 1/√A, correctly rounded (R313). -/
def rsqrtF (a : Nat) : Nat :=
  match f32 a with
  | .nan => fmtFP32.nanCode
  | .inf s => if s then fmtFP32.nanCode else 0
  | .fin s m e =>
    if m = 0 then toF32 (.inf s)
    else if s then fmtFP32.nanCode
    else
      let m1 := if e % 2 = 0 then m else 2 * m
      let e1 := if e % 2 = 0 then e else e - 1
      let n := 2 ^ 128 / m1
      let y := isqrt n 66 0
      let sticky := if y * y * m1 = 2 ^ 128 then 0 else 1
      roundF32 (Frac.dyadic ((2 * y + sticky : Nat) : Int) (-65 - e1 / 2)) false

/-! ### Random bits (R292) -/

/-- srand(K, E, A, S). -/
def srand (k e a st : Nat) : Nat :=
  let m := 2 ^ 64
  let v0 := (k ^^^ (e * 0xD1B54A32D192ED03 % m)) % m
  let v1 := (v0 + a * 0x9E3779B97F4A7C15 + st) % m
  let v2 := (v1 ^^^ (v1 >>> 30)) * 0xBF58476D1CE4E5B9 % m
  let v3 := (v2 ^^^ (v2 >>> 27)) * 0x94D049BB133111EB % m
  let v4 := v3 ^^^ (v3 >>> 31)
  bits v4 40 24

/-! ### Block formats (R275 to R284) -/

/-- The floating-point element format of a block format, if it has one. -/
def elemFp : Nat → Option FpFmt
  | 0x10 => some fmtE4M3 | 0x11 => some fmtE5M2 | 0x12 => some fmtE3M2 | 0x13 => some fmtE2M3
  | 0x14 | 0x20 => some fmtE2M1
  | _ => none

/-- Bits of an element; T2 is packed by fives instead. -/
def elemBits : Nat → Nat
  | 0x10 | 0x11 | 0x15 => 8
  | 0x12 | 0x13 => 6
  | 0x14 | 0x20 | 0x21 | 0x24 => 4
  | 0x22 | 0x25 => 3
  | 0x23 | 0x26 => 2
  | _ => 1

/-- Qmax of the signed integer formats and T2, and 2^b − 1 of the zero-offset ones (R289). -/
def elemMax : Nat → Nat
  | 0x21 => 7 | 0x22 => 3 | 0x23 => 1 | 0x24 => 15 | 0x25 => 7 | 0x26 => 3 | 0x27 => 1 | 0x15 => 127
  | _ => 6

/-- Element code `i` of an element field (R284, R280). -/
def elemCode (f field i : Nat) : Nat :=
  if f = 0x27 then (bits field (8 * (i / 5)) 8 / 3 ^ (i % 5)) % 3 else bits field (elemBits f * i) (elemBits f)

/-- Pack element codes into an element field. -/
def packElems (f : Nat) (codes : List Nat) : Nat :=
  if f = 0x27 then
    packLow ((List.range 7).map (fun k =>
      ((List.range 5).foldr (fun j acc => codes.getD (5 * k + j) 1 % 3 + 3 * acc) 0, 8)))
  else packLow (codes.map (fun c => (c, elemBits f)))

/-- The exact value of an element code, before scale, as R275 and R277 to R281 give it. -/
def elemValue (f code z : Nat) : FVal :=
  match elemFp f with
  | some e => e.decode code
  | none =>
    let i : Int :=
      match f with
      | 0x15 => toInt 8 code
      | 0x21 => toInt 4 code | 0x22 => toInt 3 code | 0x23 => toInt 2 code
      | 0x24 | 0x25 | 0x26 => (code : Int) - z
      | 0x27 => (code : Int) - 1
      | _ => if code = 0 then 1 else -1
    .fin (decide (i < 0)) i.natAbs (if f = 0x15 then -6 else 0)

/-- A decoded block: binary32 codes; whether a poison or reserved code was found; whether it was a reserved one (R286). -/
structure Decoded where
  vals : List Nat
  special : Bool
  bad : Bool
  deriving DecidableEq, Repr

/-- The poison scale code that the end writes (R282). -/
def poisonScale (f : Nat) : Nat := if fmtMx f then 0xFF else 0x7F

/-- The scale code is a poison code. -/
def isPoisonScale (f sc : Nat) : Bool := if fmtMx f then sc == 0xFF else sc == 0x7F || sc == 0xFF

/-- Decode a block into binary32 (R285, R286). -/
def decodeBlock (f sc z field : Nat) (texp : Int) : Decoded :=
  let n := blockSize f
  let nans := List.replicate n fmtFP32.nanCode
  if isPoisonScale f sc then ⟨nans, true, false⟩
  else if (fmtFuson f && decide (0x80 ≤ sc)) || (fmtZero f && decide (2 ^ elemBits f ≤ z)) ||
      (f == 0x27 && (List.range 7).any (fun k => decide (243 ≤ bits field (8 * k) 8))) then ⟨nans, true, true⟩
  else
    let scale : FVal := if fmtMx f then .fin false 1 ((sc : Int) - 127) else fmtE4M3.decode sc
    let up : Int := if fmtMx f then 0 else texp
    let one (i : Nat) : Nat :=
      match elemValue f (elemCode f field i) z, scale with
      | .fin s m e, .fin _ k g => if m * k = 0 then fmtFP32.signBit s else roundF32 (FVal.fin s (m * k) (e + g + up)).frac s
      | v, _ => toF32 v
    ⟨(List.range n).map one, false, false⟩

/-- An encoded block. -/
structure Encoded where
  scale : Nat
  zero : Nat
  field : Nat
  poisoned : Bool
  low : Bool
  high : Bool
  deriving DecidableEq, Repr

/-- A poisoned block (R295). -/
def poisonBlock (f : Nat) : Encoded := ⟨poisonScale f, 0, 0, true, false, false⟩

/-- u rounded onto a floating-point element grid and clamped (R290). -/
def roundElem (e : FpFmt) (mode : Rnd) (r : Nat) (s : Bool) (u : Frac) : Nat :=
  let c := if e.largest.le u then e.maxCode else e.roundMag mode r u.n.natAbs u.d
  e.signBit s + c

/-- |u| rounded onto the integers 0 to `top`. -/
def roundTop (top : Nat) (mode : Rnd) (r : Nat) (u : Frac) : Nat :=
  if (⟨top, 1⟩ : Frac).le u then top else roundInt mode r u.n.natAbs u.d

/-- The element code of largest magnitude with a sign (R294). -/
def topElem (f : Nat) (s : Bool) : Nat :=
  match elemFp f with
  | some e => e.signBit s + e.maxCode
  | none =>
    match f with
    | 0x15 => if s then 0x81 else 0x7F
    | 0x21 | 0x22 | 0x23 => ofInt (elemBits f) (if s then -(elemMax f : Int) else elemMax f)
    | 0x24 | 0x25 | 0x26 => if s then 0 else elemMax f
    | 0x27 => if s then 0 else 2
    | _ => if s then 1 else 0

/-- Encode one finite value with its exact quotient u (R288 to R291). -/
def encodeElem (f : Nat) (mode : Rnd) (r : Nat) (neg : Bool) (u : Frac) : Nat :=
  match elemFp f with
  | some e => roundElem e mode r neg u.abs
  | none =>
    let k := roundTop (elemMax f) mode r u.abs
    match f with
    | 0x24 | 0x25 | 0x26 => if u.n < 0 then 0 else k
    | 0x27 => if neg then 1 - k else 1 + k
    | _ => ofInt (elemBits f) (if neg then -(k : Int) else k)

/-- The smallest positive E4M3 code whose value s satisfies q × s ≥ a; `none` where 448 does not (R289). -/
def scaleFor (q : Nat) (a : Frac) : Option Nat :=
  ((List.range 126).map (· + 1)).find? (fun c => a.le (Frac.mul ⟨q, 1⟩ (fmtE4M3.decode c).frac))

/-- The E4M3 code nearest to a positive mean, ties to the even code, from 1 to 0x7E (R289). -/
def scaleNear (a : Frac) : Nat :=
  let c := if fmtE4M3.largest.le a then 0x7E else fmtE4M3.roundMag .rne 0 a.n.natAbs a.d
  if c = 0 then 1 else min c 0x7E

/-- Encode a block of binary32 codes (R288, R289, R294): `clamp` is NF_POLICY CLAMP, `rnd i` the random bits of element i. -/
def encodeBlock (f : Nat) (mode : Rnd) (texp : Int) (clamp : Bool) (rnd : Nat → Nat) (vs : List Nat) : Encoded :=
  let vals := vs.map f32
  if vals.any FVal.isNan || (!clamp && vals.any FVal.isInf) then poisonBlock f
  else
    let mx := fmtMx f
    let hasInf := vals.any FVal.isInf
    let fr (v : FVal) : Frac := if mx then v.frac else v.frac.mul (Frac.dyadic 1 (-texp))
    let fins := (vals.filter (fun v => !v.isInf)).map fr
    let amax := (fins.map Frac.abs).foldl Frac.max Frac.zero
    let emit (scale z : Nat) (s : Frac) (off : Nat) (low high : Bool) : Encoded :=
      let code (i : Nat) (v : FVal) : Nat :=
        if v.isInf then topElem f v.neg
        else if f = 0x28 then b2n (v.neg && !(v.frac).isZero)
        else encodeElem f mode (rnd i) v.neg (((fr v).div s).add ⟨off, 1⟩)
      ⟨scale, z, packElems f ((List.range vals.length).map (fun i => code i (vals.getD i .nan))), false, low, high⟩
    let empty (scale : Nat) : Encoded :=
      let code (v : FVal) : Nat := if v.isInf then topElem f v.neg else if f = 0x27 then 1 else 0
      ⟨scale, 0, packElems f (vals.map code), false, false, false⟩
    if mx then
      let emax : Int := match f with | 0x10 => 8 | 0x11 => 15 | 0x12 => 4 | 0x13 => 2 | 0x14 => 2 | _ => 0
      let x0 : Int := if amax.isZero then -127 else fracLog2 amax.n.natAbs amax.d - emax
      let x := if x0 < -127 then -127 else x0
      let unit : Int := if f = 0x15 then x - 6 else x
      emit (x + 127).toNat 0 (Frac.dyadic 1 unit) 0 (decide (x0 < -127)) false
    else if amax.isZero then
      if hasInf then empty 1
      else ⟨0, 0, packElems f (vals.map (fun _ => if f = 0x27 then 1 else 0)), false, false, false⟩
    else if f = 0x28 then
      let sum := (fins.map Frac.abs).foldl Frac.add Frac.zero
      let mean := sum.div ⟨fins.length, 1⟩
      let c := scaleNear mean
      emit c 0 (fmtE4M3.decode c).frac 0 false (fmtE4M3.largest.lt mean)
    else
      let lo := fins.foldl Frac.min Frac.zero
      let hi := fins.foldl Frac.max Frac.zero
      let need := if fmtZero f then hi.sub lo else amax
      let found := scaleFor (elemMax f) need
      let c := found.getD 0x7E
      let s := (fmtE4M3.decode c).frac
      let z := if fmtZero f then roundTop (elemMax f) .rne 0 (lo.neg.div s) else 0
      emit c z s z false found.isNone

end Sys2Proof.Machine
end

