-- ==== Sys2Proof/Machine/Port.lean ====
section
/-!
DEFINITION. The die port and what stands behind it: credits (R199 to R205), transfers queued for the die (R40, R41, R205,
R214), local answers and responses, cancels (R191, R225), and the settlement of a Col that goes down (R206 to R209, R237).
-/

namespace Sys2Proof.Machine

/-- Replace the stream state. -/
def State.setLnk (s : State) (f : Link → Link) : State := { s with lnk := f s.lnk }

/-- Replace the transaction state. -/
def State.setTxn (s : State) (f : Txns → Txns) : State := { s with txn := f s.txn }

/-- The agreed Col reset has settled the Col at B − 4,096 (R264). -/
def State.preReset (s : State) : Bool :=
  match s.chip.plan with
  | some p => p.settled
  | none => false

/-- The open burst of the bulk stream ends: pad bits fill its last frame of 16 UI on the active lanes (R158). -/
def State.endBurst (s : State) : State :=
  match s.lnk.burst with
  | none => s
  | some f =>
    let frame := 16 * (32 * popCount 4 (s.get REPAIR.WIDTH_STAT.TX_GROUPS))
    (s.setLnk fun k => { k with burst := none }).emit (.burstEnd (if frame = 0 then 0 else (frame - 2048 * f % frame) % frame))

/-- The Col carries no further flit (R206, R211, R264). -/
def State.colDead (s : State) : Bool := s.colIn [.off, .resetHeld, .down, .fault] || s.preReset

/-! ### Credits (R199 to R204) -/

/-- The index of a message class's credits. -/
def msgIdx (cls : Nat) : Nat :=
  match cls with
  | 0 => 7 | 1 => 8 | 3 => 9 | _ => 10

/-- AVAIL follows ADV, CONS and RET (R204). -/
def State.refreshAvail (s : State) (k : Nat) : State :=
  let out := (s.get (CREDIT.TX_STAT.CONS k) + 2 ^ 16 - s.get (CREDIT.TX_STAT.RET k)) % 2 ^ 16
  s.put (CREDIT.TX_STAT.AVAIL k) (s.get (CREDIT.TX_STAT.ADV k) - out)

/-- Credits in hand (R204). -/
def State.avail (s : State) (k : Nat) : Nat :=
  s.get (CREDIT.TX_STAT.ADV k) - (s.get (CREDIT.TX_STAT.CONS k) + 2 ^ 16 - s.get (CREDIT.TX_STAT.RET k)) % 2 ^ 16

/-- Consume credits (R202). -/
def State.consume (s : State) (k n : Nat) : State :=
  (s.put (CREDIT.TX_STAT.CONS k) (s.get (CREDIT.TX_STAT.CONS k) + n)).refreshAvail k

/-- Take credits back by lowering CONS (R202). -/
def State.takeBack (s : State) (k n : Nat) : State :=
  (s.put (CREDIT.TX_STAT.CONS k) (s.get (CREDIT.TX_STAT.CONS k) + 2 ^ 16 - n % 2 ^ 16)).refreshAvail k

/-- Freed credits are added to the cumulative count to return (R203). -/
def State.freeCredit (s : State) (k n : Nat) : State :=
  if n = 0 then s else s.put (CREDIT.RX_STAT.RETURNED k) (s.get (CREDIT.RX_STAT.RETURNED k) + n)

/-- Apply a returned count: current, stale, or impossible (R204). `none` is CREDIT_BAD. -/
def State.applyReturn (s : State) (k r : Nat) : Option State :=
  let ret := s.get (CREDIT.TX_STAT.RET k)
  let out := (s.get (CREDIT.TX_STAT.CONS k) + 2 ^ 16 - ret) % 2 ^ 16
  if (r + 2 ^ 16 - ret) % 2 ^ 16 ≤ out then some ((s.put (CREDIT.TX_STAT.RET k) r).refreshAvail k)
  else if (ret + 2 ^ 16 - r) % 2 ^ 16 ≤ s.get (CREDIT.TX_STAT.ADV k) then some s
  else none

/-- Header and data credits of a request: index and number of each (R169, R202). -/
def reqCredits (tc : Nat) (o : Op) (len : Nat) : List (Nat × Nat) :=
  (tc, 1) :: (if tc = 0 ∨ dataCredits o len = 0 then [] else [(tc + 3, dataCredits o len)])

/-- Free every credit of a received request (R203). -/
def State.freeRequest (s : State) (h : Hdr) : State :=
  match h.operation with
  | some o => (reqCredits h.tc o h.len).foldl (fun t c => t.freeCredit c.1 c.2) s
  | none => s

/-- Landing entries that a request's response needs (R205). -/
def respEntries (o : Op) (len : Nat) : Nat := if o.returnsData then 1 + (lenBytes len).getD 0 / 16 else 1

/-- Undefined units (R12). -/
def State.undefUnits (s : State) : Nat → List Nat × State
  | 0 => ([], s)
  | n + 1 =>
    let (v, s1) := s.draw
    let (vs, s2) := s1.undefUnits n
    ((v % 2 ^ 128) :: vs, s2)

/-! ### Transfers for the die -/

/-- The transfers of a piece: 16 units to a cycle, the header counting as one (R32). -/
def pieceItems (h : Hdr) (first : Bool) (units : List Nat) (last tent : Bool) (seq : Nat) (credit : Bool) (resv : Nat) :
    List DpoItem :=
  let n := if first then 15 else 16
  if units.length ≤ n then
    [{ hdr := h, first := first, units := units, last := last, tent := tent, seq := seq, credit := credit, resv := resv }]
  else
    [{ hdr := h, first := first, units := units.take n, last := false, tent := tent, seq := seq, credit := false, resv := 0 },
     { hdr := h, first := false, units := units.drop n, last := last, tent := tent, seq := seq, credit := credit, resv := resv }]

/-- The Level posted writes that wait for their release beat and arrived before a transfer (R220). -/
def State.levelAhead (s : State) (i : DpoItem) : List (Nat × Nat) :=
  let earlier (q : Nat) : Bool := !i.hdr.lvl || (q != i.seq && decide ((i.seq + 4096 - q) % 4096 < 2048))
  (s.txn.levelQ.filter (fun l => (match l.hdr.operation with | some o => o.isPosted | none => false) && earlier l.seq)).map
    (fun l => (l.seq, l.hdr.tag))

/-- Queue transfers for the die; on a spine Col each remembers what must go before it. -/
def State.present' (s : State) (l : List DpoItem) : State :=
  s.setLnk fun k => { k with dpoQ := k.dpoQ ++ (if s.isS then l.map (fun i => { i with behind := s.levelAhead i }) else l) }

/-- The header of an item is a response's. -/
def Hdr.isResponse (h : Hdr) : Bool :=
  match h.operation with
  | some o => o.isResponse
  | none => false

/-- The header is a posted write's. -/
def Hdr.isPosted (h : Hdr) : Bool :=
  match h.operation with
  | some o => o.isPosted
  | none => false

/-- An answer for a tag already waits for the die. -/
def State.answerQueued (s : State) (tag : Nat) : Bool :=
  s.lnk.dpoQ.any (fun i => i.hdr.isResponse && i.hdr.tag == tag) ||
  s.lnk.dpoTaken.any (fun i => i.hdr.isResponse && i.hdr.tag == tag)

/-- Present a response, or a local answer, to the die as confirmed; the data of POISON and DRAINED is undefined (R171). -/
def State.answerDie (s : State) (q : Hdr) (st : Status) (resv : Nat) : State :=
  let h := respHdr q st
  let (us, s1) := s.undefUnits ((lenBytes h.len).getD 0 / 16)
  s1.present' (pieceItems h true us true false 0 false resv)

/-- The landing entries reserved for the response of a registered request. -/
def Hdr.resv (q : Hdr) : Nat :=
  match q.operation with
  | some o => respEntries o q.len
  | none => 0

/-- Register a response that this end sends across the Col, or count it dropped on a dead Col (R171, R207). A squashed tag gets
SQUASHED in its place (R231). -/
def State.respond (s : State) (q : Hdr) (st : Status) (vfmt : Nat) (units : List Nat) : State :=
  let sq := s.txn.squashed.contains q.tag && q.operation == some .rd
  let s0 := if sq then s.setTxn fun t => { t with squashed := t.squashed.filter (· != q.tag) } else s
  if s0.colDead then s0.bump TXN.FAIL_STAT.RSP_DROPPED
  else
    let st := if sq then .squashed else st
    let h := { respHdr q st with opd := if st = .ok && (respHdr q st).op == Op.cplD.code then vfmt else 0 }
    let n := (lenBytes h.len).getD 0 / 16
    let (us, s1) := if st = .ok then (units.take n, s0) else s0.undefUnits n
    s1.setLnk fun k => { k with txQ := k.txQ ++ [{ hdr := h, slots := us }] }

/-! ### The currency of prefetched operands (R325) -/

/-- A granule is written while prefetches are outstanding: those of it are stale, and the record of 256 granules may overflow. -/
def State.noteWrite (s : State) (g : Nat) : State :=
  if s.txn.prefetch.all (·.dropped) then s
  else
    let s1 := s.setTxn fun t => { t with prefetch := t.prefetch.map (fun p => if p.granule = g then { p with stale := true } else p) }
    if s1.txn.written.contains g then s1
    else if s1.txn.written.length < 256 then s1.setTxn fun t => { t with written := g :: t.written }
    else (s1.setTxn fun t => { t with written := [], prefetch := t.prefetch.map (fun p => { p with stale := true }) }).bump DEFILE.RA_STAT.OVERFLOWS

/-- Reads leave the list of those outstanding. DESIGN CHOICE (log entry 100): R325 does not say when a granule leaves the record of 256; here
the record is emptied when no read is outstanding, and keeps every granule until then. -/
def State.setPrefetch (s : State) (l : List Prefetch) : State :=
  s.setTxn fun t => { t with prefetch := l, written := if l.all (·.dropped) then [] else t.written }

/-- Reads whose operands have been used, or are not wanted, end. -/
def State.endReads (s : State) (f : Prefetch → Bool) : State := s.setPrefetch (s.txn.prefetch.filter (fun p => !f p))

/-- Reads of cancelled transactions: the issued ones complete, and what they bring is dropped (R225). -/
def State.dropReads (s : State) (f : Prefetch → Bool) : State :=
  s.setPrefetch ((s.txn.prefetch.filter (fun p => !(f p && p.ans.isSome))).map (fun p => if f p then { p with dropped := true } else p))

/-- A read was issued for a transaction of the run-ahead buffer. -/
def Ahead.reads (a : Ahead) (p : Prefetch) : Bool := p.owner == some (a.seq, a.hdr.tag)

/-- Run-ahead results are discarded and counted, with the operands fetched for them (R225, R228). -/
def State.discardAhead (s : State) (gone : Ahead → Bool) : State :=
  let l := s.txn.runAhead.filter gone
  let s1 := s.setTxn fun t => { t with runAhead := t.runAhead.filter (fun a => !gone a), aheadWait := t.aheadWait.filter (fun a => !gone a) }
  (s1.dropReads (fun p => l.any (·.reads p))).bumpBy TXN.SPEC_STAT.RUNAHEAD_DISCARDED l.length

/-- The request writes memory as the die takes it. -/
def Hdr.writesMemory (h : Hdr) : Bool := [some Op.wr, some .wrBe, some .wrP, some .wrBeP].contains h.operation

/-- An item has been taken by the die and is confirmed: tables, credits and reservations follow (R203, R205, R212, R214), and a plain
write is recorded against prefetches (R325). -/
def State.finishItem (s : State) (i : DpoItem) : State :=
  if i.hdr.isResponse then
    if i.last then
      (s.setTxn fun t => { t with outT := Sparse.set i.hdr.tag none t.outT }).put CREDIT.RSP_STAT.FREE (s.get CREDIT.RSP_STAT.FREE + i.resv)
    else s
  else
    let s1 :=
      if i.first && !i.hdr.isPosted && !s.colDead then
        s.setTxn fun t => { t with served := Sparse.set i.hdr.tag (some i.hdr) t.served }
      else s
    let s2 := if i.first && s.isM && i.hdr.writesMemory then (granules i.hdr.byteAddr i.hdr.bytes).foldl State.noteWrite s1 else s1
    if i.last && i.credit then s2.freeRequest i.hdr else s2

/-- Posted writes that arrived earlier in the direction are still to be presented (R220). -/
def spineBlocked (earlier : List DpoItem) (h : Hdr) : Bool :=
  !h.isResponse && !h.isPosted && h.tc != 3 && earlier.any (fun i => i.hdr.isPosted)

/-- A Level posted write that arrived earlier has not been presented: it waits for its release beat, or for the die (R220). -/
def State.levelBlocks (s : State) (queue : List DpoItem) (i : DpoItem) : Bool :=
  !i.hdr.isResponse && i.hdr.tc != 3 && i.behind.any (fun b =>
    s.txn.levelQ.any (fun l => l.seq == b.1 && l.hdr.tag == b.2) || queue.any (fun j => j.first && j.hdr.isPosted && j.seq == b.1 && j.hdr.tag == b.2))

/-- The first item of a class that may be presented now (R40, R219, R220): its place in the queue. -/
def State.pickItem (s : State) (cls : Nat) : List DpoItem → List DpoItem → Option (DpoItem × List DpoItem)
  | _, [] => none
  | before, i :: rest =>
    let free :=
      match s.lnk.dpoLock with
      | some h => !i.first && i.hdr == h
      | none => i.first && !(s.isS && (spineBlocked before i.hdr || s.levelBlocks (before ++ rest) i))
    if i.hdr.tc = cls ∧ free = true then some (i, before ++ rest) else s.pickItem cls (before ++ [i]) rest

/-- Confirms that wait are presented, oldest first, each once no transfer that it must follow is left (R42). -/
def State.sendCnf (s : State) : List Nat → State
  | [] => s.setLnk fun k => { k with cnfWait := [] }
  | q :: rest =>
    if s.lnk.dpoQ.any (fun i => i.cnf && i.seq == q) then s.setLnk fun k => { k with cnfWait := q :: rest }
    else (s.emit (.cnf false q)).sendCnf rest

/-- The die takes a transfer of a class (R40). -/
def State.takeItem (s : State) (cls : Nat) : State :=
  match s.pickItem cls [] s.lnk.dpoQ with
  | none => s
  | some (i, q) =>
    let lock := if i.last then none else if i.first then some i.hdr else s.lnk.dpoLock
    let s1 := s.setLnk fun k => { k with dpoQ := q, dpoLock := lock }
    let s2 := if i.cnf then s1.sendCnf s1.lnk.cnfWait else s1
    if i.tent then s2.setLnk fun k => { k with dpoTaken := k.dpoTaken ++ [i] } else s2.finishItem i

/-! ### Confirms and cancels (R41, R191, R225) -/

/-- Confirm a sequence: transfers of the flit still queued are confirmed in place, those taken take their effect. The confirm is
presented after the last of the transfers that were queued tentatively, and after every earlier confirm (R42). -/
def State.confirmSeq (s : State) (seq : Nat) : State :=
  let hit (i : DpoItem) : Bool := i.tent && i.seq == seq
  let done := s.lnk.dpoTaken.filter hit
  let s1 := s.setLnk fun k =>
    { k with dpoQ := k.dpoQ.map (fun i => if hit i then { i with tent := false, cnf := true } else i)
             dpoTaken := k.dpoTaken.filter (fun i => !hit i) }
  done.foldl State.finishItem (s1.sendCnf (s1.lnk.cnfWait ++ [seq]))

/-- What becomes of the lock of R40 when taken transfers are withdrawn: a transaction whose header is withdrawn is presented
afresh, one whose header was confirmed is continued from its first cancelled transfer (R194). -/
def relock (lock : Option Hdr) (gone : List DpoItem) : Option Hdr :=
  let headGone (h : Hdr) : Bool := gone.any (fun j => j.first && j.hdr == h)
  match gone.find? (fun i => !i.first && !headGone i.hdr) with
  | some i => some i.hdr
  | none =>
    match lock with
    | some h => if headGone h then none else some h
    | none => none

/-- Cancel every unconfirmed transfer from sequence `q` on; run-ahead results from there on are discarded (R225, R228). -/
def State.cancelFrom (s : State) (q : Nat) : State :=
  let hit (x : Nat) : Bool := decide ((x + 4096 - q) % 4096 < 256)
  let gone (i : DpoItem) : Bool := i.tent && hit i.seq
  let taken := s.lnk.dpoTaken.filter gone
  let s1 := (s.emit (.cnf true q)).setLnk fun k =>
    { k with dpoQ := k.dpoQ.filter (fun i => !gone i)
             dpoTaken := k.dpoTaken.filter (fun i => !gone i)
             dpoLock := relock k.dpoLock taken
             rxQ := k.rxQ.map (fun f => { f with presented := none, shown := [] })
             openT := k.openC
             withheld := []
             openShown := (k.gather.map (·.direct)).getD false }
  s1.discardAhead (fun a => !a.conf && hit a.seq)

/-- Cancel at NEXT_RX and present nothing tentatively until the next flit expected (R191, R197, R207). -/
def State.cancelAll (s : State) : State :=
  let n := s.get BULK.SEQ_STAT.NEXT_RX
  (s.cancelFrom n).put BULK.SEQ_STAT.EXP n

/-! ### Settlement (R207 to R209, R233, R237) -/

/-- The answer that a request gets when its Col goes down (R208, R237). -/
def downStatus (drain : Bool) (o : Op) : Status :=
  if drain then .drained
  else match o with
    | .rd | .wr | .wrBe => .retry
    | _ => .poison

/-- An operation whose context is charged when its outcome is uncertain (R208, R237). -/
def Op.chargesContext : Op → Bool
  | .xfApply | .xfApplyR | .xfAcc | .atFadd | .atSwap | .atCas | .contrib => true
  | _ => false

/-- One outstanding request is settled. -/
def State.settleOne (s : State) (drain : Bool) (q : Hdr) : State :=
  if s.answerQueued q.tag then s
  else
    let o := (q.operation).getD .rd
    let e := Sparse.find s.txn.early q.tag
    let s0 := s.setTxn fun t => { t with early := Sparse.set q.tag none t.early }
    if (e.bind (·.verdict)) = some true then s0.answerDie q .squashed q.resv
    else
      let st := downStatus drain o
      let s1 := s0.answerDie q st q.resv
      let s2 := if st = .retry then s1.bump TXN.FAIL_STAT.RETRY else s1
      if o.chargesContext then s2.reportLost q.ctx (if drain then 2 else 1) else s2

/-- Posted writes some part of which has not been acknowledged: in the transmit path, being taken, or in the replay buffer. One whose
header flit is acknowledged already is known by the oldest flit that continues it, or by what is left of it to send. -/
def State.postedUnacked (s : State) : List Hdr :=
  let heads (f : RplFlit) : List Hdr :=
    ((List.range 15).filter (fun i => bit f.hdrMap i)).map (fun i => hdrOf (f.slots.getD i 0))
  let inRpl := ((s.lnk.rpl.head?.bind (·.cont)).toList) ++ (s.lnk.rpl.map heads).flatten
  let inTx := s.lnk.txQ.filter (fun i => i.fresh || s.lnk.rpl == []) |>.map (·.hdr)
  let cur := match s.lnk.txCur with | some (.send, i) => [i.hdr] | _ => []
  (inRpl ++ inTx ++ cur).filter Hdr.isPosted

/-- The requests that the end has confirmed and the die has not been shown: Level requests waiting are presented now. -/
def State.flushLevel (s : State) : State :=
  let items := (s.txn.levelQ.map (fun l => pieceItems l.hdr true l.units true false l.seq true 0)).flatten
  (s.setTxn fun t => { t with levelQ := [] }).present' items

/-- A transaction some of whose transfers will not come any more is withdrawn: those that wait, and the lock that it holds on the port.
The die keeps what it has taken of it; a request so cut is not performed, and one awaiting such a response has none. -/
def State.dropPartial (s : State) : State :=
  let keep := s.lnk.dpoQ.filter (fun i => s.lnk.dpoQ.any (fun j => j.last && j.hdr == i.hdr))
  match s.lnk.dpoLock with
  | some h =>
    if keep.any (fun i => !i.first && i.hdr == h) then s.setLnk fun k => { k with dpoQ := keep }
    else
      let s1 := s.setLnk fun k => { k with dpoQ := keep, dpoLock := none }
      if h.isResponse then s1 else s1.setTxn fun t => { t with served := Sparse.set h.tag none t.served }
  | none => s.setLnk fun k => { k with dpoQ := keep }

/-- Responses the end would have sent: queued in the transmit path, being taken from the die, or owed for requests the die holds or is
to be shown. -/
def State.owedResponses (s : State) : Nat :=
  (s.lnk.txQ.filter (fun i => i.hdr.isResponse)).length + s.txn.served.length +
  (match s.lnk.txCur with | some (.send, i) => b2n i.hdr.isResponse | _ => 0) +
  (s.lnk.dpoQ.filter (fun i => i.first && !i.hdr.isResponse && !i.hdr.isPosted)).length

/-- Messages of the die that have not been acknowledged. DESIGN CHOICE: those taken on MSG_IN that no MSG flit carries yet count too. -/
def State.messagesUnacked (s : State) : Nat :=
  (((s.lnk.crpl.map (·.2)).flatten ++ s.lnk.msgQ).filter (fun m => msgClass m != 2 && m != emptyMsg)).length

/-- Settle the die side: cancel, present what is confirmed, drop responses, answer what is outstanding (R207, R208). A confirm that waited
for a transfer now dropped is presented (R41). After a tear no context is charged for posted writes (R259). -/
def State.settleDie (s : State) (drain torn : Bool) : State :=
  let s0 := s.cancelAll.dropPartial
  let s1 := (s0.sendCnf s0.lnk.cnfWait).flushLevel
  let s2 := (s1.bumpBy TXN.FAIL_STAT.RSP_DROPPED s1.owedResponses).setTxn fun t => { t with served := [], squashed := [] }
  let posted := s2.postedUnacked
  let s3 := s2.txn.outT.foldl (fun t q => t.settleOne drain q.2) s2
  if torn then s3 else posted.foldl (fun t h => t.reportLost h.ctx (if drain then 2 else 1)) s3

/-- Settle what the Col still held. Where DCLK has stopped the die cannot be answered, and only the streams are emptied (R255). -/
def State.settleWith (s : State) (drain torn : Bool) : State :=
  let s1 := if s.clkOn 1 then s.settleDie drain torn else s
  let n := s1.messagesUnacked
  let s2 := if n = 0 then s1 else (s1.bumpBy CTRL.FAIL_STAT.MSG_LOST n).raise EV.CTRL.MSG_LOST n
  s2.setLnk fun k =>
    { k with txQ := [], msgQ := [], linkQ := []
             txCur := k.txCur.map (fun c => (.sink, c.2)) }

/-- Settle what the Col still held when it goes to DOWN or FAULT from a state that carried traffic, unless a Col reset has
settled it already. After a tear the second column of R208 holds in DRAIN too (R259). -/
def State.settle (s : State) (torn : Bool) : State :=
  if !s.colIn [.creditInit, .active, .retrain, .quietRepair, .widthChange, .lowland, .drain] || s.preReset then s
  else s.settleWith (s.chip.col == .drain && !torn) torn

/-- DCLK runs again after an unexpected stop: what X04 held is discarded, and what is still outstanding is answered (R258, R259). -/
def State.settleTorn (s : State) : State :=
  let s1 := s.setLnk fun k => { k with dpoQ := [], dpoTaken := [], dpoLock := none, cnfWait := [], msgOut := [] }
  (s1.txn.outT.foldl (fun t q => t.settleOne false q.2) s1).setTxn fun t => { t with levelQ := [], served := [], squashed := [] }

end Sys2Proof.Machine
end

