-- ==== Sys2Proof/Machine/WinOps.lean ====
section
/-!
DEFINITION. Window descriptors (R340), the memory writes that the end issues itself (R303, R325), completion records (R352) and
the failing of windows (R343, R354, R400).
-/

namespace Sys2Proof.Machine

/-! ### Memory writes of the end -/

/-- A write of the end is noted against the reads of the engine (R325). -/
def State.noteWrites (s : State) (a n : Nat) : State := (granules a n).foldl State.noteWrite s

/-- Memory takes bytes that the end writes: granules wholly written lose poison. -/
def State.memTake (s : State) (a : Nat) (bs : List Byte) : State :=
  let n := bs.length
  let gs := granules a n
  let whole (g : Nat) : Bool := decide (a ≤ 64 * g) && decide (64 * g + 64 ≤ a + n)
  let s1 := s.setMemBytes a bs
  { s1 with poison := s1.poison.filter (fun g => !(gs.contains g && whole g)) }.noteWrites a n

/-- The end writes bytes to memory by die-local address: the die is shown the write, and memory takes it. -/
def State.engWrite (s : State) (a : Nat) (bs : List Byte) : State := (s.emit (.memWrite a bs)).memTake a bs

/-! ### Stack throttle (R63, R432) -/

/-- The end applies STK_THR: an M-end, while BUDGET_VALID is low or with STK_ALWAYS. -/
def State.stkApplies (s : State) : Bool := s.isM && (!s.inp.budgetValid || s.on POWER.THR_CTL.STK_ALWAYS)

/-- The level of stack `k` (R63). -/
def State.stkLevel (s : State) (k : Nat) : Nat := bits s.inp.stkThr.toNat (2 * k) 2

/-- A request of the engine or the DMA port to a die-local address is held: its stack is at level 3. -/
def State.stkHeld (s : State) (a : Nat) : Bool := s.stkApplies && decide (a < 0x3000000000) && s.stkLevel (a / 0xC00000000) == 3

/-! ### Code words in error (R413, R415, R422, R446) -/

/-- The page that counts and controls an array. -/
def arrayPage : Nat → Nat
  | 1 => 5 | 2 => 6 | 3 | 4 | 5 => 7 | 6 => 8 | 7 | 8 | 9 => 10 | 10 | 11 => 11 | _ => 1

/-- ECC_CE, ECC_UE and ECC_CE_STUCK of a page. -/
def eccEvents : Nat → Event × Event × Event
  | 5 => (EV.BULK.ECC_CE, EV.BULK.ECC_UE, EV.BULK.ECC_CE_STUCK)
  | 6 => (EV.CTRL.ECC_CE, EV.CTRL.ECC_UE, EV.CTRL.ECC_CE_STUCK)
  | 7 => (EV.CREDIT.ECC_CE, EV.CREDIT.ECC_UE, EV.CREDIT.ECC_CE_STUCK)
  | 8 => (EV.TXN.ECC_CE, EV.TXN.ECC_UE, EV.TXN.ECC_CE_STUCK)
  | 10 => (EV.DEFILE.ECC_CE, EV.DEFILE.ECC_UE, EV.DEFILE.ECC_CE_STUCK)
  | 11 => (EV.BASIN.ECC_CE, EV.BASIN.ECC_UE, EV.BASIN.ECC_CE_STUCK)
  | _ => (EV.RESET.ECC_CE, EV.RESET.ECC_UE, EV.RESET.ECC_CE_STUCK)

/-- ECC_CAPTURE of a page takes an array and an index. -/
def State.eccCapture (s : State) (a index : Nat) (ue : Bool) : State :=
  let p := arrayPage a
  (((s.put (PAGE.ECC_CAPTURE.ARRAY p) a).put (PAGE.ECC_CAPTURE.VALID p) 1).put (PAGE.ECC_CAPTURE.UE p) (b2n ue)).put (PAGE.ECC_CAPTURE.INDEX p) index

/-- ECC_CAPTURE [47:0]. -/
def State.eccValue (s : State) (a : Nat) : Nat := bits (s.reg (PAGE.ECC_CAPTURE.ARRAY (arrayPage a)).key).toNat 0 48

/-- An uncorrectable word is counted and captured, unless an uncorrectable capture is held. -/
def State.countUe (s : State) (a index : Nat) : State :=
  let p := arrayPage a
  let s1 := s.bump (PAGE.ECC_STAT.UE p)
  let s2 := if s1.on (PAGE.ECC_CAPTURE.VALID p) && s1.on (PAGE.ECC_CAPTURE.UE p) then s1 else s1.eccCapture a index true
  s2.raise (eccEvents p).2.1 (s2.eccValue a)

/-! ### Window descriptors -/

/-- A field of a window descriptor: its word, lowest bit and width (R340). -/
structure WinField where
  word : Nat
  lo : Nat
  width : Nat
  deriving DecidableEq, Repr

def WIN.STATE : WinField := ⟨0, 0, 3⟩
def WIN.MODE : WinField := ⟨0, 3, 2⟩
def WIN.IN_FMT : WinField := ⟨0, 5, 6⟩
def WIN.RCP_EN : WinField := ⟨0, 11, 1⟩
def WIN.RECIPE : WinField := ⟨0, 12, 6⟩
def WIN.CTX : WinField := ⟨0, 18, 14⟩
def WIN.EXPECT : WinField := ⟨0, 32, 16⟩
def WIN.CL_WRITE : WinField := ⟨0, 48, 1⟩
def WIN.CL_REC : WinField := ⟨0, 49, 1⟩
def WIN.CL_EVENT : WinField := ⟨0, 50, 1⟩
def WIN.CL_RND : WinField := ⟨0, 51, 2⟩
def WIN.CL_FMT : WinField := ⟨0, 53, 6⟩
def WIN.EAGER : WinField := ⟨0, 59, 1⟩
def WIN.INC_SKIP : WinField := ⟨0, 60, 1⟩
def WIN.OPEN_BEAT : WinField := ⟨1, 0, 64⟩
def WIN.CLOSE_BEAT : WinField := ⟨2, 0, 64⟩
def WIN.NELEM : WinField := ⟨3, 0, 21⟩
def WIN.BASE_LINE : WinField := ⟨3, 21, 16⟩
def WIN.BMP_LINE : WinField := ⟨3, 37, 16⟩
def WIN.OUT_ADDR : WinField := ⟨4, 0, 34⟩
def WIN.MEM_BASE : WinField := ⟨5, 0, 34⟩
def WIN.EARLY_N : WinField := ⟨5, 34, 16⟩
def WIN.REC_ADDR : WinField := ⟨6, 0, 34⟩
def WIN.LATE_N : WinField := ⟨6, 34, 16⟩
def WIN.COMMITS : WinField := ⟨7, 0, 32⟩
def WIN.ARRIVED : WinField := ⟨7, 32, 16⟩
def WIN.OUTCOME : WinField := ⟨7, 48, 8⟩
def WIN.XWIN_CAP : WinField := ⟨7, 56, 8⟩

/-- The aperture word index of word `w` of window `n` (R465). -/
def winIdx (n w : Nat) : Nat := 0x30800 + 8 * (n % 1024) + w

/-- A field of window `n`. -/
def State.win (s : State) (n : Nat) (f : WinField) : Nat := bits (s.tblWord (winIdx n f.word)).toNat f.lo f.width

/-- A field of window `n` takes a value. -/
def State.setWin (s : State) (n : Nat) (f : WinField) (v : Nat) : State :=
  s.setTblPart (winIdx n f.word) (setBits (s.tblWord (winIdx n f.word)) f.lo f.width v)

/-- A field counts one and stops at its all-ones value (R340). -/
def State.bumpWin (s : State) (n : Nat) (f : WinField) : State := s.setWin n f (min (s.win n f + 1) (2 ^ f.width - 1))

/-- An outcome bit is set. -/
def State.setOutcome (s : State) (n b : Nat) : State := s.setWin n WIN.OUTCOME (setBit (s.win n WIN.OUTCOME) b)

/-- The window is in one of some states. -/
def State.winIn (s : State) (n : Nat) (l : List Nat) : Bool := l.contains (s.win n WIN.STATE)

/-- Windows in one of some states, rising. -/
def State.windowsIn (s : State) (l : List Nat) : List Nat := (List.range 1024).filter (fun n => s.winIn n l)

/-- The window's beat fields. -/
def State.openBeat (s : State) (n : Nat) : Beat := s.tblWord (winIdx n 1)
def State.closeBeat (s : State) (n : Nat) : Beat := s.tblWord (winIdx n 2)

/-- Accumulator lines of a window: 16 FP32 or 5 exact accumulators a line, none in memory mode (R332, R357). -/
def State.accLines (s : State) (n : Nat) : Nat :=
  match s.win n WIN.MODE with
  | 0 => (s.win n WIN.NELEM + 15) / 16
  | 1 => (s.win n WIN.NELEM + 4) / 5
  | _ => 0

/-- Bitmap lines of a window. -/
def State.bmpLines (s : State) (n : Nat) : Nat := (s.win n WIN.EXPECT + 511) / 512

/-- A window event that its rule captures is held in WIN_CAPTURE (R339, R351, R459). -/
def State.winCapture (s : State) (n line ev : Nat) : State :=
  (((s.put BASIN.WIN_CAPTURE.WINDOW n).put BASIN.WIN_CAPTURE.LINE line).put BASIN.WIN_CAPTURE.EVENT ev).put BASIN.WIN_CAPTURE.VALID 1

/-- The completion record of a window as it stands (R352). -/
def State.winRecord (s : State) (n : Nat) : Nat :=
  packLow [(n, 10), (s.win n WIN.STATE, 3), (0, 3), (s.win n WIN.OUTCOME, 8), (s.win n WIN.CTX, 14), (0, 2), (s.win n WIN.ARRIVED, 16),
    (0, 8), (s.beat.toNat, 64), (s.win n WIN.COMMITS, 32), (s.win n WIN.EARLY_N, 16), (s.win n WIN.LATE_N, 16), (0, 64)]

/-- Write the completion record where CL_REC asks for it. -/
def State.writeRecord (s : State) (n : Nat) : State :=
  if s.win n WIN.CL_REC = 1 then s.engWrite (64 * s.win n WIN.REC_ADDR) (natBytes (s.winRecord n) 32) else s

/-- The window's pending work is dropped. -/
def State.dropWinWork (s : State) (n : Nat) : State :=
  { s with eng := { s.eng with zeroing := s.eng.zeroing.filter (· != n), closing := s.eng.closing.filter (· != n), unissued := s.eng.unissued.filter (· != n) } }

/-- A window goes to FAILED with outcome bits, with its record unless it is failed at token release (R343, R400). -/
def State.failWindow (s : State) (n : Nat) (outcome : List Nat) (record : Bool) : State :=
  let s1 := outcome.foldl (fun t b => t.setOutcome n b) ((s.dropWinWork n).setWin n WIN.STATE 5)
  let s2 := if record then s1.writeRecord n else s1
  s2.raise EV.BASIN.WIN_FAILED (n + s2.win n WIN.OUTCOME * 2 ^ 16)

/-- A window goes to FREE. -/
def State.freeWindow (s : State) (n : Nat) : State := (s.dropWinWork n).setWin n WIN.STATE 0

end Sys2Proof.Machine
end

