-- ==== Sys2Proof/Machine/PairOps.lean ====
section
/-!
DEFINITION. Operations of a Col pair that other families need: heartbeat words (R394, R395), pair roles (R398), token release
(R400), the marking of changed contexts (R405), and mirror buffers (R404, R407).
-/

namespace Sys2Proof.Machine

/-- Replace the pair state. -/
def State.setPair (s : State) (f : Pair → Pair) : State := { s with pair := f s.pair }

/-- This end's ORIG (R392). -/
def State.orig (s : State) : Nat :=
  let odd := s.get IDENT.FUSE_STAT.COL % 2
  match s.role with
  | 2 => 2 + odd
  | 3 => 2 * s.get IDENT.FUSE_STAT.DIE + odd
  | _ => odd

/-- ORIG of the partner. -/
def State.partnerOrig (s : State) : Nat := s.orig ^^^ 1

/-- The pair role codes of R398. -/
def State.prole (s : State) : Nat := s.get PAIR.ROLE_STAT.PROLE

/-- This end holds the token. -/
def State.isOwner (s : State) : Bool := s.prole == 5

/-- A heartbeat word (R394). -/
def hbWord (orig hops seq prole lease : Nat) : Nat := packLow [(lease, 20), (0, 5), (prole, 3), (seq, 8), (hops, 2), (orig, 2)]

/-- The Col carries the control stream. -/
def State.ctrlRuns (s : State) : Bool := s.colIn inService

/-- Queue a word as an MC2 HEARTBEAT; an older one of the same originator that still waits is replaced (R395). -/
def State.hbMessage (s : State) (w : Nat) : State :=
  if !s.ctrlRuns then s
  else
    let m := linkMsg 5 w
    let same (x : Nat) : Bool := msgClass x == 2 && msgLtype x == 5 && bits x 46 2 == bits w 38 2
    s.setLnk fun k =>
      if k.msgQ.any same then { k with msgQ := k.msgQ.map (fun x => if same x then m else x) } else { k with msgQ := k.msgQ ++ [m] }

/-- A strap frame is driven (R393). -/
def State.hbStrap (s : State) (w : Nat) : State :=
  if s.chip.dieRst || s.role == 0 then s
  else { s.emit (.strap (sbFrame SbType.heartbeat.code s.pair.strapSeq w)) with pair := { s.pair with strapSeq := (s.pair.strapSeq + 1) % 16 } }

/-- The LEASE field of this end's words. -/
def State.ownLease (s : State) : Nat := if s.isOwner then s.pair.expiry.toNat % 2 ^ 20 else 0

/-- This end sends a new word to its far end and to its partner (R395). -/
def State.sendWord (s : State) : State :=
  let w := hbWord s.orig 0 s.pair.seq s.prole s.ownLease
  (((s.hbMessage w).hbStrap w).setPair fun p => { p with seq := (p.seq + 1) % 256 })

/-- Every operand read before is read again at its commit: R325 records no write of the former owner (R483). -/
def State.readAgain (s : State) : State := s.setPrefetch (s.txn.prefetch.map (fun p => { p with stale := true }))

/-- The pair role changes, and a word goes at once (R395). An end that enters OWNER uses no operand read before. -/
def State.setProle (s : State) (r : Nat) : State :=
  (((if r = 5 then s.readAgain else s).put PAIR.ROLE_STAT.PROLE r).setPair fun p => { p with since := s.beat }).sendWord

/-! ### Mirror buffers (R404, R407) -/

/-- The address of mirror buffer `b`. -/
def State.mirAddr (s : State) (b : Nat) : Nat := s.get PAIR.MIR_BASE.ADDR * 2 ^ 22 + b * 2 ^ 21

/-- The page that holds an address is DRAINING: it answers DRAINED to writes of windows and of the escape area too, which no other kind
does (R303, R342, R484). -/
def State.pageDrained (s : State) (a : Nat) : Bool := (Binding.mk (s.bindingOf (a / 2 ^ 23)).toNat).kind == some .draining

/-- Some page of a range is DRAINING. -/
def State.rangeDrained (s : State) (r : Nat × Nat) : Bool :=
  (List.range ((r.1 + r.2 - 1) / 2 ^ 23 + 1 - r.1 / 2 ^ 23)).any (fun i => s.pageDrained (r.1 + i * 2 ^ 23))

/-- The binding entry of the page that holds an address answers accesses of the DMA channels and of the mirror (R238, R379, R484). -/
def State.pageShut (s : State) (a : Nat) : Bool :=
  s.pageDrained a || (Binding.mk (s.bindingOf (a / 2 ^ 23)).toNat).kind == some .absent

/-- Any granule of a range is poisoned. -/
def State.rangePoisoned (s : State) (a n : Nat) : Bool := s.poison.any (fun g => decide (a < 64 * g + 64) && decide (64 * g < a + n))

/-- GEN of a buffer's header. -/
def State.mirHdrGen (s : State) (b : Nat) : Nat := s.memNat (s.mirAddr b) 4

/-- The complete generation that a buffer holds (R407, R484). -/
def State.mirComplete (s : State) (b : Nat) : Option Nat :=
  let sl := s.memNat (s.mirAddr b + 0x195000) 8
  let g := s.mirHdrGen b
  if !s.pageShut (s.mirAddr b) && g == sl % 2 ^ 32 && sl / 2 ^ 32 == 2 ^ 32 - 1 - g && g % 2 == b then some g else none

/-- `a` is newer than `b` (R407). -/
def genNewer (a b : Nat) : Bool :=
  let d := (a + 2 ^ 32 - b % 2 ^ 32) % 2 ^ 32
  decide (1 ≤ d) && decide (d < 2 ^ 31)

/-- The complete generations held. -/
def State.mirGens (s : State) : List Nat := (s.mirComplete 0).toList ++ (s.mirComplete 1).toList

/-- ENABLE is 1 and the Col is in ACTIVE: an M-end leaves NONE for RESYNC (R398). -/
def State.pairEnter (s : State) : State :=
  if s.isM && s.on PAIR.PAIR_CTL.ENABLE && s.prole == 0 && s.chip.col == .active then
    (s.setPair fun p => { p with heldGens := s.mirGens, ownerSeen := false, busyAt := none, sealAt := s.ahead 16384 }).setProle 1
  else s

/-! ### Token release (R400) -/

/-- A token-scope request: an atomic operation or a contribution (R397). -/
def tokenScope (h : Hdr) : Bool :=
  match h.operation with
  | some o => o.isAtomic || o == .contrib
  | none => false
def EngReq.tokenScope (q : EngReq) : Bool := Sys2Proof.Machine.tokenScope q.hdr

/-- A run-ahead result is of a request that the engine holds. -/
def EngReq.isAhead (q : EngReq) (a : Ahead) : Bool := q.ahead && a.seq == q.seq && a.hdr.tag == q.hdr.tag

/-- Step 1: token-scope requests not yet committed are answered RETRY and their credits freed; their run-ahead results are discarded,
confirmed or not (R412). -/
def State.retryToken (s : State) : State :=
  let gone := s.txn.engQ.filter EngReq.tokenScope
  let s1 := (s.discardAhead (fun a => tokenScope a.hdr)).setTxn fun t => { t with engQ := t.engQ.filter (fun q => !q.tokenScope) }
  gone.foldl (fun t q => (t.respond q.hdr .retry 0 []).freeRequest q.hdr) s1

/-- Step 2: windows that are OPEN or CLOSING fail with LOST, without a record, and those that are ARMED go to FREE. It is the engine's. -/
def State.endWindows (s : State) : State :=
  let s1 := (s.windowsIn [2, 3]).foldl (fun t n => t.failWindow n [4] false) s
  (s1.windowsIn [1]).foldl State.freeWindow s1

/-- Steps 2 and 3: the windows end, and the contexts of those that failed are reported lost. -/
def State.releaseWindows (s : State) : State :=
  (dedup ((s.windowsIn [2, 3]).map (fun n => s.win n WIN.CTX))).foldl (fun t c => t.reportLost c 7) s.endWindows

/-- The owner releases the token (R400): `cause` is 1 the Col left service, 2 firmware, 3 a conflict. The steps of the engine are not taken
while its clock is stopped. -/
def State.releaseToken (s : State) (cause : Nat) (settled : Bool) : State :=
  let s1 := if settled || !s.clkOn 2 then s else s.retryToken
  let s3 := if s.clkOn 2 then s1.releaseWindows else s1
  (((s3.bump PAIR.TOKEN_STAT.RELEASED).setPair fun p => { p with leaving := false }).setProle 6).raise EV.PAIR.TOKEN_RELEASED cause

/-- A confirmed token-scope request waits for its commit, and the engine runs. -/
def State.tokenWork (s : State) : Bool := s.clkOn 2 && s.txn.engQ.any EngReq.tokenScope

/-- The Col leaves service for the token (R398, R400). In DOWN and FAULT (`settled`) the confirmed token-scope requests are performed first
(R207, R356). DEDUCED (log entry 99): the steps of R400 then follow the last of them. With a stopped DCLK only the engine's step is
taken. -/
def State.leaveService (s : State) (settled : Bool) : State :=
  if !s.clkOn 1 then (if s.isOwner && s.clkOn 2 then s.endWindows else s)
  else if s.isOwner then
    (if settled && s.tokenWork then s.setPair fun p => { p with leaving := true } else s.releaseToken 1 settled)
  else if [1, 2, 3, 4].contains s.prole then s.setProle 6
  else s

/-- The token is released after the last confirmed token-scope request of a Col that has left service. -/
def State.leaveDone (s : State) : State :=
  if s.pair.leaving && !s.tokenWork && s.clkOn 1 then
    (if s.isOwner then s.releaseToken 1 true else s.setPair fun p => { p with leaving := false })
  else s

/-! ### Marks of changed contexts (R405) -/

/-- A context is marked changed. -/
def State.markDirty (s : State) (c : Nat) : State :=
  let s1 := s.setPair fun p => { p with dirty := Sparse.set (c % 16384) (some ()) p.dirty }
  s1.put PAIR.MIR_STAT_HI.DIRTY_N s1.pair.dirty.length

end Sys2Proof.Machine
end

