-- ==== Sys2Proof/Machine/Recipe.lean ====
section
/-!
DEFINITION. Recipes (R310 to R315): their slots, the conditions under which one is refused, and the arithmetic of their stages.
-/

namespace Sys2Proof.Machine

/-- The aperture word index of word `w` of recipe slot `n` (R465). -/
def rcpIdx (n w : Nat) : Nat := 0x30000 + 32 * (n % 64) + w

/-- A recipe slot: header, constants and stages. -/
structure Rcp where
  head : Nat
  consts : List Nat
  stages : List Nat
  deriving DecidableEq, Repr

/-- The slot as it stands; one with an uncorrectable word has VALID 0 (R422). -/
def State.recipe (s : State) (n : Nat) : Rcp :=
  let w (i : Nat) : Nat := (s.tblWord (rcpIdx n i)).toNat
  { head := if s.eng.badSlots.contains (n % 64) then 0 else packLow [(w 0, 64), (w 1, 64), (w 2, 64), (w 3, 64)]
    consts := (List.range 8).map (fun i => bits (w (4 + i / 2)) (32 * (i % 2)) 32)
    stages := (List.range 6).map (fun k => w (8 + 2 * k) + 2 ^ 64 * w (9 + 2 * k)) }

def Rcp.valid (r : Rcp) : Bool := bit r.head 0
def Rcp.nstages (r : Rcp) : Nat := bits r.head 1 3
def Rcp.ops (r : Rcp) : Nat := bits r.head 4 6
def Rcp.outY (r : Rcp) : Nat := bits r.head 12 4
def Rcp.outZ (r : Rcp) : Nat := bits r.head 16 4
def Rcp.ret (r : Rcp) : Nat := bits r.head 20 4
def Rcp.rndY (r : Rcp) : Nat := bits r.head 24 2
def Rcp.rndZ (r : Rcp) : Nat := bits r.head 26 2
def Rcp.rndRet (r : Rcp) : Nat := bits r.head 28 2
def Rcp.yFmt (r : Rcp) : Nat := bits r.head 30 6
def Rcp.zFmt (r : Rcp) : Nat := bits r.head 36 6
def Rcp.zOff (r : Rcp) : Int := toInt 17 (bits r.head 42 17)

/-- The stages used. -/
def Rcp.used (r : Rcp) : List Nat := r.stages.take r.nstages

/-- Fields of a stage (R312). -/
def stKind (t : Nat) : Nat := bits t 0 4
def stSub (t : Nat) : Nat := bits t 4 4
def stA (t : Nat) : Nat := bits t 8 4
def stB (t : Nat) : Nat := bits t 12 4
def stC (t : Nat) : Nat := bits t 16 4
def stDst (t : Nat) : Nat := bits t 20 2
def stFmt (t : Nat) : Nat := bits t 22 6
def stK (t : Nat) : Int := toInt 8 (bits t 28 8)

/-- Uses of a recipe, in the order of the OPS bits. -/
inductive RcpUse where
  | apply | applyR | acc | contrib | viewRead | viewWrite
  deriving DecidableEq, Repr

def RcpUse.bit : RcpUse → Nat
  | .apply => 0 | .applyR => 1 | .acc => 2 | .contrib => 3 | .viewRead => 4 | .viewWrite => 5

/-- A reserved KIND or SUB of a stage. -/
def stReserved (t : Nat) : Bool :=
  match stKind t with
  | 0 | 1 | 2 | 4 => stSub t != 0
  | 3 => decide (5 < stSub t)
  | 5 => decide (2 < stSub t)
  | 6 => decide (1 < stSub t)
  | _ => true

/-- ACC is the kind of a stage. -/
def stIsAcc (t : Nat) : Bool := stKind t == 4

/-- Why a recipe is refused for a use, by the codes of RCP_STAT.CAUSE; `needY` and `needZ` say that Y_FMT and Z_FMT are needed
(R314, R458). -/
def Rcp.refusal (r : Rcp) (u : RcpUse) (needY needZ : Bool) : Option Nat :=
  if !r.valid || r.nstages == 7 then some 1
  else if r.used.any stReserved || (u != .contrib && (r.rndY == 3 || r.rndZ == 3 || r.rndRet == 3)) then some 2
  else if !Sys2Proof.Machine.bit r.ops u.bit then some 3
  else if r.used.dropLast.any stIsAcc || ((u == .acc || u == .contrib) && !(r.used.getLast?.map stIsAcc).getD false) then some 4
  else if (u == .applyR || u == .viewRead) && r.ret == 0 then some 5
  else if r.used.any (fun t => stKind t == 5 && !fmtScalar (stFmt t)) || (needY && !fmtScalar r.yFmt) || (needZ && !fmtScalar r.zFmt) then some 6
  else none

/-- A recipe is refused: counted, captured and raised (R314). -/
def State.recipeBad (s : State) (slot cause : Nat) : State :=
  (((s.bump DEFILE.RCP_STAT.REFUSED).put DEFILE.RCP_STAT.SLOT slot).put DEFILE.RCP_STAT.CAUSE cause).raise EV.DEFILE.RECIPE_BAD (slot + cause * 2 ^ 16)

/-- A selector is read by a used stage. -/
def stReads (t sel : Nat) : Bool :=
  match stKind t with
  | 1 | 4 | 5 => stA t == sel
  | 2 => stA t == sel || stB t == sel || stC t == sel
  | 3 => stA t == sel || (decide (stSub t ≤ 2) && stB t == sel)
  | 6 => stA t == sel || stC t == sel
  | _ => false

/-- Some stage or output of a recipe reads a selector: 2 is Y, 3 is Z. OUT_Y is not read where the ACC stage gives y (R313). DESIGN CHOICE (log entry
100): a used stage that stands behind an END, and does not run, still needs the elements that its selectors name (R316). -/
def Rcp.reads (r : Rcp) (u : RcpUse) (sel : Nat) : Bool :=
  r.used.any (fun t => stReads t sel) ||
  (match u with
  | .viewRead => r.ret == sel
  | .applyR => r.outZ == sel || r.ret == sel || (r.nstages != 0 && r.outY == sel)
  | .contrib => false
  | .acc => r.outZ == sel
  | _ => r.outZ == sel || (r.nstages != 0 && r.outY == sel))

/-- The operands, constants and temporaries of one element. -/
structure RcpEnv where
  x : Nat
  y : Nat
  z : Nat
  consts : List Nat
  temps : List Nat := [0, 0, 0, 0]
  /-- the operand A of an ACC stage, and its result -/
  accA : Nat := 0
  acc : Nat := 0
  /-- a GUARD stage has clamped -/
  guard : Bool := false
  deriving DecidableEq, Repr

/-- The value of a selector (R311). -/
def RcpEnv.sel (e : RcpEnv) (n : Nat) : Nat :=
  if n = 0 then 0 else if n = 1 then e.x else if n = 2 then e.y else if n = 3 then e.z
  else if n < 8 then e.temps.getD (n - 4) 0 else e.consts.getD (n - 8) 0

/-- A temporary is written. -/
def RcpEnv.set (e : RcpEnv) (d v : Nat) : RcpEnv := { e with temps := e.temps.set d v }

/-- The OP stages (R313). -/
def opStage (sub a b : Nat) : Nat :=
  match sub with
  | 0 => addF a b | 1 => maxF a b | 2 => minF a b | 3 => absF a | 4 => mulF a a | _ => rsqrtF a

/-- GUARD (R313): the result, and whether it clamped. -/
def guardStage (sub a c : Nat) : Nat × Bool :=
  let lim := absF c
  if isFinF a && !isNanF c && decide (absF a ≤ lim) then (a, false)
  else if sub = 0 then (if isNanF a then (fmtFP32.nanCode, false) else if isNanF c then (fmtFP32.nanCode, false) else (lim + (a - a % 2 ^ 31), true))
  else (fmtFP32.nanCode, false)

/-- One stage; `rnd` gives the random bits of a stage position (R313). -/
def RcpEnv.stage (e : RcpEnv) (rnd : Nat → Nat) (target pos t : Nat) : RcpEnv :=
  let a := e.sel (stA t)
  match stKind t with
  | 1 => e.set (stDst t) (scaleF a (stK t))
  | 2 => e.set (stDst t) (fmaF a (e.sel (stB t)) (e.sel (stC t)))
  | 3 => e.set (stDst t) (opStage (stSub t) a (e.sel (stB t)))
  | 4 => { e.set (stDst t) (addF target a) with accA := a, acc := addF target a }
  | 5 => e.set (stDst t) (widen (stFmt t) ((scalarFmt (stFmt t)).convert (rndOf (stSub t)) (rnd pos) (f32 a)).1)
  | 6 =>
    let (v, c) := guardStage (stSub t) a (e.sel (stC t))
    { e.set (stDst t) v with guard := e.guard || c }
  | _ => e

/-- Run stages from a position on; END runs no later stage. -/
def RcpEnv.run (e : RcpEnv) (rnd : Nat → Nat) (target : Nat) : Nat → List Nat → RcpEnv
  | _, [] => e
  | pos, t :: ts => if stKind t = 0 then e else (e.stage rnd target pos t).run rnd target (pos + 1) ts

/-- Run a recipe on one element. -/
def Rcp.run (r : Rcp) (rnd : Nat → Nat) (x y z target : Nat) : RcpEnv :=
  RcpEnv.run { x := x, y := y, z := z, consts := r.consts } rnd target 0 r.used

/-- The value written to y: with no stage, X (R310); for XF_ACC the result of its ACC stage (R313). DESIGN CHOICE (log entry 100): where an END
keeps the ACC stage from running, its result and its operand A are +0. -/
def Rcp.yOut (r : Rcp) (u : RcpUse) (e : RcpEnv) : Nat :=
  if u = .acc then e.acc else if r.nstages = 0 then e.x else e.sel r.outY

/-- y is written. -/
def Rcp.writesY (r : Rcp) (u : RcpUse) : Bool := u == .acc || r.outY != 0

end Sys2Proof.Machine
end

