-- ==== Sys2Proof/Machine/Blocks.lean ====
section
/-!
DEFINITION. The engine's accesses to memory: operands and their currency (R325), blocks read (R285 to R287, R318, R328) and
blocks written under the safeguards (R319 to R322, R326 to R330), and scalar elements.
-/

namespace Sys2Proof.Machine

/-! ### Operands -/

/-- The answer that stands for two answers together. -/
def worse (a b : MemAnswer) : MemAnswer :=
  match a, b with
  | .drained, _ | _, .drained => .drained
  | .denied, _ | _, .denied => .denied
  | .error, _ | _, .error => .error
  | .retry, _ | _, .retry => .retry
  | .poison, _ | _, .poison => .poison
  | .ok, .ok => .ok

/-- The read is of a granule of `n` bytes at `a` that are being used. -/
def Prefetch.covers (p : Prefetch) (a n : Nat) : Bool := p.now && decide (a / 64 ≤ p.granule) && decide (p.granule < (a + n + 63) / 64)

/-- Memory's answer to a read of `n` bytes at `a`: to reads issued before, unless they are stale and are made again (R325). -/
def State.memAnswer (s : State) (a n : Nat) : MemAnswer :=
  ((s.txn.prefetch.filter (fun p => p.covers a n && !p.stale)).filterMap (·.ans)).foldl worse (if s.rangePoisoned a n then .poison else .ok)

/-- An operand that lies in some ranges is used at commit: if any read of it is stale it is read again and counted, and its reads
end (R325). -/
def State.useRanges (s : State) (rs : List (Nat × Nat)) : State :=
  let mine (p : Prefetch) : Bool := rs.any (fun r => p.covers r.1 r.2)
  let again := (s.txn.prefetch.filter (fun p => mine p && p.stale)).map (·.granule)
  let s1 := if again = [] then s else again.foldl (fun t g => t.emit (.memRead (64 * g))) (s.bump DEFILE.RA_STAT.REFETCH)
  s1.endReads mine

/-- An operand of one range is used. -/
def State.useOperand (s : State) (a n : Nat) : State := s.useRanges [(a, n)]

/-- Memory holds a granule as an answer shows it. -/
def State.showGranule (s : State) (g data : Nat) (ans : MemAnswer) : State :=
  let s1 := if ans = .ok then s.setMemBytes (64 * g) (natBytes data 64) else s
  let others := s1.poison.filter (· != g)
  { s1 with poison := if ans = .poison then g :: others else if ans = .ok then others else s1.poison }

/-- ENGINE_MEMORY_DATA: a granule of memory returns, for the oldest read of it that waits. The data of a cancelled read is dropped
(R225), and that of a stale one is not used (R325). Where none waits the engine has asked for it at a commit (R322). -/
def execEngineMemoryData (addr : BitVec 40) (data : BitVec 512) (ans : MemAnswer) (s : State) : Host.Outcome State Fault Refusal :=
  let g := addr.toNat / 64
  .next (if !s.isM || s.chip.dieRst || !s.clkOn 2 then s
    else match s.txn.prefetch.find? (fun p => p.granule == g && p.ans.isNone) with
      | some p =>
        let s1 := s.setPrefetch (s.txn.prefetch.erase p ++ (if p.dropped then [] else [{ p with ans := some ans }]))
        if p.dropped || p.stale then s1 else s1.showGranule g data.toNat ans
      | none =>
        let s1 := s.showGranule g data.toNat ans
        let others := s1.txn.prefetch.filter (fun p => !(p.owner.isNone && p.granule == g))
        s1.setPrefetch (if ans = .ok then others else others ++ [{ granule := g, owner := none, ans := some ans, now := true }]))

/-! ### Counters of a context (R308, R309, R326, R330) -/

/-- Capture a safeguard event (R458): 1 BUDGET_SPENT, 2 SCALE_RANGE, 3 ESC_FULL. -/
def State.safeCapture (s : State) (ctx ev : Nat) : State := (s.put DEFILE.SAFE_CAPTURE.CTX ctx).put DEFILE.SAFE_CAPTURE.EVENT ev

/-- A field of a context record takes a value. -/
def State.setCtx (s : State) (ctx w lo width v : Nat) : State :=
  s.setTblPart (ctxIdx ctx w) (setBits (s.tblWord (ctxIdx ctx w)) lo width v)

/-- A count of a context record goes up by one and stops at its end (R309). -/
def State.ctxCount (s : State) (ctx w lo : Nat) : State :=
  s.setCtx ctx w lo 32 (min (bits (s.tblWord (ctxIdx ctx w)).toNat lo 32 + 1) (2 ^ 32 - 1))

/-- The error budget is spent when SAT_COUNT + ESC_COUNT reaches 16 × BUDGET (R330). -/
def State.budget (s before : State) (ctx : Nat) : State :=
  let c := s.ctxOf ctx
  let b := before.ctxOf ctx
  if c.budget ≠ 0 ∧ b.satCount + b.escCount < 16 * c.budget ∧ 16 * c.budget ≤ c.satCount + c.escCount then
    (s.safeCapture ctx 1).raise EV.DEFILE.BUDGET_SPENT ctx
  else s

def State.countSat (s : State) (ctx : Nat) : State := (s.ctxCount ctx 2 32).budget s ctx
def State.countEsc (s : State) (ctx : Nat) : State := (s.ctxCount ctx 3 0).budget s ctx
def State.countNf (s : State) (ctx : Nat) : State := s.ctxCount ctx 3 32

/-! ### Blocks (R283, R302) -/

/-- A run of extents in one stored format. -/
structure Run where
  fmt : Nat
  base : Nat
  deriving DecidableEq, Repr

/-- The run a view page presents, and the run-wide index of the page's element `j` (R302). -/
def Binding.run (b : Binding) : Run := ⟨b.sfmt, b.extent⟩
def Binding.elem (b : Binding) (j : Nat) : Nat := b.xoff * 2 ^ 21 + j

/-- The base of the extent of block `g`, and the block's place in it. -/
def Run.extBase (r : Run) (g : Nat) : Nat := r.base + (g / extentBlocks r.fmt) * extentSize r.fmt
def Run.blk (r : Run) (g : Nat) : Nat := g % extentBlocks r.fmt

/-- Addresses of a block's element field and scale (R283). -/
def Run.elemAddr (r : Run) (g : Nat) : Nat := r.extBase g + r.blk g * elemBytes r.fmt
def Run.scaleAddr (r : Run) (g : Nat) : Nat := r.extBase g + extentElems r.fmt + r.blk g * scaleBytes r.fmt

/-- The identity of element `i` of block `g` (R292). -/
def Run.ident (r : Run) (g i : Nat) : Nat := (r.extBase g / 2 ^ 17) * 2 ^ 22 + r.blk g * blockSize r.fmt + i

/-- The identity of a scalar element in memory (R292). -/
def scalarIdent (a bytes : Nat) : Nat := 2 ^ 63 + a / bytes

/-- The random bits of a context for an identity and a stage (R292). -/
def Ctx.rnd (c : Ctx) (a st : Nat) : Nat := srand c.srKey c.srEpoch a st

/-- A block that has been read: binary32 values, whether each is a NaN of R286, and memory's answer. -/
structure BlockRead where
  vals : List Nat
  special : Bool
  ans : MemAnswer
  deriving DecidableEq, Repr

/-- Read and decode a block, through the escape area where it is escaped (R286, R328). -/
def State.readBlock (s : State) (r : Run) (g : Nat) (texp : Int) : BlockRead × State :=
  let ea := r.elemAddr g
  let sa := r.scaleAddr g
  let ans := worse (s.memAnswer ea (elemBytes r.fmt)) (s.memAnswer sa (scaleBytes r.fmt))
  let field := s.memNat ea (elemBytes r.fmt)
  let sc := s.memNat sa 1
  let z := if fmtZero r.fmt then s.memNat (sa + 1) 1 else 0
  if isPoisonScale r.fmt sc && field != 0 then
    let slot := 64 * bits field 0 32
    let ans2 := worse ans (s.memAnswer slot 64)
    if s.memNat slot 8 = r.ident g 0 then
      let d := decodeBlock 0x10 (s.memNat (slot + 40) 1) 0 (s.memNat (slot + 8) 32) 0
      (⟨d.vals.take (blockSize r.fmt), false, ans2⟩, s)
    else (⟨List.replicate (blockSize r.fmt) fmtFP32.nanCode, true, ans2⟩, s.raise EV.DEFILE.ESC_MISMATCH (ea / 64))
  else
    let d := decodeBlock r.fmt sc z field texp
    (⟨d.vals, d.special, ans⟩, if d.bad then s.raise EV.DEFILE.FMT_CODE_BAD (ea / 64) else s)

/-- Read the blocks of a list. -/
def State.readBlocks (s : State) (r : Run) (texp : Int) : List Nat → List (Nat × BlockRead) × State
  | [] => ([], s)
  | g :: gs =>
    let (b, s1) := s.readBlock r g texp
    let (bs, s2) := s1.readBlocks r texp gs
    ((g, b) :: bs, s2)

/-- The value of run-wide element `e` among blocks read, and whether it is a NaN of R286. -/
def Run.value (r : Run) (bs : List (Nat × BlockRead)) (e : Nat) : Nat × Bool :=
  match bs.find? (fun b => b.1 == e / blockSize r.fmt) with
  | some (_, b) => (b.vals.getD (e % blockSize r.fmt) 0, b.special)
  | none => (0, false)

/-- Memory's answer to the reads of a list of blocks. -/
def State.runAnswer (s : State) (r : Run) (gs : List Nat) : MemAnswer :=
  (gs.map (fun g => (s.readBlock r g 0).1.ans)).foldl worse .ok

/-! ### Safeguards (R326 to R329) -/

/-- The sums of the relative-error check: squares and sums in binary32, in ascending order (R326). -/
def errSums : List (Nat × Nat) → Nat → Nat → Nat × Nat
  | [], e, v => (e, v)
  | (a, d) :: l, e, v => let q := subF a d; errSums l (addF e (mulF q q)) (addF v (mulF a a))

/-- The relative error of a block exceeds 2^−t. -/
def errExceeds (t : Nat) (pairs : List (Nat × Nat)) : Bool :=
  let (e, v) := errSums pairs 0 0
  let lim := scaleF v (-2 * (t : Int))
  !isNanF e && !isNanF lim && decide (keyF lim < keyF e)

/-- Write the fields of a block (R322). -/
def State.putBlock (s : State) (r : Run) (g scale z field : Nat) : State :=
  let s1 := s.engWrite (r.elemAddr g) (natBytes field (elemBytes r.fmt))
  s1.engWrite (r.scaleAddr g) (natBytes (scale + 256 * z) (scaleBytes r.fmt))

/-- The guard unit's block is compared with the encoder's: where they differ, the guard unit's is written (R329). -/
def State.guardCompare (s : State) (ctx addr : Nat) (enc guard : Encoded) : Encoded × State :=
  if enc.scale = guard.scale ∧ enc.zero = guard.zero ∧ enc.field = guard.field then (enc, s)
  else
    (guard, ((((s.bump DEFILE.GUARD_STAT.MISMATCH).put DEFILE.GUARD_CAPTURE.ADDR (addr / 64)).put DEFILE.GUARD_CAPTURE.CTX ctx).put
      DEFILE.GUARD_CAPTURE.VALID 1).raise EV.DEFILE.GUARD_MISMATCH ctx)

/-- The guard unit samples every Nth block encoded (R329): `guard` is its block, of exact quotients. DESIGN CHOICE (log entry 102): the encoder
gives the same block but where the command says that it is in error. -/
def State.guardSample (s : State) (ctx addr : Nat) (guard : Encoded) : Encoded × State :=
  let enc : Encoded := if s.eng.encErr then { guard with scale := guard.scale ^^^ 1 } else guard
  let n := s.get DEFILE.GUARD_CTL.INTERVAL
  if n = 0 then (guard, s)
  else if n ≤ s.eng.guardN + 1 then
    let s1 : State := { s.bump DEFILE.GUARD_STAT.SAMPLED with eng := { s.eng with guardN := 0 } }
    s1.guardCompare ctx addr enc guard
  else (guard, { s with eng := { s.eng with guardN := s.eng.guardN + 1 } })

/-- The image of an escape slot (R327). -/
def escSlot (ident fmt : Nat) (e : Encoded) : Nat := packLow [(ident, 64), (e.field, 256), (e.scale, 8), (fmt, 8)]

/-- A block is counted saturated in the context and in SAFE_STAT.SAT (R326, R327). -/
def State.satBlock (s : State) (ctx : Nat) : State := (s.bump DEFILE.SAFE_STAT.SAT).countSat ctx

/-- Write a block over the error threshold under ERR_POLICY 1: into the escape area, or as encoded where that is full; a slot in a
DRAINING page leaves the block poisoned (R327, R484). -/
def State.escapeBlock (s : State) (ctx : Nat) (r : Run) (g : Nat) (enc esc : Encoded) : State :=
  let nx := s.get DEFILE.ESC_STAT.NEXT
  if s.get DEFILE.ESC_BASE.ADDR = 0 ∨ s.get DEFILE.ESC_LIMIT.SLOTS ≤ nx then
    let s1 := (s.putBlock r g enc.scale enc.zero enc.field).satBlock ctx
    if s1.eng.escFull then s1
    else (({ s1 with eng := { s1.eng with escFull := true } }).safeCapture ctx 3).raise EV.DEFILE.ESC_FULL ctx
  else
    let slot := 64 * s.get DEFILE.ESC_BASE.ADDR + 64 * nx
    if s.pageDrained slot then ((s.putBlock r g (poisonScale r.fmt) 0 0).countNf ctx).reportLost ctx 2
    else
      let s1 := (s.engWrite slot (natBytes (escSlot (r.ident g 0) r.fmt esc) 64)).putBlock r g (poisonScale r.fmt) 0 (slot / 64)
      let s2 := ((s1.put DEFILE.ESC_STAT.NEXT (nx + 1)).bump DEFILE.SAFE_STAT.ESC).countEsc ctx
      { s2 with eng := { s2.eng with escWrites := (ctx, r.elemAddr g, elemBytes r.fmt, nx) :: s2.eng.escWrites } }

/-- A scale out of range is counted, captured and raised (R326). -/
def State.scaleRange (s : State) (ctx : Nat) (high : Bool) : State :=
  let s1 := s.bump (if high then DEFILE.SAFE_STAT_HI.SCALE_HIGH else DEFILE.SAFE_STAT_HI.SCALE_LOW)
  (s1.safeCapture ctx 2).raise EV.DEFILE.SCALE_RANGE ctx

/-- Encode a block of values and write it under the safeguards; `clamped` says that a GUARD stage clamped an element (R326). -/
def State.encodeWrite (s : State) (ctx : Nat) (r : Run) (g : Nat) (mode : Rnd) (vs : List Nat) (clamped : Bool) : State :=
  let c := s.ctxOf ctx
  let rnd (i : Nat) : Nat := c.rnd (r.ident g i) 7
  let (enc, s0) := s.guardSample ctx (r.elemAddr g) (encodeBlock r.fmt mode c.texp c.nfClamp rnd vs)
  if enc.poisoned then ((s0.bump DEFILE.SAFE_STAT.NF).countNf ctx).putBlock r g enc.scale enc.zero enc.field
  else
    let s1 := if vs.any (fun v => (f32 v).isInf) then s0.bump DEFILE.SAFE_STAT.NF else s0
    let s2 := if enc.low then s1.scaleRange ctx false else s1
    let s3 := if enc.high then (s2.scaleRange ctx true).countSat ctx else s2
    let dec := (decodeBlock r.fmt enc.scale enc.zero enc.field c.texp).vals
    let pairs := (vs.zip dec).filter (fun p => !(f32 p.1).isInf)
    let tooFar := c.errThresh != 0 && errExceeds c.errThresh pairs
    let s4 :=
      if tooFar && c.errEscape then s3.escapeBlock ctx r g enc (encodeBlock 0x10 mode 0 c.nfClamp rnd vs)
      else
        let s5 := s3.putBlock r g enc.scale enc.zero enc.field
        if tooFar then s5.satBlock ctx else s5
    if clamped then s4.countSat ctx else s4

/-- Write a block poisoned (R295, R423). -/
def State.poisonWrite (s : State) (ctx : Nat) (r : Run) (g : Nat) : State :=
  ((s.bump DEFILE.SAFE_STAT.NF).countNf ctx).putBlock r g (poisonScale r.fmt) 0 0

/-! ### Elements written (R319, R320) -/

/-- New values by run-wide element, for one block: `none` where the element is not written. -/
def Run.news (r : Run) (g : Nat) (vals : List (Nat × Nat)) : List (Option Nat) :=
  (List.range (blockSize r.fmt)).map (fun i => (vals.find? (fun v => v.1 == g * blockSize r.fmt + i)).map (·.2))

/-- Write one block, partly or wholly; a partial one is read, merged and encoded again (R320, R321), its old contents an operand like any
other (R325). -/
def State.writeBlock (s : State) (ctx : Nat) (r : Run) (g : Nat) (mode : Rnd) (vals : List (Nat × Nat)) (clamped : List Nat) : State :=
  let news := r.news g vals
  let hit := clamped.any (fun e => e / blockSize r.fmt == g)
  if news.all Option.isSome then s.encodeWrite ctx r g mode (news.map (·.getD 0)) hit
  else
    let (old, s1) := (s.useRanges [(r.elemAddr g, elemBytes r.fmt), (r.scaleAddr g, scaleBytes r.fmt)]).readBlock r g (s.ctxOf ctx).texp
    let nan := old.ans != .ok
    let merged := (List.range (blockSize r.fmt)).map (fun i =>
      ((news.getD i none).getD (if nan then fmtFP32.nanCode else old.vals.getD i 0)))
    (s1.bump DEFILE.SAFE_STAT_HI.PARTIAL_REQUANT).encodeWrite ctx r g mode merged hit

/-- Write elements of a run: every block that holds one of them. -/
def State.writeRun (s : State) (ctx : Nat) (r : Run) (mode : Rnd) (vals : List (Nat × Nat)) (clamped : List Nat) : State :=
  (dedup (vals.map (fun v => v.1 / blockSize r.fmt))).foldl (fun t g => t.writeBlock ctx r g mode vals clamped) s

/-- Write scalar elements one after another from an address; the flag says that a finite value was clamped (R274, R326). -/
def State.writeScalars (s : State) (ctx fmt a : Nat) (mode : Rnd) : List Nat → Bool × State
  | [] => (false, s)
  | v :: vs =>
    let b := fmtBytes fmt
    let (code, sat) := (scalarFmt fmt).convert mode ((s.ctxOf ctx).rnd (scalarIdent a b) 7) (f32 v)
    let (sats, s1) := (s.engWrite a (natBytes code b)).writeScalars ctx fmt (a + b) mode vs
    (sat || sats, s1)

/-- The binary32 value of the scalar at an address. -/
def State.readScalar (s : State) (fmt a : Nat) : Nat := widen fmt (s.memNat a (fmtBytes fmt))

end Sys2Proof.Machine
end

