-- ==== Sys2Proof/Machine/Targets.lean ====
section
/-!
DEFINITION. What a request of the engine touches: the rows of its elements (R302, R316), the data it carries (R170), the job it asks for,
and the reads that are issued for it (R227, R325), with the run-ahead buffer (R227) and the stack throttle (R432).
-/

namespace Sys2Proof.Machine

/-! ### Targets: where the elements of y and z lie (R302, R316) -/

/-- The place of a row of elements: a view's run from run-wide element `e0` on, or scalars from an address on. -/
structure Target where
  view : Bool
  run : Run
  e0 : Nat
  fmt : Nat
  addr : Nat
  partialOk : Bool
  deriving DecidableEq, Repr

/-- The row that begins at element `j` of a page; `fmt` is the scalar format of a STORAGE page. -/
def targetAt (b : Binding) (page j fmt : Nat) : Target :=
  { view := b.isView, run := b.run, e0 := b.elem j, fmt := if b.isView then b.vfmt else fmt
    addr := page * 2 ^ 23 + j * fmtBytes fmt, partialOk := b.partialOk }

/-- Elements of a page in a format. -/
def pageElems (fmt : Nat) : Nat := 2 ^ 23 / fmtBytes fmt

/-- The identity of element `k` of the row (R292). -/
def Target.ident (t : Target) (k : Nat) : Nat :=
  if t.view then t.run.ident ((t.e0 + k) / blockSize t.run.fmt) ((t.e0 + k) % blockSize t.run.fmt)
  else scalarIdent (t.addr + k * fmtBytes t.fmt) (fmtBytes t.fmt)

/-- The block of a view row that holds its element `k`, and the blocks that hold the elements `ks`. -/
def Target.block (t : Target) (k : Nat) : Nat := (t.e0 + k) / blockSize t.run.fmt
def Target.blocks (t : Target) (ks : List Nat) : List Nat := dedup (ks.map t.block)

/-- The memory ranges that hold the elements `ks`. -/
def Target.ranges (t : Target) (ks : List Nat) : List (Nat × Nat) :=
  if t.view then
    ((t.blocks ks).map (fun g => [(t.run.elemAddr g, elemBytes t.run.fmt), (t.run.scaleAddr g, scaleBytes t.run.fmt)])).flatten
  else ks.map (fun k => (t.addr + k * fmtBytes t.fmt, fmtBytes t.fmt))

/-- Memory's answer to reading the elements `ks`. -/
def Target.answer (t : Target) (s : State) (ks : List Nat) : MemAnswer :=
  if t.view then s.runAnswer t.run (t.blocks ks) else ((t.ranges ks).map (fun a => s.memAnswer a.1 a.2)).foldl worse .ok

/-- The binary32 values of the row's first `n` elements, and whether each is a NaN of R286: the elements `ks` are read, others are
+0. -/
def Target.read (t : Target) (s : State) (n : Nat) (ks : List Nat) (texp : Int) : List (Nat × Bool) × State :=
  let s0 := s.useRanges (t.ranges ks)
  if t.view then
    let (bs, s1) := s0.readBlocks t.run texp (t.blocks ks)
    ((List.range n).map (fun k => t.run.value bs (t.e0 + k)), s1)
  else
    ((List.range n).map (fun k => if ks.contains k then (s0.readScalar t.fmt (t.addr + k * fmtBytes t.fmt), false) else (0, false)), s0)

/-- The elements of `ks` whose block has an element that is not among them (R320). -/
def Target.partials (t : Target) (ks : List Nat) : List Nat :=
  let es := ks.map (t.e0 + ·)
  let whole (g : Nat) : Bool := (List.range (blockSize t.run.fmt)).all (fun i => es.contains (g * blockSize t.run.fmt + i))
  if t.view then ks.filter (fun k => !whole (t.block k)) else []

/-- Writing the elements `ks` leaves some block partial where the page does not allow it (R320). -/
def Target.refuses (t : Target) (ks : List Nat) : Bool := !t.partialOk && t.partials ks != []

/-- Write elements; the flag says that a finite scalar was clamped. -/
def Target.write (t : Target) (s : State) (ctx : Nat) (mode : Rnd) (vals : List (Nat × Nat)) (clamped : List Nat) : Bool × State :=
  if t.view then (false, s.writeRun ctx t.run mode (vals.map (fun v => (t.e0 + v.1, v.2))) (clamped.map (t.e0 + ·)))
  else vals.foldl (fun (acc : Bool × State) v =>
    let (b, s1) := acc.2.writeScalars ctx t.fmt (t.addr + v.1 * fmtBytes t.fmt) mode [v.2]
    (acc.1 || b, s1)) (false, s)

/-! ### Data of a request -/

/-- The data of a request as one number, its mask slots apart (R170). -/
def EngReq.data (q : EngReq) : Nat :=
  match q.hdr.operation with
  | some o => slotsNat (q.units.drop (maskSlots o q.hdr.len))
  | none => 0

/-- Byte `i` of the data is enabled (R170). -/
def EngReq.enabled (q : EngReq) (i : Nat) : Bool :=
  match q.hdr.operation with
  | some o => if o.masked then bit (slotsNat (q.units.take (maskSlots o q.hdr.len))) i else true
  | none => false

/-- The request is of an operation. -/
def EngReq.isOp (o : Op) (q : EngReq) : Bool := q.hdr.operation == some o

/-- The page of a request, and its place in it. -/
def EngReq.page (q : EngReq) : Nat := q.hdr.byteAddr / 2 ^ 23
def EngReq.off (q : EngReq) : Nat := q.hdr.byteAddr % 2 ^ 23

/-- The address lies beyond the die-local map: the table is not consulted, and nothing is read (R305). A contribution names no address. -/
def EngReq.beyond (q : EngReq) : Bool := decide (2 ^ 40 ≤ q.hdr.byteAddr) && !q.isOp .contrib

/-- The entry of any page as it stood when the header was taken (R239). -/
def EngReq.entry (q : EngReq) (s : State) (page : Nat) : Option Word := (q.binds.lookup page).getD (s.entryOf page)

/-- The word that an atomic operation works on (R324). -/
def EngReq.word (q : EngReq) : Nat := q.hdr.byteAddr + 8 * q.hdr.atWord

/-- Accumulator of the first element of a contribution, and the number of its elements (R345). -/
def State.contribAt (s : State) (h : Hdr) : Nat × Nat :=
  let b := fmtBytes (s.win h.window WIN.IN_FMT)
  (h.offset * 64 / b, h.bytes / b)

/-- The memory accumulators of a contribution to a window in MODE 2: address and bytes (R357). -/
def State.contribMem (s : State) (h : Hdr) : Nat × Nat :=
  let (k0, cnt) := s.contribAt h
  (64 * s.win h.window WIN.MEM_BASE + 4 * k0, 4 * cnt)

/-! ### Jobs: transforms and view writes (R316, R319 to R323) -/

/-- A transform or view write: the recipe with its use and slot, if any, and the elements of x by place. -/
structure XfJob where
  use : RcpUse
  rcp : Option Rcp
  slot : Nat
  xs : List (Nat × Nat)
  n : Nat
  xFmt : Nat
  /-- a mask that enables only some bytes of an element (R320) -/
  split : Bool
  deriving DecidableEq, Repr

/-- The places written. -/
def XfJob.ks (j : XfJob) : List Nat := j.xs.map (·.1)

/-- The job of a view write on a page. -/
def State.writeJob (s : State) (q : EngReq) (b : Binding) : XfJob :=
  let sz := fmtBytes b.vfmt
  let n := q.hdr.bytes / sz
  let on (k : Nat) : Nat := ((List.range sz).filter (fun i => q.enabled (k * sz + i))).length
  let ks := (List.range n).filter (fun k => on k == sz)
  { use := .viewWrite, rcp := if b.rcpEn then some (s.recipe b.recipe) else none, slot := b.recipe
    xs := ks.map (fun k => (k, widen b.vfmt (bits q.data (8 * sz * k) (8 * sz)))), n := n, xFmt := b.vfmt
    split := (List.range n).any (fun k => on k != 0 && on k != sz) }

/-- The job of a transform. A VFMT that names no scalar format has no element size, so that no element is placed (R270, R305, R316). -/
def State.xfJob (s : State) (u : RcpUse) (q : EngReq) (b : Binding) : XfJob :=
  let h := q.hdr
  let r := s.recipe h.recipe
  let xf := if h.vfmt ≠ 0 then h.vfmt else if b.isView then b.vfmt else r.yFmt
  let sz := fmtBytes xf
  let n := if vfmtBad h.vfmt then 0 else h.bytes / sz
  { use := u, rcp := some r, slot := h.recipe, n := n, xFmt := xf, split := false
    xs := (List.range n).map (fun k => (k, widen xf (bits q.data (8 * sz * k) (8 * sz)))) }

/-- The use of a recipe by a transform. -/
def EngReq.xfUse (q : EngReq) : Option RcpUse :=
  match q.hdr.operation with
  | some .xfApply => some .apply | some .xfApplyR => some .applyR | some .xfAcc => some .acc | _ => none

/-- The request is a view read, or a view write. -/
def EngReq.isRead (q : EngReq) : Bool := q.isOp .rd
def EngReq.isWrite (q : EngReq) : Bool := q.isOp .wr || q.isOp .wrP || q.isOp .wrBe || q.isOp .wrBeP

/-- The z page of a recipe, if it exists (R316). -/
def zPage (page : Nat) (r : Rcp) : Option Nat :=
  let p := (page : Int) + r.zOff
  if 0 ≤ p ∧ p < 131072 then some p.toNat else none

/-- The rows of a job, and what it does with them. -/
structure XfRows where
  y : Target
  z : Target
  zp : Option Nat
  /-- the fields of the z page's entry -/
  zb : Binding
  writesY : Bool
  readsY : Bool
  writesZ : Bool
  readsZ : Bool
  /-- the first element's place in its page -/
  j0 : Nat
  /-- the format of y's elements is known -/
  known : Bool
  deriving DecidableEq, Repr

/-- z is used: its page is checked (R316). -/
def XfRows.usesZ (w : XfRows) : Bool := w.writesZ || w.readsZ

/-- The rows of a job of a request whose page has an entry with the fields `b`. A slot that is not valid names no operands. DESIGN CHOICE (log entry
100): where y is a scalar of a Y_FMT that is not scalar and is not accessed, the elements' index, of z and of the identity, is counted in bytes. -/
def State.rowsOf (s : State) (q : EngReq) (b : Binding) (j : XfJob) : XfRows :=
  let r := j.rcp.getD ⟨0, [], []⟩
  let live := j.rcp.isSome && r.valid
  let yFmt := if b.isView then b.vfmt else r.yFmt
  let j0 := q.off / fmtBytes yFmt
  let zp := zPage q.page r
  let zb := Binding.of (zp.bind (q.entry s))
  { y := targetAt b q.page j0 yFmt, z := targetAt zb (zp.getD 0) j0 r.zFmt, zp := zp, zb := zb
    writesY := j.rcp.isNone || (live && r.writesY j.use), readsY := live && (r.reads j.use 2 || r.used.any stIsAcc)
    writesZ := live && r.outZ != 0, readsZ := live && r.reads j.use 3, j0 := j0, known := b.isView || (r.valid && fmtScalar r.yFmt) }

/-- The elements of y, and of z, whose old contents a job needs (R316, R320). -/
def XfRows.needY (w : XfRows) (j : XfJob) : List Nat := if w.readsY then j.ks else if w.writesY then w.y.partials j.ks else []
def XfRows.needZ (w : XfRows) (j : XfJob) : List Nat := if w.readsZ then j.ks else if w.writesZ then w.z.partials j.ks else []

/-- The job that a request asks for. -/
def State.jobOf (s : State) (q : EngReq) : Option XfJob :=
  let b := Binding.of q.bind
  match q.xfUse with
  | some u => some (s.xfJob u q b)
  | none => if q.isWrite then some (s.writeJob q b) else none

/-- The row of a view read. -/
def EngReq.viewRow (q : EngReq) : Target :=
  let b := Binding.of q.bind
  targetAt b q.page (q.off / fmtBytes b.vfmt) b.vfmt

/-- The memory ranges that a request reads, and those that it reads or writes. -/
def State.reads (s : State) (q : EngReq) : List (Nat × Nat) :=
  if q.beyond then []
  else if q.isOp .contrib then (if s.win q.hdr.window WIN.MODE = 2 then [s.contribMem q.hdr] else [])
  else match s.jobOf q with
    | some j => let w := s.rowsOf q (Binding.of q.bind) j; w.y.ranges (w.needY j) ++ (if w.usesZ then w.z.ranges (w.needZ j) else [])
    | none =>
      if q.isRead then q.viewRow.ranges (List.range (q.hdr.bytes / fmtBytes (Binding.of q.bind).vfmt)) else [(q.word, 8)]
def State.touches (s : State) (q : EngReq) : List (Nat × Nat) :=
  match if q.beyond then none else s.jobOf q with
  | some j =>
    let w := s.rowsOf q (Binding.of q.bind) j
    s.reads q ++ (if w.writesY then w.y.ranges j.ks else []) ++ (if w.writesZ then w.z.ranges j.ks else [])
  | none => s.reads q

/-- The pages whose entries decide whether a request's accesses to memory go on while memory is drained (R240, R303, R484). -/
def State.pagesOf (s : State) (q : EngReq) : List Nat :=
  if q.beyond then []
  else if q.isOp .contrib then (s.reads q).map (fun r => r.1 / 2 ^ 23) ++ (s.reads q).map (fun r => (r.1 + r.2 - 1) / 2 ^ 23)
  else match s.jobOf q with
    | some j => let w := s.rowsOf q (Binding.of q.bind) j; q.page :: (if w.usesZ then w.zp.toList else [])
    | none => [q.page]

/-- Some access of a request to memory is held by the stack throttle (R432). -/
def State.reqHeld (s : State) (q : EngReq) : Bool := (s.touches q).any (fun a => s.stkHeld a.1 || s.stkHeld (a.1 + a.2 - 1))

/-! ### Reads issued for a request (R227, R325) -/

/-- The operands of a request are fetched, but for those that the stack throttle holds. -/
def State.issueReads (s : State) (q : EngReq) : State :=
  let gs := (dedup (((s.reads q).map (fun a => granules a.1 a.2)).flatten)).filter (fun g => !s.stkHeld (64 * g))
  gs.foldl (fun t g => (t.emit (.memRead (64 * g))).setPrefetch (t.txn.prefetch ++ [{ granule := g, owner := some (q.seq, q.hdr.tag) }])) s

/-- A transaction of the run-ahead buffer as the engine sees it before its confirmation. -/
def Ahead.req (a : Ahead) (s : State) : EngReq :=
  { hdr := a.hdr, units := [], release := none, late := false, bind := if 2 ^ 40 ≤ a.hdr.byteAddr then none else s.entryOf (a.hdr.byteAddr / 2 ^ 23), seq := a.seq, ahead := true }

/-- There is room in the run-ahead buffer: results of at most 64 unconfirmed sequences, and 32 KiB of result data (R227). -/
def State.aheadRoom (s : State) (a : Ahead) : Bool :=
  let seqs := dedup ((s.txn.runAhead.filter (fun e => !e.conf)).map (·.seq))
  (seqs.contains a.seq || decide (seqs.length < 64)) && decide ((s.txn.runAhead.map (fun e => e.hdr.bytes)).sum + a.hdr.bytes ≤ 32768)

/-- The engine takes the transactions that wait, in order, as far as there is room (R227). -/
def State.fillFrom (s : State) : List Ahead → State
  | [] => s.setTxn fun t => { t with aheadWait := [] }
  | a :: rest =>
    if s.on TXN.SPEC_CTL.RUNAHEAD_EN && s.aheadRoom a then
      ((s.setTxn fun t => { t with runAhead := t.runAhead ++ [a] }).issueReads (a.req s)).fillFrom rest
    else s.setTxn fun t => { t with aheadWait := a :: rest }
def State.fillAhead (s : State) : State := if s.txn.aheadWait = [] then s else s.fillFrom s.txn.aheadWait

end Sys2Proof.Machine
end

