-- ==== Sys2Proof/Machine/DmaOps.lean ====
section
/-!
DEFINITION. Operations of the DMA channels that other families need: program fetches (R376), completion records (R386, R387),
halts (R389), Lowland (R391) and the disable bit (R390).
-/

namespace Sys2Proof.Machine

/-- A channel's state (R374). -/
def DMA.idle : Nat := 0
def DMA.running : Nat := 1
def DMA.waiting : Nat := 2
def DMA.halted : Nat := 3
def DMA.disabled : Nat := 4

/-- A channel. -/
def State.chan (s : State) (n : Nat) : DmaChan := s.dma.getD n {}

/-- Replace a channel. -/
def State.setChan (s : State) (n : Nat) (f : DmaChan → DmaChan) : State := { s with dma := s.dma.modify n f }

/-- STATE of a channel. -/
def State.chState (s : State) (n : Nat) : Nat := s.get (DMA.CH_STAT.STATE n)

/-- The channel is RUNNING or WAITING. -/
def State.chBusy (s : State) (n : Nat) : Bool := s.chState n == DMA.running || s.chState n == DMA.waiting

/-- A channel enters WAITING for a cause: 0 beat, 1 request line, 2 fill level, 3 queue full. -/
def State.chWait (s : State) (n on : Nat) : State := (s.put (DMA.CH_STAT.STATE n) DMA.waiting).put (DMA.CH_STAT.WAIT_ON n) on

/-- The cause of a wait has ended. -/
def State.chRun (s : State) (n : Nat) : State :=
  if s.chState n = DMA.waiting then (s.put (DMA.CH_STAT.STATE n) DMA.running).put (DMA.CH_STAT.WAIT_ON n) 0 else s

/-- The assembly paces by fill levels (W2-8), not by request lines (R384, R50). -/
def State.paceByFill (s : State) : Bool := s.get IDENT.FUSE_STAT.ASSY == 1

/-- The fill level last driven for a channel. -/
def State.fillOf (s : State) (n : Nat) : Nat := (Sparse.find s.inp.dmqFill n).getD 0

/-- The pacing gate follows the fill level and its marks (R384). -/
def State.gateUpdate (s : State) (n : Nat) : State :=
  let f := s.fillOf n
  s.setChan n fun c =>
    { c with gateShut := if s.get (DMA.CH_WM.HIGH n) ≤ f then true else if f ≤ s.get (DMA.CH_WM.LOW n) then false else c.gateShut }

/-! ### Accesses (R379, R388, R461) -/

/-- Program fetches and reads of a MOVE. -/
def DmaUse.isRead : DmaUse → Bool
  | .fetch _ | .read => true
  | .write | .record => false

/-- The accesses of a channel that have not ended; RD_OUT and WR_OUT count those that are outstanding (R461). -/
def State.setAcc (s : State) (n : Nat) (l : List DmaAccess) : State :=
  ((s.setChan n fun c => { c with acc := l }).put (DMA.CH_CNT.RD_OUT n) (l.filter (fun a => a.use.isRead && !a.got)).length).put
    (DMA.CH_CNT.WR_OUT n) (l.filter (fun a => !a.use.isRead)).length

/-- An access is issued. -/
def State.addAcc (s : State) (n : Nat) (a : DmaAccess) : State := s.setAcc n ((s.chan n).acc ++ [a])

/-- An access has ended. -/
def State.endAcc (s : State) (n : Nat) (a : DmaAccess) : State := s.setAcc n ((s.chan n).acc.erase a)

/-- An access waits for its retry. -/
def State.retrying (s : State) (n : Nat) : Bool := (s.chan n).acc.any (·.due.isSome)

/-- Accesses that are wanted no more: the data of reads is discarded when it returns. What waits for a retry is dropped (R390); a halt
lets the writes among it finish (R389). -/
def giveUp (l : List DmaAccess) (halt : Bool := false) : List DmaAccess :=
  (l.filter (fun a => (a.due.isNone || (halt && !a.use.isRead)) && !a.got)).map (fun a => if a.use.isRead then { a with gone := true } else a)

/-- The channel goes on with its program: it is RUNNING or WAITING, does not halt, and no access of it waits for a retry. -/
def State.chIssues (s : State) (n : Nat) : Bool := s.chBusy n && (s.chan n).halting.isNone && !s.retrying n

/-- Where a raw access goes: only DRAINING and ABSENT pages are answered, and one whose entry is uncorrectable (R379, R422). -/
def State.rawRoute (s : State) (a : Nat) : Route :=
  let page := a / 2 ^ 23 % 131072
  match s.entryOf page with
  | none => .bad page 6
  | some w =>
    match (Binding.mk w.toNat).kind with
    | some .draining => .answer .drained .none
    | some .absent => .answer .denied .none
    | _ => .direct

/-- A raw access to `n` bytes. -/
def State.rawRouteN (s : State) (a n : Nat) : Route := if s.rawRoute a = .direct then s.rawRoute (a + n - 1) else s.rawRoute a

/-- ERR of a status other than OK (R388); none is a bus error. -/
def statusErr : Status → Option Nat
  | .denied => some 5 | .fmtRefused => some 6 | .drained => some 7 | .poison => some 8 | _ => none

/-- ERR of an answer of memory other than data or acceptance; none is a bus error. -/
def answerErr : MemAnswer → Option Nat
  | .poison => some 8 | .drained => some 7 | .denied => some 5 | .ok | .error | .retry => none

/-- ERR of an access that its page turns away, if it does. -/
def Route.err : Route → Option (Option Nat)
  | .direct | .engine => none
  | .answer st _ => some (statusErr st)
  | .bad _ _ => some (some 5)

/-- A bad entry is counted (R300, R422). -/
def State.seeRoute (s : State) : Route → State
  | .bad page cause => s.bindBad page cause
  | _ => s

/-- The unit the channel needs next: its PC, or the offset of the piece it has come to (R376, R378). -/
def State.chNeed (s : State) (n : Nat) : Nat :=
  match (s.chan n).mov with
  | some m => s.get (DMA.CH_STAT.PC n) + 1 + (if bits m.word 4 2 = 0 then 0 else m.piece / 4)
  | none => s.get (DMA.CH_STAT.PC n)

/-- A program unit, if its group is held. -/
def State.chUnit (s : State) (n u : Nat) : Option Nat := (Sparse.find (s.chan n).groups (u / 8)).map (fun g => bits g (128 * (u % 8)) 128)

/-! ### Completion queue (R386, R387) -/

/-- Records issued and not consumed. -/
def State.cqUsed (s : State) (n : Nat) : Nat :=
  (s.get (DMA.CQ_TAIL.COUNT n) + 2 ^ 17 - s.get (DMA.CQ_HEAD.COUNT n)) % 2 ^ 17

/-- The queue is full. -/
def State.cqFull (s : State) (n : Nat) : Bool := s.cqUsed n == 2 ^ s.get (DMA.CQ_CTL.SIZE n)

/-- The piece bytes written since START. -/
def State.bytesWritten (s : State) (n : Nat) : Nat := s.get (DMA.CH_CNT_HI.BYTES_WRITTEN n)

/-- Where the next record goes. -/
def State.cqSlot (s : State) (n : Nat) : Nat := s.get (DMA.CQ_BASE.ADDR n) + 32 * (s.get (DMA.CQ_TAIL.COUNT n) % 2 ^ s.get (DMA.CQ_CTL.SIZE n))

/-- The completion record that the channel would issue now. -/
def State.cqRecord (s : State) (n kind err user : Nat) : Nat :=
  let phase := 1 - (s.get (DMA.CQ_TAIL.COUNT n) / 2 ^ s.get (DMA.CQ_CTL.SIZE n)) % 2
  packLow [(n, 2), (phase, 1), (kind, 3), (0, 2), (err, 8), (0, 16), (user, 32), (s.beat.toNat, 64), (s.bytesWritten n, 48),
    (s.get (DMA.CH_STAT.PC n), 24), (s.get (DMA.CH_CNT.RETRIES n), 8), (0, 48)]

/-- Issue a record: one 32-byte write, and TAIL counts it. -/
def State.cqIssue (s : State) (n kind err user : Nat) : State :=
  let a := s.cqSlot n
  let bs := natBytes (s.cqRecord n kind err user) 32
  (((s.emit (.memWrite a bs)).noteWrites a 32).addAcc n { use := .record, addr := a, bytes := bs, sent := true }).put
    (DMA.CQ_TAIL.COUNT n) (s.get (DMA.CQ_TAIL.COUNT n) + 1)

/-! ### Halts (R389) -/

/-- The HALT record goes out, or waits for the queue; one into a page that turns it away is dropped (R484). -/
def State.haltRecord (s : State) (n : Nat) : State :=
  let err := s.get (DMA.CH_STAT.ERR n)
  let pc := s.get (DMA.CH_STAT.PC n)
  if s.cqFull n then
    ((s.setChan n fun c => { c with haltPend := true }).put (DMA.CH_STAT.WAIT_ON n) 3).raise (EV.DMA.DMA_CQ_FULL n) (s.get (DMA.CQ_TAIL.COUNT n))
  else if s.stkHeld (s.cqSlot n) then s.setChan n fun c => { c with haltPend := true }
  else
    let s1 := (s.setChan n fun c => { c with haltPend := false }).put (DMA.CH_STAT.WAIT_ON n) 0
    let r := s1.rawRoute (s1.cqSlot n)
    (if r = .direct then s1.cqIssue n 1 err 0 else s1.seeRoute r).raise (EV.DMA.DMA_HALT n) (err + pc * 2 ^ 16)

/-- A halting channel whose accesses have all finished enters HALTED. -/
def State.haltFinish (s : State) (n : Nat) : State :=
  match (s.chan n).halting with
  | some err =>
    if (s.chan n).acc = [] then
      ((((s.setChan n fun c => { c with halting := none }).put (DMA.CH_STAT.STATE n) DMA.halted).put (DMA.CH_STAT.ERR n) err)).haltRecord n
    else s
  | none => s

/-- A channel halts: it issues nothing new and lets its accesses finish. -/
def State.chHalt (s : State) (n err : Nat) : State :=
  (((s.setChan n fun c => { c with halting := some err, mov := none, waitBeat := none, signal := false, lowHalt := false }).setAcc n
    (giveUp (s.chan n).acc true)).chRun n).haltFinish n

/-- A failed access is issued again: while the channel runs, a write also while it halts, and a record also once the channel has come to
IDLE or HALTED. -/
def State.mayRetry (s : State) (n : Nat) (a : DmaAccess) : Bool :=
  ((s.chan n).halting.isNone || !a.use.isRead) && (s.chBusy n || (a.use == .record && s.chState n != DMA.disabled)) &&
  decide (a.retries < s.get (DMA.CH_CTL.RETRIES n))

/-- An access fails: with a bus error it is due again 1,024 beats later while it has retries left; otherwise the channel halts (R388). A
channel that halts, or runs no more, only sees it end. -/
def State.accFails (s : State) (n : Nat) (a : DmaAccess) (err : Option Nat) : State :=
  if err.isNone && s.mayRetry n a then
    s.setAcc n ((s.chan n).acc.map (fun b => if b = a then { a with due := some (s.ahead 1024) } else b))
  else
    let s1 := s.endAcc n a
    if s1.chBusy n && (s1.chan n).halting.isNone then s1.chHalt n (err.getD 4) else s1.haltFinish n

/-- The program groups to ask for: from the needed unit up to 512 bytes ahead, those neither held nor asked for. What lies ahead in a page
that turns it away is not asked for before it is needed. -/
def State.fetchList (s : State) (n : Nat) : List Nat :=
  let g0 := s.chNeed n / 8
  let a (g : Nat) : Nat := s.get (DMA.CH_PROG.ADDR n) + 128 * g
  (((List.range 5).map (g0 + ·)).takeWhile (fun g => g == g0 || s.rawRouteN (a g) 128 == .direct)).filter (fun g =>
    decide (g < 2 ^ 21) && !s.stkHeld (a g) && (Sparse.find (s.chan n).groups g).isNone && !(s.chan n).acc.any (fun x => x.use == .fetch g))

/-- Ask for a group; its page may turn it away. -/
def State.fetchGroup (s : State) (n g : Nat) : State :=
  let a := s.get (DMA.CH_PROG.ADDR n) + 128 * g
  let x : DmaAccess := { use := .fetch g, addr := a, len := 128 }
  let r := s.rawRouteN a 128
  match r.err with
  | some e => ((s.addAcc n x).seeRoute r).accFails n x e
  | none => (s.emit (.memRead a)).addAcc n x

/-- Ask for the groups of the program that are wanted (R376); where one halts the channel, for none after it (R389). -/
def State.chFetch (s : State) (n : Nat) : State :=
  if s.chIssues n then (s.fetchList n).foldl (fun t g => if t.chIssues n then t.fetchGroup n g else t) s else s

/-- Lowland entry halts a running channel at the end of its instruction; a WAIT is abandoned at once (R155, R389). -/
def State.lowlandHalt (s : State) (n : Nat) : State :=
  if !s.chBusy n || (s.chan n).halting.isSome then s
  else if (s.chan n).mov.isSome || (s.chan n).signal then s.setChan n fun c => { c with lowHalt := true }
  else s.chHalt n 0x0B

/-- An instruction has ended: PC moves on, and a Lowland halt that waited takes place. -/
def State.chNext (s : State) (n pc : Nat) : State :=
  let s1 := ((s.setChan n fun c => { c with mov := none, signal := false, waitBeat := none }).chRun n).put (DMA.CH_STAT.PC n) pc
  if (s.chan n).lowHalt then s1.chHalt n 0x0B
  else if 2 ^ 24 ≤ pc then (s.setChan n fun c => { c with mov := none, signal := false, waitBeat := none }).chHalt n 1
  else s1.chFetch n

/-- DISABLE: the channel stops in every state; what R390 leaves undefined takes free values. -/
def State.chDisable (s : State) (n : Nat) : State :=
  let (a, s1) := s.draw
  let (b, s2) := s1.draw
  let (c, s3) := s2.draw
  let loop (raw : Nat) : DmaLoop := { active := bit raw 0, owner := bits raw 1 24, done := bits raw 25 16, adjS := 0, adjD := 0 }
  let s4 := s3.setChan n fun ch =>
    { ch with mov := none, waitBeat := none, signal := false, halting := none, haltPend := false, lowHalt := false
              loop0 := loop a, loop1 := loop b }
  ((((((s4.setAcc n (giveUp (s.chan n).acc)).put (DMA.CH_STAT.STATE n) DMA.disabled).put (DMA.CH_STAT.WAIT_ON n) 0).put (DMA.CH_STAT.PENDING n) (bits c 0 4)).put
    (DMA.CH_CNT.BYTES_READ_LO n) (bits c 4 36)).put (DMA.CH_CNT_HI.BYTES_READ_HI n) (bits c 40 12)).put (DMA.CH_CNT_HI.BYTES_WRITTEN n) (bits c 52 48)

/-- A SIGNAL is complete: the record has been issued where REC asks for one, the event follows, and STOP ends the program (R383). -/
def State.signalEnd (s : State) (n u : Nat) : State :=
  let user := bits u 16 32
  let pc := s.get (DMA.CH_STAT.PC n)
  let s1 := if bit u 6 then s.cqIssue n 0 0 user else s
  let s2 := if bit u 5 then s1.raise (EV.DMA.DMA_SIGNAL n) user else s1
  if bit u 4 then
    (((s2.setChan n fun c => { c with signal := false, lowHalt := false }).setAcc n (giveUp (s2.chan n).acc)).chRun n).put
      (DMA.CH_STAT.STATE n) DMA.idle
  else s2.chNext n (pc + 1)

/-- A SIGNAL that waits goes on as far as it can: earlier writes accepted, then room in the queue, then a page that takes the record
(R383, R386, R484). -/
def State.signalTry (s : State) (n : Nat) : State :=
  if !(s.chan n).signal || (s.chan n).acc.any (fun a => !a.use.isRead) || s.retrying n then s
  else match s.chUnit n (s.get (DMA.CH_STAT.PC n)) with
    | none => s
    | some u =>
      if bit u 6 && s.cqFull n then
        if s.chState n = DMA.waiting then s else (s.chWait n 3).raise (EV.DMA.DMA_CQ_FULL n) (s.get (DMA.CQ_TAIL.COUNT n))
      else if bit u 6 && s.stkHeld (s.cqSlot n) then s.chRun n
      else
        let r := s.rawRoute (s.cqSlot n)
        match (if bit u 6 then r.err else none) with
        | some e => ((s.chRun n).seeRoute r).chHalt n (e.getD 4)
        | none => (s.chRun n).signalEnd n u

/-- Firmware has written HEAD: a pending HALT record or a waiting SIGNAL may go on (R386, R389). -/
def State.headMoved (s : State) (n : Nat) : State :=
  if (s.chan n).haltPend then (if s.cqFull n then s else s.haltRecord n) else s.signalTry n

/-! ### Memory drains and resets (R240, R391) -/

/-- An outstanding access to memory in a page that is DRAINING now. -/
def State.accDrains (s : State) (a : DmaAccess) : Bool := !a.tbl && a.due.isNone && !a.got && s.pageDrained a.addr

/-- Accesses of a channel that a memory drain waits for are answered DRAINED. -/
def State.drainChan (s : State) (n : Nat) : Nat → State
  | 0 => s
  | k + 1 => match (s.chan n).acc.find? s.accDrains with
    | none => s
    | some a => ((s.accFails n a (some 7)).bump TXN.MDRAIN_STAT.DRAINED).drainChan n k

/-- At a Col or die reset a write that has been issued is performed or not (R391). -/
def State.loseWrites (s : State) : State :=
  (((List.range 4).map (fun n => (s.chan n).acc)).flatten.filter (fun a => a.bytes != [] && !a.use.isRead && a.sent)).foldl (fun t a =>
    let (v, t1) := t.draw
    if v % 2 = 1 then t1.memTake a.addr a.bytes else t1) s

end Sys2Proof.Machine
end

