-- ==== Sys2Proof/Machine/PowerOps.lean ====
section
/-!
DEFINITION. Power states as other families meet them: leaving IDLE_CLOCKED (R426), and waking a parked end (R435, R437).
-/

namespace Sys2Proof.Machine

/-- Replace the power state. -/
def State.setPwr (s : State) (f : Power → Power) : State := { s with pwr := f s.pwr }

/-- The end is in LANES_PARKED. -/
def State.parked (s : State) : Bool := s.get POWER.PWR_STAT.STATE == 2

/-- The engine holds a transaction: confirmed, in run-ahead, or waiting for room there (R426, R437). -/
def State.engHolds (s : State) : Bool := s.txn.engQ != [] || s.txn.runAhead != [] || s.txn.aheadWait != []

/-- Work appears: an idle end runs every block again (R426). -/
def State.busy (s : State) : State := if s.get POWER.PWR_STAT.STATE = 1 then s.put POWER.PWR_STAT.STATE 0 else s

/-- Bulk flit content leaves or arrives (R426, R433). -/
def State.content (s : State) : State := s.busy.setPwr fun p => { p with lastContent := s.beat }

/-- The forwarded clocks of the lane groups in use run again beside the control group's (R80, R435). -/
def State.runClocks (s : State) : State :=
  { s with chip := { s.chip with fwd := BitVec.ofNat 5 (16 + s.get REPAIR.WIDTH_STAT.TX_GROUPS) } }

/-- A trigger wakes a parked end: 1 die, 2 engine, 3 firmware, 4 far clock, 5 proposal. With ECLK stopped it waits (R437). -/
def State.wake (s : State) (trigger : Nat) : State :=
  if !s.parked || s.pwr.waking then s
  else if s.isM && !s.clkOn 2 then
    (s.put POWER.PWR_STAT.WAIT_ECLK 1).setPwr fun p => { p with waitEclk := some (p.waitEclk.getD trigger) }
  else
    (((s.bump POWER.PARK_STAT.WAKES).setPwr fun p => { p with waking := true, waitEclk := none }).runClocks).raise EV.POWER.WOKEN trigger

/-- The data lanes are taken into use by a calibration: a park that is under way ends, and a parked end wakes, as by the far end's clocks
(R426, R435). -/
def State.unpark (s : State) : State := (s.wake 4).setPwr fun p => { p with stopping := false }

/-- HELD[s] of a stack (R463). -/
def stkHeldField : Nat → Field
  | 0 => POWER.STK_STAT.HELD0
  | 1 => POWER.STK_STAT.HELD1
  | 2 => POWER.STK_STAT_HI.HELD2
  | _ => POWER.STK_STAT_HI.HELD3

/-- Beats since the levels, or the condition to apply them, last changed count as throttled for each stack with a level above 0. -/
def State.accrue (s : State) : State :=
  let n := (s.beat - s.pwr.thrSince).toNat
  let s1 := if s.stkApplies then ((List.range 4).filter (fun k => s.stkLevel k != 0)).foldl (fun t k => t.bumpBy (stkHeldField k) n) s else s
  s1.setPwr fun p => { p with thrSince := s1.beat }

/-- An MCLK edge samples the pins (R31). -/
def State.latchPins (s : State) : State :=
  let p := s.inp.pin
  { s with inp := { s.inp with temp := p.temp, tempValid := p.tempValid, budget := p.budget, budgetValid := p.budgetValid, stkThr := p.stkThr } }

/-- The hot limit comes into force at HOT, with TEMP_HOT, and is lifted 5 °C below it (R431). -/
def State.hotCheck (s : State) : State :=
  let t := toInt 10 s.inp.temp.toNat
  let hot := toInt 10 (s.get POWER.TEMP_CTL.HOT)
  if !s.inp.tempValid then s
  else if !s.pwr.hot && decide (hot ≤ t) then
    let s1 := (s.setPwr fun p => { p with hot := true }).raise EV.POWER.TEMP_HOT s.inp.temp.toNat
    if s1.isM then s1.put POWER.BUDGET_STAT.ENG_CAP (min 16 (s1.get POWER.BUDGET_STAT.ENG_CAP)) else s1
  else if s.pwr.hot && decide (t ≤ hot - 20) then s.setPwr fun p => { p with hot := false }
  else s

/-- A proposal that a parked end must not make yet: the end wakes first (R435). -/
def State.deferProposal (s : State) (t : Trigger) : State :=
  (s.setPwr fun p => { p with afterWake := if p.afterWake.contains t then p.afterWake else p.afterWake ++ [t] }).wake 5

end Sys2Proof.Machine
end

