-- ==== Sys2Proof/Machine/RegWrite.lean ====
section
/-!
DEFINITION. Writes of registers, whole or refused (R440): what a write of each register needs and does besides taking its fields
(R443 to R464), the reading of Basin lines (R333, R338, R459), and the application of an overlay slot (R468, R469).
-/

namespace Sys2Proof.Machine

/-! ### Pending trims (R115, R129) -/

/-- The register field of a trim's CODE, PENDING and PEND_V. -/
def trimCode : TrimKind → Nat → Field
  | .duty, i => CAL.TRIM_DUTY.CODE i
  | .phase, i => CAL.TRIM_PHASE.CODE i
  | .deskew, i => CAL.TRIM_DESKEW.CODE i
  | .offset, i => CAL.TRIM_OFFSET.CODE i

def trimPending : TrimKind → Nat → Field
  | .duty, i => CAL.TRIM_DUTY.PENDING i
  | .phase, i => CAL.TRIM_PHASE.PENDING i
  | .deskew, i => CAL.TRIM_DESKEW.PENDING i
  | .offset, i => CAL.TRIM_OFFSET.PENDING i

def trimPendV : TrimKind → Nat → Field
  | .duty, i => CAL.TRIM_DUTY.PEND_V i
  | .phase, i => CAL.TRIM_PHASE.PEND_V i
  | .deskew, i => CAL.TRIM_DESKEW.PEND_V i
  | .offset, i => CAL.TRIM_OFFSET.PEND_V i

/-- A code waits for the next application point. -/
def State.pend (s : State) (k : TrimKind) (i : Nat) (code : Nat) : State :=
  (s.put (trimPending k i) code).put (trimPendV k i) 1

/-! ### Reading a Basin line (R332, R338, R459) -/

/-- The window that uses a line for its accumulators. -/
def State.lineWindow (s : State) (line : Nat) : Option Nat :=
  (List.range 1024).find? (fun n =>
    s.win n WIN.STATE != 0 && s.win n WIN.MODE < 2 && s.win n WIN.BASE_LINE ≤ line && line < s.win n WIN.BASE_LINE + s.accLines n)

/-- Accumulator `j` of an exact line, and its NF bit (R332). -/
def exactAcc (l j : Nat) : Int := toInt 96 (bits l (96 * j) 96)
def exactNf (l j : Nat) : Bool := bit l (504 + j)

/-- The binary32 code that an exact accumulator reads as (R338). -/
def exactRead (xw : Int) (l j : Nat) : Nat :=
  if exactNf l j then fmtFP32.nanCode
  else
    let a := exactAcc l j
    toF32 (.fin (decide (a < 0)) a.natAbs (xw - 64))

/-- What a peek of a line returns: raw, or the five values of an exact line (R459). -/
def State.peekLine (s : State) (line : Nat) (conv : Bool) : Nat :=
  let l := (s.line line).toNat
  match s.lineWindow line with
  | some n =>
    if conv && s.win n WIN.MODE == 1 then packLow ((List.range 5).map (fun j => (exactRead (toInt 8 (s.win n WIN.XWIN_CAP)) l j, 32)))
    else l
  | none => l

/-- Copy a line into PEEK_DATA0 to PEEK_DATA7. -/
def State.peek (s : State) : State :=
  let v := s.peekLine (s.get BASIN.PEEK_CTL.LINE) (s.on BASIN.PEEK_CTL.CONV)
  (List.range 8).foldl (fun t k => t.put (BASIN.PEEK_DATA.DATA k) (bits v (64 * k) 64)) s

/-! ### Register rules -/

/-- A trim register at a byte offset of the CAL page. -/
def trimAt (off : Nat) : Option (TrimKind × Nat) :=
  if 0x128 ≤ off ∧ off < 0x150 then some (.duty, (off - 0x128) / 8)
  else if 0x150 ≤ off ∧ off < 0x178 then some (.phase, (off - 0x150) / 8)
  else if 0x200 ≤ off ∧ off < 0x688 then some (.deskew, (off - 0x200) / 8)
  else if 0x690 ≤ off ∧ off < 0xB18 then some (.offset, (off - 0x690) / 8)
  else none

/-- The offset codes that R115 excludes: −32, −31 and +31. -/
def offsetExcluded (code : Nat) : Bool := [0x20, 0x21, 0x1F].contains code

/-- The channel of a register of the DMA page and the offset in its block; queue registers come after 0x100. -/
def dmaReg (off : Nat) : Nat × Nat :=
  if off < 0x200 then ((off - 0x100) / 0x40, (off - 0x100) % 0x40) else ((off - 0x200) / 0x20, 0x100 + (off - 0x200) % 0x20)

/-- A write that the present state does not allow, whatever its data: STATE, BUSY or ADDRESS. -/
def State.stateRefusal (s : State) (page off : Nat) (data : Word) : Option Reason :=
  match page with
  | 0 => if off = 0x130 then some .state else none
  | 2 => if 0x200 ≤ off && !s.colIn [.cal, .active, .lowland] then some .state else none
  | 3 =>
    match trimAt off with
    | some _ => if !s.colIn [.active, .lowland] then some .state else if s.cal.run.isSome then some .busy else none
    | none => none
  | 9 =>
    if off = 0x108 && !s.colIn [.off, .resetHeld, .sbUp, .ident, .cal, .repair, .creditInit] then some .state else none
  | 11 =>
    if off = 0x138 && s.on BASIN.INIT_STAT.RUNNING then some .state
    else if off = 0x110 && data.getLsbD 0 && !s.on BASIN.INIT_STAT.DONE then some .state
    else none
  | 12 =>
    if off < 0x100 then none
    else
      let (n, r) := dmaReg off
      if [0x00, 0x10, 0x100, 0x108].contains r && s.chBusy n then some .state else none
  | 13 =>
    if off = 0x100 then (if s.prole == 0 || s.prole == 6 then none else some .state)
    else if [0x108, 0x138, 0x140].contains off && s.prole != 0 then some .state
    else none
  | 15 =>
    if off = 0x100 then (if s.on TEST.WRAP_STAT.OWNER then some .busy else if s.on TEST.TEST_STAT.RUNNING then some .state else none) else none
  | _ => none

/-- Capabilities are agreed, and this one is not among them: no write may enable it (R111). -/
def State.lacksCap (s : State) (b : Nat) : Bool := s.on IDENT.CAP_AGREED.VALID && !bit (s.get IDENT.CAP_AGREED.CAP) b

/-- A write whose data the register's own rule turns away. -/
def State.ownRefusal (s : State) (page off : Nat) (data : Word) : Option Reason :=
  let d := data.toNat
  let range (ok : Bool) : Option Reason := if ok then none else some .range
  match page with
  | 2 =>
    if off = 0x100 && s.lacksCap (d % 4) then some .capability else none
  | 3 =>
    match trimAt off with
    | some (.offset, _) => range !(offsetExcluded (d % 64))
    | _ => none
  | 8 => if 4096 * 8 + off = TXN.LEVEL_CTL.TC_MASK.key && bits d TXN.LEVEL_CTL.TC_MASK.lo TXN.LEVEL_CTL.TC_MASK.width != 0 && s.lacksCap 6 then some .capability else none
  | 14 => if 4096 * 14 + off = POWER.PARK_CTL.AUTO.key && bit d POWER.PARK_CTL.AUTO.lo && s.lacksCap 9 then some .capability else none
  | 7 =>
    if off = 0x128 && decide (3072 < bits d 0 12 + bits d 16 12 + bits d 32 12) then some .sum
    else if off = 0x130 && decide (128 < bits d 0 7 + bits d 8 7 + bits d 16 7 + bits d 24 7) then some .sum
    else none
  | 10 =>
    if off = 0x150 then range (decide (bits d 6 32 * 64 + 64 * s.get DEFILE.ESC_LIMIT.SLOTS ≤ 2 ^ 38))
    else if off = 0x158 then range (decide (64 * s.get DEFILE.ESC_BASE.ADDR + 64 * bits d 0 24 ≤ 2 ^ 38))
    else if off = 0x160 then range (decide (bits d 0 24 ≤ s.get DEFILE.ESC_LIMIT.SLOTS))
    else if off = 0x168 then
      let n := bits d 0 17
      range (n == 0 || (decide (16 ≤ n) && decide (n ≤ 65536)))
    else none
  | 12 =>
    if off < 0x100 then none
    else
      let (n, r) := dmaReg off
      if r = 0x30 then range (decide (bits d 0 12 < bits d 16 12))
      else if r = 0x100 then range (d % 32 == 0)
      else if r = 0x118 then
        range (decide ((s.get (DMA.CQ_TAIL.COUNT n) + 2 ^ 17 - bits d 0 17) % 2 ^ 17 ≤ 2 ^ s.get (DMA.CQ_CTL.SIZE n)))
      else none
  | 13 => if off = 0x108 then (if s.isM then range (decide (4 * bits d 20 20 ≤ bits d 0 20)) else none) else none
  | _ => none

/-- What an accepted write does besides leaving the fields in the register, which `t` already holds. -/
def State.afterWrite (t : State) (page off : Nat) : State :=
  match page with
  | 10 => if off = 0x160 then { t with eng := { t.eng with escFull := false } } else t
  | 11 =>
    if off = 0x138 then t.peek
    else if off = 0x110 && t.on (PAGE.SCRUB_CTL.EN 11) then { t with eng := { t.eng with winChecks := true } }
    else t
  | 12 =>
    if off < 0x100 then t
    else
      let (n, r) := dmaReg off
      if r = 0x118 then t.headMoved n
      else if r = 0x30 then t.gateUpdate n
      else if r = 0x100 || r = 0x108 then (t.put (DMA.CQ_TAIL.COUNT n) 0).put (DMA.CQ_HEAD.COUNT n) 0 |>.headMoved n
      else t
  | 13 => if off = 0x100 then t.pairEnter else t
  | 14 => if off = 0x118 then t.hotCheck else t
  | _ => t

/-- Raise the events that a write of EVT_FORCE asks for, with VALUE zero (R443). -/
def State.forceEvents (s : State) (page : Nat) (mask : Word) : State :=
  ((List.range (eventCount page)).filter mask.getLsbD).foldl (fun t b => t.deliver page b 0 true) s

/-- Write a common register of a page: EVT_STAT, EVT_EN, EVT_FORCE or EVT_FIRST (R443). -/
def State.writeCommon (s : State) (page off : Nat) (data : Word) : State :=
  match off with
  | 0x020 => s.setReg (4096 * page + 0x020) (s.reg (4096 * page + 0x020) &&& ~~~ data)
  | 0x028 => s.setReg (4096 * page + 0x028) (data &&& BitVec.ofNat 64 (2 ^ eventCount page - 1))
  | 0x030 => s.forceEvents page data
  | 0x038 => if data.getLsbD 6 then s.put (PAGE.EVT_FIRST.VALID page) 0 else s
  | _ => s

/-- An accepted write of a register above the common ones. -/
def State.acceptWrite (s : State) (page off : Nat) (data : Word) (rw : List RwField) : State :=
  let key := 4096 * page + off
  if page = 2 && decide (0x200 ≤ off) && s.chip.col != .cal then
    let i := (off - 0x200) / 8
    (s.put (PHY.TX_DRIVE.PENDING i) (bits data.toNat 0 4)).put (PHY.TX_DRIVE.PEND_V i) 1
  else match (if page = 3 then trimAt off else none) with
    | some (k, i) => s.pend k i (bits data.toNat 0 (trimCode k i).width)
    | none =>
      let s0 := if key = POWER.THR_CTL.STK_ALWAYS.key then s.accrue else s
      (s0.setReg key (s0.mergeRw (s0.reg key) data rw)).afterWrite page off

/-- Why a host-port write to a register that holds no command is refused. Where several reasons refuse it, the state comes first, then
the fields, then the register's own rule. -/
def State.writeRefusal (s : State) (key : Nat) (data : Word) : Option Reason :=
  let page := key / 4096
  let off := key % 4096
  if !s.present page then some .role
  else if off < 0x100 then none
  else match rowOf key with
    | none => none
    | some row =>
      if row.rw = [] then none
      else ((s.stateRefusal page off data).orElse fun _ => s.fieldRefusal data row.rw).orElse fun _ => s.ownRefusal page off data

/-- A write that nothing refuses takes effect; a register without a field that is written ignores it. -/
def State.takeWrite (s : State) (key : Nat) (data : Word) : State :=
  let page := key / 4096
  let off := key % 4096
  if off < 0x100 then s.writeCommon page off data
  else match rowOf key with
    | none => s
    | some row => if row.rw = [] then s else s.acceptWrite page off data row.rw

/-- A host-port write to a register that holds no command: applied whole, or refused and logged in its page (R439, R440). -/
def State.hostWrite (s : State) (key : Nat) (data : Word) : State :=
  match s.writeRefusal key data with
  | some r => s.refuse key r data
  | none => s.takeWrite key data

/-! ### Overlays (R468, R469) -/

/-- The aperture word index of word `w` of entry `j` of slot `k`. -/
def ovlIdx (k j w : Nat) : Nat := 0x32800 + 128 * k + 2 * j + w

/-- The register at a key holds a WO field. -/
def holdsWo (key : Nat) : Bool :=
  key % 4096 == 0x010 || (match rowOf key with | some r => r.wo != 0 | none => false)

/-- Apply one overlay entry: a host-port write, which counts among those of the slot if nothing refuses it, or a refusal logged in the
target page. An entry whose target's clock does not run is not applied. -/
def State.applyEntry (s : State) (w0 data : Word) : State :=
  let page := bits w0.toNat 4 4
  let off := bits w0.toNat 8 12
  let key := 4096 * page + off
  let takes := decide (off < 0x100) || (rowOf key).any (fun r => r.rw != [])
  let s1 := if takes && (s.writeRefusal key data).isNone then s.put RESET.OVL_STAT.WRITES (s.get RESET.OVL_STAT.WRITES + 1) else s
  if page < 2 || off % 8 ≠ 0 || holdsWo key then s.refuse key .state data
  else if s.clocksOn (s.needs key) then s1.hostWrite key data
  else s

/-- Apply the entries of a slot from entry `j` on, stopping at the first with VALID 0 (R468). -/
def State.applyEntries (s : State) (slot : Nat) : Nat → Nat → State
  | _, 0 => s
  | j, n + 1 =>
    let w0 := s.tblWord (ovlIdx slot j 0)
    if w0.getLsbD 0 then (s.applyEntry w0 (s.tblWord (ovlIdx slot j 1))).applyEntries slot (j + 1) n else s

/-- Apply an overlay slot and record it in OVL_STAT (R469); a slot with an uncorrectable word is not applied (R422). -/
def State.applyOverlay (s : State) (slot : Nat) : State :=
  if s.chip.badOvl.contains slot then (s.put RESET.OVL_STAT.BAD 1).raise EV.RESET.OVERLAY_BAD slot
  else (((s.put RESET.OVL_STAT.LAST slot).put RESET.OVL_STAT.ANY 1).put RESET.OVL_STAT.WRITES 0).applyEntries slot 0 64

end Sys2Proof.Machine
end

