-- ==== Sys2Proof/Machine/Lifecycle.lean ====
section
/-!
DEFINITION. Entry to FAULT and DOWN with the settlement of outstanding work (R96, R206, R207), to LOWLAND (R152 to R155), to
CREDIT_INIT (R181, R200), and the resumption of the streams (R198).
-/

namespace Sys2Proof.Machine

/-- Record why the Col leaves its state (R448): CAUSE and VALID, the state left, and the beat. -/
def State.faultSum (s : State) (cause : Option Nat) : State :=
  (((s.put IDENT.FAULT_SUM.CAUSE (cause.getD 0)).put IDENT.FAULT_SUM.VALID (b2n cause.isSome)).put
    IDENT.FAULT_SUM.FROM s.chip.col.code).put IDENT.FAULT_SUM.BEAT s.beat.toNat

/-- Repairs, width changes, Lowland entries and parks that have not begun are void, and those that run end: masks and groups stay as
they are (R75, R150). -/
def State.voidProps (s : State) : State := { s with rep := { s.rep with props := [], waiting := [], declined := [], yielded := [] } }

/-- A Col that leaves service for DOWN or FAULT shows it to the far end from now on, also when DOWN becomes FAULT (R206). -/
def State.announced (s : State) : State := { s with chip := { s.chip with announce := s.chip.announce || s.colIn inService } }

/-! The causes of one cycle (R471) -/

/-- The place of a cause among those of one cycle: CLOCK_STOP, PHY_UNLOCK and TORN come first, then the lowest event code. -/
def causeRank (code : Nat) : Nat :=
  if code = EV.RESET.CLOCK_STOP.code then 0
  else if code = EV.PHY.PHY_UNLOCK.code then 1
  else if code = EV.RESET.TORN.code then 2
  else 3 + code

/-- The Col has come to its state in this cycle. DESIGN CHOICE (log entry 68): happenings met at one count of a running beat counter are those
of one cycle. -/
def State.thisCycle (s : State) : Bool := s.beatRuns && s.chip.entry == s.beat

/-- The cause that FAULT_SUM keeps of the one it holds and another of the same cycle. -/
def State.firstCause (s : State) (code : Nat) : Nat :=
  let c := s.get IDENT.FAULT_SUM.CAUSE
  if s.on IDENT.FAULT_SUM.VALID && decide (causeRank c ≤ causeRank code) then c else code

/-- FAULT_SUM takes the cause, and so does the value of COL_FAULT if that has been captured in this cycle. -/
def State.keepCause (s : State) (code : Nat) : State :=
  let old := bits (s.reg IDENT.FAULT_SUM.CAUSE.key).toNat 0 16
  let s1 := s.put IDENT.FAULT_SUM.CAUSE (s.firstCause code)
  if s.on (PAGE.EVT_FIRST.VALID 0) && s.get (PAGE.EVT_FIRST.BIT 0) == EV.IDENT.COL_FAULT.bit && !s.on (PAGE.EVT_FIRST.FORCED 0) &&
      s.get (PAGE.EVT_FIRST.VALUE 0) == old then
    s1.put (PAGE.EVT_FIRST.VALUE 0) (bits (s1.reg IDENT.FAULT_SUM.CAUSE.key).toNat 0 16)
  else s1

/-- The fault summary of a Col that goes to FAULT: one that has come to DOWN in this cycle keeps the state it came from (R471, R472). -/
def State.faultSumFor (s : State) (e : Event) : State :=
  if s.chip.col = .down ∧ s.thisCycle = true then (s.put IDENT.FAULT_SUM.CAUSE (s.firstCause e.code)).put IDENT.FAULT_SUM.VALID 1
  else s.faultSum (some e.code)

/-- Raise an event and take the Col to FAULT for it, unless it is there already or off (R96, R207, R471); `torn` for a tear (R259). -/
def State.goFaultBy (s : State) (torn : Bool) (e : Event) (value : Nat) : State :=
  let s1 := s.raise e value
  if s1.chip.col = .off then s1
  else if s1.chip.col = .fault then (if s1.thisCycle then s1.keepCause e.code else s1)
  else
    let s2 := ((((s1.announced.endBurst.faultSumFor e).settle torn).leaveService true).voidProps).setCol .fault
    s2.raise EV.IDENT.COL_FAULT (bits (s2.reg IDENT.FAULT_SUM.CAUSE.key).toNat 0 16)

/-- Raise an event and take the Col to FAULT for it (R96, R207). -/
def State.goFault (s : State) (e : Event) (value : Nat) : State := s.goFaultBy false e value

/-- Take the Col to DOWN, with the cause if there is one (R96, R206, R236).  DESIGN CHOICE (log entry 78): DRAIN_STAT.PHASE keeps its value
when a Col that drains goes to DOWN or FAULT, since R234 and R235 name no return to 0 but a Col reset. -/
def State.goDown (s : State) (cause : Option Nat) : State :=
  let s2 := ((((s.announced.endBurst.faultSum cause).settle false).leaveService true).voidProps).setCol .down
  s2.raise EV.IDENT.COL_DOWN (bits (s2.reg IDENT.FAULT_SUM.CAUSE.key).toNat 0 16)

/-- Raise an event and take the Col to DOWN for it. -/
def State.downFor (s : State) (e : Event) (value : Nat) : State := (s.raise e value).goDown (some e.code)

/-! ### Streams -/

/-- Both replay buffers are acknowledged (R236). -/
def State.bothAcked (s : State) : Bool :=
  s.get BULK.SEQ_STAT.OLDEST == s.get BULK.SEQ_STAT.NEXT_TX && s.get CTRL.SEQ_STAT.OLDEST == s.get CTRL.SEQ_STAT.NEXT_TX

/-- Both streams resume from OLDEST; the bulk replay is counted, neither counts towards a limit, and a NAK episode ends (R198). -/
def State.resumeStreams (s : State) : State :=
  let oB := s.get BULK.SEQ_STAT.OLDEST
  let s1 := if oB = s.get BULK.SEQ_STAT.NEXT_TX then s else s.bump BULK.TX_STAT.REPLAYS
  (s1.put BULK.RPL_STAT.NAK_PENDING 0).setLnk fun k =>
    { k with ptr := oB, cptr := s.get CTRL.SEQ_STAT.OLDEST, nakMark := false }

/-- A stale cut starts at NEXT_RX (R371). -/
def State.startCut (s : State) : State :=
  if s.cap 6 then s.setLnk fun k => { k with cut := some (s.get BULK.SEQ_STAT.NEXT_RX), stall := none } else s

/-- The advertised count of credit index `k` (R199). -/
def State.advertised (s : State) (k : Nat) : Nat :=
  match k with
  | 0 => s.get CREDIT.HDR_CTL.TC0
  | 1 => s.get CREDIT.HDR_CTL.TC1
  | 2 => s.get CREDIT.HDR_CTL.TC2
  | 3 => s.get CREDIT.HDR_CTL.TC3
  | 4 => s.get CREDIT.DATA_CTL.TC1
  | 5 => s.get CREDIT.DATA_CTL.TC2
  | 6 => s.get CREDIT.DATA_CTL.TC3
  | 7 => s.get CREDIT.MSG_CTL.MC0
  | 8 => s.get CREDIT.MSG_CTL.MC1
  | 9 => s.get CREDIT.MSG_CTL.MC3
  | _ => s.get CREDIT.MSG_CTL.MC4

/-- The credit counts of both directions at CREDIT_INIT entry (R181, R199). -/
def State.resetCredit (s : State) (k : Nat) : State :=
  (s.setReg (CREDIT.TX_STAT.AVAIL k).key 0).setReg (CREDIT.RX_STAT.ADV k).key (BitVec.ofNat 64 (s.advertised k * 2 ^ 16))

/-- CREDIT_INIT: every sequence number, acknowledge and credit count is zero, and the advertisements wait to be sent (R181, R200). -/
def State.enterCreditInit (s : State) : State :=
  let s1 := ((s.setCol .creditInit).setReg BULK.SEQ_STAT.NEXT_TX.key 0).setReg CTRL.SEQ_STAT.NEXT_TX.key 0
  let s2 := (List.range 11).foldl State.resetCredit s1
  (s2.put BULK.RPL_STAT.NAK_PENDING 0).setLnk fun _ =>
    { msgQ := (List.range 11).map (fun k => creditMsg 1 k (s.advertised k)) ++ [linkMsg 3 11], msgOut := s.lnk.msgOut, dpoQ := s.lnk.dpoQ, cnfWait := s.lnk.cnfWait }

/-! ### Lowland (R155) -/

/-- In Lowland the token is released, and the DMA channels halt (R400, R391, R155). -/
def State.lowlandHalts (s : State) : State :=
  let s1 := s.leaveService false
  [0, 1, 2, 3].foldl State.lowlandHalt { s1 with eng := { s1.eng with noStart := true } }

/-- What Lowland entry does at once, whatever O0 holds. -/
def State.lowlandEffects (s : State) : State := (s.cancelAll.setLnk fun k => { k with stall := none }).lowlandHalts

end Sys2Proof.Machine
end

