-- ==== Sys2Proof/Machine/Sideband.lean ====
section
/-!
DEFINITION. Receiving a sideband frame: the vote over its three copies (R90 to R92, R102), strikes and lost channels, and the
handing of an accepted frame to the command of its own type.
-/

namespace Sys2Proof.Machine

/-- The strike counter of a channel (R91). -/
def strikesOf : Nat → Field
  | 0 => PHY.SB_STAT.STRIKES0
  | 1 => PHY.SB_STAT.STRIKES1
  | _ => PHY.SB_STAT.STRIKES2

/-- The high bit times on a channel before the SOF of its copy. -/
def copyIdle (c : SbCopies) (ch : Nat) : Nat := match ch with | 0 => c.idle0 | 1 => c.idle1 | _ => c.idle2

/-- The valid body a channel delivered: a frame that begins after at least 8 high bit times, with SOF, EOF and FCRC correct (R88). -/
def copyBody (c : SbCopies) (ch : Nat) : Option Nat :=
  match (match ch with | 0 => c.ch0 | 1 => c.ch1 | _ => c.ch2) with
  | some f => if sbValid f && decide (8 ≤ copyIdle c ch) then some (sbBody f) else none
  | none => none

/-- The channels of a list that brought a valid copy: arrival of its SOF, and FSEQ. -/
def copyTimes (c : SbCopies) (chs : List Nat) : List (Nat × Nat) :=
  chs.filterMap (fun ch => (copyBody c ch).map (fun b => ((match ch with | 0 => c.at0 | 1 => c.at1 | _ => c.at2), bodyFseq b)))

/-- The copies of the frame that comes first on the channels of a list: its FSEQ, and arrived within 4 bit times of it; any other copy is
missing from this frame (R90). DESIGN CHOICE: of copies that arrive together the lowest channel's is the first, and a copy of
another frame belongs to that frame's own command. -/
def groupCopies (c : SbCopies) (chs : List Nat) : SbCopies :=
  match (copyTimes c chs).foldl (fun a x => match a with | some y => some (if x.1 < y.1 then x else y) | none => some x) none with
  | none => c
  | some (t, q) =>
    let keep (ch at_ : Nat) (f : Option Frame) : Option Frame :=
      if (copyBody c ch).all (fun b => bodyFseq b == q && decide (at_ ≤ t + 4)) then f else none
    { c with ch0 := keep 0 c.at0 c.ch0, ch1 := keep 1 c.at1 c.ch1, ch2 := keep 2 c.at2 c.ch2 }

/-- Two valid copies of three agree in [59:12]; the body they agree on. -/
def copiesAgree (c : SbCopies) : Option Nat :=
  let same (a b : Option Nat) : Option Nat := if a.isSome && a == b then a else none
  (same (copyBody c 0) (copyBody c 1)).orElse (fun _ => (same (copyBody c 0) (copyBody c 2)).orElse (fun _ => same (copyBody c 1) (copyBody c 2)))

/-- A channel is lost (R91). -/
def State.chLost (s : State) (ch : Nat) : Bool := bit (s.get PHY.SB_STAT.LOST_MASK) ch

/-- A channel reaches 16 consecutive strikes: it is lost, and the second lost channel takes the Col to FAULT (R91). -/
def State.declareLost (s : State) (ch : Nat) : State :=
  let s1 := s.put PHY.SB_STAT.LOST_MASK (setBit (s.get PHY.SB_STAT.LOST_MASK) ch)
  if popCount 3 (s.get PHY.SB_STAT.LOST_MASK) = 0 then s1.raise EV.PHY.SB_CHANNEL_LOST ch
  else s1.goFault EV.PHY.SB_CHANNEL_LOST ch

/-- Charge a strike to a channel in service. -/
def State.strike (s : State) (ch : Nat) : State :=
  if s.chLost ch then s
  else
    let n := s.get (strikesOf ch) + 1
    let s1 := s.put (strikesOf ch) n
    if 16 ≤ n then s1.declareLost ch else s1

/-- A channel supplied an agreeing valid copy (R91). -/
def State.unstrike (s : State) (ch : Nat) : State := s.put (strikesOf ch) 0

/-- Strikes for an accepted body over the channels in service. -/
def State.scoreCopies (s : State) (c : SbCopies) (b : Nat) : List Nat → State
  | [] => s
  | ch :: l =>
    (if s.chLost ch then s else if copyBody c ch = some b then s.unstrike ch else s.strike ch).scoreCopies c b l

/-- Strikes to every channel of a list. -/
def State.strikeAll (s : State) : List Nat → State
  | [] => s
  | ch :: l => (s.strike ch).strikeAll l

/-- The channels in service. -/
def State.inServiceCh (s : State) : List Nat := [0, 1, 2].filter (fun ch => !s.chLost ch)

/-- A frame is discarded by the vote (R90). -/
def State.dropFrame (s : State) : State := s.bump PHY.SB_STAT.DROPPED

/-- The vote with the far record not yet in force (R102): no strikes. DESIGN CHOICE: a channel has delivered a copy when the copy is
valid. -/
def State.voteEarly (s : State) (c0 : SbCopies) : Option Nat × State :=
  let c := groupCopies c0 [0, 1, 2]
  let other := s.sb.otherCh || (copyBody c0 1).isSome || (copyBody c0 2).isSome
  let s1 := { s with sb := { s.sb with otherCh := other } }
  match copiesAgree c with
  | some b => (some b, s1)
  | none =>
    if !other && (copyBody c 0).isSome then (copyBody c 0, s1) else (none, s1.dropFrame)

/-- The vote over channel 0 alone (R92). -/
def State.voteOne (s : State) (c : SbCopies) : Option Nat × State :=
  match copyBody c 0 with
  | some b => (some b, s.unstrike 0)
  | none =>
    let n := s.get PHY.SB_STAT.STRIKES0 + 1
    let s1 := s.dropFrame.put PHY.SB_STAT.STRIKES0 n
    (none, if n = 16 then (s1.put PHY.SB_STAT.LOST_MASK (setBit (s1.get PHY.SB_STAT.LOST_MASK) 0)).goFault EV.PHY.SB_CHANNEL_LOST 0
           else s1)

/-- The vote over two remaining channels (R91). -/
def State.voteTwo (s : State) (c : SbCopies) (x y : Nat) : Option Nat × State :=
  match copyBody c x, copyBody c y with
  | some a, some b =>
    if a = b then (some a, (s.unstrike x).unstrike y) else (none, s.goFault EV.PHY.SB_FAULT (bodyFseq a))
  | some _, none => (none, s.dropFrame.strike y)
  | none, some _ => (none, s.dropFrame.strike x)
  | none, none => (none, (s.dropFrame.strike x).strike y)

/-- The vote (R90 to R92, R102): the accepted body, if any, and the state with its strikes. -/
def State.vote (s : State) (c : SbCopies) : Option Nat × State :=
  if !s.on IDENT.REC_STAT.FAR_HELD || s.colIn [.sbUp, .ident] then s.voteEarly c
  else if s.farGen = 1 then s.voteOne c
  else match s.inServiceCh with
    | [x, y, z] =>
      let g := groupCopies c [x, y, z]
      match copiesAgree g with
      | some b => (some b, s.scoreCopies g b [x, y, z])
      | none => (none, s.dropFrame.strikeAll [x, y, z])
    | [x, y] => s.voteTwo (groupCopies c [x, y]) x y
    | _ => (none, s.dropFrame)

/-- A sideband frame arrives: the vote, then `act` on the payload of an accepted frame of the type expected. An accepted frame
of another type belongs to another command and has no effect here beyond having been accepted. -/
def State.receive (s : State) (c : SbCopies) (t : Nat) (act : Nat → Nat → State → State) : State :=
  if !s.sbRuns then s
  else match s.vote c with
    | (none, s1) => s1
    | (some b, s1) =>
      let s2 := { s1 with sb := { s1.sb with lastRx := s1.beat } }
      if bodyType b = t then act (bodyFseq b) (bodyPayload b) s2 else s2

/-- A frame of a reserved TYPE: the vote, then SB_TYPE_BAD (R89). -/
def execSbFrameReserved (c : SbCopies) (s : State) : Host.Outcome State Fault Refusal :=
  if !s.sbRuns then .next s
  else match s.vote c with
    | (none, s1) => .next s1
    | (some b, s1) =>
      let s2 := { s1 with sb := { s1.sb with lastRx := s1.beat } }
      .next (if [0, 13, 14, 15].contains (bodyType b) then s2.raise EV.PHY.SB_TYPE_BAD (bodyType b) else s2)

end Sys2Proof.Machine
end

