-- ==== Sys2Proof/Machine/RepairOps.lean ====
section
/-!
DEFINITION. Shared operations of lane repair: sites, masks and groups (R74, R115), the proposals of R137 to R139 and R146, the
decisions of R135 and R147, and what an accepted repair, width change or Lowland entry does to masks and groups.
-/

namespace Sys2Proof.Machine

/-! ### Sites and masks -/

/-- The group of a site index, and its place in the group (R115). -/
def siteGroup (i : Nat) : Nat := if i < 136 then i / 34 else 4
def sitePlace (i : Nat) : Nat := if i < 136 then i % 34 else i - 136

/-- The site index of a place in a group. -/
def siteIndex (g k : Nat) : Nat := if g < 4 then 34 * g + k else 136 + k

/-- Sites and lanes of a group (R74). -/
def groupSites (g : Nat) : Nat := if g < 4 then 34 else 9
def groupLanes (g : Nat) : Nat := if g < 4 then 32 else 8

/-- The bad-site mask of a group, in this end's receive or transmit direction. -/
def maskField (rx : Bool) (g : Nat) : Field :=
  if rx then if g < 4 then REPAIR.BAD_SITES_LG.MASK g else REPAIR.BAD_SITES_CG.MASK
  else if g < 4 then REPAIR.BAD_SITES_TX_LG.MASK g else REPAIR.BAD_SITES_TX_CG.MASK

/-- A site is marked bad. -/
def State.isBad (s : State) (rx : Bool) (g k : Nat) : Bool := bit (s.get (maskField rx g)) k

/-- The clear sites of a group, lowest first. -/
def State.clearSites (s : State) (rx : Bool) (g : Nat) : List Nat :=
  (List.range (groupSites g)).filter (fun k => !s.isBad rx g k)

/-- Some clear site of the group carries no logical lane (R77, R135). -/
def State.freeSite (s : State) (rx : Bool) (g : Nat) : Bool := decide (groupLanes g < (s.clearSites rx g).length)

/-- The site that carries lane `j` of a group (R74). -/
def State.laneSite (s : State) (rx : Bool) (g j : Nat) : Option Nat := (s.clearSites rx g)[j]?

/-- A site carries a logical lane. -/
def State.carriesLane (s : State) (rx : Bool) (g k : Nat) : Bool :=
  ((s.clearSites rx g).take (groupLanes g)).contains k

/-- The lane groups in use in a direction (R148). -/
def State.groups (s : State) (rx : Bool) : Nat := s.get (if rx then REPAIR.WIDTH_STAT.RX_GROUPS else REPAIR.WIDTH_STAT.TX_GROUPS)

/-- The lane groups in use in a direction are set; a group out of use stops its clock, and the transmit direction's forwarded clocks are
this end's (R80). -/
def State.setGroups (s : State) (rx : Bool) (gs : Nat) : State :=
  if rx then
    let keep := BitVec.ofNat 12 (2 ^ 12 - 1 - ((15 - gs % 16) * 64))
    { s.put REPAIR.WIDTH_STAT.RX_GROUPS gs with
      chip := { s.chip with clk := s.chip.clk &&& keep, rxReleased := s.chip.rxReleased &&& BitVec.ofNat 5 (16 + gs % 16) } }
  else
    { s.put REPAIR.WIDTH_STAT.TX_GROUPS gs with
      chip := { s.chip with fwd := if s.chip.fwd.getLsbD 4 then BitVec.ofNat 5 (16 + gs % 16) else s.chip.fwd } }

/-! ### L_min (R145) -/

/-- L_min of one direction: 24 + 24 t beats rounded up, with t = 2048 bits over lanes times rate. -/
def lMinOf (groups rate : Nat) : Nat :=
  let d := 32 * popCount 4 groups * (4 * (rate + 1))
  if d = 0 then 0 else 24 + (24 * 2048 + d - 1) / d

/-- The replay allowance of one direction: 16 t rounded up (R369). -/
def replayOf (groups rate : Nat) : Nat :=
  let d := 32 * popCount 4 groups * (4 * (rate + 1))
  if d = 0 then 0 else (16 * 2048 + d - 1) / d

/-- The Col's L_min with the given groups at the lane rate in use. -/
def State.lMinFor (s : State) (rxGroups txGroups : Nat) : Nat :=
  let r := s.get PHY.RATE_STAT.RATE
  max (lMinOf rxGroups r) (lMinOf txGroups r)

/-- Level delivery is agreed (R110). -/
def State.levelAgreed (s : State) : Bool := s.cap 6

/-- L_MIN and L_RPL take their values (R369). -/
def State.setLevelStat (s : State) (lmin lrpl : Nat) : State :=
  (s.put TIME.LEVEL_STAT.L_MIN lmin).put TIME.LEVEL_STAT.L_RPL lrpl

/-! ### Sending proposals -/

/-- The payload of a REPAIR frame (R137). -/
def repairPayload (kind grp site n : Nat) (beat : Beat) : Nat :=
  packLow [(beat.toNat, 22), (n, 5), (site, 6), (grp, 3), (kind, 4)]

/-- The payload of a WIDTH frame (R146). -/
def widthPayload (kind : Nat) (rx : Bool) (groups : Nat) (force : Bool) (reason : Nat) (beat : Beat) : Nat :=
  packLow [(beat.toNat, 22), (0, 4), (reason, 4), (b2n force, 1), (groups, 4), (b2n rx, 1), (kind, 4)]

/-- The payload of a PARK frame: KIND and the park beat (R433). -/
def parkPayload (kind : Nat) (beat : Beat) : Nat := packLow [(beat.toNat, 22), (0, 14), (kind, 4)]

/-- What a frame about a proposal asks or answers. -/
inductive Verb where
  | propose | accept | decline | cancel
  deriving DecidableEq, Repr

/-- Send a frame about a proposal. -/
def State.sendProp (s : State) (v : Verb) (k : PropKind) (beat : Beat) : State :=
  match k with
  | .quiet g p n =>
    s.sbSend .repair (repairPayload (match v with | .propose => 1 | .accept => 2 | .decline => 3 | .cancel => 4) g p n beat)
  | .width rx gs f r =>
    s.sbSend .width (widthPayload (match v with | .propose => 1 | .accept => 2 | .decline => 3 | .cancel => 5) rx gs.toNat f r beat)
  | .lowland gs r =>
    s.sbSend .width (widthPayload (match v with | .propose => 4 | .accept => 2 | .decline => 3 | .cancel => 5) false gs.toNat false r beat)
  | .park => s.sbSend .park (parkPayload (match v with | .propose => 1 | .accept => 2 | .decline => 3 | .cancel => 4) beat)

/-- Replace the list of proposals. -/
def State.setProps (s : State) (ps : List Proposal) : State := { s with rep := { s.rep with props := ps } }

/-- CANCEL goes for this end's unanswered quiet proposals, which then end as R139 lets a cancelled one end. -/
def State.cancelQuiet (s : State) : State :=
  let f (p : Proposal) : Bool := p.own && !p.accepted && p.cancels == 0 && (match p.kind with | .quiet _ _ _ => true | _ => false)
  ((s.rep.props.filter f).foldl (fun t p => t.sendProp .cancel p.kind p.beat) s).setProps
    (s.rep.props.map (fun p => if f p then { p with cancels := 1 } else p))

/-- A width change of this end's receive direction, or a Lowland entry, proceeds against its quiet proposals (R150). -/
def PropKind.overQuiet : PropKind → Bool
  | .width rx _ _ _ => rx
  | .lowland _ _ => true
  | _ => false

/-- Propose something 8,192 to 2^21 beats ahead, where nothing else fixes the lead (R138). -/
def State.propose (s : State) (k : PropKind) : State :=
  let (r, s1) := (if k.overQuiet then s.cancelQuiet else s).draw
  let p : Proposal := { kind := k, beat := s1.ahead (Config.bounded 8192 (2 ^ 21) r), own := true, accepted := false, lastSent := s1.beat }
  (s1.setProps (s1.rep.props ++ [p])).sendProp .propose k p.beat

/-- A trigger waits to be evaluated again (R136, R139). -/
def State.wait (s : State) (t : Trigger) : State :=
  if s.rep.waiting.contains t then s else { s with rep := { s.rep with waiting := s.rep.waiting ++ [t] } }

/-! ### Which proposals touch a direction -/

/-- A proposal bears on this end's receive direction (`rx`) or transmit direction. -/
def Proposal.touches (p : Proposal) (rx : Bool) : Bool :=
  match p.kind with
  | .quiet _ _ _ => p.own == rx
  | .width r _ _ _ => r == rx
  | .lowland _ _ => true
  | .park => false

/-- Beats from the beat of a proposal to the end of its pause; with N = 0 there is no pause (R140). -/
def Proposal.span (p : Proposal) : Nat :=
  match p.kind with
  | .quiet _ _ n => 64 * n
  | .width _ _ _ _ => 512
  | .lowland _ _ => 2 ^ 40
  | .park => 0

/-- Two pauses overlap. -/
def Proposal.overlaps (a b : Proposal) : Bool :=
  decide (0 < a.span) && decide (0 < b.span) && decide (a.beat.toNat < b.beat.toNat + b.span) && decide (b.beat.toNat < a.beat.toNat + a.span)

def Proposal.isWide (p : Proposal) : Bool :=
  match p.kind with
  | .width _ _ _ _ | .lowland _ _ => true
  | _ => false

/-- Some pause, change or entry is accepted or running (R147, R150). -/
def State.anyPause (s : State) : Bool := s.rep.props.any (fun p => p.accepted && p.kind != .park)

/-- A pause or width change of the direction is accepted or under way (R136). -/
def State.dirBusy (s : State) (rx : Bool) : Bool := s.rep.props.any (fun p => p.accepted && p.touches rx)

/-! ### Parking (R433) -/

/-- An operation that a park must not meet is accepted or running (R433); one in an earlier or later state is seen in the Col state. -/
def State.parkBlocked (s : State) : Bool :=
  s.anyPause || s.chip.plan.isSome || s.cal.far.isSome || (match s.cal.own with | some a => a.accepted | none => false)

/-- Why a park is refused or declined. -/
def State.parkRefusal (s : State) : Option Reason :=
  if s.chip.col ≠ .active then some .state
  else if !s.cap 9 then some .capability
  else if s.parkBlocked then some .busy
  else none

/-- A proposal is a park. -/
def Proposal.isPark (p : Proposal) : Bool := p.kind == .park

/-- A park is under way or in force, or one is proposed. -/
def State.parkPending (s : State) : Bool := s.parked || s.pwr.stopping || s.rep.props.any Proposal.isPark

/-- A park is proposed, unless one is outstanding, accepted or in force. -/
def State.askPark (s : State) : State := if s.parkPending then s else s.propose .park

/-! ### Decisions (R135, R147, R151) -/

/-- A control group fault or the loss of the last group ends the Col. -/
def State.cgLost (s : State) (site : Nat) : State := s.goFault EV.REPAIR.CG_LOST site

/-- A fault of the control group that no site is named for: the event's value, a site, is open and free.  DESIGN CHOICE (log entry 103). -/
def State.cgFault (s : State) : State :=
  let (v, s1) := s.draw
  s1.cgLost v

/-- Propose that a direction keep the groups `gs` alone (R147). -/
def State.widthTo (s : State) (rx : Bool) (gs reason site : Nat) : State :=
  let lm := if rx then s.lMinFor gs (s.groups false) else s.lMinFor (s.groups true) gs
  let low := s.levelAgreed && decide (s.get TIME.LEVEL_CTL.L_LEVEL < lm)
  let ask (s : State) (force : Bool) := s.propose (.width rx (BitVec.ofNat 4 gs) force reason)
  if !low then ask s false
  else if reason = 1 && s.on REPAIR.AUTO_CTL.LEVEL_POLICY then s.raise EV.REPAIR.WIDTH_HELD site
  else ask (s.raise EV.TIME.LEVEL_BELOW_MIN lm) true

/-- The last three branches of R135 for lane group `g`; the control group has no others (R76). -/
def State.loseGroup (s : State) (rx : Bool) (g reason site : Nat) : State :=
  if 4 ≤ g then s.cgFault
  else if s.chip.col = .lowland then s.goFault EV.REPAIR.LOWLAND_LOST 0
  else if clearBit (s.groups rx) g ≠ 0 ∧ s.cap 7 then s.widthTo rx (clearBit (s.groups rx) g) reason site
  else s.goFault EV.REPAIR.NO_LANE_GROUP 0

/-- R135 for a site of this end's receive direction. -/
def State.evalSite (s : State) (i : Nat) : State :=
  let g := siteGroup i
  let k := sitePlace i
  if s.isBad true g k then s
  else if s.freeSite true g && s.cap 8 then
    if s.rep.props.any (fun p => p.own && (match p.kind with | .quiet g' _ _ => g' == g | _ => false)) then s.wait (.site i)
    else
      let n := if s.carriesLane true g k && s.chip.col != .repair then s.get REPAIR.QR_CTL.PAUSE else 0
      s.propose (.quiet g k n)
  else if g = 4 then s.cgLost i
  else s.loseGroup true g 1 i

/-- Propose Lowland entry, or FAULT where 8 GT/s is not agreed (R151). -/
def State.askLowland (s : State) (reason : Nat) : State :=
  if s.chip.col ≠ .active then s
  else if !s.cap 1 then s.goFault EV.REPAIR.LOWLAND_LOST 0
  else if s.rep.props.any (fun p => match p.kind with | .lowland _ _ => true | _ => false) then s
  else s.propose (.lowland (BitVec.ofNat 4 (s.groups true &&& s.groups false)) reason)

/-- An own WIDTH or LOWLAND proposal of the receive direction has no answer yet: it proceeds against a quiet repair, whose site waits
(R150). -/
def State.wideAsked (s : State) : Bool := s.rep.props.any (fun p => p.own && !p.accepted && p.kind.overQuiet)

/-- Evaluate a trigger, or let it wait while its direction is busy (R136) or the end is parked (R435). -/
def State.evalTrigger (s : State) (t : Trigger) : State :=
  if s.parked then (if t = .park then s else s.deferProposal t)
  else match t with
  | .site i => if s.dirBusy true || s.wideAsked then s.wait t else s.evalSite i
  | .group g reason rx =>
    if s.dirBusy rx then s.wait t else if bit (s.groups rx) g || 4 ≤ g then s.loseGroup rx g reason (siteIndex g 0) else s
  | .lowland reason => s.askLowland reason
  | .retrain => s
  | .widthCmd rx gs force => if s.chip.col = .active ∧ s.anyPause = false then s.propose (.width rx gs force 0) else s
  | .park => if s.parkPending then s else if s.parkRefusal.isSome then s.wait t else s.propose .park

/-- Evaluate triggers in order. -/
def State.evalTriggers (s : State) : List Trigger → State
  | [] => s
  | t :: ts => (s.evalTrigger t).evalTriggers ts

/-- The far proposal that a withdrawn one yielded to has not ended yet (R150). -/
def State.yields (s : State) (y : Trigger × PropKind × Beat) : Bool :=
  s.rep.props.any (fun p => !p.own && p.kind == y.2.1 && p.beat == y.2.2)

/-- Every waiting trigger is evaluated again, in a state that acts on triggers (R136, R139, R150); a withdrawn one waits for the end of the
winner's pause. DESIGN CHOICE: no frame tells a proposer when the cause of a DECLINE has ended; what was declined is evaluated again from
1,024 beats after the DECLINE on, and waits as any trigger does while its direction is busy. -/
def State.reevaluate (s : State) : State :=
  if s.colIn [.active, .quietRepair, .widthChange, .repair] || (s.chip.col == .lowland && s.chip.step == 0) then
    let due := s.rep.declined.filter (fun d => s.past d.2 1024)
    let free := s.rep.yielded.filter (fun y => !s.yields y)
    { s with rep := { s.rep with waiting := [], declined := s.rep.declined.filter (fun d => !s.past d.2 1024)
                                 yielded := s.rep.yielded.filter s.yields } }.evalTriggers
      (s.rep.waiting ++ due.map Prod.fst ++ free.map Prod.fst)
  else s

/-- A site is declared persistently failing; `row` is the row of R132 that applies. -/
def State.siteFailing (s : State) (i row : Nat) : State :=
  (s.raise EV.REPAIR.SITE_FAILING (i + row * 2 ^ 8)).evalTrigger (.site i)

/-- Two lane groups in use have no free site in at least one direction each (R151, REASON 4). -/
def State.sparesSpent (s : State) : Bool :=
  let spent (g : Nat) := (bit (s.groups true) g && !s.freeSite true g) || (bit (s.groups false) g && !s.freeSite false g)
  decide (2 ≤ ((List.range 4).filter spent).length)

/-- R151 is evaluated when a repair, a width change or a run ends: the spares, then the failed runs. -/
def State.checkLowland (s : State) : State :=
  if s.chip.col ≠ .active then s
  else if s.sparesSpent then s.evalTrigger (.lowland 4)
  else if s.get CAL.RUN_STAT.FAILS = 3 then s.evalTrigger (.lowland 5) else s

/-! ### UI (R81, R83) -/

/-- UI of one beat at the rate in use (R81). -/
def State.uiPerBeat (s : State) : Nat := 4 * (s.get PHY.RATE_STAT.RATE + 1)

/-- UI that have passed so far. -/
def State.uiNow (s : State) : Nat := s.cal.uiBase + (s.count - s.cal.uiAt).toNat * s.uiPerBeat

/-- The beat counter goes on from `b`, or at another rate: the UI that have passed till now, and `n` more, stand. -/
def State.uiFrom (s : State) (b : Beat) (n : Nat) : State :=
  { s with cal := { s.cal with uiBase := s.uiNow + n, uiAt := b } }

/-- The rate in use changes. -/
def State.setRate (s : State) (r : Nat) : State := (s.uiFrom s.count 0).put PHY.RATE_STAT.RATE r

/-! ### Background runs (R124 to R130) -/

/-- Codes of the run that ends unfinished wait no longer: its own, not those that firmware has written since (R129, R130). -/
def State.dropPended (s : State) : List (TrimKind × Nat × Nat) → State
  | [] => s
  | (k, i, c) :: l =>
    (if s.on (trimPendV k i) && s.get (trimPending k i) == c then (s.put (trimPendV k i) 0).put (trimPending k i) 0 else s).dropPended l

/-- A background run of the receive direction starts, by a change of temperature or not: T_last takes TEMP, and the run number counts. -/
def State.startRun (s : State) (temp : Bool) : State :=
  let s1 := ((s.put CAL.RUN_STAT.T_LAST s.inp.temp.toNat).put CAL.RUN_STAT.RUN (s.get CAL.RUN_STAT.RUN + 1)).put CAL.RUN_STAT.ACTIVE 1
  { s1 with cal := { s1.cal with run := some { stage := .correct, old := [], drive := [], rejSites := [], rejGroup := false, temp := temp }, again := false, againTemp := false } }

/-- A run that waits starts once the Col is back in ACTIVE or LOWLAND (R130); one that a change of temperature has asked for waits while
TEMP_VALID is low (R61). -/
def State.runAgain (s : State) : State :=
  if s.cal.again && s.cal.run.isNone && s.colIn [.active, .lowland] && (!s.cal.againTemp || s.inp.tempValid) then s.startRun s.cal.againTemp else s

/-! ### State reported during pauses (R136) -/

/-- A proposal of a quiet repair, and of a width change. -/
def Proposal.isQuiet (p : Proposal) : Bool := match p.kind with | .quiet _ _ _ => true | _ => false
def Proposal.isWidth (p : Proposal) : Bool := match p.kind with | .width _ _ _ _ => true | _ => false

/-- Running pauses decide between WIDTH_CHANGE, QUIET_REPAIR and ACTIVE; QUIET_REPAIR is left once every accepted pause has ended. -/
def State.pauseState (s : State) : State :=
  if s.colIn [.active, .quietRepair, .widthChange] then
    let running := s.rep.props.filter (fun p => decide (1 ≤ p.stage))
    let want : ColState :=
      if running.any Proposal.isWidth then .widthChange
      else if running.any Proposal.isQuiet || (s.chip.col == .quietRepair && s.rep.props.any (fun p => p.accepted && (p.isQuiet || p.isWidth))) then
        .quietRepair
      else .active
    if want = s.chip.col then s else (s.setCol want).runAgain.pairEnter
  else s

/-- The bulk stream of a direction is paused by a repair or width change (R140, R148). -/
def State.bulkPaused (s : State) (rx : Bool) : Bool :=
  s.rep.props.any (fun p => decide (1 ≤ p.stage) && p.touches rx &&
    (match p.kind with | .quiet g _ n => decide (g < 4) && n != 0 | .width _ _ _ _ => true | _ => false))

/-- The control stream of a direction is paused by a control-group repair (R141). -/
def State.ctrlPaused (s : State) (rx : Bool) : Bool :=
  s.rep.props.any (fun p => decide (1 ≤ p.stage) && p.touches rx &&
    (match p.kind with | .quiet g _ n => g == 4 && n != 0 | _ => false))

/-- A Level suspension of a direction begins (R142, R148). -/
def State.suspend (s : State) (rx : Bool) (start : Beat) (len : Nat) : State :=
  { s with susp := s.susp ++ [⟨rx, start, start + BitVec.ofNat 64 len⟩] }

/-- From Lowland entry until Col reset the Level guarantee is suspended, and Level delivery is off (R155, R370). -/
def Suspension.forGood (x : Suspension) : Bool := x.rx && x.stop == BitVec.allOnes 64
def State.suspendForGood (s : State) : State := { s with susp := s.susp ++ [⟨true, s.beat, BitVec.allOnes 64⟩] }
def State.levelOff (s : State) : Bool := s.chip.col == .lowland || s.susp.any (·.forGood)

/-- Bring LEVEL_STAT up to date after a width change (R145, R369); both read 0 in LOWLAND. -/
def State.refreshLevel (s : State) : State :=
  if s.chip.col = .lowland then s.setLevelStat 0 0
  else
    let lm := s.lMinFor (s.groups true) (s.groups false)
    let r := s.get PHY.RATE_STAT.RATE
    s.setLevelStat lm (lm + max (replayOf (s.groups true) r) (replayOf (s.groups false) r))

/-- LEVEL_BELOW_MIN is raised when L_LEVEL is below L_MIN while Level delivery is on (R368). -/
def State.levelBelow (s : State) : State :=
  if s.levelAgreed && s.chip.col != .lowland && decide (s.get TIME.LEVEL_CTL.L_LEVEL < s.get TIME.LEVEL_STAT.L_MIN) then
    s.raise EV.TIME.LEVEL_BELOW_MIN (s.get TIME.LEVEL_STAT.L_MIN)
  else s

end Sys2Proof.Machine
end

