-- ==== Sys2Proof/Machine/Lanes.lean ====
section
/-!
DEFINITION. What the wires of a Col carry (R77 to R79, R83 to R85, R114): the stream of each site, the state of its generator now,
the line bits for data bits and back, the valid lanes, and the training flits. The seeding points are in `Cal`.
-/

namespace Sys2Proof.Machine

/-! ### Streams (R77, R84) -/

/-- The stream of lane `j` of a group. -/
def laneStream (g j : Nat) : Nat := if g < 4 then 32 * g + j + 1 else 129 + j

/-- The stream of an idle site, the `n`th of its group from below. -/
def idleStream (g n : Nat) : Nat := if g < 4 then 137 + 2 * g + n else 145

/-- The stream of a site in a direction: that of its logical lane, or that of its place among the idle sites. A site marked bad has
none. -/
def State.siteStream (s : State) (rx : Bool) (g k : Nat) : Option Nat :=
  (((s.clearSites rx g).zip (List.range (groupSites g))).find? (fun x => x.1 == k)).map
    (fun x => if x.2 < groupLanes g then laneStream g x.2 else idleStream g (x.2 - groupLanes g))

/-! ### Generators (R83, R85) -/

/-- The UI at which the generators of a direction, and for the receive direction of a group, were last seeded. -/
def State.seededAt (s : State) (rx : Bool) (g : Nat) : Option Nat := if rx then Sparse.find s.cal.rxSeed g else s.cal.txSeed

/-- UI that the generators of a group have advanced since they were seeded; one each UI, whether or not the group is in use. While BCLK
stands the model measures no time, and the UI that have passed are not known. -/
def State.uiSince (s : State) (rx : Bool) (g : Nat) : Option Nat :=
  if s.beatRuns then (s.seededAt rx g).map (fun p => s.uiNow - p) else none

/-- The generator state of a site now. -/
def State.generator (s : State) (rx : Bool) (g k : Nat) : Option Nat :=
  match s.siteStream rx g k, s.uiSince rx g with
  | some i, some n => some (prbsState n (scramblerSeed i))
  | _, _ => none

/-- The bits on the wire of a site for the data bits that it carries from this UI on. -/
def State.lineBits (s : State) (g k : Nat) (data : List Bool) : Option (List Bool) := (s.generator false g k).map (fun st => scramble st data)

/-- The data bits that a site brings, from the bits on its wire from this UI on. -/
def State.dataBits (s : State) (g k : Nat) (line : List Bool) : Option (List Bool) := (s.generator true g k).map (fun st => scramble st line)

/-! ### Frames (R78, R79, R114) -/

/-- Where bit `b` of the flit at place `pos` of its burst goes at a width: the active lane, and the UI of the burst (R158). -/
def burstBit (w pos b : Nat) : Nat × Nat := ((2048 * pos + b) % w, (2048 * pos + b) / w)

/-- UI of a frame of a group. -/
def frameUi (g : Nat) : Nat := if g < 4 then 16 else 32

/-- A valid lane during a frame: high in its first half when the frame carries flit content, low otherwise. -/
def validLane (g : Nat) (content : Bool) : List Bool := (List.range (frameUi g)).map (fun u => content && decide (2 * u < frameUi g))

/-- Every frame of a group carries a training flit: from the seeding on until the end leaves REPAIR, and on the lane groups in the phase
B of a RETRAIN or Lowland entry. There the control stream runs on (R185, R195, R260). -/
def State.training (s : State) (g : Nat) : Bool :=
  s.cal.seeded && (s.colIn [.cal, .repair] || (decide (g < 4) && s.colIn [.retrain, .lowland] && s.chip.step == 2))

/-- The content of a training flit is zero: what the site of a lane or an idle site puts on its wire in a frame. -/
def State.trainingLine (s : State) (g k : Nat) : Option (List Bool) := s.lineBits g k (List.replicate (frameUi g) false)

/-- The valid lane of a group in a frame of training: low until the generators are seeded. -/
def State.trainingValid (s : State) (g : Nat) : List Bool := validLane g (s.training g)

end Sys2Proof.Machine
end

