-- ==== Sys2Proof/Machine/Streams.lean ====
section
/-!
DEFINITION. The senders of the two streams (R181 to R189, R195, R198, R200 to R204): flit starts, replays, probes, acknowledges
and credit returns, and the commands of the stream's timers.
-/

namespace Sys2Proof.Machine

/-! ### Where the streams stand -/

/-- Outstanding bulk and control flits (R182). -/
def State.outB (s : State) : Nat := (s.get BULK.SEQ_STAT.NEXT_TX + 4096 - s.get BULK.SEQ_STAT.OLDEST) % 4096
def State.outC (s : State) : Nat := (s.get CTRL.SEQ_STAT.NEXT_TX + 256 - s.get CTRL.SEQ_STAT.OLDEST) % 256

/-- The Col carries bulk flits, or will once a pause ends: not before CREDIT_INIT has ended, not in RETRAIN, and not between
Lowland entry and the end of its calibration (R197). -/
def State.bulkState (s : State) : Bool :=
  s.clkOn 0 && s.clkOn 4 && !s.colDead && (s.colIn [.active, .quietRepair, .widthChange, .drain] || (s.chip.col == .lowland && s.chip.step == 0))

/-- The bulk stream of a direction and its timers run: no pause, and the lane groups are not parked (R140, R148, R197, R434). -/
def State.bulkRuns (s : State) (rx : Bool) : Bool := s.bulkState && !s.bulkPaused rx && !s.parked

/-- Bulk flits arrive: the far end may be in service while this one is not yet or no longer sending; training flits are not parsed (R114,
R190). R140 has the receiver expect no flit content during a pause; DESIGN CHOICE (log entry 101): a row that comes in it all the same is
not looked at, so that it is neither counted, acknowledged nor delivered. A parked end that wakes takes what the far end sends before its own hold ends
(R435). -/
def State.bulkComes (s : State) : Bool :=
  s.clkOn 0 && s.clkOn 4 && !s.colDead && s.colIn (.creditInit :: inService) && !s.training 0 && !s.bulkPaused true &&
  (!s.parked || s.pwr.waking)

/-- The control stream of a direction runs: from CREDIT_INIT on, whenever its group is not paused (R141, R185). A row that comes in a pause
is not looked at (DESIGN CHOICE, log entry 101). -/
def State.ctrlFlows (s : State) (rx : Bool) : Bool :=
  s.clkOn 0 && s.clkOn 4 && !s.colDead && !s.ctrlPaused rx && s.colIn (.creditInit :: inService)

/-- The control replay timers of both ends are frozen while either control group is paused (R141). -/
def State.ctrlTimers (s : State) : Bool := s.ctrlFlows false && s.ctrlFlows true

/-! ### Credit returns (R203) -/

/-- The count that was last sent for index `k`. -/
def State.sentCount (s : State) (k : Nat) : Nat := (Sparse.find s.lnk.crSent k).getD 0

/-- The count of index `k` waits to be sent. -/
def State.countWaits (s : State) (k : Nat) : Bool := s.get (CREDIT.RX_STAT.RETURNED k) != s.sentCount k

/-- The next waiting count below index `n` in round robin. -/
def State.nextCount (s : State) (n : Nat) : Option Nat :=
  (((List.range 11).map (fun i => (s.lnk.crTurn + i) % 11)).find? (fun k => decide (k < n) && s.countWaits k))

/-- The count of index `k` is sent, and the turn passes on. -/
def State.countSent (s : State) (k : Nat) : State :=
  s.setLnk fun l => { l with crSent := Sparse.set k (some (s.get (CREDIT.RX_STAT.RETURNED k))) l.crSent, crTurn := (k + 1) % 11 }

/-! ### Bulk sender -/

/-- Send a bulk flit: acknowledge and credit fields are filled in, and a pending NAK rides it (R164, R185, R192). -/
def State.sendBulk (s : State) (seq ftype hdrMap : Nat) (slots : List Nat) : State :=
  let nak := s.lnk.nakMark
  let k := s.nextCount 7
  let (_, tc, kind) := match k with | some k => creditKey k | none => (0, 0, 0)
  let n := s.get BULK.SEQ_STAT.NEXT_RX
  let h : BulkHdr :=
    { seq := seq, ack := n, ackt := if nak then 2 else 1, ftype := ftype, crv := k.isSome, crTc := tc, crKind := kind
      crCount := match k with | some k => s.get (CREDIT.RX_STAT.RETURNED k) | none => 0, hdrMap := hdrMap }
  let s1 := if nak then s.bump BULK.RX_STAT.NAKS else s
  let s2 := match k with | some k => s1.countSent k | none => s1
  (s2.setLnk fun l => { l with nakMark := false, carriedB := n, burst := some (l.burst.getD 0 + 1) }).emit (.bulk (buildBulk h slots))

/-- A Swift request of TC0: the requests whose order an early read that waits for its verdict holds (R219). -/
def Hdr.swiftRead (h : Hdr) : Bool := !h.isResponse && h.tc == 0 && !h.lvl

/-- The next transaction of the transmit path: the one whose slots are open, or the oldest that may be sent. A held read is not, and
neither is a Swift request of its class behind it (R162, R219, R230). -/
def takeTx (blocked : Bool) (before : List TxItem) : List TxItem → Option (TxItem × List TxItem)
  | [] => none
  | t :: q =>
    if t.held || (blocked && t.hdr.swiftRead) then takeTx (blocked || t.held) (before ++ [t]) q else some (t, before ++ q)

/-- Fill the slots of a new flit from the transmit path: slots, HDR_MAP from slot `i` on, and what is left (R162, R165). -/
def fillSlots (dbeat : Nat) : Nat → Nat → List TxItem → List Nat × Nat × List TxItem
  | 0, _, q => ([], 0, q)
  | n + 1, i, l =>
    match takeTx false [] l with
    | none =>
      let (us, m, q) := fillSlots dbeat n (i + 1) l
      (0 :: us, m + 2 ^ i, q)
    | some (t, q) =>
      if t.fresh then
        let (us, m, q2) := fillSlots dbeat n (i + 1) (if t.slots = [] then q else { t with fresh := false } :: q)
        ({ t.hdr with dbeat := dbeat }.unit :: us, m + 2 ^ i, q2)
      else match t.slots with
        | [] => ([], 0, q)
        | u :: rest =>
          let (us, m, q2) := fillSlots dbeat n (i + 1) (if rest = [] then q else { t with slots := rest } :: q)
          (u :: us, m, q2)

/-- The transaction whose slots are open at the end of the last flit built (R162). -/
def State.openTx (s : State) : Option Hdr := (s.lnk.txQ.head?).bind (fun t => if t.fresh then none else some t.hdr)

/-- Build and send a new TXN flit (R186); its words of the replay buffer are written (R415). -/
def State.newFlit (s : State) : State :=
  let seq := s.get BULK.SEQ_STAT.NEXT_TX
  let (slots, m, q) := fillSlots (s.beat.toNat % 65536) 15 0 s.lnk.txQ
  let s1 := ((s.put BULK.SEQ_STAT.NEXT_TX (seq + 1)).wordsWritten 1 (seq % 256 * 16) 16).setLnk fun l =>
    { l with txQ := q, rpl := l.rpl ++ [⟨seq, m, slots, s.openTx⟩], ptr := (seq + 1) % 4096 }
  s1.content.sendBulk seq 1 m slots

/-- A new TXN flit may start. -/
def State.flitReady (s : State) : Bool := (takeTx false [] s.lnk.txQ).isSome && decide (s.outB < 256) && !s.pwr.stopping

/-- A word of a replay buffer that a transmission reads is uncorrectable: the flit is not sent (R422). -/
def State.replayUe (s : State) (a index : Nat) : State := (s.countUe a index).goFault EV.IDENT.ARRAY_UE (a + index * 2 ^ 16)

/-- BULK_FLIT_START: replay first, then new content; where no flit starts, the burst ends (R158, R186); `ue` is a code word of the
replayed flit that the read finds uncorrectable (R414). -/
def execBulkFlitStart (s : State) (ue : Option (BitVec 4) := none) : Host.Outcome State Fault Refusal :=
  .next (if !s.bulkRuns false then s.endBurst
    else if s.lnk.ptr ≠ s.get BULK.SEQ_STAT.NEXT_TX then
      match s.lnk.rpl.find? (fun f => f.seq == s.lnk.ptr) with
      | some f =>
        if s.lnk.marked.contains f.seq then s.goFault EV.IDENT.ARRAY_UE (1 + f.seq % 256 * 16 * 2 ^ 16)
        else match ue with
          | some w => s.replayUe 1 (f.seq % 256 * 16 + w.toNat)
          | none => ((s.setLnk fun l => { l with ptr := (f.seq + 1) % 4096 }).content).sendBulk f.seq 1 f.hdrMap f.slots
      | none => s
    else if s.flitReady then s.newFlit
    else s.endBurst)

/-- PROBE_INTERVAL: a sender with outstanding flits and nothing ready sends a PROBE (R163, R187). -/
def execProbeInterval (cycles : Nat) (s : State) : Host.Outcome State Fault Refusal :=
  .next (if s.bulkRuns false && s.outB != 0 && s.lnk.ptr == s.get BULK.SEQ_STAT.NEXT_TX && !s.flitReady &&
      decide (s.get BULK.RPL_CTL.PROBE_INTERVAL ≤ cycles) then
      s.sendBulk (s.get BULK.SEQ_STAT.NEXT_TX) 2 0x7FFF (List.replicate 15 0)
    else s)

/-- Replay from sequence `a`, unless too many replays have made no progress (R189). -/
def State.replayFrom (s : State) (a : Nat) : State :=
  let n := s.lnk.noProgress + 1
  let s1 := (s.bump BULK.TX_STAT.REPLAYS).setLnk fun l => { l with ptr := a, noProgress := n }
  if n = s.get BULK.RPL_CTL.LIMIT then s1.goFault EV.BULK.REPLAY_LIMIT (s.get BULK.SEQ_STAT.OLDEST) else s1

/-- REPLAY_TIMEOUT (R188). -/
def execReplayTimeout (cycles : Nat) (s : State) : Host.Outcome State Fault Refusal :=
  .next (if s.bulkRuns false && s.outB != 0 && decide (s.get BULK.RPL_CTL.TIMEOUT ≤ cycles) then
      (s.bump BULK.TX_STAT.TIMEOUTS).replayFrom (s.get BULK.SEQ_STAT.OLDEST)
    else s)

/-- NAK_TIMEOUT: the NAK is sent again (R193). -/
def execNakTimeout (cycles : Nat) (s : State) : Host.Outcome State Fault Refusal :=
  .next (if s.bulkRuns true && s.on BULK.RPL_STAT.NAK_PENDING && decide (s.get BULK.NAK_CTL.TIMEOUT ≤ cycles) then
      s.setLnk fun l => { l with nakMark := true }
    else s)

/-! ### Acknowledges (R183) -/

/-- How an acknowledge value stands to a window: `some n` is current and frees `n` flits, `none` stale; the flag is false for an
impossible one. -/
def classifyAck (m limit oldest out a : Nat) : Option Nat × Bool :=
  let d := (a + m - oldest) % m
  if d ≤ out then (some d, true)
  else if (oldest + m - a) % m ≤ limit then (none, true)
  else (none, false)

/-- A bulk acknowledge of a type is applied (R183, R189). -/
def State.ackBulk (s : State) (a : Nat) (nak : Bool) : State :=
  let old := s.get BULK.SEQ_STAT.OLDEST
  match classifyAck 4096 256 old s.outB a with
  | (_, false) => s.goFault EV.BULK.ACK_BAD a
  | (none, true) => s
  | (some d, true) =>
    let freed (q : Nat) : Bool := decide ((q + 4096 - old) % 4096 < d)
    let s1 := if d = 0 then s else
      (s.put BULK.SEQ_STAT.OLDEST a).setLnk fun l =>
        { l with rpl := l.rpl.filter (fun f => !freed f.seq), marked := l.marked.filter (fun q => !freed q)
                 ptr := if freed l.ptr then a else l.ptr, noProgress := 0 }
    if nak then s1.replayFrom a else s1

/-- A control acknowledge is applied (R183, R195). -/
def State.ackCtrl (s : State) (a : Nat) : State :=
  let old := s.get CTRL.SEQ_STAT.OLDEST
  match classifyAck 256 64 old s.outC a with
  | (_, false) => s.goFault EV.BULK.ACK_BAD a
  | (none, true) => s
  | (some d, true) =>
    let freed (q : Nat) : Bool := decide ((q + 256 - old) % 256 < d)
    if d = 0 then s else
      (s.put CTRL.SEQ_STAT.OLDEST a).setLnk fun l =>
        { l with crpl := l.crpl.filter (fun f => !freed f.1), cMarked := l.cMarked.filter (fun q => !freed q)
                 cptr := if freed l.cptr then a else l.cptr, cNoProgress := 0 }

/-! ### Control sender -/

/-- Send a control flit with the present acknowledges (R175, R185, R192). -/
def State.sendCtrl (s : State) (cseq cft : Nat) (msgs : List Nat) : State :=
  let nak := s.lnk.nakMark
  let n := s.get BULK.SEQ_STAT.NEXT_RX
  let c := s.get CTRL.SEQ_STAT.NEXT_RX
  let h : CtrlHdr := { cseq := cseq, cack := c, back := n, backt := if nak then 2 else 1, cft := cft, msgs := msgs }
  let s1 := if nak then s.bump BULK.RX_STAT.NAKS else s
  (s1.setLnk fun l => { l with nakMark := false, carriedB := n, carriedC := c }).emit (.ctrl (buildCtrl h))

/-- A MSG flit is ready to start: a replay, or messages and room for them (R182, R195). -/
def State.msgReady (s : State) : Bool :=
  s.lnk.cptr != s.get CTRL.SEQ_STAT.NEXT_TX || (s.lnk.msgQ != [] && decide (s.outC < 64))

/-- CTRL_FLIT_START: replay first, then up to three new messages (R175, R195); `ue` is a code word of the replayed flit that the read
finds uncorrectable (R414). -/
def execCtrlFlitStart (s : State) (ue : Option (BitVec 1) := none) : Host.Outcome State Fault Refusal :=
  .next (if !s.ctrlFlows false then s
    else if s.lnk.cptr ≠ s.get CTRL.SEQ_STAT.NEXT_TX then
      match s.lnk.crpl.find? (fun f => f.1 == s.lnk.cptr) with
      | some f =>
        if s.lnk.cMarked.contains f.1 then s.goFault EV.IDENT.ARRAY_UE (2 + f.1 % 64 * 2 * 2 ^ 16)
        else match ue with
          | some w => s.replayUe 2 (f.1 % 64 * 2 + w.toNat)
          | none => (s.setLnk fun l => { l with cptr := (f.1 + 1) % 256 }).sendCtrl f.1 1 f.2
      | none => s
    else if s.msgReady then
      let seq := s.get CTRL.SEQ_STAT.NEXT_TX
      let ms := s.lnk.msgQ.take 3
      (((s.put CTRL.SEQ_STAT.NEXT_TX (seq + 1)).wordsWritten 2 (seq % 64 * 2) 2).setLnk fun l =>
        { l with msgQ := l.msgQ.drop 3, crpl := l.crpl ++ [(seq, ms)], cptr := (seq + 1) % 256 }).sendCtrl seq 1 ms
    else s)

/-- An ACK_ONLY flit leaves (R175). -/
def State.ackOnly (s : State) : State := (s.bump CTRL.TX_STAT.ACK_ONLY).sendCtrl (s.get CTRL.SEQ_STAT.NEXT_TX) 2 []

/-- ACK_ONLY_SEND: a value that no flit has carried yet, and no MSG flit ready (R185). -/
def execAckOnlySend (s : State) : Host.Outcome State Fault Refusal :=
  .next (if s.ctrlFlows false && !s.msgReady &&
      (s.get BULK.SEQ_STAT.NEXT_RX != s.lnk.carriedB || s.get CTRL.SEQ_STAT.NEXT_RX != s.lnk.carriedC) then s.ackOnly
    else s)

/-- ACK_ONLY_KEEPALIVE: 64 LCLK cycles without a control flit (R185). -/
def execAckOnlyKeepalive (cycles : Nat) (s : State) : Host.Outcome State Fault Refusal :=
  .next (if s.ctrlFlows false && decide (64 ≤ cycles) then s.ackOnly else s)

/-- CTRL_REPLAY_TIMEOUT (R195). -/
def execCtrlReplayTimeout (cycles : Nat) (s : State) : Host.Outcome State Fault Refusal :=
  .next (if s.ctrlTimers && s.outC != 0 && decide (s.get CTRL.RPL_CTL.TIMEOUT ≤ cycles) then
      let n := s.lnk.cNoProgress + 1
      let s1 := (s.bump CTRL.TX_STAT.TIMEOUTS).setLnk fun l => { l with cptr := s.get CTRL.SEQ_STAT.OLDEST, cNoProgress := n }
      if n = s.get CTRL.RPL_CTL.LIMIT then s1.goFault EV.CTRL.CTRL_REPLAY_LIMIT (s.get CTRL.SEQ_STAT.OLDEST) else s1
    else s)

/-- CREDIT_RETURN_SEND: the next waiting count goes into a CREDIT_RET message (R203). -/
def execCreditReturnSend (s : State) : Host.Outcome State Fault Refusal :=
  .next (if !s.clkOn 4 || s.colDead || !s.colIn (.creditInit :: inService) then s
    else match s.nextCount 11 with
      | some k => (s.countSent k).setLnk fun l => { l with msgQ := l.msgQ ++ [creditMsg 2 k (s.get (CREDIT.RX_STAT.RETURNED k))] }
      | none => s)

/-! ### Site errors (R133) -/

/-- The site that carried bit `b` of the flit at place `pos` of its burst (R158, R133). -/
def State.bulkSite (s : State) (pos b : Nat) : Option Nat :=
  let gs := setBitsOf 4 (s.groups true)
  let w := 32 * gs.length
  if w = 0 then none
  else
    let a := (burstBit w pos b).1
    match gs[a / 32]? with
    | some g => (s.laneSite true g (a % 32)).map (fun k => siteIndex g k)
    | none => none

/-- The site that carried bit `b` of a control flit (R159). -/
def State.ctrlSite (s : State) (b : Nat) : Option Nat := (s.laneSite true 4 (b % 8)).map (fun k => siteIndex 4 k)

/-- Error attribution has a new count for the site, or from 145 on the group, of an index: whether it is to be declared now. It is
declared once for the errors that a count holds (R132, R134). -/
def State.declares (s : State) (x n : Nat) : Bool × State :=
  let old := s.rep.charged.filter (fun y => y != x || n != 1)
  if s.get REPAIR.ATTR_CTL.THRESHOLD ≤ n ∧ !old.contains x then (true, { s with rep := { s.rep with charged := x :: old } })
  else (false, { s with rep := { s.rep with charged := old } })

/-- One site is charged an error; a count that has reached THRESHOLD declares it failing (R132). -/
def State.chargeSite (s : State) (i : Nat) : State :=
  let n := s.get (REPAIR.SITE_ERR.COUNT i)
  let s1 := if n = 0 then s.put (REPAIR.SITE_ERR.FIRST i) s.beat.toNat else s
  let (now, s2) := (s1.put (REPAIR.SITE_ERR.COUNT i) (min (n + 1) 255)).declares i (n + 1)
  if now then s2.siteFailing i 0 else s2

/-- One comparison is charged to the sites of a group, or to the group where more than four differ (R133). -/
def State.chargeGroup (s : State) (g : Nat) (sites : List Nat) : State :=
  if sites.length ≤ 4 then sites.foldl State.chargeSite s
  else
    let n := s.get (REPAIR.GROUP_ERR.COUNT g)
    let s1 : State := if n = 0 then { s with rep := { s.rep with grpFirst := Sparse.set g (some s.beat) s.rep.grpFirst } } else s
    let (now, s2) := (s1.put (REPAIR.GROUP_ERR.COUNT g) (min (n + 1) 255)).declares (145 + g) (n + 1)
    if now then s2.evalTrigger (.group g 2 true) else s2

/-- A kept flit is compared with its good copy: `diff` has a bit for each differing bit that every transmission carries alike. -/
def State.attribute (s : State) (width diff : Nat) (site : Nat → Option Nat) : State :=
  let sites := dedup ((setBitsOf width diff).filterMap site)
  [0, 1, 2, 3, 4].foldl (fun t g => t.chargeGroup g (sites.filter (fun i => siteGroup i == g))) s

/-- The bits of a bulk flit, and of a control flit, that every transmission carries unchanged (R164, R175). -/
def bulkStable : Nat := (2 ^ 12 - 1) + 3 * 2 ^ 26 + (2 ^ 15 - 1) * 2 ^ 48 + (2 ^ 1920 - 1) * 2 ^ 64
def ctrlStable : Nat := (2 ^ 8 - 1) + 3 * 2 ^ 30 + (2 ^ 192 - 1) * 2 ^ 32

end Sys2Proof.Machine
end

