-- ==== Sys2Proof/Machine/Txn.lean ====
section
/-!
DEFINITION. Transactions (08_transactions_ordering_and_speculation.md): offers of the die and their local answers (R512, R513),
tentative presentation and run-ahead (R190, R227), what a CRC result confirms (R191, R180, R214, R238, R362), early reads
(R230 to R232), and the die's side of the message port (R44, R45).
-/

namespace Sys2Proof.Machine

/-! ### Checks of requests -/

/-- A die offer is malformed (R512). -/
def offerMalformed (cls : Nat) (h : Hdr) : Bool :=
  match h.operation with
  | none => true
  | some o => o.tc != cls || o.tc != h.tc || !o.lenOk h.len || !h.aligned || (h.early && o != .rd) || (h.last && o != .contrib)

/-- A request received across the Col is malformed (R180, SLOT_BAD). EARLY is legal only from an H-end, so only at an M-end. -/
def State.slotBad (s : State) (h : Hdr) (o : Op) : Bool :=
  o.tc != h.tc || !o.lenOk h.len || !h.aligned || (h.early && !(o == .rd && s.isM)) || (h.last && o != .contrib) ||
  (h.lvl && !s.levelAgreed)

/-- Non-zero fields of a header slot that its layout fixes at zero, and a non-zero STATUS of a request (R165, R167, R168, R180): a response's LVL
and ADDR, and every field of a NOP. -/
def rsvdFields (h : Hdr) (o : Op) : Nat :=
  b2n h.rsvd + b2n (bits h.attr 3 5 != 0) + b2n (!h.opdClean o) + b2n (!o.isResponse && h.status != 0) +
  (if o.isResponse || o == .nop then b2n h.lvl + b2n (h.addr != 0) else 0) +
  (if o == .nop then b2n (h.tc != 0) + b2n (h.tag != 0) + b2n (h.len != 0) + b2n (h.ctx != 0) + b2n (bits h.attr 0 3 != 0) + b2n (h.dbeat != 0)
   else 0)

/-- What the end presents of a request header: no STATUS (R173) and no reserved bit. -/
def presHdr (h : Hdr) : Hdr := if h.isResponse then { h with rsvd := false } else { h with rsvd := false, status := 0 }

/-! ### Offers of the die -/

/-- Capture a bad offer or response in ERR_CAPTURE (R455). -/
def State.captureErr (s : State) (tag ctx kind : Nat) : State :=
  ((s.put TXN.ERR_CAPTURE.TAG tag).put TXN.ERR_CAPTURE.CTX ctx).put TXN.ERR_CAPTURE.KIND kind

/-- A request that the end turns away without sending it: an answer, with the request registered until it is presented, or for a posted
write a lost-context report (R212, R513). `resv` landing entries are reserved for the answer. -/
def State.turnAway (s : State) (h : Hdr) (st : Status) (resv : Nat) : State :=
  if h.isPosted then s.reportLost h.ctx 8
  else
    let a : Hdr := { respHdr h st with op := Op.cpl.code, len := 0 }
    let s1 := if resv = 0 then s else s.put CREDIT.RSP_STAT.FREE (s.get CREDIT.RSP_STAT.FREE - resv)
    (s1.setTxn fun t => { t with outT := Sparse.set h.tag (some h) t.outT }).present' (pieceItems a true [] true false 0 false resv)

/-- Why an offer is answered FMT_REFUSED whatever the credits (R201, R216, R271). -/
def State.fmtRefused (s : State) (h : Hdr) (o : Op) : Bool :=
  (reqCredits h.tc o h.len).any (fun c => s.get (CREDIT.TX_STAT.ADV c.1) == 0) ||
  (h.tc == 3 && !s.levelAgreed) ||
  (s.isH && (o == .rd || h.tc == 1 || (h.tc == 2 && !o.isAtomic)) && fmtBlock h.vfmt && !s.fmtAgreed h.vfmt)

/-- The Col credits that a request needs are in hand (R35). -/
def State.hasCredits (s : State) (h : Hdr) (o : Op) : Bool := (reqCredits h.tc o h.len).all (fun c => decide (c.2 ≤ s.avail c.1))

/-- The request as it crosses the Col: LVL by R215, off in LOWLAND (R155), STATUS zero by R173, and EARLY only from an H-end (R230). A read
that is held for its verdict stays Swift, as it was offered (DESIGN CHOICE). The reserved bit [11] is zero; other reserved bits, of
ATTR and OPD, go as the die offers them (DESIGN CHOICE). -/
def State.sentHdr (s : State) (h : Hdr) : Hdr :=
  let early := h.early && s.isH
  let lvl := s.levelAgreed && s.chip.col != .lowland && !early && (h.tc == 3 || bit (s.get TXN.LEVEL_CTL.TC_MASK) h.tc)
  { h with rsvd := false, status := 0, lvl := lvl, attr := if early then h.attr else clearBit h.attr 0 }

/-- Take a request: credits, the landing reservation, the outstanding table and the early-read table (R202, R205, R212, R230). -/
def State.takeRequest (s : State) (h : Hdr) (o : Op) : State × TakeMode :=
  let s1 := (reqCredits h.tc o h.len).foldl (fun t c => t.consume c.1 c.2) s
  let s2 := if o.isPosted then s1 else
    (s1.put CREDIT.RSP_STAT.FREE (s1.get CREDIT.RSP_STAT.FREE - respEntries o h.len)).setTxn fun t =>
      { t with outT := Sparse.set h.tag (some h) t.outT }
  if h.early && s.isH then
    let send := s.on TXN.SPEC_CTL.EARLY_EN
    let e : EarlyRead := { hdr := h, since := s.beat, held := !send, limit := s.get TXN.SPEC_CTL.VERDICT_TIMEOUT }
    let s3 := s2.setTxn fun t => { t with early := Sparse.set h.tag (some e) t.early }
    (if send then s3.bump TXN.SPEC_STAT_HI.EARLY_ISSUED else s3, if send then .send else .hold)
  else (s2, .send)

/-- The slots that a transaction has after its header: what the die offered, with undefined units where it offered too few. -/
def State.fitSlots (s : State) (h : Hdr) (units : List Nat) : List Nat × State :=
  let n := (slotsAfter h.operation h.len).getD 0
  let (us, s1) := s.undefUnits (n - units.length)
  (units.take n ++ us, s1)

/-- The last cycle of a transaction has been taken: its slots wait in the transmit path, and wake an end that has parked meanwhile (R435,
R436). -/
def State.offerEnd (s : State) (m : TakeMode) (t : TxItem) : State :=
  let s0 := s.setLnk fun k => { k with txCur := none }
  match m with
  | .send =>
    let (us, s1) := s0.fitSlots t.hdr t.slots
    (s1.setLnk fun k => { k with txQ := k.txQ ++ [{ t with slots := us }] }).wake (if t.hdr.isResponse then 2 else 1)
  | .hold => s0.setLnk fun k => { k with txQ := k.txQ ++ [{ t with slots := [], held := true }] }
  | .sink => s0

/-- A cycle of a transaction has been taken: it ends the transaction, or more follow. -/
def State.offerCycle (s : State) (m : TakeMode) (t : TxItem) (last : Bool) : State :=
  if last then s.offerEnd m t else s.setLnk fun k => { k with txCur := some (m, t) }

/-- The units of a cycle as numbers. -/
def cycleUnits (c : DieCycle) : List Nat := c.units.map BitVec.toNat

/-- A request header is offered (R513): the first treatment that applies. DESIGN CHOICE: an offer with the opcode NOP, which is no request,
is taken and discarded without a count or an event. -/
def State.offerRequest (s : State) (c : DieCycle) (h : Hdr) : State :=
  let item : TxItem := { hdr := s.sentHdr h, slots := (cycleUnits c).drop 1 }
  if !h.isPosted && (Sparse.find s.txn.outT h.tag).isSome && h.operation != some .nop then
    (((s.bump TXN.ERR_STAT.TAG_REUSE).captureErr h.tag h.ctx 1).raise EV.TXN.TAG_REUSE (h.tag + h.ctx * 2 ^ 16)).offerCycle .sink item c.last
  else if offerMalformed c.cls.toNat h then
    ((((s.turnAway h .denied 0).bump TXN.OFFER_STAT.BAD).captureErr h.tag h.ctx 5).raise EV.TXN.OFFER_BAD
      (h.tag + h.ctx * 2 ^ 16)).offerCycle .sink item c.last
  else
    let o := (h.operation).getD .nop
    if o = .nop then s.offerCycle .sink item c.last
    else if s.fmtRefused h o then (s.turnAway h .fmtRefused 0).offerCycle .sink item c.last
    else if !s.hasCredits h o then s
    else if s.chip.col = .lowland ∧ 2 ≤ h.tc then (s.turnAway h .fmtRefused 0).offerCycle .sink item c.last
    else if !o.isPosted && decide (s.get CREDIT.RSP_STAT.FREE < respEntries o h.len) then s
    else if s.get TXN.DRAIN_STAT.PHASE = 1 then
      ((s.turnAway h .retry (respEntries o h.len)).bump TXN.FAIL_STAT.RETRY).offerCycle .sink item c.last
    else
      let (s1, m) := s.takeRequest h o
      (s1.offerCycle m item c.last).wake 1

/-- The layout that R171 gives a response to `q` with a status code: data or not, and LEN. -/
def rspShape (q : Hdr) (status : Nat) : Bool × Nat :=
  let data := ((q.operation).map Op.returnsData).getD false && [0, 1, 6].contains status
  (data, if data then q.len else 0)

/-- A response header fits its request (R171, R214). -/
def rspFits (q h : Hdr) : Bool :=
  decide (h.status < 9) && (h.op == (if (rspShape q h.status).1 then Op.cplD.code else Op.cpl.code)) && h.len == (rspShape q h.status).2

/-- A response header is offered (R214, R231). -/
def State.offerResponse (s : State) (c : DieCycle) (h : Hdr) : State :=
  let sink (t : State) : State := t.offerCycle .sink { hdr := h, slots := [] } c.last
  if s.txn.gone.contains h.tag then sink (s.setTxn fun t => { t with gone := t.gone.erase h.tag })
  else match Sparse.find s.txn.served h.tag with
    | none =>
      sink (((s.bump TXN.ERR_STAT.ORPHAN_DIE).captureErr h.tag h.ctx 2).raise EV.TXN.RSP_ORPHAN (h.tag + 2 * 2 ^ 16))
    | some q =>
      let s1 := s.setTxn fun t => { t with served := Sparse.set h.tag none t.served }
      if s1.txn.squashed.contains h.tag then sink ((s1.respond q .squashed 0 []).wake 2)
      else if !rspFits q h then
        sink (((((s1.bump TXN.ERR_STAT.RSP_LEN_BAD).captureErr h.tag q.ctx 4).raise EV.TXN.RSP_LEN_BAD h.tag).respond q .poison 0 []).wake 2)
      else
        let attr := if h.status = 1 ∨ h.status = 6 then setBit h.attr 1 else h.attr
        let r : Hdr := { h with tc := q.tc, ctx := q.ctx, lvl := false, rsvd := false, addr := 0, attr := attr }
        (s1.offerCycle .send { hdr := r, slots := (cycleUnits c).drop 1 } c.last).wake 2

/-- The die port takes an offer only with its clock, a role, a Col that takes offers, and no transaction under way (R35, R36). -/
def State.portOpen (s : State) : Bool := !s.steer && s.clkOn 1 && s.lnk.txCur.isNone

/-- DPI_HEADER_OFFER and DIE_RESPONSE_OFFER: one header cycle. -/
def State.offer (s : State) (c : DieCycle) : State :=
  if !s.portOpen then s
  else
    let h := hdrOf ((cycleUnits c).headD 0)
    if h.isResponse then s.offerResponse c h else s.offerRequest c h

/-- DPI_HEADER_OFFER. -/
def execDpiHeaderOffer (c : DieCycle) (s : State) : Host.Outcome State Fault Refusal :=
  .next (if c.wf then s.offer c else s)

/-- DIE_RESPONSE_OFFER. -/
def execDieResponseOffer (c : DieCycle) (s : State) : Host.Outcome State Fault Refusal :=
  .next (if c.wf then s.offer c else s)

/-- DPI_CONTINUATION: taken whenever it is offered (R35). -/
def execDpiContinuation (c : DieCycle) (s : State) : Host.Outcome State Fault Refusal :=
  .next (if !c.wf || s.chip.dieRst || !s.clkOn 1 then s
    else match s.lnk.txCur with
      | some (m, t) => s.offerCycle m { t with slots := t.slots ++ cycleUnits c } c.last
      | none => s)

/-- DPO_TRANSFER_TAKEN: the die takes the first transfer of a class (R40). -/
def execDpoTransferTaken (cls : BitVec 2) (s : State) : Host.Outcome State Fault Refusal :=
  .next (if s.chip.dieRst || !s.clkOn 1 then s else s.takeItem cls.toNat)

/-! ### Message port (R44, R45) -/

/-- MSG_IN_OFFER. -/
def execMsgInOffer (cls : BitVec 3) (data : Word) (s : State) : Host.Outcome State Fault Refusal :=
  let k := msgIdx cls.toNat
  .next (if s.chip.dieRst || s.role == 0 || !s.clkOn 1 || !s.colIn inService || s.preReset then s
    else if cls = 2 ∨ 5 ≤ cls.toNat then s.raise EV.CTRL.MSG_CLASS_BAD cls.toNat
    else if s.get (CREDIT.TX_STAT.ADV k) = 0 then (s.bump CTRL.FAIL_STAT.MSG_LOST).raise EV.CTRL.MSG_LOST 1
    else if s.avail k = 0 then s
    else (s.consume k 1).setLnk fun l => { l with msgQ := l.msgQ ++ [data.toNat / 8 * 8 + cls.toNat] })

/-- MSG_OUT_TAKEN: the oldest message of a class leaves, and frees its credit (R44, R203). -/
def execMsgOutTaken (cls : BitVec 3) (s : State) : Host.Outcome State Fault Refusal :=
  .next (if s.chip.dieRst || !s.clkOn 1 then s
    else match s.lnk.msgOut.find? (fun m => msgClass m == cls.toNat) with
      | none => s
      | some m => (s.setLnk fun l => { l with msgOut := l.msgOut.erase m }).freeCredit (msgIdx cls.toNat) 1)

/-! ### Early reads (R47, R48, R230 to R232) -/

/-- The SQUASHED answer of an early read goes to the die, and its entry ends (R231). -/
def State.answerSquashed (s : State) (e : EarlyRead) : State :=
  (s.setTxn fun t => { t with early := Sparse.set e.hdr.tag none t.early }).answerDie e.hdr .squashed e.hdr.resv

/-- A response is presented to the die. -/
def State.presentResponse (s : State) (h : Hdr) (units : List Nat) (resv : Nat) : State :=
  s.present' (pieceItems (presHdr h) true units true false 0 false resv)

/-- A verdict is applied to an early read (R47, R230, R231). -/
def State.verdict (s : State) (e : EarlyRead) (dirty : Bool) : State :=
  let tag := e.hdr.tag
  if e.held then
    let mine (t : TxItem) : Bool := t.held && t.hdr.tag == tag
    let go (t : TxItem) : TxItem := { t with held := false, hdr := { t.hdr with attr := clearBit t.hdr.attr 0 } }
    if dirty then
      ((s.takeBack 0 1).setLnk fun k =>
        { k with txQ := k.txQ.filter (fun t => !mine t)
                 txCur := k.txCur.map (fun c => if c.1 = .hold ∧ c.2.hdr.tag = tag then (.sink, c.2) else c) }).answerSquashed e
    else
      (s.setTxn fun t => { t with early := Sparse.set tag none t.early }).setLnk fun k =>
        { k with txQ := k.txQ.map (fun t => if mine t then go t else t)
                 txCur := k.txCur.map (fun c => if c.1 = .hold ∧ c.2.hdr.tag = tag then (.send, go c.2) else c) }
  else if dirty then
    let s1 := (s.bump TXN.SPEC_STAT_HI.SQUASHED).setLnk fun k => { k with msgQ := linkMsg 4 tag :: k.msgQ }
    match e.resp with
    | some _ => s1.answerSquashed e
    | none => s1.setTxn fun t => { t with early := Sparse.set tag (some { e with verdict := some true }) t.early }
  else match e.resp with
    | some (h, us) => (s.setTxn fun t => { t with early := Sparse.set tag none t.early }).presentResponse h us e.hdr.resv
    | none => s.setTxn fun t => { t with early := Sparse.set tag (some { e with verdict := some false }) t.early }

/-- DIR_VERDICT: only an H-end has the verdict port (R70). -/
def execDirVerdict (tag : BitVec 12) (dirty : Bool) (s : State) : Host.Outcome State Fault Refusal :=
  .next (if s.chip.dieRst || !s.isH || !s.clkOn 1 then s
    else match Sparse.find s.txn.early tag.toNat with
      | some e => if e.verdict.isNone then s.verdict e dirty else s.raise EV.TXN.DIR_ORPHAN tag.toNat
      | none => s.raise EV.TXN.DIR_ORPHAN tag.toNat)

/-- VERDICT_TIMEOUT: no verdict is a dirty one (R232). -/
def execVerdictTimeout (tag : BitVec 12) (now : Beat) (s : State) : Host.Outcome State Fault Refusal :=
  let s1 := s.at now
  .next (match Sparse.find s1.txn.early tag.toNat with
    | some e =>
      if e.verdict.isNone && s1.past e.since e.limit then
        (s1.raise EV.TXN.DIR_TIMEOUT tag.toNat).verdict e true
      else s1
    | none => s1)

/-! ### Level release (R362, R363, R370, R371) -/

/-- The release beat of a request whose header's flit passes its CRC now (R362). -/
def State.releaseBeat (s : State) (dbeat : Nat) : Beat :=
  let c := s.beat + 1
  let d := c - BitVec.ofNat 64 ((c.toNat + 65536 - dbeat % 65536) % 65536)
  d + BitVec.ofNat 64 (s.get TIME.LEVEL_CTL.L_LEVEL)

/-- A sequence lies in the stale cut that runs (R371). -/
def State.inCut (s : State) (seq : Nat) : Bool :=
  match s.lnk.cut with
  | some s0 => decide ((seq + 4096 - s0) % 4096 < 256)
  | none => false

/-- An interval of R370 runs on the receive direction now. -/
def State.suspendedNow (s : State) : Bool :=
  s.susp.any (fun x => x.rx && decide (x.start ≤ s.beat) && decide (s.beat ≤ x.stop)) || s.chip.col == .lowland || s.chip.col == .retrain ||
  s.lnk.cut.isSome || s.on TIME.LOCK_STAT.ALIGN_FAIL || s.on TIME.SLEW_STAT.PENDING

/-- A late request is counted, with LEVEL_LATE where no interval of R370 covers it; `off` where a stale cut or Lowland makes it late. -/
def State.countLate (s : State) (r : Beat) (tag : Nat) (off : Bool) : State :=
  if off || s.suspendedNow || s.susp.any (fun x => x.rx && decide (x.start ≤ r) && decide (r ≤ x.stop)) then s.bump TIME.LATE_STAT.SUSPENDED
  else (s.bump TIME.LATE_STAT.COUNT).raise EV.TIME.LEVEL_LATE tag

/-- A Level request is released to the die. Its credits are freed as the die takes it, which may hold it back (R203, R363). -/
def State.presentLevel (s : State) (l : LevelItem) (late : Bool) : State :=
  let h := { presHdr l.hdr with status := if late then Status.late.code else 0 }
  s.present' (pieceItems h true l.units true false l.seq true 0)

/-- Waiting Level requests stand in the order of release beat, and within it of sequence (R219). -/
def insertLevel (l : LevelItem) : List LevelItem → List LevelItem
  | [] => [l]
  | x :: xs => if l.release < x.release then l :: x :: xs else x :: insertLevel l xs

/-- LEVEL_RELEASE: every confirmed Level request whose release beat has come (R363). -/
def execLevelRelease (now : Beat) (s : State) : Host.Outcome State Fault Refusal :=
  let s1 := s.at now
  .next (if s1.clkOn 1 then
      let due := s1.txn.levelQ.filter (fun l => decide (l.release ≤ s1.beat))
      due.foldl (fun t l => t.presentLevel l false)
        (s1.setTxn fun t => { t with levelQ := t.levelQ.filter (fun l => !decide (l.release ≤ s1.beat)) })
    else s1)

/-- STALE_CUT: 16,384 beats without progress (R371). -/
def execStaleCut (now : Beat) (s : State) : Host.Outcome State Fault Refusal :=
  let s1 := s.at now
  .next (match s1.lnk.stall with
    | some t => if s1.past t 16384 then s1.startCut.setLnk fun k => { k with stall := some s1.beat } else s1
    | none => s1)

/-! ### Tentative presentation (R190, R226, R227) -/

/-- Entries that the response of a header holds (R205). -/
def respResv (h : Hdr) : Nat := if h.op = Op.cplD.code then 1 + (lenBytes h.len).getD 0 / 16 else 1

/-- The reservation that a matched response frees. -/
def State.resvOf (s : State) (h : Hdr) : Nat :=
  match Sparse.find s.txn.outT h.tag with
  | some q => q.resv
  | none => respResv h

/-- A response goes to the die as it comes: it fits its request, no answer is on its way, and the read is not early (R214, R231). -/
def State.plainResponse (s : State) (h : Hdr) : Bool :=
  match Sparse.find s.txn.outT h.tag with
  | some q => q.tc == h.tc && rspFits q h && !s.answerQueued h.tag && (Sparse.find s.txn.early h.tag).isNone
  | none => false

/-- The binding entry of a request's page; beyond the die-local map there is none (R305). -/
def State.bindFor (s : State) (h : Hdr) : Option Word := if 2 ^ 40 ≤ h.byteAddr then none else s.entryOf (h.byteAddr / 2 ^ 23)

/-- A Swift request goes to the die as it comes (R217, R304). -/
def State.plainRequest (s : State) (h : Hdr) (o : Op) (b : Option Word) : Bool :=
  !h.lvl && !s.slotBad h o && s.routeOf h o b == .direct

/-- A Level posted write stands in a flit that arrived and is not confirmed, or is not complete: on a spine Col no later request of TC0 to
TC2 is shown before it (R220). -/
def Hdr.levelPosted (h : Hdr) : Bool := h.isPosted && h.lvl
def State.levelComing (s : State) : Bool :=
  s.isS && ((match s.lnk.gather with | some g => g.hdr.levelPosted | none => false) ||
    s.lnk.rxQ.any (fun f => f.presented.isSome && (setBitsOf 15 (bulkHdr f.raw.toNat).hdrMap).any (fun i =>
      (hdrOf ((bulkSlots f.raw.toNat).getD i 0)).levelPosted)))

/-- A request of this Col that is not shown yet stands before `h`: one of its TC, or a posted write (R219, R220). -/
def State.heldBefore (s : State) (h : Hdr) : Bool := s.lnk.withheld.any (fun x => x.2.tc == h.tc || (x.2.isPosted && h.tc != 3))

/-- A piece may be shown to the die before its CRC is checked; `ahead` where a Level posted write must go first. -/
def State.showable (s : State) (ahead : Bool) (p : Piece) : Bool :=
  if p.first then
    match p.hdr.operation with
    | some o =>
      if o.isResponse then s.plainResponse p.hdr
      else s.plainRequest p.hdr o (s.bindFor p.hdr) && !(ahead && p.hdr.tc != 3) && !s.heldBefore p.hdr
    | none => false
  else s.lnk.openShown

/-- The piece begins a Swift request of a spine Col that is not shown to the die, though no rule of R180 turns it away. -/
def State.withholds (s : State) (p : Piece) (shown : Bool) : Bool :=
  s.isS && p.first && !shown && !p.hdr.isResponse && !p.hdr.lvl && !s.slotBad p.hdr ((p.hdr.operation).getD .nop)

/-- The transfers of a piece. -/
def State.itemsOf (s : State) (p : Piece) (tent : Bool) (seq : Nat) : List DpoItem :=
  let rsp := p.hdr.isResponse
  let resv := if !rsp || !p.last then 0 else if p.first then s.resvOf p.hdr else respResv p.hdr
  pieceItems (presHdr p.hdr) p.first p.units p.last tent seq (p.last && !rsp) resv

/-- The engine takes a transaction before its confirmation, or when the run-ahead buffer has room for it (R227). -/
def State.runAheadTake (s : State) (p : Piece) (seq : Nat) : State :=
  let o := (p.hdr.operation).getD .nop
  if p.last && s.isM && s.clkOn 2 && s.on TXN.SPEC_CTL.RUNAHEAD_EN && (o.tc == 2 || o.tc == 3) && !s.slotBad p.hdr o then
    (s.setTxn fun t => { t with aheadWait := t.aheadWait ++ [{ hdr := presHdr p.hdr, seq := seq }] }).fillAhead
  else s

/-- Present the pieces of a flit tentatively; the flags say which were shown. -/
def State.showPieces (s : State) (seq : Nat) (ahead : Bool) : List Piece → List Bool × State
  | [] => ([], s)
  | p :: ps =>
    let b := s.showable ahead p
    let s1 := if b then s.present' (s.itemsOf p true seq) else s
    let s2 := (s1.runAheadTake p seq).setLnk fun k =>
      { k with openShown := b && !p.last, withheld := if s.withholds p b then k.withheld ++ [(seq, p.hdr)] else k.withheld }
    let (bs, s3) := s2.showPieces seq (ahead || (s.isS && p.first && p.hdr.levelPosted)) ps
    (b :: bs, s3)

/-- BULK_FLIT_ARRIVAL (R190). -/
def execBulkFlitArrival (flit : BulkFlit) (pos : Nat) (s : State) : Host.Outcome State Fault Refusal :=
  .next (if !s.bulkComes then s
    else
      let f := flit.toNat
      let b := bulkHdr f
      let s0 := s.content
      let e := s0.get BULK.SEQ_STAT.EXP
      let push (t : State) (q : Option Nat) (shown : List Bool) : State := t.setLnk fun k => { k with rxQ := k.rxQ ++ [⟨flit, pos, q, shown⟩] }
      if b.ftype = 1 ∧ b.seq = e then
        let s1 := s0.put BULK.SEQ_STAT.EXP (e + 1)
        match walkSlots b.hdrMap (bulkSlots f) 0 s1.lnk.openT with
        | some (ps, o) =>
          let (shown, s2) := s1.showPieces e s1.levelComing ps
          push (s2.setLnk fun k => { k with openT := o }) (some e) shown
        | none => push s1 (some e) []
      else push s0 none [])

/-! ### Confirmed content -/

/-- A confirmed response that was not shown is matched (R180, R214, R231). -/
def State.onResponse (s : State) (h : Hdr) (units : List Nat) : State :=
  let statusBad := decide (9 ≤ h.status) || (h.len != 0 && !([0, 1, 6].contains h.status)) || !((h.operation).map (fun o => o.lenOk h.len)).getD false
  let s0 := if statusBad then s.raise EV.BULK.RSP_STATUS_BAD (h.tag + h.status * 2 ^ 16) else s
  match Sparse.find s0.txn.outT h.tag with
  | none => ((s0.bump TXN.ERR_STAT.ORPHAN_COL).captureErr h.tag h.ctx 3).raise EV.TXN.RSP_ORPHAN (h.tag + 3 * 2 ^ 16)
  | some q =>
    if s0.answerQueued h.tag then ((s0.bump TXN.ERR_STAT.ORPHAN_COL).captureErr h.tag h.ctx 3).raise EV.TXN.RSP_ORPHAN (h.tag + 3 * 2 ^ 16)
    else match Sparse.find s0.txn.early h.tag with
      | some e =>
        if e.verdict = some true then s0.answerSquashed e
        else
          let (h2, us, s1) :=
            if statusBad || h.tc != q.tc || !rspFits q h then
              let s1 := if statusBad then s0 else ((s0.bump TXN.ERR_STAT.RSP_LEN_BAD).captureErr h.tag q.ctx 4).raise EV.TXN.RSP_LEN_BAD h.tag
              let r := respHdr q .poison
              let (us, s2) := s1.undefUnits ((lenBytes r.len).getD 0 / 16)
              (r, us, s2)
            else (h, units, s0)
          if e.verdict = some false then
            (s1.setTxn fun t => { t with early := Sparse.set h.tag none t.early }).presentResponse h2 us q.resv
          else s1.setTxn fun t => { t with early := Sparse.set h.tag (some { e with resp := some (h2, us) }) t.early }
      | none =>
        if statusBad then s0.answerDie q .poison q.resv
        else if h.tc ≠ q.tc ∨ rspFits q h = false then
          (((s0.bump TXN.ERR_STAT.RSP_LEN_BAD).captureErr h.tag q.ctx 4).raise EV.TXN.RSP_LEN_BAD h.tag).answerDie q .poison q.resv
        else s0.presentResponse h units q.resv

/-- What a posted write leaves when it is turned away (R238, R304, R305, R320). -/
def State.postedFx (s : State) (h : Hdr) (fx : PostedFx) : State :=
  match fx with
  | .none => s
  | .dropped => s.bump TXN.MDRAIN_STAT.POSTED_DROPPED
  | .migrating => (s.bump DEFILE.BIND_STAT.MIG_POSTED_DROPPED).reportLost h.ctx 3
  | .partialRefused => s.bump DEFILE.SAFE_STAT_HI.PARTIAL_REFUSED

/-- A request that this end answers without performing it: its credits are freed (R203). -/
def State.answerCol (s : State) (h : Hdr) (st : Status) (fx : PostedFx) : State :=
  if h.isPosted then (s.postedFx h fx).freeRequest h else ((s.respond h st 0 []).freeRequest h).wake 2

/-- A malformed request slot is consumed (R180). -/
def State.slotBadEnd (s : State) (h : Hdr) (o : Op) : State :=
  let s1 := ((s.bump BULK.RX_STAT.SLOT_BAD).raise EV.BULK.SLOT_BAD (h.tag + h.op * 2 ^ 16)).freeCredit h.tc 1
  let s2 := if o.hasData ∧ h.tc ≠ 0 then s1.freeCredit (h.tc + 3) (((lenBytes h.len).getD 0 + 63) / 64) else s1
  if h.isPosted then s2 else s2.respond h .denied 0 []

/-- A confirmed request whose slots are all here, and that was not presented piece by piece. -/
def State.onRequest (s : State) (g : Gather) (seq : Nat) : State :=
  let h := presHdr g.hdr
  let o := (h.operation).getD .nop
  if s.slotBad h o then s.slotBadEnd h o
  else
    let off := s.levelOff || g.cut || s.inCut seq
    let late (r : Beat) : Bool := off || decide (r < s.beat)
    match s.routeOf h o g.bind with
    | .answer st fx => s.answerCol h st fx
    | .bad page cause => (s.bindBad page cause).answerCol h .denied .none
    | .engine =>
      let ahead := s.txn.runAhead.any (fun e => !e.conf && e.seq == seq && e.hdr.tag == h.tag)
      let s1 := match g.release with
        | some r => if late r then s.countLate r h.tag off else s
        | none => s
      let q : EngReq := ⟨h, g.units, g.release, off && g.release.isSome, g.bind, seq, ahead, g.binds⟩
      (if ahead then s1 else s1.issueReads q).setTxn fun t => { t with engQ := t.engQ ++ [q] }
    | .direct =>
      match g.release with
      | some r =>
        if late r then (s.countLate r h.tag off).presentLevel ⟨h, g.units, r, seq⟩ true
        else s.setTxn fun t => { t with levelQ := insertLevel ⟨h, g.units, r, seq⟩ t.levelQ }
      | none => s.present' (pieceItems h true g.units true false seq true 0)

/-- What a piece's header begins to gather. -/
def State.startGather (s : State) (h : Hdr) (seq : Nat) (shown : Bool) : Gather :=
  let b := s.bindFor h
  let direct := match h.operation with
    | some o => if o.isResponse then shown else shown || s.plainRequest h o b
    | none => shown
  { hdr := h, units := [], release := if h.lvl then some (s.releaseBeat h.dbeat) else none, bind := b, direct := direct, cut := s.inCut seq }

/-- One confirmed piece (R191, R194): a shown one is already with the die. -/
def State.onPiece (s : State) (seq : Nat) (p : Piece) (shown : Bool) : State :=
  let s0 := if p.first then
      let o := (p.hdr.operation).getD .nop
      s.bumpBy BULK.RX_STAT.RSVD_NONZERO (rsvdFields p.hdr o)
    else s
  let g0 := if p.first then s0.startGather p.hdr seq shown else (s0.lnk.gather).getD (s0.startGather p.hdr seq shown)
  let g := { g0 with units := g0.units ++ p.units }
  let s1 := s0.setLnk fun k => { k with gather := if p.last then none else some (if g.direct then { g with units := [] } else g) }
  if g.direct then (if shown then s1 else s1.present' (s1.itemsOf p false seq))
  else if !p.last then s1
  else if p.hdr.isResponse then s1.onResponse g.hdr g.units
  else s1.onRequest g seq

/-- The pieces of a confirmed flit, with the flags that say which were shown. -/
def State.onPieces (s : State) (seq : Nat) : List Piece → List Bool → State
  | [], _ => s
  | p :: ps, bs => (s.onPiece seq p (bs.headD false)).onPieces seq ps bs.tail

/-- A NAK episode starts unless one is pending (R191, R192, R371). -/
def State.startNak (s : State) : State :=
  let s1 := (s.put BULK.SEQ_STAT.EXP (s.get BULK.SEQ_STAT.NEXT_RX)).setLnk fun k => { k with stall := some (k.stall.getD s.beat) }
  if s1.on BULK.RPL_STAT.NAK_PENDING then s1
  else (s1.put BULK.RPL_STAT.NAK_PENDING 1).setLnk fun k => { k with nakMark := true }

/-- A bulk flit fails its CRC (R191, R133). -/
def State.flitFailed (s : State) (f : RxFlit) : State :=
  let n := f.raw.toNat
  let s1 := s.bump BULK.RX_STAT.CRC_BAD
  let s2 := if (bulkHdr n).ftype = 2 then s1 else { s1 with rep := { s1.rep with keptBulk := some (f.raw, f.pos) } }
  (match f.presented with
    | some q => s2.cancelFrom q
    | none => s2).startNak

/-- The header of a bulk flit breaks R180. -/
def bulkBad (b : BulkHdr) (slots : List Nat) : Bool :=
  b.ackt == 0 || b.ackt == 3 || b.ftype == 0 || b.ftype == 3 || (b.crKind == 1 && b.crTc == 0) ||
  (b.ftype == 2 && (b.hdrMap != 0x7FFF || slots.any (· != 0)))

/-- The acknowledge and credit return of a good flit (R184, R204). -/
def State.applyBulkHdr (s : State) (b : BulkHdr) : State :=
  let s1 := if b.rsvd then s.bump BULK.RX_STAT.RSVD_NONZERO else s
  let s2 := s1.ackBulk b.ack (b.ackt == 2)
  if !b.crv then s2
  else match creditIndex 0 b.crTc b.crKind with
    | none => s2
    | some k =>
      match s2.applyReturn k b.crCount with
      | some s3 => s3
      | none => s2.goFault EV.CREDIT.CREDIT_BAD (k + b.crCount * 2 ^ 16)

/-- The kept failed flit is compared with the good flit that took its place (R133). -/
def State.attributeBulk (s : State) (good : BulkFlit) : State :=
  match s.rep.keptBulk with
  | none => s
  | some (bad, pos) =>
    ({ s with rep := { s.rep with keptBulk := none } }).attribute 2048 ((bad.toNat ^^^ good.toNat) &&& bulkStable) (s.bulkSite pos)

/-- Non-zero fields of the NOP headers of a flit that are to be zero (R165, R168, R180). -/
def nopRsvd (hdrMap : Nat) (slots : List Nat) : Nat :=
  ((setBitsOf 15 hdrMap).map (fun i => hdrOf (slots.getD i 0))).foldl
    (fun n h => if h.operation = some .nop then n + rsvdFields h .nop else n) 0

/-- A sequence is confirmed for the run-ahead buffer: results of requests that the engine now holds stay until their commit, others are
discarded and counted, and what waited for room is not taken any more (R227, R228). -/
def State.aheadConfirm (s : State) (seq : Nat) : State :=
  let mine (a : Ahead) : Bool := !a.conf && a.seq == seq
  let held (a : Ahead) : Bool := s.txn.engQ.any (fun q => q.ahead && q.seq == seq && q.hdr.tag == a.hdr.tag)
  let s1 := s.discardAhead (fun a => mine a && !held a)
  (s1.setTxn fun t => { t with runAhead := t.runAhead.map (fun a => if mine a then { a with conf := true } else a)
                               aheadWait := t.aheadWait.filter (fun a => a.seq != seq) }).fillAhead

/-- The flit with SEQ NEXT_RX is confirmed (R191). -/
def State.confirmFlit (s : State) (f : RxFlit) (seq : Nat) (ps : List Piece) (o : Option OpenTxn) : State :=
  let s1 := (s.attributeBulk f.raw).bumpBy BULK.RX_STAT.RSVD_NONZERO (nopRsvd (bulkHdr f.raw.toNat).hdrMap (bulkSlots f.raw.toNat))
  let s2 := match f.presented with
    | some q => s1.confirmSeq q
    | none => s1
  let next := (seq + 1) % 4096
  let behind := decide (256 < (s2.get BULK.SEQ_STAT.EXP + 4096 - next) % 4096)
  let s3 := (s2.put BULK.SEQ_STAT.NEXT_RX next).put BULK.RPL_STAT.NAK_PENDING 0
  let s4 := if behind then s3.put BULK.SEQ_STAT.EXP next else s3
  let s5 := ((s4.setLnk fun k => { k with openC := o, stall := none, withheld := k.withheld.filter (fun x => x.1 != seq) }).onPieces seq ps f.shown)
  let cut := match s5.lnk.cut with
    | some s0 => if 256 ≤ (next + 4096 - s0) % 4096 then none else some s0
    | none => none
  let s6 := (s5.setLnk fun k => { k with cut := cut }).aheadConfirm seq
  if f.presented.isSome then s6
  else s6.setLnk fun k => { k with openT := o, openShown := (k.gather.map (·.direct)).getD false }

/-- A bulk flit with a good CRC (R180, R184, R191). -/
def State.flitGood (s : State) (f : RxFlit) : State :=
  let n := f.raw.toNat
  let b := bulkHdr n
  let slots := bulkSlots n
  let next := s.get BULK.SEQ_STAT.NEXT_RX
  let broken (t : State) : State := (t.setLnk fun k => { k with rxQ := [] }).goFault EV.BULK.FLIT_FORMAT b.seq
  if bulkBad b slots then broken s
  else
    let g := (b.seq + 4096 - next) % 4096
    if b.ftype = 1 ∧ g = 0 then
      match walkSlots b.hdrMap slots 0 s.lnk.openC with
      | none => broken s
      | some (ps, o) =>
        let s1 := s.applyBulkHdr b
        if s1.colDead then s1 else s1.confirmFlit f b.seq ps o
    else
      let s1 := s.applyBulkHdr b
      if s1.colDead then s1
      else if 1 ≤ g ∧ g ≤ 256 then
        (if s1.get BULK.SEQ_STAT.EXP = next then s1 else s1.cancelFrom next).startNak
      else s1

/-! ### Control flits (R180, R184, R196) -/

/-- A control flit breaks R180. -/
def ctrlBad (h : CtrlHdr) : Bool :=
  h.cft == 0 || h.cft == 3 || h.backt == 0 || h.backt == 3 ||
  (h.cft == 2 && h.msgs.any (fun m => msgClass m != 7)) || (h.cft == 1 && h.msgs.all (fun m => msgClass m == 7))

/-- A message breaks R180: it is discarded. -/
def msgBad (m : Nat) : Bool :=
  let c := msgClass m
  c == 5 || c == 6 ||
  (c == 2 && (msgLtype m == 0 || decide (5 < msgLtype m) || ((msgLtype m == 1 || msgLtype m == 2) && (creditOf m).1.isNone)))

/-- Non-zero reserved fields of a message (R176, R177). -/
def msgRsvd (m : Nat) : Nat :=
  match msgClass m with
  | 7 => b2n (bits m 3 61 != 0)
  | 2 =>
    match msgLtype m with
    | 1 | 2 => b2n (bits m 13 3 != 0) + b2n (bits m 32 32 != 0)
    | 3 => b2n (bits m 16 48 != 0)
    | 4 => b2n (bits m 20 44 != 0)
    | 5 => b2n (bits m 28 5 != 0) + b2n (bits m 48 16 != 0)
    | _ => 0
  | _ => 0

/-- One message is delivered (R176, R180). -/
def State.deliverMsg (s : State) (m : Nat) : State :=
  if msgBad m then (s.bump CTRL.RX_STAT.MSG_BAD).raise EV.CTRL.MSG_FORMAT (msgClass m + msgLtype m * 2 ^ 8)
  else
    let s1 := s.bumpBy CTRL.RX_STAT.RSVD_NONZERO (msgRsvd m)
    match msgClass m with
    | 7 => s1
    | 2 => s1.setLnk fun k => { k with linkQ := k.linkQ ++ [m] }
    | _ => s1.setLnk fun k => { k with msgOut := k.msgOut ++ [m] }

/-- A completed CREDIT_INIT (R200, R368): ACTIVE, or Lowland after a bring-up at 8 GT/s (R122). -/
def State.creditInitMaybe (s : State) : State :=
  let done := !(s.lnk.msgQ.any (fun m => msgClass m == 2 && msgLtype m == 3)) &&
    !(s.lnk.crpl.any (fun f => f.2.any (fun m => msgClass m == 2 && msgLtype m == 3))) && s.lnk.farDone
  if s.chip.col ≠ .creditInit ∨ done = false then s
  else if s.cal.mode = .lowBringUp then
    let g := (lowestSet (s.groups true)).getD 0
    ((s.setCol .lowland).suspendForGood.lowlandHalts.put REPAIR.LOWLAND_STAT.CAUSE 7).put REPAIR.LOWLAND_STAT.GROUP g |>.setLevelStat 0 0
  else (s.setCol .active).refreshLevel.levelBelow.pairEnter
where
  lowestSet (m : Nat) : Option Nat := (List.range 4).find? (fun g => bit m g)

/-- The kept failed control flit is compared with the delivered one (R133). -/
def State.attributeCtrl (s : State) (good : CtrlFlit) : State :=
  match s.rep.keptCtrl with
  | none => s
  | some bad => ({ s with rep := { s.rep with keptCtrl := none } }).attribute 256 ((bad.toNat ^^^ good.toNat) &&& ctrlStable) s.ctrlSite

/-- CTRL_FLIT_RX (R196). -/
def execCtrlFlitRx (flit : CtrlFlit) (s : State) : Host.Outcome State Fault Refusal :=
  let n := flit.toNat
  let h := ctrlHdr n
  .next (if !s.ctrlFlows true then s
    else if !ctrlOk n then
      let s1 := s.bump CTRL.RX_STAT.CRC_BAD
      if h.cft = 2 then s1 else { s1 with rep := { s1.rep with keptCtrl := some flit } }
    else if ctrlBad h then s.goFault EV.CTRL.CTRL_FORMAT h.cseq
    else
      let s1 := (s.ackCtrl h.cack).ackBulk h.back (h.backt == 2)
      if s1.colDead then s1
      else if h.cft = 1 ∧ h.cseq = s1.get CTRL.SEQ_STAT.NEXT_RX then
        let s2 := (s1.attributeCtrl flit).put CTRL.SEQ_STAT.NEXT_RX (h.cseq + 1)
        (h.msgs.foldl State.deliverMsg s2).creditInitMaybe
      else if h.cft = 2 then (s1.bumpBy CTRL.RX_STAT.RSVD_NONZERO (h.msgs.map msgRsvd).sum).creditInitMaybe
      else s1.creditInitMaybe)

/-- The oldest link message, if it has a type. -/
def State.linkHead (s : State) (ltype : Nat) : Option Nat :=
  match s.lnk.linkQ with
  | m :: _ => if msgLtype m = ltype then some m else none
  | [] => none

/-- The oldest link message has been acted on. -/
def State.linkDone (s : State) : State := s.setLnk fun k => { k with linkQ := k.linkQ.drop 1 }

/-- CREDIT_ADV_RX (R199, R200, R201). -/
def execCreditAdvRx (s : State) : Host.Outcome State Fault Refusal :=
  .next (match s.linkHead 1 with
    | none => s
    | some m =>
      let (k, n) := creditOf m
      let s1 := (s.linkDone).setLnk fun l => { l with advSeen := l.advSeen + 1 }
      match k with
      | none => s1
      | some k =>
        if 32767 < n then s1.goFault EV.CREDIT.CREDIT_INIT_BAD (k + n * 2 ^ 16) else (s1.put (CREDIT.TX_STAT.ADV k) n).refreshAvail k)

/-- CREDIT_RET_RX (R204). -/
def execCreditRetRx (s : State) : Host.Outcome State Fault Refusal :=
  .next (match s.linkHead 2 with
    | none => s
    | some m =>
      match creditOf m with
      | (some k, n) =>
        match s.linkDone.applyReturn k n with
        | some s1 => s1
        | none => s.linkDone.goFault EV.CREDIT.CREDIT_BAD (k + n * 2 ^ 16)
      | (none, _) => s.linkDone)

/-- ADV_DONE_RX (R200). -/
def execAdvDoneRx (s : State) : Host.Outcome State Fault Refusal :=
  .next (match s.linkHead 3 with
    | none => s
    | some m =>
      let n := bits m 8 8
      let s1 := s.linkDone
      if n ≠ s1.lnk.advSeen then s1.goFault EV.CREDIT.CREDIT_INIT_BAD (11 + n * 2 ^ 16)
      else (s1.setLnk fun l => { l with farDone := true }).creditInitMaybe)

/-- A read of a tag is at this end, its response not yet composed. -/
def State.holdsRead (s : State) (tag : Nat) : Bool :=
  let rd (h : Hdr) : Bool := h.tag == tag && h.operation == some .rd
  (match Sparse.find s.txn.served tag with | some q => rd q | none => false) || s.lnk.dpoQ.any (fun i => rd i.hdr) ||
  s.lnk.dpoTaken.any (fun i => rd i.hdr) ||
  s.txn.engQ.any (fun q => rd q.hdr) || s.txn.levelQ.any (fun l => rd l.hdr)

/-- SQUASH_RX (R231). -/
def execSquashRx (s : State) : Host.Outcome State Fault Refusal :=
  .next (match s.linkHead 4 with
    | none => s
    | some m =>
      let tag := bits m 8 12
      let s1 := s.linkDone
      let hit (t : TxItem) : Bool := t.fresh && t.hdr.isResponse && t.hdr.tag == tag
      let sq (t : TxItem) : TxItem :=
        { t with hdr := { t.hdr with op := Op.cpl.code, len := 0, status := Status.squashed.code, attr := 0, opd := 0 }, slots := [] }
      if s1.lnk.txQ.any hit then s1.setLnk fun k => { k with txQ := k.txQ.map (fun t => if hit t then sq t else t) }
      else if s1.lnk.txCur.any (fun c => c.1 == .send && hit c.2) then
        s1.setLnk fun k => { k with txQ := k.txQ ++ (k.txCur.map (fun c => sq c.2)).toList, txCur := k.txCur.map (fun c => (.sink, c.2)) }
      else if s1.holdsRead tag then s1.setTxn fun t => { t with squashed := if t.squashed.contains tag then t.squashed else tag :: t.squashed }
      else s1.bump TXN.SPEC_STAT_HI.SQUASH_LATE)

end Sys2Proof.Machine
end

