-- ==== Sys2Proof/Machine/Engine.lean ====
section
/-!
DEFINITION. The Defile engine's commits (11_the_defile_engine.md): view reads and writes, transforms and atomic operations, each at
its commit (R228), with the precedence of answers of R172.
-/

namespace Sys2Proof.Machine

/-! ### Commits (R228) -/

/-- A request may be committed: a Level one from its release beat on, and any once the Col is down (R207, R228). -/
def State.mayCommit (s : State) (q : EngReq) : Bool :=
  match q.release with
  | some r => q.late || s.reached r || s.colDead
  | none => true

/-- The Level request whose release beat is least among those that may be committed; equal beats keep their order (R219). -/
def leastRelease : List EngReq → Option EngReq
  | [] => none
  | q :: qs =>
    match leastRelease qs with
    | some p => if (p.release.getD 0) < (q.release.getD 0) then some p else some q
    | none => some q

/-- The requests that may be committed next: the oldest Swift one, and the Level one released first. -/
def State.nextCommits (s : State) (waits : EngReq → Bool) : List EngReq :=
  let can := s.txn.engQ.filter (fun q => s.mayCommit q && !waits q)
  (can.find? (fun q => q.release.isNone)).toList ++ (leastRelease (can.filter (fun q => q.release.isSome))).toList

/-- A committed request is answered, and its credits freed (R203, R228); an engine response wakes a parked end (R435). -/
def State.answerEng (s : State) (h : Hdr) (st : Status) (vfmt : Nat) (units : List Nat) : State :=
  if h.isPosted then s.freeRequest h else ((s.respond h st vfmt units).freeRequest h).wake 2

/-- What memory's answer makes of a request. -/
def ansStatus : MemAnswer → List Status
  | .ok => [] | .poison | .error => [.poison] | .drained => [.drained] | .denied => [.denied] | .retry => [.retry]

/-! ### Returned values -/

/-- The units of a row of scalar codes. -/
def packUnits (fmt : Nat) (codes : List Nat) (bytes : Nat) : List Nat :=
  let n := packLow (codes.map (fun c => (c, 8 * fmtBytes fmt)))
  (List.range (bytes / 16)).map (fun i => bits n (128 * i) 128)

/-- Convert returned values into a format: codes, and whether a finite value was clamped (R313, R318). -/
def retCodes (c : Ctx) (t : Target) (fmt : Nat) (mode : Rnd) (vs : List Nat) : List Nat × Bool :=
  let one (k : Nat) : Nat × Bool := (scalarFmt fmt).convert mode (c.rnd (t.ident k) 7) (f32 (vs.getD k 0))
  let all := (List.range vs.length).map one
  (all.map (·.1), all.any (·.2))

/-- A scalar output counts one saturation for the transaction (R326). -/
def State.satOnce (s : State) (ctx : Nat) (b : Bool) : State := if b then s.countSat ctx else s

/-! ### View reads (R318, R287) -/

/-- A page with a bad entry is counted where the answer is DENIED for it (R300). -/
def State.pageBad (s : State) (st : Status) (page : Nat) (c : PageCheck) : State :=
  match c.bad with
  | some cause => if st = .denied then s.bindBad page cause else s
  | none => s

/-- Read `n` elements of a view page from the address of a request on: the status, and the codes read. -/
def State.runViewRead (s : State) (q : EngReq) (n : Nat) : Status × List Nat × State :=
  let h := q.hdr
  let pc := s.pageCheck h.ctx q.page q.bind
  let b := pc.bind
  let c := s.ctxOf h.ctx
  let t := q.viewRow
  let r := s.recipe b.recipe
  let bad := if b.rcpEn then r.refusal .viewRead false false else none
  let st := firstStatus (pc.sts.filter (· != .retry) ++ stIf (bad.isSome || (h.vfmt != 0 && h.vfmt != b.vfmt)) .fmtRefused ++ stIf c.lost .poison)
  if st ≠ .ok then
    (st, [], match bad with
      | some cause => if st = .fmtRefused then s.recipeBad b.recipe cause else s.pageBad st q.page pc
      | none => s.pageBad st q.page pc)
  else
    let ans := firstStatus (ansStatus (t.answer s (List.range n)))
    if ans ≠ .ok then (ans, [], s)
    else
      let (ys, s1) := t.read s n (List.range n) c.texp
      let one (k : Nat) : Nat :=
        let y := (ys.getD k (0, false)).1
        if b.rcpEn then (r.run (fun p => c.rnd (t.ident k) p) 0 y 0 y).sel r.ret else y
      let vs := (List.range n).map one
      let (codes, sat) := retCodes c t b.vfmt (if b.rcpEn then rndOf r.rndRet else .rne) vs
      let nan := (List.range n).any (fun k => (ys.getD k (0, false)).2 && isNanF (vs.getD k 0))
      if nan && c.nfReadPoison then (.poison, [], s1) else (.ok, codes, s1.satOnce h.ctx sat)

/-- VIEW_READ, on its request. -/
def State.doViewRead (s : State) (q : EngReq) : State :=
  let h := q.hdr
  let f := (Binding.of q.bind).vfmt
  let (st, codes, s1) := s.runViewRead q (h.bytes / fmtBytes f)
  s1.answerEng h st (if st = .ok then f else 0) (if st = .ok then packUnits f codes h.bytes else [])

/-! ### Transforms and view writes (R316, R319 to R323) -/

/-- The outcome of a job: its answer, what it returns, and what a posted write that is turned away leaves. -/
structure XfDone where
  st : Status
  rets : List Nat := []
  fx : PostedFx := .none
  deriving DecidableEq, Repr

/-- What a posted write leaves when a job turns it away with a status (R238, R304, R320); `cut` where the refusal is R320's or the view
format's. DESIGN CHOICE (log entry 100): a posted write whose operand memory answers RETRY is counted as one for a MIGRATING page is (R304). -/
def jobFx (st : Status) (cut : Bool) (zc : PageCheck) : PostedFx :=
  match st with
  | .fmtRefused => if cut then .partialRefused else .none
  | .retry => .migrating
  | .drained => .dropped
  | .denied => if zc.bind.kind = some .absent then .dropped else .none
  | _ => .none

/-- Run a job: every check first, then the recipe on each element, then the writes. DESIGN CHOICE (log entry 100): the scalar outputs of one
transaction, y, z and returned, count one saturation together, and a clamp of a GUARD stage counts the blocks of y and of z that hold
the element (R326). -/
def State.runJob (s : State) (q : EngReq) (j : XfJob) : XfDone × State :=
  let h := q.hdr
  let pc := s.pageCheck h.ctx q.page q.bind
  let b := pc.bind
  let c := s.ctxOf h.ctx
  let r := j.rcp.getD ⟨0, [], []⟩
  let w := s.rowsOf q b j
  let zc : PageCheck := if !w.usesZ || decide (131072 ≤ q.page) then ⟨⟨0⟩, [], none⟩ else match w.zp with
    | some p => s.pageCheck h.ctx p (q.entry s p)
    | none => ⟨⟨0⟩, [.denied], none⟩
  let bad := if j.rcp.isSome then r.refusal j.use (!b.isView && (w.readsY || w.writesY || h.vfmt == 0)) (w.usesZ && !w.zb.isView) else none
  let refusedFmt := if j.use = .viewWrite then h.vfmt != 0 && h.vfmt != b.vfmt else vfmtBad h.vfmt
  let cut : Bool := j.split || (w.writesY && w.y.refuses j.ks) || (w.writesZ && w.z.refuses j.ks) || (j.use == .viewWrite && refusedFmt)
  let st1 : Status := firstStatus (pc.sts ++ zc.sts ++ stIf (w.known && decide (2 ^ 23 < q.off + j.n * fmtBytes w.y.fmt)) .denied ++
    stIf (w.usesZ && fmtScalar w.z.fmt && decide (pageElems w.z.fmt < w.j0 + j.n)) .denied ++
    stIf (cut || refusedFmt || bad.isSome) Status.fmtRefused ++ stIf c.lost .poison)
  if st1 ≠ .ok then
    let s1 := match bad with
      | some cause => if st1 = Status.fmtRefused then s.recipeBad j.slot cause else s
      | none => s
    (⟨st1, [], jobFx st1 cut zc⟩, (s1.pageBad st1 q.page pc).pageBad st1 (w.zp.getD 0) zc)
  else if h.poison then
    (⟨.poison, [], .none⟩,
      if j.use = .viewWrite then
        let s1 := if w.writesY then (w.y.blocks j.ks).foldl (fun t g => t.poisonWrite h.ctx w.y.run g) s else s
        if w.writesZ && w.z.view then (w.z.blocks j.ks).foldl (fun t g => t.poisonWrite h.ctx w.z.run g) s1 else s1
      else s)
  else
    let ansY := w.y.answer s (w.needY j)
    let merged := j.use == .viewWrite && !w.readsY && ansY == .poison
    let st2 := firstStatus ((if merged then [] else ansStatus ansY) ++ ansStatus (w.z.answer s (w.needZ j)))
    if st2 ≠ .ok then (⟨st2, [], jobFx st2 false zc⟩, s)
    else
      let (ys, s1) := if w.readsY then w.y.read s j.n j.ks c.texp else ([], s)
      let (zs, s2) := if w.readsZ then w.z.read s1 j.n j.ks c.texp else ([], s1)
      let env (x : Nat × Nat) : RcpEnv :=
        let y := (ys.getD x.1 (0, false)).1
        r.run (fun p => c.rnd (w.y.ident x.1) p) x.2 y (zs.getD x.1 (0, false)).1 y
      let es := j.xs.map (fun x => (x.1, env x))
      let clamped := (es.filter (fun e => e.2.guard)).map (·.1)
      let yv := if j.rcp.isSome then es.map (fun e => (e.1, r.yOut j.use e.2)) else j.xs
      let (satY, s3) := if w.writesY then w.y.write s2 h.ctx (if j.rcp.isSome then rndOf r.rndY else .rne) yv clamped else (false, s2)
      let (satZ, s4) := if w.writesZ then w.z.write s3 h.ctx (rndOf r.rndZ) (es.map (fun e => (e.1, e.2.sel r.outZ))) clamped else (false, s3)
      let (codes, satR) := if j.use = .applyR then retCodes c w.y j.xFmt (rndOf r.rndRet) (es.map (fun e => e.2.sel r.ret)) else ([], false)
      (⟨.ok, codes, .none⟩, s4.satOnce h.ctx (satY || satZ || satR))

/-- VIEW_WRITE, on its request. -/
def State.doViewWrite (s : State) (q : EngReq) : State :=
  let (d, s1) := s.runJob q (s.writeJob q (Binding.of q.bind))
  (if q.hdr.isPosted then s1.postedFx q.hdr d.fx else s1).answerEng q.hdr d.st 0 []

/-- XF_APPLY, XF_APPLY_R or XF_ACC, on its request. -/
def State.doTransform (s : State) (u : RcpUse) (q : EngReq) : State :=
  let j := s.xfJob u q (Binding.of q.bind)
  let (d, s1) := s.runJob q j
  s1.answerEng q.hdr d.st (if d.st = .ok then j.xFmt else 0) (packUnits j.xFmt d.rets q.hdr.bytes)

/-! ### Atomic operations (R324, R397) -/

/-- AT_FADD, AT_SWAP or AT_CAS, on its request. -/
def State.doAtomic (s : State) (q : EngReq) : State :=
  let h := q.hdr
  let pc := s.pageCheck h.ctx q.page q.bind
  let a := q.word
  let st1 := firstStatus (pc.sts ++ stIf (pc.bind.kind == some .view) .fmtRefused ++ stIf (!s.isOwner) .retry ++
    stIf ((s.ctxOf h.ctx).lost || h.poison) .poison)
  let st := if st1 = .ok then firstStatus (ansStatus (s.memAnswer a 8)) else st1
  if st ≠ .ok then
    ((if st1 = .retry ∧ s.isOwner = false then s.bump PAIR.TOKEN_STAT.RETRY else s).pageBad st1 q.page pc).answerEng h st 0 []
  else
    let s0 := s.useOperand a 8
    let old := s0.memNat a 8
    let opA := bits q.data 0 64
    let s1 :=
      match h.operation with
      | some .atFadd => s0.engWrite a (natBytes ((old + opA) % 2 ^ 64) 8)
      | some .atSwap => s0.engWrite a (natBytes opA 8)
      | _ => if old = opA then s0.engWrite a (natBytes (bits q.data 64 64) 8) else s0
    s1.answerEng h .ok 0 [old]

/-! ### Commands -/

/-- The operands of a request are used now: its reads count, and end with its commit. -/
def State.withReads (s : State) (q : EngReq) (act : EngReq → State → State) : State :=
  let key := some (q.seq, q.hdr.tag)
  let s1 := s.setPrefetch (s.txn.prefetch.map (fun p => if p.owner = key ∧ p.dropped = false then { p with now := true } else p))
  (act q s1).dropReads (fun p => p.owner == key && p.now)

/-- Commit the next request that `mine` picks, unless the stack throttle holds one that is due (R432): it leaves the queue and the run-ahead buffer, and `act` performs it. After the last token-scope request of a Col that has left service the token is released (R400). -/
def State.commit (s : State) (mine waits : EngReq → Bool) (act : EngReq → State → State) : State :=
  if !s.isM || s.chip.dieRst || !s.clkOn 2 || !s.clkOn 1 then s
  else if (s.nextCommits waits).any s.reqHeld then s
  else match (s.nextCommits waits).find? mine with
    | none => s
    | some q =>
      let s1 := s.busy.setTxn fun t =>
        { t with engQ := t.engQ.erase q, runAhead := t.runAhead.filter (fun e => !(e.seq == q.seq && e.hdr.tag == q.hdr.tag)) }
      (((if q.ahead then s1.bump TXN.SPEC_STAT.RUNAHEAD_COMMITTED else s1).withReads q act).fillAhead).leaveDone

end Sys2Proof.Machine
end

