-- ==== Sys2Proof/Machine/Windows.lean ====
section
/-!
DEFINITION. Reduction windows (12_basin_and_reduction_windows.md): contributions judged and added at commit (R345 to R347, R336,
R354, R357), close actions (R351 to R353), the window's own timing (R343, R344), and the zeroing of the Basin (R333).
-/

namespace Sys2Proof.Machine

/-- The engine and the Basin run on this end. -/
def State.engRuns (s : State) : Bool := s.isM && !s.chip.dieRst && s.clkOn 2

/-- The command under way finds the encoder in error where the guard unit samples it, or not (R329). -/
def State.withMiss (s : State) (miss : Bool) (f : State → State) : State :=
  if miss then
    let t := f { s with eng := { s.eng with encErr := true } }
    { t with eng := { t.eng with encErr := false } }
  else f s

/-! ### Lines -/

/-- The bits [lo + w - 1 : lo] of a number replaced. -/
def putBits (n lo w v : Nat) : Nat := n - (bits n lo w <<< lo) + ((v % 2 ^ w) <<< lo)

/-- The accumulator lines and the bitmap lines of a window: first line and number (R332). -/
def State.winAcc (s : State) (n : Nat) : Nat × Nat := (s.win n WIN.BASE_LINE, s.accLines n)
def State.winBmp (s : State) (n : Nat) : Nat × Nat := (s.win n WIN.BMP_LINE, s.bmpLines n)

/-- Two ranges of lines share a line. -/
def linesMeet (a b : Nat × Nat) : Bool := a.2 != 0 && b.2 != 0 && decide (a.1 < b.1 + b.2) && decide (b.1 < a.1 + a.2)

/-- The bitmap bit of a contributor (R332). -/
def State.bmpBit (s : State) (n c : Nat) : Bool := (s.line (s.win n WIN.BMP_LINE + c / 512)).getLsbD (c % 512)

/-- The bitmap bit of a contributor is set. -/
def State.setBmp (s : State) (n c : Nat) : State :=
  let l := s.win n WIN.BMP_LINE + c / 512
  s.setLinePart l (s.line l ||| BitVec.ofNat 512 (2 ^ (c % 512))) (c % 512) 1

/-- The line and the place in it of accumulator `k` of a window in a Basin mode (R332). -/
def State.accPlace (s : State) (n k : Nat) : Nat × Nat :=
  let per := if s.win n WIN.MODE = 1 then 5 else 16
  (s.win n WIN.BASE_LINE + k / per, k % per)

/-! ### Adding (R334, R336, R357) -/

/-- The integer that a binary32 value adds to an exact accumulator, and whether it is counted LOW or HIGH or sets NF (R336). -/
structure ExactQ where
  q : Int
  low : Bool
  high : Bool
  nf : Bool
  deriving DecidableEq, Repr

/-- R336 on a binary32 code. -/
def exactQ (xw : Int) (code : Nat) : ExactQ :=
  match f32 code with
  | .fin neg m e =>
    let v := Frac.dyadic m e
    if v.lt (Frac.dyadic 1 xw) then
      let g := Frac.dyadic m (e + 64 - xw)
      let k : Nat := roundInt .rne 0 g.n.toNat g.d
      ⟨if neg then -(k : Int) else k, m != 0 && k == 0, false, false⟩
    else ⟨if neg then -(2 ^ 64 - 1) else 2 ^ 64 - 1, false, true, false⟩
  | _ => ⟨0, false, false, true⟩

/-- An exact line after an addition to accumulator `j` of it: A modulo 2^96, CHECK modulo 2^24, and the NF bit. -/
def exactAdd (l j : Nat) (x : ExactQ) : Nat :=
  let l1 := putBits l (96 * j) 96 (ofInt 96 (exactAcc l j + x.q))
  let l2 := putBits l1 480 24 (ofInt 24 ((bits l 480 24 : Int) + x.q))
  if x.nf then setBit l2 (504 + j) else l2

/-- Add a value to accumulator `k` of a window. -/
def State.addTo (s : State) (n k code : Nat) : State :=
  let (line, j) := s.accPlace n k
  match s.win n WIN.MODE with
  | 0 =>
    let l := (s.line line).toNat
    s.setLinePart line (BitVec.ofNat 512 (putBits l (32 * j) 32 (addF (bits l (32 * j) 32) code))) (32 * j) 32
  | 1 =>
    let x := exactQ (toInt 8 (s.win n WIN.XWIN_CAP)) code
    let s1 := (s.setLinePart line (BitVec.ofNat 512 (exactAdd (s.line line).toNat j x)) (96 * j) 96).wordMerged (11, 4 * line + 3)
    let s2 := if x.low then s1.bump BASIN.XWIN_STAT.LOW else s1
    let s3 := if x.high then (s2.bump BASIN.XWIN_STAT.HIGH).setOutcome n 3 else s2
    if x.nf then s3.setOutcome n 2 else s3
  | _ =>
    let a := 64 * s.win n WIN.MEM_BASE + 4 * k
    (s.useOperand a 4).engWrite a (natBytes (addF (s.memNat a 4) code) 4)

/-- Add values to accumulators from `k` on. -/
def State.addAll (s : State) (n : Nat) : Nat → List Nat → State
  | _, [] => s
  | k, v :: vs => (s.addTo n k v).addAll n (k + 1) vs

/-! ### Close actions (R344, R351 to R353) -/

/-- The close action stops: CLOSE_ERR and LOST, with a record where its page accepts one (R353). -/
def State.closeErr (s : State) (n : Nat) (record : Bool) : State :=
  (s.failWindow n [6, 4] (record && !s.pageDrained (64 * s.win n WIN.REC_ADDR))).reportLost (s.win n WIN.CTX) 4

/-- The first exact line whose CHECK differs from the sum of its accumulators (R339). -/
def State.guardBad (s : State) (n : Nat) : Option Nat :=
  if s.win n WIN.MODE ≠ 1 then none
  else ((List.range (s.accLines n)).map (s.win n WIN.BASE_LINE + ·)).find? (fun line =>
    let l := (s.line line).toNat
    ofInt 24 (exactAcc l 0 + exactAcc l 1 + exactAcc l 2 + exactAcc l 3 + exactAcc l 4) != bits l 480 24)

/-- A window's accumulator as binary32 (R338). -/
def State.accF32 (s : State) (n k : Nat) : Nat :=
  let (line, j) := s.accPlace n k
  match s.win n WIN.MODE with
  | 0 => bits (s.line line).toNat (32 * j) 32
  | 1 => exactRead (toInt 8 (s.win n WIN.XWIN_CAP)) (s.line line).toNat j
  | _ => s.memNat (64 * s.win n WIN.MEM_BASE + 4 * k) 4

/-- The raw bytes of accumulator `k` (R342). -/
def State.accRaw (s : State) (n k : Nat) : List Byte :=
  let (line, j) := s.accPlace n k
  if s.win n WIN.MODE = 1 then natBytes (ofInt 128 (exactAcc (s.line line).toNat j)) 16 else natBytes (s.accF32 n k) 4

/-- The memory ranges of a window's result (R342). -/
def State.resultRanges (s : State) (n : Nat) : List (Nat × Nat) :=
  let f := s.win n WIN.CL_FMT
  let k := s.win n WIN.NELEM
  let out := 64 * s.win n WIN.OUT_ADDR
  if fmtBlock f then
    [(out, k / blockSize f * elemBytes f), (out + extentElems f, k / blockSize f * scaleBytes f)]
  else [(out, if f = 0 then (if s.win n WIN.MODE = 1 then 16 * k else 4 * k) else k * fmtBytes f)]

/-- The close action writes a result: CL_WRITE, but not with INC_SKIP after an INCOMPLETE close (R351). -/
def State.resultWritten (s : State) (n : Nat) : Bool :=
  s.win n WIN.CL_WRITE == 1 && !(s.win n WIN.INC_SKIP == 1 && bit (s.win n WIN.OUTCOME) 1)

/-- The memory accumulators of a window in MODE 2. -/
def State.memAcc (s : State) (n : Nat) : Nat × Nat := (64 * s.win n WIN.MEM_BASE, 4 * s.win n WIN.NELEM)

/-- Write the result of a window (R342, R351 step 2). -/
def State.closeWrite (s : State) (n : Nat) : State :=
  let out := 64 * s.win n WIN.OUT_ADDR
  let fmt := s.win n WIN.CL_FMT
  let mode := rndOf (s.win n WIN.CL_RND)
  let ctx := s.win n WIN.CTX
  let ks := List.range (s.win n WIN.NELEM)
  if fmt = 0 then s.engWrite out ((ks.map (s.accRaw n)).flatten)
  else
    let vals := ks.map (s.accF32 n)
    if fmtBlock fmt then
      let b := blockSize fmt
      (List.range (vals.length / b)).foldl (fun t g => t.encodeWrite ctx ⟨fmt, out⟩ g mode ((vals.drop (g * b)).take b) false) s
    else
      let (sat, s1) := s.writeScalars ctx fmt out mode vals
      s1.satOnce ctx sat

/-- The stack throttle holds a write of the close action's result, or of its record (R432). -/
def State.resultHeld (s : State) (n : Nat) : Bool := (s.resultRanges n).any (fun r => s.stkHeld r.1 || s.stkHeld (r.1 + r.2 - 1))
def State.closeHeld (s : State) (n : Nat) : Bool :=
  (s.win n WIN.CL_WRITE == 1 && s.resultHeld n) || (s.win n WIN.CL_REC == 1 && s.stkHeld (64 * s.win n WIN.REC_ADDR))

/-- Close start (R344, R354): the lines are read and checked, the result is issued unless the stack throttle holds it (R432), and the window
waits for memory. -/
def State.closeStart (s : State) (n : Nat) (complete : Bool) : State :=
  if (s.ctxOf (s.win n WIN.CTX)).lost then s.failWindow n [4] true
  else
    let s1 := (s.setWin n WIN.STATE 3).setOutcome n (if complete then 0 else 1)
    match s1.guardBad n with
    | some line =>
      (((s1.bump BASIN.GUARD_STAT.MISMATCH).winCapture n line EV.BASIN.BASIN_GUARD_MISMATCH.bit).raise EV.BASIN.BASIN_GUARD_MISMATCH
        (n + line * 2 ^ 16)).closeErr n true
    | none =>
      if s1.win n WIN.MODE = 2 && (s1.rangeDrained (s1.memAcc n) || s1.memAnswer (s1.memAcc n).1 (s1.memAcc n).2 != .ok) then s1.closeErr n true
      else
        let writes := s1.resultWritten n
        if writes && (s1.resultRanges n).any s1.rangeDrained then s1.closeErr n true
        else if writes && s1.resultHeld n then
          { s1 with eng := { s1.eng with closing := n :: s1.eng.closing, unissued := n :: s1.eng.unissued.filter (· != n) } }
        else
          let s2 := if writes then s1.closeWrite n else s1
          { s2 with eng := { s2.eng with closing := n :: s2.eng.closing } }

/-- A result that the throttle kept back is issued. -/
def State.closeIssue (s : State) (n : Nat) : State :=
  if s.eng.unissued.contains n then { s.closeWrite n with eng := { (s.closeWrite n).eng with unissued := s.eng.unissued.filter (· != n) } } else s

/-- Memory has accepted the result: the record is written, and accepted, and the window is CLOSED (R351 steps 4 and 5); LOST is added
where the context has been lost meanwhile (R354). -/
def State.closeEnd (s : State) (n : Nat) : State :=
  if s.win n WIN.CL_REC = 1 && s.pageDrained (64 * s.win n WIN.REC_ADDR) then s.closeErr n false
  else
    let s0 := if (s.ctxOf (s.win n WIN.CTX)).lost then s.setOutcome n 4 else s
    let s1 := ((s0.dropWinWork n).setWin n WIN.STATE 4).writeRecord n
    let s2 := if s1.win n WIN.CL_EVENT = 1 then (s1.winCapture n 0 EV.BASIN.WIN_CLOSED.bit).raise EV.BASIN.WIN_CLOSED n else s1
    if bit (s2.win n WIN.OUTCOME) 1 then s2.raise EV.BASIN.WIN_INCOMPLETE n else s2

/-- An uncorrectable code word of a window's line is found by its commit or its close (R354, R422). -/
def State.lineLost (s : State) (n word : Nat) : State :=
  ((s.countUe 11 word).failWindow n [4] true).reportLost (s.win n WIN.CTX) 4

/-- CLOSE_WRITES_ACCEPTED: memory has accepted every write of the close action, those that the stack throttle had held among them. -/
def execCloseWritesAccepted (w : BitVec 10) (s : State) : Host.Outcome State Fault Refusal :=
  .next (if s.engRuns && s.win w.toNat WIN.STATE == 3 && s.eng.closing.contains w.toNat && !s.closeHeld w.toNat then (s.closeIssue w.toNat).closeEnd w.toNat else s)

/-! ### Timing of a window (R343, R344) -/

/-- The window opens. -/
def State.openWindow (s : State) (n : Nat) : State := s.setWin n WIN.STATE 2

/-- WIN_ARM_LATE, once. -/
def State.armLate (s : State) (n : Nat) : State :=
  if s.eng.lateArm.contains n then s
  else { s with eng := { s.eng with lateArm := n :: s.eng.lateArm } }.raise EV.BASIN.WIN_ARM_LATE n

/-- WINDOW_ZEROING_DONE: four lines are zeroed in each ECLK cycle; an end past OPEN_BEAT opens the window. -/
def execWindowZeroingDone (w : BitVec 10) (cycles : Nat) (s : State) : Host.Outcome State Fault Refusal :=
  let n := w.toNat
  .next (if s.engRuns && s.win n WIN.STATE == 1 && s.eng.zeroing.contains n && decide (s.accLines n + s.bmpLines n ≤ 4 * cycles) then
      let s1 : State := { s with eng := { s.eng with zeroing := s.eng.zeroing.filter (· != n) } }
      if s.reached (s.openBeat n) then (if s.openBeat n = s.beat then s1.openWindow n else (s1.armLate n).openWindow n) else s1
    else s)

/-- WINDOW_OPEN_BEAT. -/
def execWindowOpenBeat (w : BitVec 10) (now : Beat) (s : State) : Host.Outcome State Fault Refusal :=
  let n := w.toNat
  let s1 := s.at now
  .next (if s1.engRuns && s1.win n WIN.STATE == 1 && s1.reached (s1.openBeat n) then
      if s1.eng.zeroing.contains n then s1.armLate n else s1.openWindow n
    else s1)

/-- WINDOW_CLOSE_BEAT; `ue` is a code word of the Basin that the close finds uncorrectable as it reads the window's lines (R354), and `miss` says that the encoder
differs from the guard unit where it is sampled (R329). -/
def execWindowCloseBeat (w : BitVec 10) (now : Beat) (s : State) (ue : Option (BitVec 18) := none) (miss : Bool := false) :
    Host.Outcome State Fault Refusal :=
  let n := w.toNat
  let s1 := s.at now
  .next (if s1.engRuns && s1.win n WIN.STATE == 2 && decide ((s1.closeBeat n).toNat + s1.get BASIN.WIN_CTL.SLACK ≤ s1.beat.toNat) then
      match ue.filter (fun i => linesMeet (i.toNat / 4, 1) (s1.winAcc n)) with
      | some i => s1.lineLost n i.toNat
      | none => s1.withMiss miss (fun t => t.closeStart n (s1.win n WIN.ARRIVED == s1.win n WIN.EXPECT))
    else s1)

/-! ### Contributions (R345 to R349, R354, R481, R484) -/

/-- The judgment of a contribution at its commit. -/
inductive Judged where
  /-- the end does not hold the token (R349) -/
  | retry
  /-- the context record denies it (R345, R306) -/
  | ctxDenied
  | denied
  /-- the window's recipe is refused (R314) -/
  | refused (cause : Nat)
  /-- the window has failed -/
  | poison
  /-- the context is lost: the window fails (R354) -/
  | lost
  | early
  | late
  /-- on time, for a window that has not opened yet (R343) -/
  | waits
  | onTime
  deriving DecidableEq, Repr

/-- The recipe of a window (R347). -/
def State.winRecipe (s : State) (n : Nat) : Option Rcp := if s.win n WIN.RCP_EN = 1 then some (s.recipe (s.win n WIN.RECIPE)) else none

/-- The window's memory accumulators that a contribution names lie in a DRAINING page (R484). -/
def State.contribDrains (s : State) (h : Hdr) : Bool := s.win h.window WIN.MODE == 2 && s.rangeDrained (s.contribMem h)

/-- The context of a window that is not closing is lost: its commit fails it (R354). -/
def State.winLost (s : State) (h : Hdr) : Bool := !s.winIn h.window [3, 4, 5] && (s.ctxOf h.ctx).lost

/-- Judge a contribution of the token holder to a window that it names rightly, by state and time (R343, R346, R354, R481). -/
def State.judgeTime (s : State) (q : EngReq) : Judged :=
  let h := q.hdr
  let n := h.window
  let st := s.win n WIN.STATE
  let r := q.release.getD 0
  if s.winLost h then .lost
  else if q.late then .late
  else if st = 5 then .poison
  else if st ≠ 1 && st ≠ 2 then .late
  else if r < s.openBeat n then .early
  else if s.closeBeat n ≤ r || s.bmpBit n h.contributor then .late
  else if st = 1 then .waits
  else .onTime

/-- Judge a contribution (R345, R346). A bad recipe comes before what the time gives, but not before the DRAINED of an accumulator that an
on-time contribution reads (R172, R314, R484). -/
def State.judgeContrib (s : State) (q : EngReq) : Judged :=
  let h := q.hdr
  let n := h.window
  let (k0, cnt) := s.contribAt h
  if !s.isOwner then .retry
  else if !(s.ctxOf h.ctx).valid then .ctxDenied
  else if s.win n WIN.STATE = 0 || s.win n WIN.CTX != h.ctx || decide (s.win n WIN.EXPECT ≤ h.contributor) || decide (s.win n WIN.NELEM < k0 + cnt) then
    .denied
  else
    let j := s.judgeTime q
    match (s.winRecipe n).bind (fun r => r.refusal .contrib false false) with
    | some cause => if j = .waits then .waits else if j = .onTime ∧ s.contribDrains h = true then .onTime else .refused cause
    | none => j

/-- The binary32 values that a contribution adds (R347). -/
def State.contribValues (s : State) (q : EngReq) (rcp : Option Rcp) : List Nat :=
  let h := q.hdr
  let n := h.window
  let fmt := s.win n WIN.IN_FMT
  let sz := fmtBytes fmt
  let (k0, cnt) := s.contribAt h
  let c := s.ctxOf h.ctx
  let ident (k : Nat) : Nat := 2 ^ 62 + n * 2 ^ 36 + h.contributor * 2 ^ 20 + k
  (List.range cnt).map (fun i =>
    let x := widen fmt (bits q.data (8 * sz * i) (8 * sz))
    match rcp with
    | some r => (r.run (c.rnd (ident (k0 + i))) x 0 0 0).accA
    | none => x)

/-- The counts and the last contribution of a contributor (R347), and the eager close (R344); `ue` is a code word that the close finds
uncorrectable as it reads the window's lines (R354). -/
def State.contribDone (s : State) (h : Hdr) (ue : Option (BitVec 18) := none) : State :=
  let n := h.window
  let s1 := s.bumpWin n WIN.COMMITS
  if h.last then
    let s2 := (s1.setBmp n h.contributor).bumpWin n WIN.ARRIVED
    if s2.win n WIN.EAGER = 1 ∧ s2.win n WIN.ARRIVED = s2.win n WIN.EXPECT then
      match ue.filter (fun i => linesMeet (i.toNat / 4, 1) (s2.winAcc n)) with
      | some i => s2.lineLost n i.toNat
      | none => s2.closeStart n true
    else s2
  else s1

/-- An on-time contribution fails its window: the accumulator that it reads cannot be had (R423, R484). -/
def State.contribFail (s : State) (h : Hdr) (st : Status) : State :=
  ((s.failWindow h.window [4] true).reportLost h.ctx 4).answerEng h st 0 []

/-- Add an on-time contribution to an open window and answer it. -/
def State.contribAdd (s : State) (q : EngReq) (ue : Option (BitVec 18) := none) : State :=
  let h := q.hdr
  let n := h.window
  let (k0, _) := s.contribAt h
  let a := s.contribMem h
  if s.contribDrains h then s.contribFail h .drained
  else if h.poison then s.answerEng h .poison 0 []
  else if s.win n WIN.MODE = 2 ∧ s.memAnswer a.1 a.2 ≠ .ok then s.contribFail h .poison
  else
    let vals := s.contribValues q (s.winRecipe n)
    let xw := toInt 8 (s.win n WIN.XWIN_CAP)
    let high := s.win n WIN.MODE == 1 && vals.any (fun v => (exactQ xw v).high)
    let s1 := s.addAll n k0 vals
    let s2 := if high then (s1.countSat h.ctx).raise EV.BASIN.XWIN_RANGE h.ctx else s1
    (s2.contribDone h ue).answerEng h .ok 0 []

/-- The Basin lines that the commit of an on-time contribution reads: the contributor's bitmap line, and the accumulators'. -/
def State.contribLines (s : State) (h : Hdr) : List Nat :=
  let (k0, cnt) := s.contribAt h
  (s.win h.window WIN.BMP_LINE + h.contributor / 512) ::
    (if s.win h.window WIN.MODE = 2 then [] else (List.range cnt).map (fun k => (s.accPlace h.window (k0 + k)).1))

/-- A late contribution is counted in its window (R346). -/
def State.contribLate (s : State) (h : Hdr) : State :=
  ((s.bumpWin h.window WIN.LATE_N).bump BASIN.ADM_STAT_HI.LATE).answerEng h .late 0 []

/-- CONTRIB, on its request; `ue` is a code word of the Basin that its reads, or those of the close that it starts, find uncorrectable. -/
def State.doContrib (s : State) (ue : Option (BitVec 18)) (q : EngReq) : State :=
  let h := q.hdr
  let n := h.window
  match s.judgeContrib q with
  | .retry => (s.bump BASIN.ADM_STAT_HI.RETRY).answerEng h .retry 0 []
  | .ctxDenied => s.answerEng h .denied 0 []
  | .denied => (s.bump BASIN.ADM_STAT.DENIED).answerEng h .denied 0 []
  | .refused cause =>
    ((if s.winLost h then s.failWindow n [4] true else s).recipeBad (s.win n WIN.RECIPE) cause).answerEng h .fmtRefused 0 []
  | .poison => s.answerEng h .poison 0 []
  | .lost =>
    let s1 := s.failWindow n [4] true
    if q.late then s1.contribLate h else s1.answerEng h .poison 0 []
  | .early => ((s.bumpWin n WIN.EARLY_N).bump BASIN.ADM_STAT.EARLY).answerEng h .early 0 []
  | .late => (if s.win n WIN.STATE = 3 && (s.ctxOf h.ctx).lost then s.setOutcome n 4 else s).contribLate h
  | .waits => s
  | .onTime =>
    match ue.filter (fun w => (s.contribLines h).contains (w.toNat / 4)) with
    | some w => (s.lineLost n w.toNat).answerEng h .poison 0 []
    | none => s.contribAdd q ue

/-! ### Zeroing the Basin (R333) -/

/-- BASIN_INIT_GO. -/
def execBasinInitGo (s : State) : Host.Outcome State Fault Refusal :=
  .next (s.command BASIN.INIT_CMD.GO.key 1
    (fun s => if s.on BASIN.INIT_STAT.RUNNING then some .busy else if s.windowsIn [1, 2, 3, 4, 5] != [] then some .state else none)
    (fun s => (s.put BASIN.INIT_STAT.RUNNING 1).put BASIN.INIT_STAT.DONE 0))

/-- BASIN_INIT_DONE: 65,536 lines in 16,384 ECLK cycles; every code word has been written, so that no write-back is due (R415). -/
def execBasinInitDone (cycles : Nat) (s : State) : Host.Outcome State Fault Refusal :=
  .next (if s.engRuns && s.on BASIN.INIT_STAT.RUNNING && decide (16384 ≤ cycles) then
      let s0 : State := { s with basin := [], basinZeroed := true }
      let s1 := match Sparse.find s0.arrays 11 with
        | some a => { s0 with arrays := Sparse.set 11 (some { a with suppressed := a.pending, merge := [], idle := [] }) s0.arrays }
        | none => s0
      ((s1.put BASIN.INIT_STAT.RUNNING 0).put BASIN.INIT_STAT.DONE 1).raise EV.BASIN.INIT_DONE 0
    else s)

end Sys2Proof.Machine
end

