-- ==== Sys2Proof/Machine/Ecc.lean ====
section
/-!
DEFINITION. What the end does about an uncorrectable code word, array by array (R422).
-/

namespace Sys2Proof.Machine

/-- Rows of an array. -/
def arrayRows : Nat → Nat
  | 1 => 1024 | 2 => 32 | 3 => 640 | 4 => 3072 | 5 => 2048 | 6 => 16384 | 7 => 8192 | 8 => 256 | 9 => 512 | 10 => 1024
  | 11 => 65536 | _ => 64

/-- One element of a list, or none of it, by a free choice: which entry a landing buffer's word belongs to is not stated. -/
def State.chooseFrom {α : Type} (s : State) (l : List α) : Option α × State :=
  let (v, s1) := s.draw
  (l[v % (l.length + 1)]?, s1)

/-- ATTR.POISON set. -/
def Hdr.poisoned (h : Hdr) : Hdr := { h with attr := setBit h.attr 1 }

/-- Requests with data that the end holds, one that is being gathered among them: the header of one, where the failing word is its data (R422). -/
def State.dataHeld (s : State) : List Hdr :=
  ((s.txn.engQ.filter (fun q => q.units != [])).map (·.hdr)) ++ ((s.txn.levelQ.filter (fun l => l.units != [])).map (·.hdr)) ++
  ((s.lnk.dpoQ.filter (fun i => i.first && !i.hdr.isResponse && (!i.last || i.units != []))).map (·.hdr)) ++
  (match s.lnk.gather with | some g => if g.direct || g.units == [] then [] else [g.hdr] | none => [])

/-- A request that waits is marked poisoned. -/
def State.poisonRequest (s : State) (h : Hdr) : State :=
  let fix (x : Hdr) : Hdr := if x = h then h.poisoned else x
  (s.setTxn fun t =>
    { t with engQ := t.engQ.map (fun q => { q with hdr := fix q.hdr }), levelQ := t.levelQ.map (fun l => { l with hdr := fix l.hdr }) }).setLnk fun k =>
    { k with dpoQ := k.dpoQ.map (fun i => { i with hdr := fix i.hdr }), gather := k.gather.map (fun g => { g with hdr := fix g.hdr }) }

/-- Headers that the end holds of requests received. -/
def State.headersHeld (s : State) : Bool :=
  s.txn.engQ != [] || s.txn.levelQ != [] || s.lnk.gather.isSome || s.lnk.dpoQ.any (fun i => i.first && !i.hdr.isResponse)

/-- Responses that wait whole: for the die, confirmed or tentative, or for the verdict of their early read; with the request of each. -/
def State.responsesHeld (s : State) : List Hdr :=
  (s.lnk.dpoQ.filter (fun i => i.first && i.hdr.isResponse && s.lnk.dpoQ.any (fun j => j.last && j.hdr == i.hdr))).filterMap
    (fun i => Sparse.find s.txn.outT i.hdr.tag) ++
  ((s.txn.early.filter (fun e => e.2.resp.isSome)).map (fun e => e.2.hdr))

/-- A response that waits is replaced by a POISON answer to its request, which waits for what the response waited for. -/
def State.poisonResponse (s : State) (q : Hdr) : State :=
  let h := respHdr q .poison
  let (us, s1) := s.undefUnits ((lenBytes h.len).getD 0 / 16)
  match Sparse.find s1.txn.early q.tag with
  | some e => s1.setTxn fun t => { t with early := Sparse.set q.tag (some { e with resp := some (h, us) }) t.early }
  | none =>
    let mine (i : DpoItem) : Bool := i.hdr.isResponse && i.hdr.tag == q.tag
    let old := s1.lnk.dpoQ.filter mine
    let resv := (old.map (·.resv)).sum
    match old with
    | [] => s1
    | i :: _ => (s1.setLnk fun k => { k with dpoQ := k.dpoQ.filter (fun i => !mine i) }).present' (pieceItems h true us true i.tent i.seq false resv)

/-- A window's descriptor word is uncorrectable. -/
def State.windowUe (s : State) (n w : Nat) : State :=
  let live := s.winIn n [1, 2, 3]
  let ctx := s.win n WIN.CTX
  let s1 := s.setTbl (winIdx n w) 0
  if w = 0 then ((s1.dropWinWork n).setWin n WIN.STATE 5).raise EV.BASIN.WIN_FAILED n
  else if live then (s1.failWindow n [4] (w != 6)).reportLost ctx 4
  else ((s1.dropWinWork n).setWin n WIN.STATE 5).raise EV.BASIN.WIN_FAILED (n + s1.win n WIN.OUTCOME * 2 ^ 16)

/-- A Basin line is uncorrectable. -/
def State.lineUe (s : State) (line : Nat) : State :=
  match (s.windowsIn [1, 2, 3]).find? (fun n => linesMeet (line, 1) (s.winAcc n) || linesMeet (line, 1) (s.winBmp n)) with
  | some n => (s.failWindow n [4] true).reportLost (s.win n WIN.CTX) 4
  | none => s.setLine line 0

/-- What the end does about an uncorrectable word, by its array. -/
def State.ueAct (s : State) (a index : Nat) : State :=
  match a with
  | 1 =>
    match s.lnk.rpl.find? (fun f => f.seq % 256 == index / 16) with
    | some f => s.setLnk fun k => { k with marked := if k.marked.contains f.seq then k.marked else f.seq :: k.marked }
    | none => s
  | 2 =>
    match s.lnk.crpl.find? (fun f => f.1 % 64 == index / 2) with
    | some f => s.setLnk fun k => { k with cMarked := if k.cMarked.contains f.1 then k.cMarked else f.1 :: k.cMarked }
    | none => s
  | 3 =>
    if s.headersHeld then
      let (hit, s1) := s.chooseFrom [()]
      if hit.isSome then s1.goFault EV.IDENT.ARRAY_UE (3 + index * 2 ^ 16) else s1
    else s
  | 4 =>
    let (hit, s1) := s.chooseFrom s.dataHeld
    match hit with
    | some h => s1.poisonRequest h
    | none => s1
  | 5 =>
    let (hit, s1) := s.chooseFrom s.responsesHeld
    match hit with
    | some q => s1.poisonResponse q
    | none => s1
  | 6 => s.setTxn fun t => { t with badBinds := if t.badBinds.contains index then t.badBinds else index :: t.badBinds }
  | 7 =>
    let c := index / 4
    let s1 := ((s.setTbl (ctxIdx c 0) 0).setTbl (ctxIdx c 2) 0).setTbl (ctxIdx c 3) 0
    (s1.setTbl (ctxIdx c 1) (BitVec.ofNat 64 (2 ^ 55 + 2 ^ 59))).reportLost c 6
  | 8 => { s with eng := { s.eng with badSlots := if s.eng.badSlots.contains (index / 32) then s.eng.badSlots else index / 32 :: s.eng.badSlots } }
  | 9 =>
    let (hit, s1) := s.chooseFrom s.txn.runAhead
    match hit with
    | some e => (s1.discardAhead (· == e)).setTxn fun t =>
      { t with engQ := t.engQ.map (fun q => if q.seq = e.seq ∧ q.hdr.tag = e.hdr.tag then { q with ahead := false } else q) }
    | none => s1
  | 10 => s.windowUe (index / 8) (index % 8)
  | 11 => s.lineUe (index / 4)
  | _ => { s with chip := { s.chip with badOvl := if s.chip.badOvl.contains (index / 128) then s.chip.badOvl else index / 128 :: s.chip.badOvl } }

/-- A word of a table that the end does not rewrite stays uncorrectable until it is written. -/
def State.keepBad (s : State) (a index : Nat) : State :=
  if [6, 8, 12].contains a then
    let r := (Sparse.find s.arrays a).getD {}
    { s with arrays := Sparse.set a (some { r with bad := if r.bad.contains index then r.bad else index :: r.bad }) s.arrays }
  else s

/-- An uncorrectable word is met: it is counted, captured and reported, and R422 acts on it. -/
def State.ueMet (s : State) (a index : Nat) : State := ((s.countUe a index).ueAct a index).keepBad a index

/-- A functional read of the landing buffers finds a word uncorrectable (R414, R422). -/
def State.landingUe (s : State) : Option (Nat × Nat) → State
  | some (a, index) =>
    if [3, 4, 5].contains a && decide (index < arrayRows a * 4) then s.ueMet a index else s
  | none => s

/-! ### Functional reads (R414, R415, R421) -/

/-- Code words in a row of an array. -/
def rowWords (a : Nat) : Nat := if [6, 7, 8, 10, 12].contains a then 8 else 4

/-- The correction state of an array. -/
def State.sram (s : State) (a : Nat) : SramArray := (Sparse.find s.arrays a).getD {}

/-- Replace the correction state of an array. -/
def State.setSram (s : State) (a : Nat) (f : SramArray → SramArray) : State :=
  { s with arrays := Sparse.set a (some (f (s.sram a))) s.arrays }

/-- A read has corrected a word: a write-back is due, suppressed from the start where a merge entry holds the word (R415, R421). -/
def State.corrected (s : State) (a index : Nat) : State :=
  s.setSram a fun r =>
    { r with pending := if r.pending.contains index then r.pending else index :: r.pending
             suppressed := if r.merge.contains index && !r.suppressed.contains index then index :: r.suppressed else r.suppressed }

/-- The code words that functional reads of a command find in error, `reads` saying which words it reads. A word that a merge entry holds is
read from the entry (R421). -/
def State.meet (s : State) (reads : Nat → Nat → Bool) (errs : List ArrayErr) : State :=
  errs.foldl (fun t e =>
    if reads e.array e.index && decide (e.index < arrayRows e.array * rowWords e.array) && !(t.sram e.array).merge.contains e.index then
      match e.kind with
      | .correctable => t.corrected e.array e.index
      | .uncorrectable => t.ueMet e.array e.index
    else t) s

/-- The words that the headers of a flit read: binding entries and context records (R239, R306). -/
def headerReads (a _index : Nat) : Bool := a == 6 || a == 7

/-- BULK_CRC_RESULT: the check of the oldest flit received completes (R191); `ue` is an array and a code word of the landing buffers
that the reads of what a good flit confirms find uncorrectable, and `errs` what the reads of its headers find (R414). -/
def execBulkCrcResult (s : State) (ue : Option (Nat × Nat) := none) (errs : List ArrayErr := []) : Host.Outcome State Fault Refusal :=
  .next (match s.lnk.rxQ with
    | [] => s
    | f :: rest =>
      if s.colDead || !s.clkOn 4 then s
      else
        let s1 := s.setLnk fun k => { k with rxQ := rest }
        if bulkOk f.raw.toNat then
          let s2 := (if s1.isM then s1.meet headerReads errs else s1).flitGood f
          if s2.colDead then s2 else s2.landingUe ue
        else s1.flitFailed f)

end Sys2Proof.Machine
end

