-- ==== Sys2Proof/Machine/Commits.lean ====
section
/-!
DEFINITION. The engine's commit commands (11_the_defile_engine.md, 12_basin_and_reduction_windows.md): one command commits the next
request of its kind (R219, R228), with what the reads of its recipe, context and window find in error (R414), and with an
error of the encoder that the guard unit finds (R329).
-/

namespace Sys2Proof.Machine

/-- No request waits for something other than its release beat. -/
def noWait (_ : EngReq) : Bool := false

/-- A contribution that waits in its place for its window to open (R343). -/
def State.contribWaits (s : State) (q : EngReq) : Bool := q.isOp .contrib && s.judgeContrib q == .waits

/-! ### What a commit reads (R414) -/

/-- The recipe slot that a request runs by: of a transform, of its view, or of its window. -/
def State.slotOf (s : State) (q : EngReq) : Option Nat :=
  if q.isOp .contrib then (if s.win q.hdr.window WIN.RCP_EN = 1 then some (s.win q.hdr.window WIN.RECIPE) else none)
  else match s.jobOf q with
    | some j => if j.rcp.isSome then some j.slot else none
    | none => let b := Binding.of q.bind; if q.isRead && b.rcpEn then some b.recipe else none

/-- The table words that the commit of a request reads: entries of other pages than its own, whose entry was read with the header (R239),
the context record, the recipe slot, and the window's descriptor. -/
def State.commitReads (s : State) (q : EngReq) (a index : Nat) : Bool :=
  match a with
  | 6 => (s.pagesOf q).contains index && index != q.page
  | 7 => index / 4 == q.hdr.ctx
  | 8 => s.slotOf q == some (index / 32)
  | 10 => q.isOp .contrib && index / 8 == q.hdr.window
  | _ => false

/-- A request is performed after its reads of the tables have met what errors they find. -/
def withErrs (errs : List ArrayErr) (act : EngReq → State → State) (q : EngReq) (s : State) : State := act q (s.meet (s.commitReads q) errs)

/-! ### Escape writes under the stack throttle (R432) -/

/-- What a request of the engine does, by its operation. -/
def State.perform (s : State) (q : EngReq) : State :=
  match q.xfUse with
  | some u => s.doTransform u q
  | none =>
    if q.isRead then s.doViewRead q
    else if q.isWrite then s.doViewWrite q
    else if q.isOp .contrib then s.doContrib none q
    else s.doAtomic q

/-- From `s` to `t` an escape slot is written that the stack throttle holds. -/
def State.escapeHeld (s t : State) : Bool :=
  let n := s.get DEFILE.ESC_STAT.NEXT
  (List.range (t.get DEFILE.ESC_STAT.NEXT - n)).any (fun i => s.stkHeld (64 * s.get DEFILE.ESC_BASE.ADDR + 64 * (n + i)))

/-- Some stack is throttled to a stop. -/
def State.stackStops (s : State) : Bool := s.stkApplies && (List.range 4).any (fun k => s.stkLevel k == 3)

/-- The next commits of the engine, unless an escape write of one of them is held: it holds every later one too (R432). -/
def State.commitNext (s : State) (mine waits : EngReq → Bool) (act : EngReq → State → State) : Host.Outcome State Fault Refusal :=
  .next (if s.stackStops && (s.nextCommits waits).any (fun q => s.escapeHeld (s.perform q)) then s else s.commit mine waits act)

/-! ### Commands -/

/-- VIEW_READ. -/
def execViewRead (s : State) (errs : List ArrayErr := []) : Host.Outcome State Fault Refusal :=
  s.commitNext EngReq.isRead noWait (withErrs errs fun q t => t.doViewRead q)

/-- VIEW_WRITE. -/
def execViewWrite (s : State) (errs : List ArrayErr := []) (miss : Bool := false) : Host.Outcome State Fault Refusal :=
  s.commitNext EngReq.isWrite noWait (withErrs errs fun q t => t.withMiss miss (fun t => t.doViewWrite q))

/-- XF_APPLY. -/
def execXfApply (s : State) (errs : List ArrayErr := []) (miss : Bool := false) : Host.Outcome State Fault Refusal :=
  s.commitNext (EngReq.isOp .xfApply) noWait (withErrs errs fun q t => t.withMiss miss (fun t => t.doTransform .apply q))

/-- XF_APPLY_R. -/
def execXfApplyR (s : State) (errs : List ArrayErr := []) (miss : Bool := false) : Host.Outcome State Fault Refusal :=
  s.commitNext (EngReq.isOp .xfApplyR) noWait (withErrs errs fun q t => t.withMiss miss (fun t => t.doTransform .applyR q))

/-- XF_ACC. -/
def execXfAcc (s : State) (errs : List ArrayErr := []) (miss : Bool := false) : Host.Outcome State Fault Refusal :=
  s.commitNext (EngReq.isOp .xfAcc) noWait (withErrs errs fun q t => t.withMiss miss (fun t => t.doTransform .acc q))

/-- AT_FADD. -/
def execAtFadd (s : State) (errs : List ArrayErr := []) : Host.Outcome State Fault Refusal :=
  s.commitNext (EngReq.isOp .atFadd) noWait (withErrs errs fun q t => t.doAtomic q)

/-- AT_SWAP. -/
def execAtSwap (s : State) (errs : List ArrayErr := []) : Host.Outcome State Fault Refusal :=
  s.commitNext (EngReq.isOp .atSwap) noWait (withErrs errs fun q t => t.doAtomic q)

/-- AT_CAS. -/
def execAtCas (s : State) (errs : List ArrayErr := []) : Host.Outcome State Fault Refusal :=
  s.commitNext (EngReq.isOp .atCas) noWait (withErrs errs fun q t => t.doAtomic q)

/-- CONTRIB. An on-time contribution to a window that has not opened waits in its place (R343). -/
def execContrib (s : State) (ue : Option (BitVec 18) := none) (errs : List ArrayErr := []) (miss : Bool := false) :
    Host.Outcome State Fault Refusal :=
  s.commitNext (EngReq.isOp .contrib) s.contribWaits (withErrs errs fun q t => t.withMiss miss (fun t => t.doContrib ue q))

end Sys2Proof.Machine
end

