-- ==== Sys2Proof/Machine/Tables.lean ====
section
/-!
DEFINITION. The table aperture (R465 to R467): its reserved bits, reads, and writes accepted or refused table by table, the arming,
freeing and aborting of windows among them (R341, R343, R460, R506).
-/

namespace Sys2Proof.Machine

/-! ### Layout (R465, R9) -/

/-- The bits of a table word that are not reserved. -/
def tblMask (idx : Nat) : Word :=
  if idx < 0x20000 then BitVec.allOnes 64
  else if idx < 0x30000 then (if idx % 4 = 2 then 0xFFFFFFFFFFFF00FF else BitVec.allOnes 64)
  else if idx < 0x30800 then
    let w := idx % 32
    if w = 0 then 0x07FFFFFFFFFFF3FF
    else if w < 4 then 0
    else if w < 8 then BitVec.allOnes 64
    else if w < 20 then (if w % 2 = 0 then 0xFFFFFFFFF else 0)
    else 0
  else if idx < 0x32800 then
    match idx % 8 with
    | 0 => 0x1FFFFFFFFFFFFFFF
    | 3 => 0x1FFFFFFFFFFFFF
    | 4 => 0x3FFFFFFFF
    | 5 | 6 => 0x3FFFFFFFFFFFF
    | _ => BitVec.allOnes 64
  else if idx < 0x32A00 then (if idx % 2 = 0 then 0xFFFF1 else BitVec.allOnes 64)
  else if idx < 0x32A00 + 264 then BitVec.allOnes 64
  else if 0x32C00 ≤ idx ∧ idx < 0x32C08 then BitVec.allOnes 64
  else 0

/-- The page that logs refused writes of a table word, and its capture register (R454, R465). -/
def tblPage (idx : Nat) : Nat × Option Field :=
  if idx < 0x20000 then (8, some TXN.TBL_CAPTURE.ADDR)
  else if idx < 0x30800 then (10, some DEFILE.TBL_CAPTURE.ADDR)
  else if idx < 0x32800 then (11, some BASIN.TBL_CAPTURE.ADDR)
  else if idx < 0x32A00 then (1, none)
  else (13, some PAIR.TBL_CAPTURE.ADDR)

/-- A table word as it is read: reserved bits and tables of other roles read zero. -/
def State.tblRead (s : State) (idx : Nat) : Word :=
  if !s.isM && !tblOverlay idx then 0 else s.tblWord idx &&& tblMask idx

/-- A refused table write is logged (R444, R454, R465). -/
def State.refuseTbl (s : State) (idx code : Nat) (data : Word) : State :=
  let (page, cap) := tblPage idx
  let s1 := s.refuseCode page (8 * idx % 4096) true code data
  match cap with
  | some f => s1.put f (8 * idx)
  | none => s1

/-! ### Arming a window (R341, R460) -/

/-- The result of the window is CL_FMT of a code that R341 turns away. -/
def State.closeFmtBad (s : State) (n : Nat) : Bool :=
  let f := s.win n WIN.CL_FMT
  if f = 0 then s.win n WIN.MODE == 2
  else if fmtBlock f then !s.fmtAgreed f || s.win n WIN.NELEM % blockSize f != 0
  else !fmtScalar f

/-- The end of the result's memory range (R342). -/
def State.resultEnd (s : State) (n : Nat) : Nat :=
  let f := s.win n WIN.CL_FMT
  let k := s.win n WIN.NELEM
  64 * s.win n WIN.OUT_ADDR +
    (if fmtBlock f then extentElems f + k / blockSize f * scaleBytes f
     else if f = 0 then (if s.win n WIN.MODE = 1 then 16 * k else 4 * k)
     else k * fmtBytes f)

/-- A line of the window overlaps a line of another window that is not FREE. -/
def State.winOverlaps (s : State) (n : Nat) : Bool :=
  (List.range 1024).any (fun m => m != n && s.win m WIN.STATE != 0 &&
    [s.winAcc n, s.winBmp n].any (fun a => linesMeet a (s.winAcc m) || linesMeet a (s.winBmp m)))

/-- Why an arm is refused, by the codes of R460; the state holds the new word 0 already. -/
def State.armRefusal (s : State) (n : Nat) : Option Nat :=
  let w (f : WinField) : Nat := s.win n f
  let c := s.ctxOf (w WIN.CTX)
  if !s.isOwner then some 0x4B
  else if !c.valid || c.lost then some 0x40
  else if w WIN.MODE = 3 || w WIN.CL_RND = 3 || !fmtScalar (w WIN.IN_FMT) || (w WIN.MODE == 1 && !s.cap 19) then some 0x41
  else if w WIN.RCP_EN = 1 && ((s.recipe (w WIN.RECIPE)).refusal .contrib false false).isSome then some 0x42
  else if w WIN.EXPECT = 0 then some 0x43
  else if w WIN.NELEM = 0 || decide (65536 < (s.winAcc n).1 + (s.winAcc n).2 ∧ w WIN.MODE < 2) then some 0x44
  else if decide (65536 < (s.winBmp n).1 + (s.winBmp n).2) || linesMeet (s.winBmp n) (s.winAcc n) then some 0x45
  else if s.winOverlaps n then some 0x46
  else if s.closeBeat n ≤ s.openBeat n || s.closeBeat n ≤ s.beat then some 0x47
  else if w WIN.CL_WRITE = 1 && s.closeFmtBad n then some 0x48
  else if (w WIN.CL_WRITE = 1 && decide (2 ^ 40 < s.resultEnd n)) ||
      (w WIN.MODE = 2 && decide (2 ^ 40 < 64 * w WIN.MEM_BASE + 4 * w WIN.NELEM)) ||
      decide (2 ^ 40 < 64 * w WIN.REC_ADDR + 32) then some 0x49
  else none

/-- Lines are zeroed. -/
def State.zeroLines (s : State) (first : Nat) : Nat → State
  | 0 => s
  | k + 1 => (s.setLine first 0).zeroLines (first + 1) k

/-- An arm is accepted (R341, R343): counts are cleared, XWIN captured, and the window's lines are being zeroed. -/
def State.armWindow (s : State) (n : Nat) : State :=
  let c := s.ctxOf (s.win n WIN.CTX)
  let s1 := ((s.setWin n WIN.STATE 1).setWin n WIN.EARLY_N 0).setWin n WIN.LATE_N 0
  let s2 := (s1.setTbl (winIdx n 7) 0).setWin n WIN.XWIN_CAP c.xwin
  let s3 := (s2.zeroLines (s2.winAcc n).1 (s2.winAcc n).2).zeroLines (s2.winBmp n).1 (s2.winBmp n).2
  { s3 with eng := { s3.eng with zeroing := n :: s3.eng.zeroing.filter (· != n), lateArm := s3.eng.lateArm.filter (· != n) } }

/-! ### Writes (R466) -/

/-- A window-table write (R341, R343, R356, R506): accepted or not, and the state after it. -/
def State.writeWindow (s : State) (idx : Nat) (data : Word) : Bool × State :=
  let n := (idx - 0x30800) / 8
  let st := s.win n WIN.STATE
  let new := bits data.toNat 0 3
  let no (code : Nat) : Bool × State := (false, s.refuseTbl idx code data)
  let put := s.setTbl idx (data &&& tblMask idx)
  if !s.eng.winChecks then (if idx % 8 = 0 && new != 0 then no 0x4A else (true, put))
  else if idx % 8 ≠ 0 then (if st = 0 then (true, put) else no 0x4A)
  else if new = 1 && st = 0 then
    match put.armRefusal n with
    | some code => no code
    | none => (true, put.armWindow n)
  else if new = 0 && [0, 1, 4, 5].contains st then (true, put.dropWinWork n)
  else if new = 5 && (st = 1 || st = 2) then (true, s.failWindow n [5] true)
  else no 0x4A

/-- An entry about to be written is kept for the requests whose header has been taken (R239). -/
def keepEntry (page : Nat) (e : Option Word) (l : List (Nat × Option Word)) : List (Nat × Option Word) :=
  if (l.lookup page).isSome then l else l ++ [(page, e)]
def State.keepBind (s : State) (page : Nat) : State :=
  let e := s.entryOf page
  (s.setTxn fun t => { t with engQ := t.engQ.map (fun q => { q with binds := keepEntry page e q.binds }) }).setLnk fun k =>
    { k with gather := k.gather.map (fun g => { g with binds := keepEntry page e g.binds }) }

/-- A write of a table word: accepted or not, and the state after it. -/
def State.tableWrite (s : State) (idx : Nat) (data : Word) : Bool × State :=
  let put := s.setTbl idx (data &&& tblMask idx)
  if tblOverlay idx then
    (true, { put with chip := { put.chip with badOvl := put.chip.badOvl.filter (· != (idx - 0x32800) / 128) } })
  else if !s.isM || tblMask idx = 0 then (true, s)
  else if idx < 0x20000 then
    (true, ((s.keepBind idx).setTbl idx (data &&& tblMask idx)).setTxn fun t => { t with badBinds := t.badBinds.filter (· != idx) })
  else if idx < 0x30000 then (true, put.markDirty ((idx - 0x20000) / 4))
  else if idx < 0x30800 then (true, { put with eng := { put.eng with badSlots := put.eng.badSlots.filter (· != (idx - 0x30000) / 32) } })
  else if idx < 0x32800 then
    let n := (idx - 0x30800) / 8
    let (ok, s1) := s.writeWindow idx data
    if ok then (ok, (s1.markDirty (s.win n WIN.CTX)).markDirty (s1.win n WIN.CTX)) else (ok, s1)
  else (false, s.refuseTbl idx 1 data)

/-- A table write by the host port: it needs the table's clock (R51, R52, R252). -/
def State.hostTable (s : State) (idx : Nat) (data : Word) : State := s.access (s.aperNeeds idx) fun s => (s.tableWrite idx data).2

/-! ### Commands -/

/-- BINDING_WRITE: for requests whose header is taken afterwards (R239). -/
def execBindingWrite (entry : BitVec 17) (data : Word) (s : State) : Host.Outcome State Fault Refusal := .next (s.hostTable entry.toNat data)

/-- CONTEXT_WRITE: one word, atomically (R309). -/
def execContextWrite (ctx : BitVec 14) (word : BitVec 2) (data : Word) (s : State) : Host.Outcome State Fault Refusal :=
  .next (s.hostTable (ctxIdx ctx.toNat word.toNat) data)

/-- RECIPE_WRITE (R467). -/
def execRecipeWrite (slot : BitVec 6) (word : BitVec 5) (data : Word) (s : State) : Host.Outcome State Fault Refusal :=
  .next (s.hostTable (rcpIdx slot.toNat word.toNat) data)

/-- WINDOW_ARM: word 0 with STATE 1. -/
def execWindowArm (w : BitVec 10) (data : Word) (s : State) : Host.Outcome State Fault Refusal :=
  .next (s.hostTable (winIdx w.toNat 0) (setBits data 0 3 1))

/-- WINDOW_FREE: word 0 with STATE 0. -/
def execWindowFree (w : BitVec 10) (data : Word) (s : State) : Host.Outcome State Fault Refusal :=
  .next (s.hostTable (winIdx w.toNat 0) (setBits data 0 3 0))

/-- WINDOW_ABORT: word 0 with STATE 5. -/
def execWindowAbort (w : BitVec 10) (data : Word) (s : State) : Host.Outcome State Fault Refusal :=
  .next (s.hostTable (winIdx w.toNat 0) (setBits data 0 3 5))

/-- WINDOW_WORD_WRITE: any descriptor word. -/
def execWindowWordWrite (w : BitVec 10) (word : BitVec 3) (data : Word) (s : State) : Host.Outcome State Fault Refusal :=
  .next (s.hostTable (winIdx w.toNat word.toNat) data)

/-- OVERLAY_WRITE. -/
def execOverlayWrite (slot : BitVec 2) (entry : BitVec 6) (hi : Bool) (data : Word) (s : State) : Host.Outcome State Fault Refusal :=
  .next (s.hostTable (ovlIdx slot.toNat entry.toNat (b2n hi)) data)

/-- MIRROR_BLOCK_WRITE, at an aperture byte offset of the mirror block: refused with STATE (R466). -/
def execMirrorBlockWrite (off : BitVec 21) (data : Word) (s : State) : Host.Outcome State Fault Refusal :=
  .next (if 0x32A00 ≤ off.toNat / 8 then s.hostTable (off.toNat / 8) data else s)

/-- PEEK_LINE_WRITE (R333, R459); `errs` is what the read of the line finds in error (R414). -/
def execPeekLineWrite (data : Word) (s : State) (errs : List ArrayErr := []) : Host.Outcome State Fault Refusal :=
  .next (s.access (s.needs BASIN.PEEK_CTL.LINE.key) fun s =>
    (if s.isM then s.meet (fun a i => a == 11 && i / 4 == bits data.toNat 0 16) errs else s).hostWrite BASIN.PEEK_CTL.LINE.key data)

/-- ESC_NEXT_WRITE (R327, R458). -/
def execEscNextWrite (data : Word) (s : State) : Host.Outcome State Fault Refusal :=
  .next (s.access (s.needs DEFILE.ESC_STAT.NEXT.key) fun s => s.hostWrite DEFILE.ESC_STAT.NEXT.key data)

end Sys2Proof.Machine
end

