-- ==== Sys2Proof/Machine/Dma.lean ====
section
/-!
DEFINITION. DMA channels (14_dma_channels.md): starting and stopping (R375, R390), the four instructions (R377 to R383), pacing
(R384), the reads and writes of a MOVE (R378 to R380), retries and halts (R388, R389).
-/

namespace Sys2Proof.Machine

/-! ### Fields of instructions (R378, R381 to R383) -/

def mvMode (u : Nat) : Nat := bits u 4 2
def mvSrcTbl (u : Nat) : Bool := bit u 6
def mvDstTbl (u : Nat) : Bool := bit u 7
def mvShift (u : Nat) : Nat := bits u 8 4
def mvPace (u : Nat) : Bool := bit u 12
def mvLen (u : Nat) : Nat := bits u 13 19 + 1
def mvCount (u : Nat) : Nat := bits u 32 16
def mvSrc (u : Nat) : Nat := bits u 48 40
def mvDst (u : Nat) : Nat := bits u 88 40

/-- Units that follow a MOVE as its offset table. -/
def mvTable (u : Nat) : Nat := if mvMode u = 0 then 0 else mvCount u / 4 + 1

/-! ### Channels -/

/-- The channels run on this end. -/
def State.dmaRuns (s : State) : Bool := s.isM && !s.chip.dieRst && s.clkOn 1

/-- Piece bytes read since START, modulo 2^48. -/
def State.addRead (s : State) (n k : Nat) : State :=
  let v := s.get (DMA.CH_CNT.BYTES_READ_LO n) + 2 ^ 36 * s.get (DMA.CH_CNT_HI.BYTES_READ_HI n) + k
  (s.put (DMA.CH_CNT.BYTES_READ_LO n) v).put (DMA.CH_CNT_HI.BYTES_READ_HI n) (v / 2 ^ 36)

/-- Piece bytes written since START, modulo 2^48. -/
def State.addWritten (s : State) (n k : Nat) : State := s.put (DMA.CH_CNT_HI.BYTES_WRITTEN n) (s.bytesWritten n + k)

/-! ### Where an access goes (R379) -/

/-- CH_CTL.RAW. -/
def State.chRaw (s : State) (n : Nat) : Bool := s.on (DMA.CH_CTL.RAW n)

/-- The request that a RAW 0 access of `len` bytes stands for: of its granule, or of two where a view's block spans two. -/
def State.dmaReq (s : State) (n a len : Nat) (write : Bool) (entry : Option Word) : EngReq :=
  let o := if write then Op.wr else Op.rd
  { hdr := { op := o.code, tc := o.tc, addr := a / 64, len := if a % 64 + len ≤ 64 then 2 else 3, ctx := s.get (DMA.CH_CTL.CTX n) }
    units := [], release := none, late := false, bind := entry, seq := 0, ahead := false }

/-- Where an access of a MOVE to memory goes. -/
def State.dmaRoute (s : State) (n a : Nat) (write : Bool) : Route :=
  if s.chRaw n then s.rawRoute a
  else
    let entry := s.entryOf (a / 2 ^ 23)
    s.routeM (s.dmaReq n a 1 write entry).hdr (if write then .wr else .rd) entry

/-- The stack throttle holds an access of a MOVE to memory (R63, R432). -/
def State.dmaHeld (s : State) (n a len : Nat) (write : Bool) : Bool :=
  if s.dmaRoute n a write = .engine then s.reqHeld (s.dmaReq n a len write (s.entryOf (a / 2 ^ 23))) else s.stkHeld a

/-- Bytes of a view that the end writes together: a granule, or two where a block's elements span two. -/
def viewUnit (b : Binding) : Nat := max 64 (blockSize b.sfmt * fmtBytes b.vfmt)

/-! ### Pieces (R378, R380) -/

/-- Offset `k` of the MOVE's table, once its unit is held. -/
def State.mvOff (s : State) (n k : Nat) : Option Nat :=
  (s.chUnit n (s.get (DMA.CH_STAT.PC n) + 1 + k / 4)).map (fun u => bits u (32 * (k % 4)) 32)

/-- Source of piece `k`, and its destination: known once its offset is. -/
def State.mvFrom (s : State) (n : Nat) (m : DmaMove) (k : Nat) : Option Nat :=
  if mvMode m.word = 1 then (s.mvOff n k).map (fun o => m.src + o * 2 ^ mvShift m.word) else some (m.src + k * mvLen m.word)
def State.mvTo (s : State) (n : Nat) (m : DmaMove) (k : Nat) : Option Nat :=
  if mvMode m.word = 2 then (s.mvOff n k).map (fun o => m.dst + o * 2 ^ mvShift m.word) else some (m.dst + k * mvLen m.word)

/-- Source and destination of piece `k`. -/
def State.mvPiece (s : State) (n : Nat) (m : DmaMove) (k : Nat) : Option (Nat × Nat) :=
  match s.mvFrom n m k, s.mvTo n m k with
  | some a, some b => some (a, b)
  | _, _ => none

/-- Why a piece halts the channel before it is read: ADDR_RANGE or ALIGN. -/
def pieceFault (u a b : Nat) : Option Nat :=
  let l := mvLen u
  let out (tbl : Bool) (x : Nat) : Bool := decide ((if tbl then 2 ^ 21 else 2 ^ 40) < x + l)
  let odd (tbl : Bool) (x : Nat) : Bool := tbl && (x % 8 != 0 || l % 8 != 0)
  if out (mvSrcTbl u) a || out (mvDstTbl u) b then some 2
  else if odd (mvSrcTbl u) a || odd (mvDstTbl u) b then some 3
  else none

/-- A byte that piece `k` writes also lies in the source of a piece whose address is known, and not in place (R380). -/
def State.mvOverlaps (s : State) (n : Nat) (m : DmaMove) (k x : Nat) : Bool :=
  let l := mvLen m.word
  if mvMode m.word = 0 then m.src != m.dst && decide (m.src ≤ x) && decide (x < m.src + (mvCount m.word + 1) * l)
  else (List.range (mvCount m.word + 1)).any (fun j =>
    match s.mvFrom n m j with
    | some a => decide (a ≤ x) && decide (x < a + l) && !(j == k && s.mvTo n m k == some a)
    | none => false)

/-- Bytes at addresses that `p` picks are undefined. -/
def State.undefWhere (s : State) (p : Nat → Bool) : Nat → List Byte → List Byte × State
  | _, [] => ([], s)
  | a, b :: bs =>
    if p a then
      let (v, s1) := s.draw
      let (vs, s2) := s1.undefWhere p (a + 1) bs
      (BitVec.ofNat 8 v :: vs, s2)
    else
      let (vs, s2) := s.undefWhere p (a + 1) bs
      (b :: vs, s2)

/-- A piece's bytes as writes of one granule each. -/
def splitGranules : Nat → Nat → List Byte → List DmaWrite
  | 0, _, _ => []
  | f + 1, a, bs =>
    if bs = [] then []
    else
      let k := 64 - a % 64
      ⟨a, bs.take k⟩ :: splitGranules f (a + k) (bs.drop k)

/-! ### Writing a piece -/

/-- Write 64-bit words of the table aperture, in ascending order; the flag says that every one was accepted. -/
def State.tblWrites (s : State) (n : Nat) : Nat → Nat → List Byte → Bool × State
  | 0, _, _ => (true, s)
  | f + 1, idx, bs =>
    if bs = [] then (true, s)
    else
      let (ok, s1) := s.tableWrite idx (BitVec.ofNat 64 (bytesNat (bs.take 8)))
      if ok then (s1.addWritten n 8).tblWrites n f (idx + 1) (bs.drop 8) else (false, s1)

/-- Write bytes into a view page (R379, R319, R320). -/
def State.dmaViewWrite (s : State) (n a : Nat) (entry : Option Word) (bs : List Byte) : Status × State :=
  let b := Binding.of entry
  let sz := fmtBytes b.vfmt
  let k0 := a % 64 / sz
  let cnt := bs.length / sz
  let xs := (List.range cnt).map (fun i => (k0 + i, widen b.vfmt (bits (bytesNat bs) (8 * sz * i) (8 * sz))))
  let (d, s1) := s.runJob (s.dmaReq n a bs.length true entry)
    { use := .viewWrite, rcp := if b.rcpEn then some (s.recipe b.recipe) else none, slot := b.recipe, xs := xs, n := k0 + cnt, xFmt := b.vfmt
      split := a % sz != 0 || (a + bs.length) % sz != 0 }
  (d.st, s1)

/-- The bytes of a piece that are a view's and not written yet. -/
def State.setPart (s : State) (n : Nat) (bs : List Byte) : State :=
  s.setChan n fun c => { c with mov := c.mov.map (fun m => { m with part := bs }) }

/-- Give memory or the engine a write whose page takes it, or let the access fail; `true` where the channel goes on. The access is among
the channel's already. -/
def State.giveWrite (s : State) (n : Nat) (x : DmaAccess) : Bool × State :=
  let swap (s : State) (y : DmaAccess) : State := s.setAcc n ((s.chan n).acc.map (fun b => if b = x then y else b))
  let count (s : State) : State := if x.sent then s else s.addWritten n x.bytes.length
  let r := if x.use = .record then s.rawRoute x.addr else s.dmaRoute n x.addr true
  match r.err with
  | some e => (false, (s.seeRoute r).accFails n x e)
  | none =>
    if r = .engine then
      if x.sent then (true, swap s { x with due := none })
      else
        let entry := s.entryOf (x.addr / 2 ^ 23)
        let (st, s1) := s.dmaViewWrite n x.addr entry x.bytes
        if st = .ok then (true, swap (count s1) { x with sent := true, bytes := [], view := entry, due := none })
        else (false, s1.accFails n x (statusErr st))
    else
      (true, swap (count ((s.emit (.memWrite x.addr x.bytes)).noteWrites x.addr x.bytes.length)) { x with sent := true, due := none })

/-- Issue the write of one granule; `true` where the channel goes on. A view's bytes are written block by block. -/
def State.dmaWriteOne (s : State) (n : Nat) (m : DmaMove) (w : DmaWrite) : Bool × State :=
  if mvDstTbl m.word then
    let (ok, s1) := s.tblWrites n w.bytes.length (w.addr / 8) w.bytes
    if ok then (true, s1) else (false, s1.chHalt n 9)
  else
    let bs := m.part ++ w.bytes
    let stop := w.addr + w.bytes.length
    let whole := (m.buf.isEmpty && m.cut == mvLen m.word) || stop % viewUnit (Binding.of (s.entryOf (w.addr / 2 ^ 23))) == 0
    if s.dmaRoute n w.addr true = .engine && !whole then
      (true, (s.addAcc n { use := .write, addr := w.addr, sent := true }).setPart n bs)
    else
      let x : DmaAccess := { use := .write, addr := stop - bs.length, bytes := bs }
      ((s.addAcc n x).setPart n []).giveWrite n x

/-- Whether the next granule may be issued now (R384). -/
inductive Gate where
  | go (burst : Nat) (consume : Bool)
  | wait (on : Nat)
  /-- enough writes are outstanding -/
  | full
  deriving DecidableEq, Repr

/-- R384 on the next granule of a MOVE. -/
def State.paceGate (s : State) (n : Nat) (m : DmaMove) : Gate :=
  let wr := s.get (DMA.CH_CNT.WR_OUT n)
  let b := s.get (DMA.CH_CTL.BURST n)
  if 1023 ≤ wr then .full
  else if !mvPace m.word then .go 0 false
  else if 0 < m.burst then .go (m.burst - 1) false
  else if 7 * b < wr then .full
  else if s.paceByFill then (if (s.chan n).gateShut then .wait 2 else .go (b - 1) false)
  else if s.get (DMA.CH_STAT.PENDING n) = 0 then .wait 1
  else .go (b - 1) true

/-! ### Reading a piece -/

/-- The reads of a paced MOVE are two bursts ahead of its writes, and go no further (R384). -/
def State.readAhead (s : State) (n : Nat) (m : DmaMove) (src : Nat) : Bool :=
  mvPace m.word && decide (2 * s.get (DMA.CH_CTL.BURST n) ≤ (src % 64 + m.asked + 63) / 64 - m.issued)

/-- Ask for granules of the piece in progress, as far as its page and the throttle let them go; a run is cut at what has been asked. -/
def State.dmaAsk (s : State) (n : Nat) : Nat → State
  | 0 => s
  | k + 1 =>
    match (s.chan n).mov with
    | none => s
    | some m =>
      match s.mvFrom n m m.piece with
      | none => s
      | some src =>
        let a := src + m.asked
        let len := min (64 - a % 64) (mvLen m.word - m.asked)
        if !m.begun || len = 0 || s.readAhead n m src || !s.chIssues n || s.chState n != DMA.running || decide (1023 ≤ s.get (DMA.CH_CNT.RD_OUT n)) then s
        else
          let took (s : State) (x : DmaAccess) : State :=
            (s.addAcc n x).setChan n fun c => { c with mov := c.mov.map (fun m => { m with asked := m.asked + len }) }
          if mvSrcTbl m.word then (took s { use := .read, addr := a, len := len, tbl := true }).dmaAsk n k
          else if s.dmaHeld n a len false then s
          else
            let r := s.dmaRoute n a false
            let x : DmaAccess := { use := .read, addr := a, len := len, view := if r = .engine then s.entryOf (a / 2 ^ 23) else none }
            match r.err with
            | some e => ((took s x).seeRoute r).accFails n x e
            | none => (took (s.emit (.memRead (64 * (a / 64)))) x).dmaAsk n k

/-- Ask for all that may be outstanding. -/
def State.dmaReads (s : State) (n : Nat) : State := s.dmaAsk n 1024

/-- Bytes of memory, of a view or of table words take undefined values (R380). -/
def State.undefRange (s : State) (n : Nat) (tbl : Bool) (a len : Nat) : State :=
  let (bs, s1) := s.undefWhere (fun _ => true) a (List.replicate len 0)
  if tbl then
    (List.range (len / 8)).foldl (fun t i =>
      let (ok, t1) := t.tableWrite (a / 8 + i) (BitVec.ofNat 64 (bytesNat ((bs.drop (8 * i)).take 8)))
      if ok then t1 else t) s1
  else if s.dmaRoute n a true = .engine then (s1.dmaViewWrite n a (s.entryOf (a / 2 ^ 23)) bs).2
  else
    let fix (x : DmaAccess) : DmaAccess :=
      { x with bytes := x.bytes.mapIdx (fun i v => if a ≤ x.addr + i ∧ x.addr + i < a + len then bs.getD (x.addr + i - a) v else v) }
    (s1.memTake a bs).setChan n fun c => { c with acc := c.acc.map (fun x => if x.use = .write then fix x else x) }

/-- Bytes that earlier pieces of a gather have written are undefined where they turn out to lie in the source of the piece that begins
(R380). -/
def State.undefWritten (s : State) (n : Nat) (m : DmaMove) (src : Nat) : State :=
  let l := mvLen m.word
  let lo := max src m.dst
  let hi := min (src + l) (m.dst + m.piece * l)
  if mvMode m.word ≠ 1 || mvSrcTbl m.word != mvDstTbl m.word || decide (hi ≤ lo) then s else s.undefRange n (mvDstTbl m.word) lo (hi - lo)

/-- The channel comes to a piece: once its addresses are known and in range, it is read. A table that would run past the last unit halts
the channel (R377). -/
def State.pieceBegin (s : State) (n : Nat) : State :=
  match (s.chan n).mov with
  | none => s
  | some m =>
    if m.begun then s
    else match s.mvPiece n m m.piece with
      | none => if 2 ^ 24 ≤ s.chNeed n then s.chHalt n 1 else s.chFetch n
      | some (a, b) =>
        match pieceFault m.word a b with
        | some e => s.chHalt n e
        | none =>
          let s1 := (s.undefWritten n m a).setChan n fun c => { c with mov := c.mov.map (fun m => { m with begun := true }) }
          (s1.chFetch n).dmaReads n

/-- Every granule of the piece has been issued: the MOVE goes on. -/
def State.pieceDone (s : State) (n : Nat) : State :=
  match (s.chan n).mov with
  | none => s
  | some m =>
    if mvCount m.word ≤ m.piece then s.chNext n (s.get (DMA.CH_STAT.PC n) + 1 + mvTable m.word)
    else (s.setChan n fun c =>
      { c with mov := some { m with piece := m.piece + 1, asked := 0, data := [], begun := false, buf := [], part := [], cut := 0, issued := 0 } }).pieceBegin n

/-- Issue granules of the piece as far as pacing, the throttle and answers allow. A wait for the pacing source ends when its cause does,
also where something else still holds the write (R374). -/
def State.dmaPump (s : State) (n : Nat) : List DmaWrite → State
  | [] => match (s.chan n).mov with
    | some m => if m.cut = mvLen m.word then s.pieceDone n else s
    | none => s
  | w :: ws =>
    match (s.chan n).mov with
    | none => s
    | some m =>
      match s.paceGate n m with
      | .full => s
      | .wait on => s.chWait n on
      | .go burst consume =>
        if s.retrying n || (!mvDstTbl m.word && s.dmaHeld n w.addr w.bytes.length true) then s.chRun n
        else
        let s1 := if consume then s.put (DMA.CH_STAT.PENDING n) (s.get (DMA.CH_STAT.PENDING n) - 1) else s
        let m1 : DmaMove := { m with buf := ws, burst := burst, issued := m.issued + 1 }
        let (ok, s2) := ((s1.chRun n).setChan n fun c => { c with mov := some m1 }).dmaWriteOne n m1 w
        if ok then s2.dmaPump n ws else s2

/-- Go on with the writes that the piece has, and then with the reads that they have made room for. -/
def State.dmaResume (s : State) (n : Nat) : State :=
  match (s.chan n).mov with
  | none => s
  | some m =>
    if !s.chBusy n || (s.chan n).halting.isSome || (m.buf = [] && s.retrying n) then s else (s.dmaPump n m.buf).dmaReads n

/-- The channel goes on with all that it may issue now. -/
def State.dmaGo (s : State) (n : Nat) : State := (((s.chFetch n).dmaReads n).dmaResume n).signalTry n

/-- Bytes of a piece that may become writes from the destination address `dst` on: all, once it has been read whole; and in a paced MOVE
whose reads may go no further ahead, those that fill granules (R380, R384).  DEDUCED (log entry 59): a piece of more than two bursts cannot be
read whole before it is written and yet be read no more than two bursts ahead. -/
def State.readyBytes (s : State) (n : Nat) (m : DmaMove) (dst : Nat) : Nat :=
  if m.cut + m.data.length = mvLen m.word then m.data.length
  else if s.readAhead n m ((s.mvFrom n m m.piece).getD 0) && !(s.chan n).acc.any (fun x => x.use == .read) then
    m.data.length - (dst + m.data.length) % 64
  else 0

/-- Bytes of the piece that may be written become writes. -/
def State.pieceWrite (s : State) (n : Nat) : State :=
  match (s.chan n).mov with
  | none => s
  | some m =>
    let dst := (s.mvTo n m m.piece).getD 0 + m.cut
    let k := s.readyBytes n m dst
    if k = 0 then s
    else
      let same := mvSrcTbl m.word == mvDstTbl m.word
      let (bs, s1) := s.undefWhere (fun x => same && s.mvOverlaps n m m.piece x) dst (m.data.take k)
      (s1.setChan n fun c =>
        { c with mov := some { m with data := m.data.drop k, cut := m.cut + k, buf := m.buf ++ splitGranules bs.length dst bs } }).dmaResume n

/-! ### Data that comes back -/

/-- Bytes of the piece that have come, in order: they leave the accesses for the piece. -/
def State.dmaGather (s : State) (n : Nat) : State :=
  match (s.chan n).mov with
  | none => s
  | some m =>
    let came := ((s.chan n).acc.filter (fun x => x.use == .read)).takeWhile (·.got)
    let data := m.data ++ (came.map (·.bytes)).flatten
    let s1 := (s.setAcc n ((s.chan n).acc.filter (fun x => !came.contains x))).setChan n fun c => { c with mov := some { m with data := data } }
    if m.cut + data.length = mvLen m.word then s1.pieceWrite n else (s1.dmaReads n).pieceWrite n

/-- The data of a read has come. -/
def State.dmaGot (s : State) (n : Nat) (x : DmaAccess) (bs : List Byte) : State :=
  ((s.setAcc n ((s.chan n).acc.map (fun y => if y = x then { x with got := true, bytes := bs } else y))).addRead n bs.length).dmaGather n

/-- Read bytes of a view page: the granule that contains them, and of that the bytes asked for (R380). -/
def State.dmaViewRead (s : State) (n : Nat) (x : DmaAccess) : Status × List Byte × State :=
  let sz := fmtBytes (Binding.of x.view).vfmt
  let (st, codes, s1) := s.runViewRead (s.dmaReq n x.addr x.len false x.view) (64 / sz)
  (st, (((codes.map (fun c => natBytes c sz)).flatten).drop (x.addr % 64)).take x.len, s1)

/-- The bytes of table words. -/
def State.tblBytes (s : State) (idx : Nat) : Nat → List Byte
  | 0 => []
  | k + 1 => natBytes (s.tblRead idx).toNat 8 ++ s.tblBytes (idx + 1) k

/-- The code words that an access to table space reads. -/
def DmaAccess.words (x : DmaAccess) : List (Nat × Nat) := ((List.range (x.len / 8)).map (fun k => tblArray (x.addr / 8 + k))).filter (·.1 != 0)

/-- Table words are read through their decoders: one that is uncorrectable, found now or before, halts the channel, and R422 acts on it
(R414, R482). -/
def State.dmaTblRead (s : State) (n : Nat) (x : DmaAccess) (errs : List ArrayErr) : State :=
  let old := (x.words.filter (fun w => (s.sram w.1).bad.contains w.2 && !errs.any (fun e => (e.array, e.index) == w))).map
    (fun w => (⟨w.1, w.2, .uncorrectable⟩ : ArrayErr))
  let all := errs ++ old
  let s1 := s.meet (fun a i => x.words.contains (a, i)) all
  if all.any (fun e => e.kind == .uncorrectable && x.words.contains (e.array, e.index) && !(s.sram e.array).merge.contains e.index) then
    s1.accFails n x (some 8)
  else s1.dmaGot n x (s1.tblBytes (x.addr / 8) (x.len / 8))

/-- DMA_READ_DATA: the oldest read of a MOVE is answered. In table space `errs` are the words that the decoders find in error, and the
answer POISON says that the first word read is uncorrectable. -/
def execDmaReadData (ch : Fin 4) (data : BitVec 512) (ans : MemAnswer) (s : State) (errs : List ArrayErr := []) :
    Host.Outcome State Fault Refusal :=
  let n := ch.val
  .next (if !s.dmaRuns then s
    else match (s.chan n).acc.find? (fun x => x.use == .read && x.due.isNone && !x.got) with
      | none => s
      | some x =>
        if x.gone then (s.endAcc n x).haltFinish n
        else if x.tbl then
          s.dmaTblRead n x ((if ans == .poison then (x.words.head?.toList.map (fun w => ⟨w.1, w.2, .uncorrectable⟩)) else []) ++ errs)
        else if ans ≠ .ok then s.accFails n x (answerErr ans)
        else if x.view.isSome then
          let (st, bs, s1) := s.dmaViewRead n x
          if st = .ok then s1.dmaGot n x bs else s1.accFails n x (statusErr st)
        else (s.showGranule (x.addr / 64) data.toNat .ok).dmaGot n x (((natBytes data.toNat 64).drop (x.addr % 64)).take x.len))

/-! ### Instructions (R377) -/

/-- The channel may decode an instruction. -/
def State.chReady (s : State) (n : Nat) : Bool :=
  let c := s.chan n
  s.dmaRuns && s.chState n == DMA.running && c.mov.isNone && !c.signal && c.waitBeat.isNone && s.chIssues n

/-- Decode the unit at PC: an instruction of code `op` is executed; a reserved code halts the channel. -/
def State.chInstr (s : State) (n op : Nat) (act : Nat → State → State) : State :=
  if !s.chReady n then s
  else match s.chUnit n (s.get (DMA.CH_STAT.PC n)) with
    | none => s
    | some u =>
      if bits u 0 4 = op then act u s
      else if bits u 0 4 = 0 || decide (4 < bits u 0 4) then s.chHalt n 1
      else s

/-- MOVE begins: its bases are adjusted by the loops (R381). -/
def State.doMove (s : State) (n u : Nat) : State :=
  let c := s.chan n
  let src : Int := (mvSrc u : Int) + c.loop0.adjS + c.loop1.adjS
  let dst : Int := (mvDst u : Int) + c.loop0.adjD + c.loop1.adjD
  if mvMode u = 3 then s.chHalt n 1
  else if src < 0 || dst < 0 then s.chHalt n 2
  else (s.setChan n fun c => { c with mov := some { word := u, src := src.toNat, dst := dst.toNat } }).pieceBegin n

/-- LOOP (R381). -/
def State.doLoop (s : State) (n u : Nat) : State :=
  let pc := s.get (DMA.CH_STAT.PC n)
  let iter := bits u 16 16
  let back := bits u 32 16
  let one := bit u 4
  let c := s.chan n
  let l0 := if one then c.loop1 else c.loop0
  let set (l : DmaLoop) (s : State) : State := s.setChan n fun c => if one then { c with loop1 := l } else { c with loop0 := l }
  if bits u 5 11 ≠ 0 || iter = 0 || back = 0 || decide (pc < back) then s.chHalt n 1
  else if l0.active && l0.owner != pc then s.chHalt n 0xA
  else
    let l := if l0.active then l0 else { active := true, owner := pc, done := 1, adjS := 0, adjD := 0 }
    if l.done < iter then
      (set { l with done := l.done + 1, adjS := l.adjS + toInt 40 (bits u 48 40), adjD := l.adjD + toInt 40 (bits u 88 40) } s).chNext n (pc - back)
    else (set { l with active := false, adjS := 0, adjD := 0 } s).chNext n (pc + 1)

/-- A request-line wait consumes a request (R382). -/
def State.takeRequestLine (s : State) (n : Nat) : State :=
  (s.put (DMA.CH_STAT.PENDING n) (s.get (DMA.CH_STAT.PENDING n) - 1)).chNext n (s.get (DMA.CH_STAT.PC n) + 1)

/-- WAIT (R382). -/
def State.doWait (s : State) (n u : Nat) : State :=
  let on := bits u 4 2
  if on = 3 || bits u 7 9 ≠ 0 || bits u 28 36 ≠ 0 || (on = 1 && s.paceByFill) || (on = 2 && !s.paceByFill) then s.chHalt n 1
  else if on = 0 then
    let b := BitVec.ofNat 64 (bits u 64 64) + (if bit u 6 then s.beat else 0)
    (s.setChan n fun c => { c with waitBeat := some b }).chWait n 0
  else if on = 1 then (if 0 < s.get (DMA.CH_STAT.PENDING n) then s.takeRequestLine n else s.chWait n 1)
  else if s.fillOf n ≤ bits u 16 12 then s.chNext n (s.get (DMA.CH_STAT.PC n) + 1)
  else s.chWait n 2

/-- SIGNAL (R383). -/
def State.doSignal (s : State) (n u : Nat) : State :=
  if bits u 7 9 ≠ 0 || bits u 48 80 ≠ 0 then s.chHalt n 1 else (s.setChan n fun c => { c with signal := true }).signalTry n

/-- MOVE. -/
def execMove (ch : Fin 4) (s : State) : Host.Outcome State Fault Refusal := .next (s.chInstr ch.val 1 fun u s => s.doMove ch.val u)

/-- LOOP. -/
def execLoop (ch : Fin 4) (s : State) : Host.Outcome State Fault Refusal := .next (s.chInstr ch.val 2 fun u s => s.doLoop ch.val u)

/-- WAIT. -/
def execWait (ch : Fin 4) (s : State) : Host.Outcome State Fault Refusal := .next (s.chInstr ch.val 3 fun u s => s.doWait ch.val u)

/-- SIGNAL. -/
def execSignal (ch : Fin 4) (s : State) : Host.Outcome State Fault Refusal := .next (s.chInstr ch.val 4 fun u s => s.doSignal ch.val u)

/-- DMA_WAIT_BEAT: the beat of R360. -/
def execDmaWaitBeat (ch : Fin 4) (now : Beat) (s : State) : Host.Outcome State Fault Refusal :=
  let s1 := s.at now
  .next (match (s1.chan ch.val).waitBeat with
    | some b => if s1.dmaRuns && s1.reached b then s1.chNext ch.val (s1.get (DMA.CH_STAT.PC ch.val) + 1) else s1
    | none => s1)

/-! ### Fetches, acceptance and retries (R376, R383, R388) -/

/-- DMA_PROGRAM_FETCH: the oldest fetch returns. What a halt, STOP or DISABLE no longer wants is discarded. -/
def execDmaProgramFetch (ch : Fin 4) (data : BitVec 1024) (ans : MemAnswer) (s : State) : Host.Outcome State Fault Refusal :=
  let n := ch.val
  .next (if !s.dmaRuns then s
    else match (s.chan n).acc.find? (fun x => x.due.isNone && (match x.use with | .fetch _ => true | _ => false)) with
      | none => s
      | some x =>
        if x.gone then (s.endAcc n x).haltFinish n
        else if ans ≠ .ok then s.accFails n x (answerErr ans)
        else match x.use with
          | .fetch g =>
            (((s.endAcc n x).setChan n fun c => { c with groups := Sparse.set g (some data.toNat) c.groups }).pieceBegin n).signalTry n
          | _ => s)

/-- DMA_WRITES_ACCEPTED: memory has accepted every write issued that does not wait for a retry. -/
def execDmaWritesAccepted (ch : Fin 4) (s : State) : Host.Outcome State Fault Refusal :=
  let n := ch.val
  .next (if !s.dmaRuns then s
    else
      let took := (s.chan n).acc.filter (fun x => !x.use.isRead && x.due.isNone)
      let s1 := (took.filter (fun x => x.bytes != [])).foldl (fun t x => t.memTake x.addr x.bytes) s
      (((s1.setAcc n ((s.chan n).acc.filter (fun x => x.use.isRead || x.due.isSome))).dmaGo n).headMoved n).haltFinish n)

/-- A failed access is issued again. -/
def State.dmaAgain (s : State) (n : Nat) (x : DmaAccess) (ans : MemAnswer) : State :=
  let y : DmaAccess := { x with due := none, retries := x.retries + 1 }
  let s1 := (s.bump (DMA.CH_CNT.RETRIES n)).setAcc n ((s.chan n).acc.map (fun z => if z = x then y else z))
  if ans ≠ .ok then s1.accFails n y (answerErr ans)
  else if y.use.isRead then
    let r := if y.tbl then .direct else if y.use = .read then s1.dmaRoute n y.addr false else s1.rawRouteN y.addr 128
    match r.err with
    | some e => (s1.seeRoute r).accFails n y e
    | none =>
      let z : DmaAccess := { y with view := if r = .engine then s1.entryOf (y.addr / 2 ^ 23) else none }
      (s1.setAcc n ((s1.chan n).acc.map (fun w => if w = y then z else w))).emit (.memRead (64 * (y.addr / 64)))
  else (s1.giveWrite n y).2

/-- The stack throttle holds an access that would be issued again (R63, R432). -/
def State.accHeld (s : State) (n : Nat) (x : DmaAccess) : Bool :=
  if x.tbl then false
  else match x.use with
    | .fetch _ | .record => s.stkHeld x.addr
    | .read => s.dmaHeld n x.addr x.len false
    | .write => s.dmaHeld n x.addr x.bytes.length true

/-- DMA_BUS_RETRY: a failed access is due and is issued again, unless the throttle holds it; `ok` where it goes out to be answered later,
and otherwise its answer. -/
def execDmaBusRetry (ch : Fin 4) (now : Beat) (ans : MemAnswer) (s : State) : Host.Outcome State Fault Refusal :=
  let n := ch.val
  let s1 := s.at now
  .next (match (s1.chan n).acc.find? (fun x => match x.due with | some t => s1.reached t && !s1.accHeld n x | none => false) with
    | some x => if s1.dmaRuns then (s1.dmaAgain n x ans).dmaGo n else s1
    | none => s1)

/-! ### Pacing inputs (R50, R384) -/

/-- DMQ_REQ_EDGE. -/
def execDmqReqEdge (ch : Fin 4) (s : State) : Host.Outcome State Fault Refusal :=
  let n := ch.val
  .next (if !s.dmaRuns || s.paceByFill then s
    else if s.get (DMA.CH_STAT.PENDING n) = 15 then (s.bump (DMA.CH_STAT.REQ_OVERRUN n)).raise (EV.DMA.DMA_REQ_OVERRUN n) 0
    else
      let s1 := s.put (DMA.CH_STAT.PENDING n) (s.get (DMA.CH_STAT.PENDING n) + 1)
      if s1.chState n = DMA.waiting ∧ s1.get (DMA.CH_STAT.WAIT_ON n) = 1 then
        (if (s1.chan n).mov.isSome then s1.dmaResume n else s1.takeRequestLine n)
      else s1)

/-- DMQ_FILL_CHANGE. -/
def execDmqFillChange (ch : Fin 4) (fill : BitVec 12) (s : State) : Host.Outcome State Fault Refusal :=
  let n := ch.val
  let s1 : State := { s with inp := { s.inp with dmqFill := Sparse.set n (some fill.toNat) s.inp.dmqFill } }
  .next (if !s1.dmaRuns || !s1.paceByFill then s1
    else
      let s2 := s1.gateUpdate n
      if s2.chState n = DMA.waiting ∧ s2.get (DMA.CH_STAT.WAIT_ON n) = 2 then
        if (s2.chan n).mov.isSome then s2.dmaResume n
        else match s2.chUnit n (s2.get (DMA.CH_STAT.PC n)) with
          | some u => if fill.toNat ≤ bits u 16 12 then s2.chNext n (s2.get (DMA.CH_STAT.PC n) + 1) else s2
          | none => s2
      else s2)

/-! ### Commands of firmware (R375, R386, R390) -/

/-- Why START is refused (R375, R461). -/
def State.startRefusal (s : State) (n : Nat) : Option Reason :=
  if s.chBusy n || s.eng.noStart then some .state
  else if s.on (DMA.CH_CNT.RD_OUT n) || s.on (DMA.CH_CNT.WR_OUT n) || (s.chan n).haltPend || (s.chan n).halting.isSome then some .busy
  else if s.get (DMA.CH_PROG.ADDR n) % 16 ≠ 0 then some .range
  else none

/-- An accepted START. -/
def State.chStart (s : State) (n : Nat) : State :=
  let s1 := s.clearAll [DMA.CH_STAT.WAIT_ON n, DMA.CH_STAT.PENDING n, DMA.CH_STAT.ERR n, DMA.CH_STAT.PC n, DMA.CH_CNT.RD_OUT n,
    DMA.CH_CNT.WR_OUT n, DMA.CH_CNT.RETRIES n, DMA.CH_CNT.BYTES_READ_LO n, DMA.CH_CNT_HI.BYTES_READ_HI n, DMA.CH_CNT_HI.BYTES_WRITTEN n]
  ((((s1.put (DMA.CH_STAT.STATE n) DMA.running).setChan n fun _ => {}).setAcc n []).gateUpdate n).chFetch n

/-- DMA_START; with DISABLE in the same write, DISABLE takes effect and START is refused. -/
def execDmaStart (ch : Fin 4) (disable : Bool) (s : State) : Host.Outcome State Fault Refusal :=
  let n := ch.val
  let key := (DMA.CH_CMD.START n).key
  let data : Word := if disable then 3 else 1
  .next (s.command key data (fun _ => none) fun s =>
    if disable then (s.chDisable n).refuse key .state data
    else match s.startRefusal n with
      | some r => s.refuse key r data
      | none => s.busy.chStart n)

/-- DMA_DISABLE. -/
def execDmaDisable (ch : Fin 4) (s : State) : Host.Outcome State Fault Refusal :=
  .next (s.command (DMA.CH_CMD.START ch.val).key 2 (fun _ => none) fun s => s.chDisable ch.val)

/-- CQ_HEAD_WRITE. -/
def execCqHeadWrite (ch : Fin 4) (data : Word) (s : State) : Host.Outcome State Fault Refusal :=
  .next (s.access (s.needs (DMA.CQ_HEAD.COUNT ch.val).key) fun s => s.hostWrite (DMA.CQ_HEAD.COUNT ch.val).key data)

/-- CQ_CONFIG_WRITE: CQ_CTL or CQ_BASE. -/
def execCqConfigWrite (ch : Fin 4) (ctl : Bool) (data : Word) (s : State) : Host.Outcome State Fault Refusal :=
  let key := if ctl then (DMA.CQ_CTL.SIZE ch.val).key else (DMA.CQ_BASE.ADDR ch.val).key
  .next (s.access (s.needs key) fun s => s.hostWrite key data)

/-! ### Memory turns a write away (R353, R484, R388) -/

/-- The escape slot of a block is turned away: the block is poisoned, NEXT goes back, and the context is lost (R484). -/
def State.escapeError (s : State) (ctx : Nat) : State :=
  match s.eng.escWrites.find? (fun e => e.1 == ctx) with
  | none => s
  | some (c, a, len, slot) =>
    let s1 : State := { s with eng := { s.eng with escWrites := s.eng.escWrites.erase (c, a, len, slot) } }
    let s2 := (s1.engWrite a (natBytes 0 len)).countNf ctx
    let s3 := if s2.get DEFILE.ESC_STAT.NEXT = slot + 1 then s2.put DEFILE.ESC_STAT.NEXT slot else s2
    s3.reportLost ctx 2

/-- MEMORY_WRITE_ERROR. -/
def execMemoryWriteError (o : WriteOwner) (ans : MemAnswer) (s : State) : Host.Outcome State Fault Refusal :=
  .next (if ans = .ok || !s.engRuns then s
    else match o with
      | .close w => if s.win w.toNat WIN.STATE = 3 && s.eng.closing.contains w.toNat then s.closeErr w.toNat true else s
      | .record w =>
        if s.win w.toNat WIN.STATE = 3 && s.eng.closing.contains w.toNat && s.win w.toNat WIN.CL_REC == 1 then
          s.closeErr w.toNat (ans != .drained && ans != .denied)
        else s
      | .escape ctx => s.escapeError ctx.toNat
      | .dma ch =>
        let n := ch.val
        match (s.chan n).acc.find? (fun x => !x.use.isRead && x.due.isNone) with
        | some x => if s.clkOn 1 then s.accFails n x (answerErr ans) else s
        | none => s)

/-- The stack throttle has changed: what it held goes on (R63, R432). -/
def State.throttleMoved (s : State) : State :=
  if s.dmaRuns then (List.range 4).foldl (fun t n => (t.dmaGo n).headMoved n) s else s

end Sys2Proof.Machine
end

