-- ==== Sys2Proof/Machine/Pair.lean ====
section
/-!
DEFINITION. Col pairs (15_col_pairs_and_takeover.md): heartbeat words received, forwarded and missed (R393 to R396), pair roles and
the lease (R398 to R403), mirror generations (R405, R406), loading (R408, R355) and resynchronisation (R411).
-/

namespace Sys2Proof.Machine

/-- The pair logic runs: out of reset, with DCLK and a role. -/
def State.pairRuns (s : State) : Bool := !s.chip.dieRst && s.role != 0 && s.clkOn 1

/-! ### Mirror buffers as they stand (R404, R407, R408) -/

/-- The buffers whose page answers reads (R484). -/
def State.mirReadable (s : State) : List Nat := [0, 1].filter (fun b => !s.pageShut (s.mirAddr b))

/-- The newest header GEN found. -/
def State.mirNewest (s : State) : Nat :=
  match s.mirReadable.map s.mirHdrGen with
  | [a, b] => if genNewer b a then b else a
  | [a] => a
  | _ => 0

/-- The newest complete generation. -/
def State.mirBest (s : State) : Option Nat :=
  match s.mirGens with
  | [a, b] => some (if genNewer b a then b else a)
  | l => l.head?

/-- The dirty bitmap of a buffer's header, and whether its HCRC is good (R405). -/
def State.mirDirty (s : State) (b : Nat) : List Nat := setBitsOf 16384 (s.memNat (s.mirAddr b + 64) 2048)
def State.mirHdrGood (s : State) (b : Nat) : Bool := s.memNat (s.mirAddr b + 8) 4 == crc32 16384 (s.memNat (s.mirAddr b + 64) 2048)

/-- Headers and seals are read (R408). -/
def State.mirRead (s : State) : MirLoad :=
  match s.mirBest with
  | none => { gen := none, next := false, hdrGood := false, dirty := [], newest := s.mirNewest }
  | some g =>
    let o := 1 - g % 2
    let next := s.mirReadable.contains o && s.mirHdrGen o == (g + 1) % 2 ^ 32
    let good := next && s.mirHdrGood o
    { gen := some g, next := next, hdrGood := good, dirty := if good then s.mirDirty o else [], newest := s.mirNewest }

/-! ### Roles (R398, R399, R401) -/

/-- The stack throttle holds the reads of the mirror buffers (R432). -/
def State.mirHeld (s : State) : Bool := s.stkHeld (s.mirAddr 0) || s.stkHeld (s.mirAddr 1)

/-- LOADING is entered: headers and seals are read as they stand, once the throttle lets them go. -/
def State.enterLoading (s : State) : State := (s.setPair fun p => { p with load := if s.mirHeld then none else some s.mirRead }).setProle 4

/-- CLAIMING is entered. -/
def State.enterClaiming (s : State) : State := s.setProle 3

/-- The token is gained: the lease begins (R399). -/
def State.becomeOwner (s : State) (gen : Nat) : State :=
  let s1 := s.setPair fun p =>
    { p with load := none, expiry := s.ahead (s.get PAIR.LEASE_CTL.LEN), renewAt := s.ahead (s.get PAIR.LEASE_CTL.RENEW) }
  ((s1.bump PAIR.TOKEN_STAT.GAINED).setProle 5).raise EV.PAIR.TOKEN_GAINED gen

/-- The beat nearest to the own count whose low 20 bits are given (R394). -/
def State.nearBeat (s : State) (low : Nat) : Beat := s.beat + BitVec.ofInt 64 (toInt 20 (low + 2 ^ 20 - s.beat.toNat % 2 ^ 20))

/-- A new word of the partner M-end with a pair role (R398, R401, R402). -/
def State.onPartner (s : State) (prole lease : Nat) : State :=
  let s1 := s.setPair fun p =>
    { p with
      lastWord := s.beat
      eLast := if prole = 5 then s.nearBeat lease else p.eLast
      ownerSeen := p.ownerSeen || prole == 5
      outSeen := prole == 6
      busyAt := if [3, 4, 5].contains prole then some s.beat else p.busyAt }
  match s1.prole with
  | 2 => if prole = 6 then s1.enterClaiming.enterLoading else s1
  | 3 => if prole = 6 then s1.enterLoading else if prole = 5 then s1.setProle 2 else s1
  | 5 =>
    if prole = 5 then
      let s2 := s1.raise EV.PAIR.TOKEN_CONFLICT 0
      if s2.orig % 2 = 1 then s2.releaseToken 3 false else s2
    else s1
  | _ => s1

/-- HOLDER of an H-end follows the latest words (R403); those of an end that is declared dead count no more, as in the example of R410. -/
def State.onHolder (s : State) : State :=
  let own (o : Nat) : Bool := Sparse.find s.pair.proles o == some 5
  let h := b2n (own 0) + 2 * b2n (own 1)
  if h = s.get PAIR.ROLE_STAT.HOLDER then s else (s.put PAIR.ROLE_STAT.HOLDER h).raise EV.PAIR.TOKEN_MOVED h

/-! ### Words received (R393 to R396) -/

/-- One link's record of an originator: 2 · ORIG, plus 1 for the strap. -/
def State.hbLink (s : State) (k : Nat) : Option HbLink := Sparse.find s.pair.links k

/-- Replace a link's record. -/
def State.setHbLink (s : State) (k : Nat) (l : HbLink) : State := s.setPair fun p => { p with links := Sparse.set k (some l) p.links }

/-- The path bit of a link, and the bit of an originator in it. -/
def pathField (strap : Bool) : Field := if strap then PAIR.LIVE_STAT.STRAP_PATH else PAIR.LIVE_STAT.COL_PATH

/-- A word with a SEQ that the link has not delivered yet is recorded; the originator's other link is timed from its first word on. -/
def State.recordWord (s : State) (o seq : Nat) (strap : Bool) : State :=
  let k := 2 * o + b2n strap
  let other := 2 * o + b2n (!strap)
  let old := (s.hbLink k).getD {}
  let s1 := s.setHbLink k { recent := (seq :: old.recent).take 128, at_ := s.beat, lost := false }
  let s2 := if (s1.hbLink other).isSome then s1 else s1.setHbLink other { at_ := s.beat }
  (s2.put (pathField strap) (setBit (s2.get (pathField strap)) o)).put PAIR.LIVE_STAT.ALIVE (setBit (s2.get PAIR.LIVE_STAT.ALIVE) o)

/-- A word goes on to the other neighbour with HOPS one more (R395). -/
def State.forwardWord (s : State) (w : Nat) (strap : Bool) : State :=
  let v := w + 2 ^ 36
  let s1 := s.bump PAIR.HB_STAT.FORWARDED
  if strap then s1.sbSend .heartbeat v else s1.hbStrap v

/-- A heartbeat word arrives across the Col or on the strap. -/
def State.onWord (s : State) (w : Nat) (strap : Bool) : State :=
  let o := bits w 38 2
  let hops := bits w 36 2
  let seq := bits w 28 8
  let prole := bits w 25 3
  if !s.pairRuns then s
  else if hops = 3 || prole = 7 then s.bump PAIR.HB_STAT.BAD
  else if o = s.orig then s
  else
    let seen (k : Nat) : Bool := ((s.hbLink k).getD {}).recent.contains seq
    if seen (2 * o + b2n strap) then s
    else
      let first := !seen (2 * o) && !seen (2 * o + 1)
      let s1 := s.recordWord o seq strap
      let s2 := if hops < 2 then s1.forwardWord w strap else s1
      if !first then s2
      else
        let s3 := s2.setPair fun p => { p with proles := Sparse.set o (some prole) p.proles }
        if s3.isH then s3.onHolder
        else if s3.isM && o == s3.partnerOrig then s3.onPartner prole (bits w 0 20)
        else s3

/-- HEARTBEAT_SB_RX. -/
def execHeartbeatSbRx (c : SbCopies) (s : State) : Host.Outcome State Fault Refusal :=
  .next (s.receive c SbType.heartbeat.code fun _ pl s => s.onWord pl false)

/-- HEARTBEAT_MSG_RX. -/
def execHeartbeatMsgRx (s : State) : Host.Outcome State Fault Refusal :=
  .next (match s.linkHead 5 with
    | none => s
    | some m => s.linkDone.onWord (bits m 8 40) false)

/-- STRAP_HEARTBEAT_RX: a frame that is invalid or of another type is counted (R393). -/
def execStrapHeartbeatRx (f : Frame) (s : State) (idle : Nat := 8) : Host.Outcome State Fault Refusal :=
  let b := sbBody f
  .next (if !s.pairRuns then s
    else if sbValid f && decide (8 ≤ idle) && bodyType b == SbType.heartbeat.code then s.onWord (bodyPayload b) true
    else s.bump PAIR.HB_STAT.BAD)

/-- HEARTBEAT_SEND: at the beats whose count modulo 1,024 is 256 × ORIG (R395). -/
def execHeartbeatSend (now : Beat) (s : State) : Host.Outcome State Fault Refusal :=
  let s1 := s.at now
  .next (if s1.pairRuns && s1.beat.toNat % 1024 == 256 * s1.orig then s1.sendWord else s1)

/-- HB_PATH_TIMEOUT (R396). -/
def execHbPathTimeout (orig : Fin 4) (now : Beat) (s : State) : Host.Outcome State Fault Refusal :=
  let o := orig.val
  let s1 := s.at now
  .next (match s1.hbLink (2 * o), s1.hbLink (2 * o + 1) with
    | some c, some t =>
      if !s1.pairRuns then s1
      else
        let cs := s1.past c.at_ 16384
        let ts := s1.past t.at_ 16384
        let drop (strap : Bool) (s : State) : State := s.put (pathField strap) (clearBit (s.get (pathField strap)) o)
        if cs && ts then
          if !bit (s1.get PAIR.LIVE_STAT.ALIVE) o then s1
          else
            let s2 := ((drop true (drop false s1)).put PAIR.LIVE_STAT.ALIVE (clearBit (s1.get PAIR.LIVE_STAT.ALIVE) o)).raise EV.PAIR.END_DEAD o
            let s3 := s2.setPair fun p => { p with proles := Sparse.set o none p.proles }
            if s3.isH then s3.onHolder else if s3.prole = 2 && o == s3.partnerOrig then s3.enterClaiming else s3
        else if cs && !c.lost then ((drop false s1).setHbLink (2 * o) { c with lost := true }).raise EV.PAIR.HB_PATH_LOST o
        else if ts && !t.lost then ((drop true s1).setHbLink (2 * o + 1) { t with lost := true }).raise EV.PAIR.HB_PATH_LOST (o + 2 ^ 16)
        else s1
    | _, _ => s1)

/-! ### Lease and claim (R399, R401) -/

/-- LEASE_RENEW. -/
def execLeaseRenew (now : Beat) (s : State) : Host.Outcome State Fault Refusal :=
  let s1 := s.at now
  .next (if s1.pairRuns && s1.isOwner && s1.reached s1.pair.renewAt then
      s1.setPair fun p =>
        { p with expiry := s1.ahead (s1.get PAIR.LEASE_CTL.LEN), renewAt := p.renewAt + BitVec.ofNat 64 (s1.get PAIR.LEASE_CTL.RENEW) }
    else s1)

/-- The claimant may take the token now. -/
def State.claimDue (s : State) : Bool :=
  let g := s.get PAIR.LEASE_CTL.GUARD
  if s.chip.beatLock && !s.on TIME.LOCK_STAT.ALIGN_FAIL then decide (s.pair.eLast.toNat + g ≤ s.beat.toNat)
  else decide (s.pair.lastWord.toNat + s.get PAIR.LEASE_CTL.LEN + g ≤ s.beat.toNat)

/-- LEASE_CLAIM. -/
def execLeaseClaim (now : Beat) (s : State) : Host.Outcome State Fault Refusal :=
  let s1 := s.at now
  .next (if s1.pairRuns && s1.prole == 3 && s1.claimDue then s1.enterLoading else s1)

/-! ### Loading (R408, R355) -/

/-- Words of a table are loaded from memory. -/
def State.loadWords (s : State) (idx addr : Nat) : Nat → State
  | 0 => s
  | k + 1 => (s.setTbl idx (BitVec.ofNat 64 (s.memNat addr 8) &&& tblMask idx)).loadWords (idx + 1) (addr + 8) k

/-- Binding entries are loaded from memory; requests taken earlier keep the entry they found (R239). -/
def State.loadBinds (s : State) (page addr : Nat) : Nat → State
  | 0 => s
  | k + 1 =>
    let w := BitVec.ofNat 64 (s.memNat addr 8)
    ((if s.tblWord page = w then s else s.keepBind page).setTbl page w).loadBinds (page + 1) (addr + 8) k

/-- Context records are loaded; a record whose LOST is 1 keeps it. -/
def State.loadContexts (s : State) (c addr : Nat) : Nat → State
  | 0 => s
  | k + 1 =>
    let lost := (s.ctxOf c).lost
    let s1 := s.loadWords (ctxIdx c 0) addr 4
    (if lost then s1.markLost c else s1).loadContexts (c + 1) (addr + 32) k

/-- Every part that a generation names is written into the end's own tables. -/
def State.loadParts (s : State) (base parts : Nat) : State :=
  let s1 := if bit parts 0 then s.loadWords 0x30800 (base + 0x1000) 8192 else s
  let s2 := if bit parts 1 then
      { s1.loadWords 0x30000 (base + 0x11000) 2048 with eng := { s1.eng with badSlots := [] } } else s1
  let s3 := if bit parts 2 then s2.loadContexts 0 (base + 0x15000) 16384 else s2
  if bit parts 3 then (s3.loadBinds 0 (base + 0x95000) 131072).setTxn fun t => { t with badBinds := [] } else s3

/-- A loaded window counts as OPEN: it is OPEN or CLOSING, or ARMED with its OPEN_BEAT past at entry to LOADING. -/
def State.loadedOpen (s : State) (n : Nat) : Bool :=
  s.winIn n [2, 3] || (s.win n WIN.STATE == 1 && decide (s.openBeat n ≤ s.pair.since))

/-- What becomes of one loaded window (R355). -/
def State.loadWindow (s : State) (n : Nat) : State :=
  if s.loadedOpen n then s.failWindow n [4] true
  else if s.win n WIN.STATE = 1 then
    let c := s.ctxOf (s.win n WIN.CTX)
    if c.valid && !c.lost then s.armWindow n else s.failWindow n [4] true
  else s

/-- The newest complete generation is loaded (R408). -/
def State.loadGen (s : State) (l : MirLoad) (g : Nat) : State :=
  let base := s.mirAddr (g % 2)
  let parts := bits (s.memNat (base + 4) 4) 0 4
  let s1 := s.loadParts base parts
  let s2 := if l.next then (if l.hdrGood then s1.raise EV.PAIR.MIRROR_INCOMPLETE ((g + 1) % 2 ^ 32) else s1.raise EV.PAIR.MIRROR_HDR_BAD ((g + 1) % 2 ^ 32))
    else s1
  let behind := if !l.next then [] else if l.hdrGood then l.dirty else (List.range 16384).filter (fun c => (s2.ctxOf c).valid)
  let wins := if bit parts 0 then List.range 1024 else []
  let lost := dedup (behind ++ (wins.filter s2.loadedOpen).map (fun n => s2.win n WIN.CTX))
  let s3 := lost.foldl (fun t c => t.reportLost c 5) s2
  let s4 := wins.foldl State.loadWindow s3
  ((((s4.put PAIR.MIR_STAT_HI.LOST_CTX lost.length).put PAIR.MIR_STAT_HI.LOADED g).put PAIR.MIR_STAT.BEGUN l.newest).put
    PAIR.MIR_STAT.SEALED l.newest).put PAIR.MIR_STAT_HI.OPEN 0

/-- MIRROR_LOAD_DONE: the end becomes OWNER. A load that the stack throttle holds does not end (R432). -/
def execMirrorLoadDone (s : State) : Host.Outcome State Fault Refusal :=
  .next (if !s.pairRuns || s.prole != 4 || !s.clkOn 2 || s.mirHeld then s
    else
      let l := s.pair.load.getD s.mirRead
      match l.gen with
      | none => (s.raise EV.PAIR.MIRROR_NONE 0).becomeOwner 0
      | some g => (s.loadGen l g).becomeOwner g)

/-! ### Resynchronisation (R411) -/

/-- RESYNC_SEAL_READ. -/
def execResyncSealRead (now : Beat) (s : State) : Host.Outcome State Fault Refusal :=
  let s1 := s.at now
  .next (if !s1.pairRuns || s1.prole != 1 || !s1.reached s1.pair.sealAt || s1.mirHeld then s1
    else
      let s2 := s1.setPair fun p => { p with sealAt := p.sealAt + 16384 }
      let fresh := s2.mirGens.any (fun g => s2.pair.heldGens.all (fun h => genNewer g h))
      if s2.chip.col = .active && s2.past s2.chip.entry 16384 && s2.pair.ownerSeen && fresh then s2.setProle 2 else s2)

/-- INIT_OWNER_TIMEOUT. -/
def execInitOwnerTimeout (now : Beat) (s : State) : Host.Outcome State Fault Refusal :=
  let s1 := s.at now
  let quiet := match s1.pair.busyAt with
    | some b => s1.past b 16384 && s1.past s1.pair.since 16384
    | none => s1.past s1.pair.since 16384
  .next (if s1.pairRuns && s1.prole == 1 && s1.on PAIR.PAIR_CTL.INIT_OWNER && quiet then
      (((s1.put PAIR.MIR_STAT.BEGUN s1.mirNewest).put PAIR.MIR_STAT.SEALED s1.mirNewest).put PAIR.MIR_STAT_HI.OPEN 0).becomeOwner 0
    else s1)

/-! ### Commands of firmware (R400, R405, R406) -/

/-- A write of a PAIR command is refused for a reason of page 13. -/
def State.refusePair (s : State) (f : Field) (code : Nat) (data : Word) : State := s.refuseCode 13 (f.key % 4096) false code data

/-- A field that only an M-end has is refused with ROLE elsewhere (R453). -/
def State.needM (s : State) : Option Reason := if s.isM then none else some .role

/-- TOKEN_RELEASE: refused with STATE by an end without the token, and with WINDOWS_LIVE while a window is live. -/
def execTokenRelease (s : State) : Host.Outcome State Fault Refusal :=
  .next (s.command PAIR.TOKEN_CMD.RELEASE.key 1 State.needM fun s =>
    if s.windowsIn [1, 2, 3] != [] then s.refusePair PAIR.TOKEN_CMD.RELEASE 0x42 1
    else if !s.isOwner then s.refuse PAIR.TOKEN_CMD.RELEASE.key .state 1
    else s.releaseToken 2 false)

/-- The words of a bitmap of 16,384 bits. -/
def bitmapWords (l : List Nat) : List Word := (List.range 256).map (fun w => BitVec.ofNat 64 (l.foldl (fun n c => if c / 64 = w then setBit n (c % 64) else n) 0))

/-- Consecutive table words take values. -/
def State.setWords (s : State) (idx : Nat) : List Word → State
  | [] => s
  | w :: ws => (s.setTbl idx w).setWords (idx + 1) ws

/-- The mirror block takes a generation's header and seal (R405). -/
def State.fillMirror (s : State) (g : Nat) (marks : List Nat) : State :=
  let ws := bitmapWords marks
  let hcrc := crc32 16384 (packLow (ws.map (fun w => (w.toNat, 64))))
  let s1 := (s.setTbl 0x32A00 (BitVec.ofNat 64 (g + s.get PAIR.MIR_CTL.PARTS * 2 ^ 32))).setTbl 0x32A01 (BitVec.ofNat 64 hcrc)
  ((s1.setWords 0x32A02 (List.replicate 6 0)).setWords 0x32A08 ws).setWords 0x32C00
    (BitVec.ofNat 64 (g + (2 ^ 32 - 1 - g) * 2 ^ 32) :: List.replicate 7 0)

/-- MIR_BEGIN. -/
def execMirBegin (s : State) : Host.Outcome State Fault Refusal :=
  .next (s.command PAIR.MIR_CMD.BEGIN.key 1 State.needM fun s =>
    if !s.isOwner then s.refusePair PAIR.MIR_CMD.BEGIN 0x40 1
    else
      let again := s.on PAIR.MIR_STAT_HI.OPEN
      let g := if again then s.get PAIR.MIR_STAT.BEGUN else (s.get PAIR.MIR_STAT.BEGUN + 1) % 2 ^ 32
      let marks := if again then s.pair.dirty.foldl (fun m c => Sparse.set c.1 (some ()) m) s.pair.openDirty else s.pair.dirty
      let s1 := (s.setPair fun p => { p with dirty := [], openDirty := marks }).fillMirror g (marks.map (·.1))
      ((s1.put PAIR.MIR_STAT.BEGUN g).put PAIR.MIR_STAT_HI.OPEN 1).put PAIR.MIR_STAT_HI.DIRTY_N 0)

/-- MIR_SEALED. -/
def execMirSealed (s : State) : Host.Outcome State Fault Refusal :=
  .next (s.command PAIR.MIR_CMD.BEGIN.key 2 State.needM fun s =>
    if !s.on PAIR.MIR_STAT_HI.OPEN then s.refusePair PAIR.MIR_CMD.BEGIN 0x41 2
    else (s.put PAIR.MIR_STAT.SEALED (s.get PAIR.MIR_STAT.BEGUN)).put PAIR.MIR_STAT_HI.OPEN 0)

end Sys2Proof.Machine
end

