-- ==== Sys2Proof/Machine/Repair.lean ====
section
/-!
DEFINITION. Commands of lane repair and width changes (05_repair_width_and_lowland.md): marking, proposing, answering, and the
beats at which masks and groups change. Lowland entry itself is in Machine/Calibrate.lean.
-/

namespace Sys2Proof.Machine

/-! ### Firmware commands -/

/-- MARK_CMD.GO (R132): STATE outside ACTIVE and LOWLAND, then RANGE for an index above 144 or a site already bad. -/
def execMarkSite (site : BitVec 8) (s : State) : Host.Outcome State Fault Refusal :=
  let i := site.toNat
  .next (s.command REPAIR.MARK_CMD.GO.key (BitVec.ofNat 64 (1 + 256 * i))
    (fun s =>
      if !s.colIn [.active, .lowland] then some .state
      else if 144 < i || s.isBad true (siteGroup i) (sitePlace i) then some .range else none)
    (fun s => s.siteFailing i 3))

/-- WIDTH_CMD.GO (R147): STATE, BUSY, RANGE, LEVEL in that order, and CAPABILITY where WIDTH_CHG is not agreed (R111). -/
def execWidthCmd (dir : Bool) (groups : BitVec 4) (force : Bool) (s : State) : Host.Outcome State Fault Refusal :=
  let g := groups.toNat
  .next (s.command REPAIR.WIDTH_CMD.GO.key (BitVec.ofNat 64 (1 + 2 * b2n dir + 4 * g + 64 * b2n force))
    (fun s =>
      let lm := if dir then s.lMinFor g (s.groups false) else s.lMinFor (s.groups true) g
      if s.chip.col ≠ .active then some .state
      else if s.anyPause then some .busy
      else if g = 0 || g &&& s.groups dir != g || g == s.groups dir then some .range
      else if s.levelAgreed && !force && s.get TIME.LEVEL_CTL.L_LEVEL < lm then some .level
      else if !s.cap 7 then some .capability else none)
    (fun s => s.evalTrigger (.widthCmd dir groups force)))

/-- LOWLAND_CMD.GO (R151): accepted only in ACTIVE. -/
def execLowlandCmd (s : State) : Host.Outcome State Fault Refusal :=
  .next (s.command REPAIR.LOWLAND_CMD.GO.key 1 (fun s => if s.chip.col = .active then none else some .state)
    (fun s => s.evalTrigger (.lowland 6)))

/-! ### Answers to proposals -/

/-- The low 22 bits of a proposal's beat are those of a frame. -/
def Proposal.beatIs (p : Proposal) (low : Nat) : Bool := p.beat.toNat % 2 ^ 22 == low

/-- Take a proposal of this end that a frame answers: mark it accepted. Once a CANCEL has gone, the far end may hold it, and no ACCEPT
counts any more (R139). -/
def State.acceptOwn (s : State) (f : Proposal → Bool) : State :=
  s.setProps (s.rep.props.map (fun p => if p.own && p.cancels == 0 && f p then { p with accepted := true } else p))

/-- Remove the proposals that `f` holds of. -/
def State.dropProps (s : State) (f : Proposal → Bool) : State := s.setProps (s.rep.props.filter (fun p => !f p))

/-- What a removed proposal asks to be evaluated again. -/
def Proposal.trigger (p : Proposal) (rxGroups : Nat) : Option Trigger :=
  match p.kind with
  | .quiet g k _ => if p.own then some (.site (siteIndex g k)) else none
  | .width rx gs _ r =>
    if p.own && r != 0 then
      ((List.range 4).find? (fun g => bit rxGroups g && !gs.getLsbD g)).map (fun g => .group g r rx)
    else none
  | .lowland _ r => if p.own then some (.lowland r) else none
  | .park => if p.own then some .park else none

/-- Remove proposals and let what they asked for wait. -/
def State.withdraw (s : State) (f : Proposal → Bool) : State :=
  let gone := s.rep.props.filter f
  (gone.filterMap (fun p => p.trigger (s.groups true))).foldl State.wait (s.dropProps f)

/-- Remove proposals that the far end declined; what they asked for is evaluated again later (R139). -/
def State.declinedBy (s : State) (f : Proposal → Bool) : State :=
  let ts := (s.rep.props.filter f).filterMap (fun p => p.trigger (s.groups true))
  let s1 := s.dropProps f
  { s1 with rep := { s1.rep with declined := s1.rep.declined ++ ts.map (fun t => (t, s.beat)) } }

/-- A proposal of the far end is declined; had an earlier copy of it been accepted, it is not applied. -/
def State.declineFar (s : State) (k : PropKind) (beat : Beat) : State :=
  (s.dropProps (fun p => !p.own && p.stage == 0 && p.kind == k && p.beat == beat)).sendProp .decline k beat

/-- Accept a proposal of the far end, once. -/
def State.acceptFar (s : State) (k : PropKind) (beat : Beat) : State :=
  let s1 :=
    if s.rep.props.any (fun p => !p.own && p.kind == k && p.beat == beat) then s
    else s.setProps (s.rep.props ++ [{ kind := k, beat := beat, own := false, accepted := true, lastSent := s.beat }])
  s1.sendProp .accept k beat

/-- A proposal of the far end is the one already accepted. -/
def State.known (s : State) (k : PropKind) (beat : Beat) : Bool :=
  s.rep.props.any (fun p => !p.own && p.kind == k && p.beat == beat)

/-- The acceptance of a far quiet repair of this end's transmit direction (R139); with a width or Lowland proposal of this end
on the direction outstanding, that one proceeds (R150). -/
def State.quietOk (s : State) (g k n : Nat) (p : Proposal) : Bool :=
  s.colIn [.active, .quietRepair, .lowland, .repair] &&
  (s.known p.kind p.beat ||
   (decide (g ≤ 4) && decide (k < groupSites g) && (n == 0 || (decide (20 ≤ n) && decide (n ≤ 31))) &&
    !s.isBad false g k &&
    !s.rep.props.any (fun q => q.touches false && (q.accepted || q.isWide) && q.overlaps p)))

/-- REPAIR PROPOSE: every copy is answered with ACCEPT or DECLINE (R139). DESIGN CHOICE (log entry 82): a REPAIR frame with a reserved KIND
has no effect and raises no event. -/
def execRepairProposeRx (c : SbCopies) (s : State) : Host.Outcome State Fault Refusal :=
  .next (s.receive c SbType.repair.code fun _ pl s =>
    if bits pl 36 4 ≠ 1 then s
    else
      let g := bits pl 33 3
      let k := bits pl 27 6
      let n := bits pl 22 5
      let beat := resolveBeat 22 (bits pl 0 22) s.beat
      let p : Proposal := { kind := .quiet g k n, beat := beat, own := false, accepted := true, lastSent := s.beat }
      if s.quietOk g k n p then s.acceptFar p.kind beat else s.declineFar p.kind beat)

/-- A frame answers an own quiet repair: same group, site and beat. -/
def quietIs (pl : Nat) (p : Proposal) : Bool :=
  p.beatIs (bits pl 0 22) && (match p.kind with | .quiet g k _ => g == bits pl 33 3 && k == bits pl 27 6 | _ => false)

/-- REPAIR ACCEPT: the receiving end will apply the repair (R139). -/
def execRepairAcceptRx (c : SbCopies) (s : State) : Host.Outcome State Fault Refusal :=
  .next (s.receive c SbType.repair.code fun _ pl s => if bits pl 36 4 ≠ 2 then s else s.acceptOwn (quietIs pl))

/-- REPAIR DECLINE: the proposal ends and is proposed again later (R139). -/
def execRepairDeclineRx (c : SbCopies) (s : State) : Host.Outcome State Fault Refusal :=
  .next (s.receive c SbType.repair.code fun _ pl s =>
    if bits pl 36 4 ≠ 3 then s else s.declinedBy (fun p => p.own && p.stage == 0 && quietIs pl p))

/-- REPAIR CANCEL: an accepted repair of the far end is withdrawn before its beat (R139). -/
def execRepairCancelRx (c : SbCopies) (s : State) : Host.Outcome State Fault Refusal :=
  .next (s.receive c SbType.repair.code fun _ pl s =>
    if bits pl 36 4 ≠ 4 then s else s.dropProps (fun p => !p.own && p.stage == 0 && quietIs pl p))

/-- An own WIDTH proposal, PROPOSE or LOWLAND, has no answer yet: proposals cross (R150). -/
def State.ownWide (s : State) : List Proposal := s.rep.props.filter (fun p => p.own && !p.accepted && p.isWide)

/-- The losing end withdraws its own WIDTH proposals and raises REQ_WITHDRAWN; what they asked for waits for the end of `w`, the winner's
proposal, or of a RETRAIN where there is none (R150). -/
def State.yieldWide (s : State) (w : Option (PropKind × Beat)) : State :=
  match s.ownWide with
  | [] => s
  | p :: _ =>
    let f (q : Proposal) : Bool := q.own && !q.accepted && q.isWide
    let ts := (s.rep.props.filter f).filterMap (fun q => q.trigger (s.groups true))
    let s1 := match w with
      | none => s.withdraw f
      | some x => let t := s.dropProps f; { t with rep := { t.rep with yielded := t.rep.yielded ++ ts.map (fun q => (q, x)) } }
    s1.raise EV.REPAIR.REQ_WITHDRAWN (match p.kind with | .lowland _ _ => 4 | _ => 1)

/-- A far width change of direction `rx` may be accepted (R146, R147, R139). -/
def State.widthOk (s : State) (rx : Bool) (gs : Nat) (force : Bool) (p : Proposal) : Bool :=
  let lm := if rx then s.lMinFor gs (s.groups false) else s.lMinFor (s.groups true) gs
  (gs != 0 && gs &&& s.groups rx == gs && s.cap 7 &&
   !(s.levelAgreed && !force && decide (s.get TIME.LEVEL_CTL.L_LEVEL < lm)) &&
   !s.rep.props.any (fun q => q.accepted && q.touches rx && q.overlaps p))

/-- WIDTH PROPOSE: crossings are settled by R150, then the change is accepted or declined. DESIGN CHOICE (log entry 82): a WIDTH frame with a
reserved KIND has no effect and raises no event, and a PROPOSE with a reserved REASON is taken like any other. -/
def execWidthProposeRx (c : SbCopies) (s : State) : Host.Outcome State Fault Refusal :=
  .next (s.receive c SbType.width.code fun _ pl s =>
    if bits pl 36 4 ≠ 1 then s
    else
      let rx := !bit pl 35
      let beat := resolveBeat 22 (bits pl 0 22) s.beat
      let k : PropKind := .width rx (BitVec.ofNat 4 (bits pl 31 4)) (bit pl 30) (bits pl 26 4)
      let p : Proposal := { kind := k, beat := beat, own := false, accepted := true, lastSent := s.beat }
      if !s.colIn [.active, .quietRepair, .widthChange, .repair] then s.declineFar k beat
      else if s.known k beat then s.acceptFar k beat
      else if s.ownWide ≠ [] ∧ s.wins then s.declineFar k beat
      else if s.widthOk rx (bits pl 31 4) (bit pl 30) p then
        let s1 := s.yieldWide (some (k, beat))
        (if k.overQuiet then s1.cancelQuiet else s1).acceptFar k beat
      else s.declineFar k beat)

/-- A frame answers an own WIDTH proposal: same beat and groups. -/
def widthIs (pl : Nat) (p : Proposal) : Bool :=
  p.beatIs (bits pl 0 22) &&
  (match p.kind with
   | .width _ gs _ _ => gs.toNat == bits pl 31 4
   | .lowland gs _ => gs.toNat == bits pl 31 4
   | _ => false)

/-- An accepted Lowland entry voids what is accepted and not begun; its sites are evaluated again in LOWLAND (R150). -/
def State.voidForLowland (s : State) : State :=
  s.withdraw (fun p => p.stage == 0 && (match p.kind with | .lowland _ _ | .park => false | _ => true))

/-- WIDTH ACCEPT: the proposer is committed to the change at its beat (R148). -/
def execWidthAcceptRx (c : SbCopies) (s : State) : Host.Outcome State Fault Refusal :=
  .next (s.receive c SbType.width.code fun _ pl s =>
    if bits pl 36 4 ≠ 2 then s
    else
      let s1 := s.acceptOwn (fun p => p.isWide && widthIs pl p)
      if s1.rep.props.any (fun p => p.own && p.accepted && (match p.kind with | .lowland _ _ => widthIs pl p | _ => false))
      then s1.voidForLowland else s1)

/-- WIDTH DECLINE: the proposal ends, and what asked for it is evaluated again later; a firmware command is not asked again (R146, R139). -/
def execWidthDeclineRx (c : SbCopies) (s : State) : Host.Outcome State Fault Refusal :=
  .next (s.receive c SbType.width.code fun _ pl s =>
    if bits pl 36 4 ≠ 3 then s else s.declinedBy (fun p => p.own && p.stage == 0 && p.isWide && widthIs pl p))

/-- WIDTH LOWLAND: Lowland entry at E is accepted in ACTIVE, with crossings settled by R150 (R152). -/
def execWidthLowlandRx (c : SbCopies) (s : State) : Host.Outcome State Fault Refusal :=
  .next (s.receive c SbType.width.code fun _ pl s =>
    if bits pl 36 4 ≠ 4 then s
    else
      let beat := resolveBeat 22 (bits pl 0 22) s.beat
      let k : PropKind := .lowland (BitVec.ofNat 4 (bits pl 31 4)) (bits pl 26 4)
      if !(s.colIn [.active, .quietRepair, .widthChange] && s.cap 1) then s.declineFar k beat
      else if s.known k beat then s.acceptFar k beat
      else if s.ownWide ≠ [] ∧ s.wins then s.declineFar k beat
      else ((s.yieldWide (some (k, beat))).cancelQuiet.voidForLowland).acceptFar k beat)

/-- WIDTH CANCEL: an accepted change of the far end is withdrawn before its beat (R146). -/
def execWidthCancelRx (c : SbCopies) (s : State) : Host.Outcome State Fault Refusal :=
  .next (s.receive c SbType.width.code fun _ pl s =>
    if bits pl 36 4 ≠ 5 then s else s.dropProps (fun p => !p.own && p.stage == 0 && p.isWide && widthIs pl p))

/-! ### Repeats and cancels (R139) -/

/-- The copy of a proposal that 1,024 beats without an answer send again. -/
def State.repeatOne (s : State) (p : Proposal) : State × Proposal :=
  if p.own && !p.accepted && p.cancels == 0 && s.past p.lastSent 1024 && decide (s.beat.toNat + 1024 < p.beat.toNat) then
    (s.sendProp .propose p.kind p.beat, { p with lastSent := s.beat })
  else (s, p)

/-- Go through the proposals in order, letting `f` send and change each. -/
def State.mapProps (s : State) (f : State → Proposal → State × Proposal) : List Proposal → State × List Proposal
  | [] => (s, [])
  | p :: ps =>
    let (s1, p1) := f s p
    let (s2, ps2) := s1.mapProps f ps
    (s2, p1 :: ps2)

/-- Every unanswered REPAIR, WIDTH or PARK proposal is repeated 1,024 beats after its last copy. -/
def execProposalRepeat (now : Beat) (s : State) : Host.Outcome State Fault Refusal :=
  let s0 := s.at now
  let (s1, ps) := s0.mapProps State.repeatOne s0.rep.props
  .next ((s1.setProps ps).reevaluate)

/-- The CANCEL copies due 1,024, 768, 512 and 256 beats before the beat of a proposal without ACCEPT. -/
def State.cancelOne (s : State) (p : Proposal) : State × Proposal :=
  if p.own && !p.accepted && p.stage == 0 && decide (p.cancels < 4) &&
      decide (p.beat.toNat ≤ s.beat.toNat + (1024 - 256 * p.cancels)) then
    (s.sendProp .cancel p.kind p.beat, { p with cancels := p.cancels + 1 })
  else (s, p)

/-- A cancelled proposal is proposed again (R139, R433). -/
def State.proposeAgain (s : State) (p : Proposal) : State :=
  match p.kind with
  | .park => s.wait .park
  | .quiet g k _ => s.wait (.site (siteIndex g k))
  | k => s.propose k

/-- A proposer without ACCEPT cancels, and after its last CANCEL proposes again. -/
def execProposalCancelDue (now : Beat) (s : State) : Host.Outcome State Fault Refusal :=
  let s0 := s.at now
  let (s1, ps) := s0.mapProps State.cancelOne s0.rep.props
  let done := ps.filter (fun p => decide (4 ≤ p.cancels))
  .next ((done.foldl State.proposeAgain (s1.setProps (ps.filter (fun p => decide (p.cancels < 4))))).reevaluate)

/-! ### Error attribution window (R134) -/

/-- The beat bits of SITE_ERR.FIRST extended to the beat they came from. -/
def State.firstBeat (s : State) (i : Nat) : Nat :=
  s.beat.toNat - (s.beat.toNat + 2 ^ 32 - s.get (REPAIR.SITE_ERR.FIRST i)) % 2 ^ 32

/-- WINDOW beats after the first error of a site's or a group's count, the count returns to zero. -/
def execAttrWindowExpiry (idx : Nat) (now : Beat) (s : State) (grp : Bool := false) : Host.Outcome State Fault Refusal :=
  let s1 := s.at now
  .next (if grp then
      if idx < 5 ∧ s1.on (REPAIR.GROUP_ERR.COUNT idx) = true ∧
          s1.past ((Sparse.find s1.rep.grpFirst idx).getD s1.beat) (s1.get REPAIR.ATTR_CTL.WINDOW) = true then
        { s1.put (REPAIR.GROUP_ERR.COUNT idx) 0 with rep := { s1.rep with grpFirst := Sparse.set idx none s1.rep.grpFirst } }
      else s1
    else if siteOk idx && s1.on (REPAIR.SITE_ERR.COUNT idx) && s1.get REPAIR.ATTR_CTL.WINDOW ≤ s1.beat.toNat - s1.firstBeat idx then
      (s1.put (REPAIR.SITE_ERR.COUNT idx) 0).put (REPAIR.SITE_ERR.FIRST idx) 0
    else s1)

/-! ### Quiet repair (R140) -/

/-- A proposal that is void at its beat: what this end asked for by it waits to be evaluated again. -/
def State.voided (s : State) (p : Proposal) : State :=
  match p.trigger (s.groups true) with
  | some t => s.wait t
  | none => s

/-- At P a repair that both ends hold begins; one that was not accepted, or that meets a state it is void in, ends. -/
def State.quietBegin (s : State) (p : Proposal) : State × Option Proposal :=
  match p.kind with
  | .quiet _ _ n =>
    if p.stage = 0 ∧ s.reached p.beat then
      if p.accepted && s.colIn [.active, .quietRepair, .widthChange, .lowland, .repair] then
        (if n = 0 then s else (if p.own then s else s.endBurst).suspend p.own p.beat (64 * n + s.get TIME.LEVEL_CTL.L_LEVEL), some { p with stage := 1 })
      else (s.voided p, none)
    else (s, some p)
  | _ => (s, some p)

/-- Go through proposals, keeping those that `f` keeps. -/
def State.sweep (s : State) (f : State → Proposal → State × Option Proposal) : List Proposal → State × List Proposal
  | [] => (s, [])
  | p :: ps =>
    let (s1, o) := f s p
    let (s2, ps2) := s1.sweep f ps
    (s2, o.toList ++ ps2)

/-- Sweep the proposals of the state. -/
def State.sweepAll (s : State) (f : State → Proposal → State × Option Proposal) : State :=
  let (s1, ps) := s.sweep f s.rep.props
  s1.setProps ps

/-- P of quiet repairs. -/
def execQrPauseBeat (now : Beat) (s : State) : Host.Outcome State Fault Refusal :=
  .next (((s.at now).sweepAll State.quietBegin).pauseState)

/-- The end of a quiet repair at this end: counted, and announced by the receiving end (R140). DESIGN CHOICE: QR_DONE is raised for a
repair with N = 0 too. -/
def State.quietDone (s : State) (own : Bool) (g k : Nat) : State :=
  let s1 := s.bump REPAIR.RPR_STAT.QR_DONE
  if own then s1.raise EV.REPAIR.QR_DONE (g + k * 2 ^ 8) else s1

/-- At the first frame boundary at or after P + 64 the mask changes, in the states in which a mask may change (R75, R143, R155); with
N = 0 that ends the repair. -/
def State.quietSwitch (s : State) (p : Proposal) : State × Option Proposal :=
  match p.kind with
  | .quiet g k n =>
    if p.stage = 1 ∧ s.reached (p.beat + 64) ∧ s.colIn [.quietRepair, .widthChange, .lowland, .repair] then
      let s1 := s.put (maskField p.own g) (setBit (s.get (maskField p.own g)) k)
      if n = 0 then (s1.quietDone p.own g k, none) else (s1, some { p with stage := 2 })
    else (s, some p)
  | _ => (s, some p)

/-- In REPAIR, once every own proposal is applied and nothing waits, verification begins (R143). -/
def State.maybeVerify (s : State) : State :=
  if s.chip.col = .repair && s.rep.waiting == [] && s.rep.declined == [] && !s.rep.props.any (fun p => p.own) && s.rep.verify.isNone && !s.rep.ownReady
  then { s with rep := { s.rep with verify := some s.beat } } else s

/-- Mask switches of quiet repairs. -/
def execQrMaskSwitch (now : Beat) (s : State) : Host.Outcome State Fault Refusal :=
  let s0 := s.at now
  let s1 := s0.sweepAll State.quietSwitch
  let s2 := s1.pauseState.reevaluate
  .next ((if s1.rep.props.length < s0.rep.props.length then s2.checkLowland else s2).maybeVerify)

/-- P + N: the receiving end's verification decides; the transmitting end resumes (R140). -/
def State.quietEnd (mismatch : Bool) (s : State) (p : Proposal) : State × Option Proposal :=
  match p.kind with
  | .quiet g k n =>
    if p.stage = 2 ∧ s.reached (p.beat + BitVec.ofNat 64 (64 * n)) then
      if p.own && mismatch then
        ((s.bump REPAIR.RPR_STAT.QR_FAIL).raise EV.REPAIR.QR_VERIFY_FAIL g |>.wait (.group g 3 true), none)
      else (s.quietDone p.own g k, none)
    else (s, some p)
  | _ => (s, some p)

/-- The stream resumes, triggers that waited are evaluated, and R151 is looked at. -/
def execQrResume (now : Beat) (mismatch : Bool) (s : State) : Host.Outcome State Fault Refusal :=
  let s0 := s.at now
  let s1 := s0.sweepAll (State.quietEnd mismatch)
  let s2 := s1.pauseState.reevaluate
  .next (if s1.rep.props.length < s0.rep.props.length then s2.checkLowland else s2)

/-! ### Masks at bring-up (R143) -/

/-- Both ends have sent READY: the Col enters CREDIT_INIT. -/
def State.repairDone (s : State) : State :=
  if s.chip.col = .repair && s.rep.ownReady && s.rep.farReady then
    if s.groups true = 0 || s.groups false = 0 then s.goFault EV.REPAIR.NO_LANE_GROUP 0 else s.enterCreditInit
  else s

/-- After 1,024 beats of comparison: READY, or failing groups are removed (R143). -/
def execRepairVerifyEnd (now : Beat) (mismatch : BitVec 5) (s : State) : Host.Outcome State Fault Refusal :=
  let s1 := s.at now
  .next (match s1.rep.verify with
    | none => s1
    | some t =>
      if s1.chip.col ≠ .repair ∨ !s1.past t 1024 then s1
      else
        let s2 : State := { s1 with rep := { s1.rep with verify := none } }
        let bad := mismatch.toNat &&& (s2.groups true + 16)
        let s3 := (setBitsOf 5 bad).foldl (fun t g => t.raise EV.REPAIR.QR_VERIFY_FAIL g) s2
        let lost := bad != 0 && s3.groups true &&& (31 - bad) == 0
        let s4 := if lost then s3.goFault EV.REPAIR.NO_LANE_GROUP 0 else s3
        if bit bad 4 then s4.cgFault
        else if bad = 0 then
          ({ s3 with rep := { s3.rep with ownReady := true } }.setStatus 10 0).repairDone
        else if lost then s4
        else s3.widthTo true (s3.groups true - bad) 3 0)

/-- REPAIR that lasts 1,000,000 beats ends in DOWN (R96). -/
def execRepairTimeout (now : Beat) (s : State) : Host.Outcome State Fault Refusal :=
  let s1 := s.at now
  .next (if s1.chip.col = .repair && s1.past s1.chip.entry 1000000 then s1.downFor EV.IDENT.REPAIR_TIMEOUT 0 else s1)

/-! ### Width changes (R148) -/

/-- At W the bulk stream of the direction stops and the Level guarantee is suspended. -/
def State.widthBegin (s : State) (p : Proposal) : State × Option Proposal :=
  match p.kind with
  | .width rx _ _ _ =>
    if p.stage = 0 ∧ s.reached p.beat then
      if p.accepted && s.colIn [.active, .quietRepair, .widthChange, .repair] then
        ((if rx then s else s.endBurst).suspend rx p.beat (512 + s.get TIME.LEVEL_CTL.L_LEVEL), some { p with stage := 1 })
      else (s.voided p, none)
    else (s, some p)
  | _ => (s, some p)

/-- W of width changes. -/
def execWidthChangeBeat (now : Beat) (s : State) : Host.Outcome State Fault Refusal :=
  .next (((s.at now).sweepAll State.widthBegin).pauseState)

/-- After W + 64 the groups change; those removed by command are remembered for RETRAIN. A change never adds a group that another has
removed since it was proposed (R149). -/
def State.widthSwitch (s : State) (p : Proposal) : State × Option Proposal :=
  match p.kind with
  | .width rx gs _ r =>
    if p.stage = 1 ∧ s.reached (p.beat + 64) then
      let removed := BitVec.ofNat 4 (s.groups rx) &&& ~~~ gs
      let s1 := s.setGroups rx (s.groups rx &&& gs.toNat)
      let s2 : State :=
        if r ≠ 0 then s1
        else if rx then { s1 with rep := { s1.rep with cmdRx := s1.rep.cmdRx ||| removed } }
        else { s1 with rep := { s1.rep with cmdTx := s1.rep.cmdTx ||| removed } }
      (s2, some { p with stage := 2 })
    else (s, some p)
  | _ => (s, some p)

/-- The groups switch at both ends. Two changes that leave no group between them end the Col (R135). -/
def execWidthSwitch (now : Beat) (s : State) : Host.Outcome State Fault Refusal :=
  let s1 := (s.at now).sweepAll State.widthSwitch
  .next (if s1.colIn inService && (s1.groups true == 0 || s1.groups false == 0) then s1.goFault EV.REPAIR.NO_LANE_GROUP 0 else s1)

/-- At W + 512 the bulk stream resumes and WIDTH_CHANGED is raised. -/
def State.widthEnd (s : State) (p : Proposal) : State × Option Proposal :=
  match p.kind with
  | .width rx _ _ _ =>
    if p.stage = 2 ∧ s.reached (p.beat + 512) then
      ((s.bump REPAIR.RPR_STAT.WIDTH).raise EV.REPAIR.WIDTH_CHANGED (b2n rx + s.groups rx * 2), none)
    else (s, some p)
  | _ => (s, some p)

/-- The width change ends: LEVEL_STAT, the Col state and waiting triggers follow. -/
def execWidthResume (now : Beat) (s : State) : Host.Outcome State Fault Refusal :=
  let s0 := s.at now
  let s1 := s0.sweepAll State.widthEnd
  .next (if s1.rep.props.length < s0.rep.props.length then s1.refreshLevel.levelBelow.pauseState.reevaluate.checkLowland.maybeVerify
    else s1.pauseState)

end Sys2Proof.Machine
end

