-- ==== Sys2Proof/Machine/Calibrate.lean ====
section
/-!
DEFINITION. Scrambler starts, bring-up calibration, RETRAIN and Lowland entry (R113 to R123, R152, R154), and background
calibration with its application points (R124 to R130), as shared operations and commands.
-/

namespace Sys2Proof.Machine

/-- Replace the calibration state. -/
def State.setCal (s : State) (f : Cal → Cal) : State := { s with cal := f s.cal }

/-! ### Remote access slot (R449 to R451) -/

/-- The payload of a PAGE_RD or PAGE_WR frame (R449). -/
def pagePayload (page word lsb width data : Nat) : Nat :=
  packLow [(data, 16), (0, 1), (width, 4), (lsb, 6), (word, 9), (page, 4)]

/-- Send a copy of the access in the slot. -/
def State.rpaSend (s : State) (a : RpaSlot) : State :=
  let s1 := s.sbSend (if a.wr then .pageWr else .pageRd) a.payload
  { s1 with sb := { s1.sb with rpa := some { a with seqs := a.seqs ++ [s.sb.fseq], lastSent := s.beat } } }

/-- Start an access in the slot (R451). -/
def State.rpaStart (s : State) (wr : Bool) (payload : Nat) (firmware : Bool) : State :=
  let s1 := if firmware then (((s.put PHY.RPA_STAT.BUSY 1).put PHY.RPA_STAT.DONE 0).put PHY.RPA_STAT.STATUS 0) else s.put PHY.RPA_STAT.BUSY 1
  s1.rpaSend { wr := wr, payload := payload, seqs := [], lastSent := s.beat, firmware := firmware }

/-- The write of a drive code into the far TX_DRIVE[i].CODE (R119, R129). -/
def drivePayload (site code : Nat) : Nat := pagePayload 2 (0x40 + site) 0 3 code

/-- Start the calibration's next drive write when the slot is free. -/
def State.rpaNext (s : State) : State :=
  match s.sb.rpa, s.sb.rpaQueue with
  | none, (i, c) :: q =>
    ({ s with sb := { s.sb with rpaQueue := q } }.rpaStart true (drivePayload i c) false)
  | _, _ => s

/-! ### Scrambler starts (R113, R114) -/

/-- The UI at which generators are seeded: one of the `uis` from the start of beat `b` on, and which is free. -/
def State.seedPoint (s : State) (b : Beat) (uis : Nat) : Nat × State :=
  let (r, s1) := s.draw
  (s.uiNow - (s.count - b).toNat * s.uiPerBeat + Config.bounded 0 (uis - 1) r, s1)

/-- A scrambler start is due: the end that wins proposes S 10,000 to 2^27 beats ahead (R113). -/
def State.proposeStart (s : State) : State :=
  let s1 := s.setCal fun c => { c with startAt := none, starter := s.wins, ready := false, seeded := false, risen := 0, noRise := 0 }
  if s.wins then
    let (r, s2) := s1.draw
    let b := s2.ahead (Config.bounded 10000 (2 ^ 27) r)
    (s2.setCal fun c => { c with startAt := some b }).setStatus 7 (b.toNat % 2 ^ 28)
  else s1

/-- The far end proposes S: resolve it and answer READY. -/
def State.onStart (s : State) (arg : Nat) : State :=
  if s.wins then s
  else
    let b := resolveBeat 28 arg s.beat
    (s.setCal fun c => { c with startAt := some b, ready := true }).setStatus 10 0

/-- READY answers a proposed start. -/
def State.onStartReady (s : State) : State :=
  if s.cal.starter && s.cal.startAt.isSome then s.setCal fun c => { c with ready := true } else s

/-- Without READY 2,000 beats before S, a later S is proposed. -/
def execScramblerRepropose (now : Beat) (s : State) : Host.Outcome State Fault Refusal :=
  let s1 := s.at now
  .next (match s1.cal.startAt with
    | some b => if s1.cal.starter && !s1.cal.ready && s1.reached (b - 2000) then s1.proposeStart else s1
    | none => s1)

/-! ### Steps of CAL, RETRAIN and Lowland entry -/

/-- Reports and windows start afresh. -/
def State.calFresh (s : State) : State := s.setCal fun c => { c with window := 0, ownRep := none, shown := false, farRep := none }

/-- The step takes its place. -/
def State.calStep (s : State) (step : Nat) : State := s.calFresh.setStep step

/-- Trims take the centre codes with which the acquisition of a phase starts: deskew 64, offset 0, duty 0 and phase 64 of the groups
received in it, and drive 8 of those transmitted in it (R119). -/
def State.centreGroup (s : State) (g : Nat) : State :=
  let rx := s.cal.candRx.getLsbD g
  let tx := s.cal.candTx.getLsbD g
  let s1 := if rx then (s.put (trimCode .duty g) 0).put (trimCode .phase g) 64 else s
  ((List.range (groupSites g)).map (siteIndex g)).foldl
    (fun t i =>
      let t1 := if rx then
          ((t.put (trimCode .deskew i) 64).put (trimCode .offset i) 0).setCal fun c => { c with farDrive := Sparse.set i none c.farDrive }
        else t
      if tx then t1.put (PHY.TX_DRIVE.CODE i) 8 else t1) s1

/-- A phase begins: centre codes, and a scrambler start (R119). -/
def State.beginPhase (s : State) : State := ([0, 1, 2, 3, 4].foldl State.centreGroup s).proposeStart

/-- The rate the rate step goes to. -/
def State.targetRate (s : State) : Nat :=
  match s.cal.mode with
  | .bringUp | .retrain => s.get PHY.RATE_STAT.SERVICE
  | _ => 1

/-- The highest rate code agreed and not above RATE_CTL (R112). -/
def State.serviceRate (s : State) : Nat :=
  ((List.range 4).filter (fun r => bit (s.get IDENT.CAP_AGREED.CAP) r && decide (r ≤ s.get PHY.RATE_CTL.RATE))).foldl max 0

/-- Entry to CAL: lane drivers and forwarded clocks run, and phase A begins on every group at 4 GT/s (R80, R108, R119). -/
def State.enterCal (s : State) : State :=
  let s1 := ({ s with chip := { s.chip with laneDrv := true, fwd := 31 } }.calFresh.setCal fun c =>
    { c with mode := .bringUp, candRx := 31, candTx := 31, fails := 0, bad := [],
             below := [] }).setCol .cal |> fun t => { t with marks := { lastRx := t.beat } }
  ((s1.setRate 0).put PHY.RATE_STAT.SERVICE s1.serviceRate).beginPhase

/-- Entry to REPAIR: sites that phase B left below 16/64 UI are proposed, then verification runs (R143). -/
def State.enterRepair (s : State) : State :=
  let s1 := { (s.setCol .repair) with rep := { s.rep with verify := none, ownReady := false, farReady := false } }
  (s1.evalTriggers (s.cal.bad.map .site)).maybeVerify

/-- RATE_STEP_DONE: the rate in use changes and phase B begins (R113, R119, R122). -/
def execRateStepDone (s : State) : Host.Outcome State Fault Refusal :=
  .next (if s.chip.step = 1 && s.colIn [.cal, .retrain, .lowland] then
      ((s.setRate s.targetRate).calStep 2).beginPhase
    else s)

/-- At S the transmitters seed all generators, at the first frame boundary of both kinds, 32 UI apart; the start at CAL exit leads to
REPAIR (R114, R78, R96). Where in its 32 UI the boundary lies is free. -/
def execScramblerStartBeat (now : Beat) (s : State) : Host.Outcome State Fault Refusal :=
  let s1 := s.at now
  .next (match s1.cal.startAt with
    | some b =>
      if s1.cal.ready && !s1.cal.seeded && s1.reached b && s1.colIn [.cal, .retrain, .lowland] then
        let (p, s0) := s1.seedPoint b 32
        let s2 := s0.setCal fun c => { c with seeded := true, txSeed := some p }
        if s2.chip.col = .cal && s2.chip.step = 3 then s2.enterRepair else s2
      else s1
    | none => s1)

/-- The first rise of a valid lane after S, and not too late: the receiver seeds the group's generators in this UI, and releases the
group's X02 side, whose clock runs (R114, R266). -/
def execValidLaneRise (g : Fin 5) (s : State) : Host.Outcome State Fault Refusal :=
  .next (if s.cal.seeded && s.cal.candRx.getLsbD g.val && !s.cal.risen.getLsbD g.val && !s.cal.noRise.getLsbD g.val then
      let m := 2 ^ g.val
      let (p, s1) := s.seedPoint s.beat s.uiPerBeat
      let k := ~~~ BitVec.ofNat 12 (64 * m)
      { s1 with
        cal := { s1.cal with risen := s1.cal.risen ||| BitVec.ofNat 5 m, rxSeed := Sparse.set g.val (some p) s1.cal.rxSeed }
        chip := { s1.chip with rxReleased := s1.chip.rxReleased ||| BitVec.ofNat 5 m, clk := s1.chip.clk ||| BitVec.ofNat 12 (64 * m)
                               stopped := s1.chip.stopped &&& k, lostRun := s1.chip.lostRun &&& k } }
    else s)

/-- A group whose valid lane has not risen 4,096 beats after S fails the step (R114). -/
def execValidRiseTimeout (now : Beat) (s : State) : Host.Outcome State Fault Refusal :=
  let s1 := s.at now
  .next (match s1.cal.startAt with
    | some b =>
      if s1.cal.seeded && s1.reached (b + 4096) then
        let late := s1.cal.candRx &&& ~~~ s1.cal.risen &&& ~~~ s1.cal.noRise
        let s2 := s1.setCal fun c => { c with noRise := c.noRise ||| late }
        if s2.chip.col = .repair then
          s2.evalTriggers (((List.range 5).filter late.getLsbD).map (fun g => .group g 2 true))
        else s2
      else s1
    | none => s1)

/-! ### Trims set and eyes published -/

/-- The signed value of a trim code: duty and offset are two's complement (R115). -/
def trimValue (k : TrimKind) (code : Nat) : Int :=
  match k with
  | .duty => toInt 5 code
  | .offset => toInt 6 code
  | _ => (code : Int)

/-- The code of a trim value. -/
def trimEncode (k : TrimKind) (v : Int) : Nat :=
  match k with
  | .duty => ofInt 5 v
  | .offset => ofInt 6 v
  | _ => ofInt 7 v

/-- A trim value sits at a rail or beyond it (R115, R126). -/
def atRail (k : TrimKind) (v : Int) : Bool :=
  match k with
  | .duty => decide (v ≤ -16) || decide (15 ≤ v)
  | .offset => decide (v ≤ -30) || decide (30 ≤ v)
  | _ => decide (v ≤ 0) || decide (127 ≤ v)

/-- The present value of a trim. -/
def State.trim (s : State) (k : TrimKind) (i : Nat) : Int := trimValue k (s.get (trimCode k i))

/-- A trim takes a code at once. -/
def State.setTrim (s : State) (k : TrimKind) (i code : Nat) : State := s.put (trimCode k i) code

/-- A trim takes codes from a sweep. -/
def State.setTrims {w : Nat} (s : State) (k : TrimKind) : List (Nat × BitVec w) → State
  | [] => s
  | (i, c) :: l => (s.setTrim k i c.toNat).setTrims k l

/-- Publish eyes (R95, R127). -/
def State.publish (s : State) : List EyeMeas → State
  | [] => s
  | e :: l => (((s.put (CAL.EYE.WIDTH e.site) e.width).put (CAL.EYE.HEIGHT e.site) e.height).put (CAL.EYE.VALID e.site) 1).publish l

/-! ### Correction from a window's counts (R116, R125, R126) -/

/-- Sums over even and odd n of what a site's shadow sampler counted: E − L, E + L and the ones Sr + Sf. -/
def countEL (c : EdgeCounts) : Int × Nat × Nat :=
  let r := c.rE + c.rO
  let f := c.fE + c.fO
  let sr := c.srE + c.srO
  let sf := c.sfE + c.sfO
  ((2 * (sr : Int) - r) + ((f : Int) - 2 * sf), r + f, sr + sf)

/-- E − L of the even and of the odd edges. -/
def evenEL (c : EdgeCounts) : Int := (2 * (c.srE : Int) - c.rE) + ((c.fE : Int) - 2 * c.sfE)
def oddEL (c : EdgeCounts) : Int := (2 * (c.srO : Int) - c.rO) + ((c.fO : Int) - 2 * c.sfO)

/-- dsk_new and off_new of a site before the group phase moves (R125). -/
def State.siteNew (s : State) (c : EdgeCounts) : Int × Int :=
  let (el, n, ones) := countEL c
  (s.trim .deskew c.site - roundAway ((s.get CAL.GAIN_CTL.KP : Int) * el) n,
   s.trim .offset c.site + roundAway ((s.get CAL.GAIN_CTL.KO : Int) * (2 * (ones : Int) - n)) (2 * n))

/-- Insert into a rising list. -/
def insertSorted (x : Int) : List Int → List Int
  | [] => [x]
  | y :: l => if x ≤ y then x :: y :: l else y :: insertSorted x l

/-- The median of a list: of two middle values their mean, rounded half away from zero. -/
def median (l : List Int) : Int :=
  let l := l.foldl (fun a x => insertSorted x a) []
  let n := l.length
  if n % 2 = 1 then l.getD (n / 2) 0 else roundAway (l.getD (n / 2 - 1) 0 + l.getD (n / 2) 0) 2

/-- A rejection: counted and raised with the site or group index (R126). -/
def State.reject (s : State) (idx : Nat) : State := (s.bump CAL.RUN_STAT.REJECTED).raise EV.CAL.CAL_REJECT idx

/-- What a run keeps of a rejected site or group. -/
def State.onRun (s : State) (f : CalRun → CalRun) : State := s.setCal fun c => { c with run := c.run.map f }

/-- The move of a code is implausible: more than 8 steps, or to a rail (R126). -/
def implausible (k : TrimKind) (old new : Int) : Bool := decide (8 < (new - old).natAbs) || atRail k new

/-- The drive code that a site's far transmitter has, as this end knows it. -/
def State.driveNow (s : State) (i : Nat) : Nat := (Sparse.find s.cal.farDrive i).getD 8

/-- The far drive code asked for, if the last published height is out of the target's band (R125). -/
def State.driveWish (s : State) (i : Nat) : Option Nat :=
  let d := s.driveNow i
  let h := s.get (CAL.EYE.HEIGHT i)
  let t := s.get CAL.DRIVE_CTL.TARGET
  if h + 20 < t then some (d + 1) else if t + 20 < h then some (d - 1) else none

/-- A computed code: in phase B it is set, in a run it waits for the application point, behind a code that firmware has left there. -/
def State.newCode (s : State) (direct : Bool) (k : TrimKind) (i : Nat) (v : Int) : State :=
  let code := trimEncode k v
  if direct then s.setTrim k i code
  else if s.on (trimPendV k i) then s
  else (s.pend k i code).onRun fun r => { r with pended := r.pended ++ [(k, i, code)] }

/-- One site's result: new codes and a drive request, or the site is rejected (R126). -/
def State.siteResult (s : State) (direct : Bool) (shift : Int) (c : EdgeCounts) : State :=
  let (d0, o) := s.siteNew c
  let d := d0 - shift
  let n := (countEL c).2.1
  let drv := s.driveWish c.site
  let bad := decide (n < 2 ^ 17) || implausible .deskew (s.trim .deskew c.site) d || implausible .offset (s.trim .offset c.site) o ||
    (match drv.getD (s.driveNow c.site) with | 0 => true | x => decide (15 ≤ x))
  let req := match drv with | some x => [(c.site, x)] | none => []
  if bad then
    let s1 := s.reject c.site
    if direct then s1 else s1.onRun fun r => { r with rejSites := if r.rejSites.contains c.site then r.rejSites else r.rejSites ++ [c.site] }
  else
    let s1 : State :=
      if direct then { s with sb := { s.sb with rpaQueue := s.sb.rpaQueue ++ req } }
      else s.onRun fun r =>
        { r with old := r.old ++ [(c.site, s.get (CAL.TRIM_DESKEW.CODE c.site), s.get (CAL.TRIM_OFFSET.CODE c.site), s.driveNow c.site)],
                 drive := r.drive ++ req }
    (s1.newCode direct .deskew c.site d).newCode direct .offset c.site o

/-- One group's result over the counts of its sites (R125, R126); `direct` in phase B. DESIGN CHOICE: the group's sums run over every
site of the group that was counted. -/
def State.groupResult (s : State) (direct : Bool) (counts : List EdgeCounts) (g : Nat) : State :=
  let cs := counts.filter (fun c => siteGroup c.site == g)
  let m := median ((cs.filter (fun c => s.carriesLane true g (sitePlace c.site))).map (fun c => (s.siteNew c).1))
  let shift : Int := if 4 < (m - 64).natAbs then m - 64 else 0
  let num : Int := (cs.map (fun c => evenEL c - oddEL c)).foldl (· + ·) 0
  let den := (cs.map (fun c => (countEL c).2.1)).foldl (· + ·) 0
  let ph := s.trim .phase g + shift
  let du := s.trim .duty g - roundAway ((s.get CAL.GAIN_CTL.KD : Int) * num) den
  if cs = [] ∨ implausible .phase (s.trim .phase g) ph ∨ implausible .duty (s.trim .duty g) du then
    let s1 := s.reject g
    if direct then s1 else s1.onRun fun r => { r with rejGroup := true }
  else
    let s1 := if shift == 0 then s else s.newCode direct .phase g ph
    cs.foldl (fun t c => t.siteResult direct shift c) (s1.newCode direct .duty g du)

/-- The groups a receive correction covers: those in use, and the control group. -/
def State.rxGroupList (s : State) : List Nat := (List.range 4).filter (fun g => bit (s.groups true) g) ++ [4]

/-- R125 over every group in use; in phase B, set at once, over the groups received in it, and the far drives are written (R119). -/
def State.correct (s : State) (counts : List EdgeCounts) : State :=
  s.rxGroupList.foldl (fun t g => t.groupResult false counts g) s
def State.correctNow (s : State) (counts : List EdgeCounts) : State :=
  (((List.range 5).filter s.cal.candRx.getLsbD).foldl (fun t g => t.groupResult true counts g) s).rpaNext

/-- The code that waits for a trim is the run's: a result, which R126 has passed already, or an old code that is restored (R127). -/
def State.runCode (s : State) (k : TrimKind) (i : Nat) : Bool :=
  ((s.cal.run.map (·.pended)).getD []).contains (k, i, s.get (trimPending k i))

/-- Every receive trim that waits takes its code (R129); a firmware code that R126 rejects is dropped and counted. -/
def State.applyTrim (s : State) (k : TrimKind) (i : Nat) : State :=
  if s.on (trimPendV k i) then
    let new := trimValue k (s.get (trimPending k i))
    let s1 := (s.put (trimPendV k i) 0).put (trimPending k i) 0
    if !s.runCode k i && implausible k (s.trim k i) new then s1.reject i else s1.setTrim k i (s.get (trimPending k i))
  else s

/-- Every pending receive trim is applied. -/
def State.applyTrims (s : State) : State :=
  let s1 := (List.range 5).foldl (fun t g => (t.applyTrim .duty g).applyTrim .phase g) s
  (List.range 145).foldl (fun t i => (t.applyTrim .deskew i).applyTrim .offset i) s1

/-- Every pending drive code of this end's transmitters is applied (R129). -/
def State.applyDrives (s : State) : State :=
  (List.range 145).foldl
    (fun t i => if t.on (PHY.TX_DRIVE.PEND_V i) then
        ((t.put (PHY.TX_DRIVE.CODE i) (t.get (PHY.TX_DRIVE.PENDING i))).put (PHY.TX_DRIVE.PENDING i) 0).put (PHY.TX_DRIVE.PEND_V i) 0
      else t) s

/-! ### Judging a phase (R120 to R123, R152, R154) -/

/-- A group passes its last measurement window (R120). -/
def State.groupPasses (s : State) (r : CalWindow) (g : Nat) : Bool :=
  let good := (r.eyes.filter (fun e => siteGroup e.site == g && decide (16 ≤ e.width))).length
  s.cal.candRx.getLsbD g && s.cal.risen.getLsbD g && !s.cal.noRise.getLsbD g && r.working.getLsbD g && decide ((if g < 4 then 32 else 8) ≤ good)

/-- The sites of the passing groups below 16/64 UI. -/
def badEyes (mask : Nat) (r : CalWindow) : List Nat :=
  (r.eyes.filter (fun e => bit mask (siteGroup e.site) && decide (e.width < 16))).map (·.site)

/-- EYE_BELOW_TARGET once for each site between 16/64 and 24/64 UI (R123). -/
def State.belowTarget (s : State) : List EyeMeas → State
  | [] => s
  | e :: l =>
    (if 16 ≤ e.width && e.width < 24 && !s.cal.below.contains e.site then
      (s.setCal fun c => { c with below := e.site :: c.below }).raise EV.CAL.EYE_BELOW_TARGET (e.site + e.width * 2 ^ 8)
     else s).belowTarget l

/-- The lowest-numbered lane group of a mask. -/
def lowestGroup (m : Nat) : Option Nat := (List.range 4).find? (fun g => bit m g)

/-- The control group and at least one lane group are in a mask. -/
def usable (m : Nat) : Bool := bit m 4 && m % 16 != 0

/-- Both directions keep one group (R122, R152). -/
def State.keepGroup (s : State) (g : Nat) : State := (s.setGroups true (2 ^ g)).setGroups false (2 ^ g)

/-- The Lowland entry is complete: one group, no Level, and the streams resume (R152, R154). -/
def State.lowlandDone (s : State) (m cause : Nat) : State :=
  let free := (List.range 4).find? (fun g => bit m g && s.freeSite true g && s.freeSite false g)
  let g := (free.orElse (fun _ => lowestGroup m)).getD 0
  let s1 := (((s.keepGroup g).put REPAIR.LOWLAND_STAT.CAUSE cause).put REPAIR.LOWLAND_STAT.GROUP g).setLevelStat 0 0
  let s2 := (((s1.raise EV.REPAIR.LOWLAND_ENTRY (cause + 16 * g)).setStep 0).resumeStreams).reevaluate
  let s3 := if s.cal.mode = .lowRetrain then
      (s.cal.bad.filter (fun i => siteGroup i == g)).foldl (fun t i => t.siteFailing i 2) s2
    else s2
  s3.runAgain

/-- Entry to LOWLAND with a rate step and phase B to come on every group in use, whose clocks run (R80, R152, R154). DESIGN CHOICE: the
count of failed background runs starts afresh there (R155). -/
def State.enterLowland (s : State) (mode : CalMode) : State :=
  let s0 := s.endBurst.unpark.calFresh.setCal fun c =>
    { c with mode := mode, fails := 0, candRx := BitVec.ofNat 5 (16 + s.groups true), candTx := BitVec.ofNat 5 (16 + s.groups false) }
  let s1 := (((s0.runClocks.setColStep .lowland 1).suspendForGood).applyOverlay 0).lowlandEffects
  (s1.put CAL.RUN_STAT.FAILS 0).setLevelStat 0 0

/-- A pass of phase B, or of the rate step, has failed. -/
def State.passFailed (s : State) (m : Nat) : State :=
  let s1 := s.setCal fun c => { c with fails := c.fails + 1 }
  if s1.cal.fails < 3 && s.cal.mode != .lowBringUp then s1.calStep 1
  else match s.cal.mode with
    | .bringUp => (s1.setCal fun c => { c with mode := .lowBringUp }).calStep 1
    | .retrain => s1.enterLowland .lowRetrain
    | _ => s1.goFault EV.CAL.CAL_FAIL m

/-- Groups in use after a phase of bring-up, for both directions. -/
def State.useGroups (s : State) (m : Nat) : State :=
  ((s.setCal fun c => { c with candRx := BitVec.ofNat 5 m, candTx := BitVec.ofNat 5 m }).setGroups true m).setGroups false m

/-- The groups of each direction after a RETRAIN: those that pass on both ends' reports (R120, R149). -/
def State.retrainDone (s : State) (own far : Nat) : State :=
  let rx := s.cal.candRx.toNat
  let tx := s.cal.candTx.toNat
  let rx1 := rx &&& own &&& (far ||| (31 - tx))
  let tx1 := tx &&& far &&& (own ||| (31 - rx))
  let s1 := (s.setGroups true rx1).setGroups false tx1
  let s2 := { s1 with rep := { s1.rep with cmdRx := 0, cmdTx := 0 } }
  ((s2.setCol .active).refreshLevel.levelBelow.resumeStreams).reevaluate.runAgain.pairEnter

/-- Both ends have reported the step: it passes or fails (R120 to R122, R152, R154). -/
def State.judgeNow (s : State) : State :=
  match s.cal.ownRep, s.cal.farRep with
  | some o, some f =>
    let m := (o &&& f).toNat
    if s.chip.step = 0 then
      if usable m then (s.useGroups m).calStep 1 else s.goFault EV.CAL.CAL_FAIL m
    else match s.cal.mode with
      | .bringUp =>
        if usable m then ((s.useGroups m).calStep 3).proposeStart else s.passFailed m
      | .lowBringUp =>
        match lowestGroup m with
        | some g => if usable m then ((s.useGroups (16 + 2 ^ g)).calStep 3).proposeStart else s.passFailed m
        | none => s.passFailed m
      | .retrain =>
        let up := usable (s.cal.candRx.toNat &&& o.toNat) && usable (s.cal.candTx.toNat &&& f.toNat)
        if up then s.retrainDone o.toNat f.toNat else s.passFailed m
      | .lowEntry =>
        if usable m then s.lowlandDone m (s.get REPAIR.LOWLAND_STAT.CAUSE) else s.passFailed m
      | .lowRetrain => if usable m then s.lowlandDone m 8 else s.passFailed m
  | _, _ => s

/-- Both reports are judged. DEDUCED: in CAL an end keeps showing its report until a periodic TRAIN frame has repeated it, so that a lost one
is recovered by the next (R101); in the other states no periodic frame would repeat it. -/
def State.judge (s : State) : State := if s.chip.col == .cal && !s.cal.shown then s else s.judgeNow

/-- The end reports its mask with STEP_DONE or STEP_FAIL (R120). -/
def State.report (s : State) (m : Nat) : State :=
  (s.setCal fun c => { c with ownRep := some (BitVec.ofNat 5 m) }).setStatus (if usable m then 8 else 9) m |>.judge

/-- The far end's report of the same step. -/
def State.onReport (s : State) (arg : Nat) : State :=
  if s.cal.farRep.isSome then s
  else (s.setCal fun c => { c with farRep := some (BitVec.ofNat 5 arg) }).judge

/-- The last window of a phase: eyes are published and the phase judged (R117, R120, R123). -/
def State.phaseEnd (s : State) (r : CalWindow) : State :=
  let m := (setBitsOf 5 31).foldl (fun a g => if s.groupPasses r g then a + 2 ^ g else a) 0
  let s1 := s.publish r.eyes
  let s2 := if s.chip.step = 2 then (s1.setCal fun c => { c with bad := badEyes m r }).belowTarget r.eyes else s1
  s2.report m

/-- One calibration window ends (R119). -/
def State.calWindow (s : State) (r : CalWindow) : State :=
  let w := s.cal.window + 1
  let s1 := s.setCal fun c => { c with window := w }
  match w with
  | 1 => (s1.setTrims .duty r.duty).setTrims .phase r.phase
  | 2 | 5 => s1.setTrims .deskew r.deskew
  | 3 => s1.setTrims .offset r.offset
  | 4 =>
    let ds := r.drive.map (fun d => (d.1, d.2.toNat))
    ({ s1 with sb := { s1.sb with rpaQueue := s1.sb.rpaQueue ++ ds } }.rpaNext)
  | 6 => if s.chip.step = 0 then s1.phaseEnd r else s1.correctNow r.counts
  | 7 => s1.phaseEnd r
  | _ => s1

/-- CAL_WINDOW_END: a window of phase A or B ends. -/
def execCalWindowEnd (r : CalWindow) (s : State) : Host.Outcome State Fault Refusal :=
  .next (if r.wf && s.cal.seeded && s.cal.ownRep.isNone && s.colIn [.cal, .retrain, .lowland] &&
      (s.chip.step == 2 || (s.chip.step == 0 && s.chip.col == .cal)) then s.calWindow r else s)

/-- A step of a pass has run out of its time: the end reports that no group passed. With its report sent and none received the pass has
failed, but the third of a RETRAIN, which waits for the far end's STEP_FAIL (R99, R120, R154). -/
def State.stepTimeout (s : State) : State :=
  if s.cal.ownRep.isNone then s.report 0
  else if s.cal.mode = .retrain ∧ 2 ≤ s.cal.fails then s else s.passFailed 0

/-- A phase or rate step that exceeds its timeout fails (R99). -/
def execCalTimeout (now : Beat) (s : State) : Host.Outcome State Fault Refusal :=
  let s1 := s.at now
  .next (if s1.colIn [.cal, .retrain] || (s1.chip.col == .lowland && s1.chip.step != 0) then
      match s1.chip.step with
      | 0 => if s1.past s1.chip.stepEntry 1000000 then s1.goFault EV.CAL.CAL_FAIL 0 else s1
      | 1 => if s1.past s1.chip.stepEntry 200000 then s1.stepTimeout else s1
      | 2 => if s1.past s1.chip.stepEntry 1000000 then s1.stepTimeout else s1
      | _ => s1
    else s1)

/-! ### RETRAIN and Lowland entry -/

/-- Own WIDTH proposals that a RETRAIN meets without an answer are cancelled and withdrawn, whichever end wins: an end cannot leave a
RETRAIN for a width change (R20, R150). -/
def State.yieldRetrain (s : State) : State :=
  (s.ownWide.foldl (fun t p => t.sendProp .cancel p.kind p.beat) s).yieldWide none

/-- RETRAIN begins, by a request of this end or the far one: groups removed by command are tested again, their clocks run, and the rate
step runs (R80, R96, R149). -/
def State.enterRetrain (s : State) (own : Bool) : State :=
  let rx := s.groups true ||| s.rep.cmdRx.toNat
  let tx := s.groups false ||| s.rep.cmdTx.toNat
  let s0 := s.yieldRetrain.endBurst.unpark.cancelAll.startCut
  let s1 := { s0 with
    cal := { s0.cal with mode := .retrain, fails := 0, candRx := BitVec.ofNat 5 (16 + rx), candTx := BitVec.ofNat 5 (16 + tx) }
    chip := { s0.chip with fwd := BitVec.ofNat 5 (16 + tx) }
    rep := { s0.rep with retrainOwn := own } }
  ((s1.put PHY.RATE_STAT.SERVICE s1.serviceRate).calFresh).setColStep .retrain 1

/-- The far end shows RETRAIN while this end is there. A frame that came too soon to answer this end's request shows that the requests
crossed, and the end that loses under R20 has withdrawn its own (R150). DESIGN CHOICE: too soon is within 512 beats of the own
request, the time of two frames; REQ_WITHDRAWN's value is free, for a RETRAIN has no KIND. -/
def State.retrainMet (s : State) : State :=
  if !s.rep.retrainOwn then s
  else
    let s1 : State := { s with rep := { s.rep with retrainOwn := false } }
    if s.wins || s.past s.chip.entry 512 then s1
    else
      let (v, s2) := s1.draw
      s2.raise EV.REPAIR.REQ_WITHDRAWN v

/-- Why a RETRAIN is refused: only in ACTIVE, and BUSY while any pause is accepted or running (R150, R155). -/
def State.retrainRefusal (s : State) : Option Reason :=
  if s.chip.col ≠ .active then some .state else if s.anyPause then some .busy else none

/-- A RETRAIN starts; with parked lanes the end wakes first (R435). -/
def State.askRetrain (s : State) : State := if s.parked then s.deferProposal .retrain else s.enterRetrain true

/-- RETRAIN_CMD.GO. -/
def execRetrainGo (s : State) : Host.Outcome State Fault Refusal :=
  .next (s.command PHY.RETRAIN_CMD.GO.key 1
    State.retrainRefusal State.askRetrain)

/-- E of an accepted Lowland entry: both ends enter LOWLAND, apply O0 and run the rate step (R152). -/
def execLowlandEntryBeat (now : Beat) (s : State) : Host.Outcome State Fault Refusal :=
  let s1 := s.at now
  .next (match s1.rep.props.find? (fun p => match p.kind with | .lowland _ _ => s1.reached p.beat | _ => false) with
    | none => s1
    | some p =>
      let s2 := s1.setProps (s1.rep.props.filter (fun q => q != p))
      if p.accepted && s2.colIn [.active, .quietRepair, .widthChange] then
        let r := match p.kind with | .lowland _ r => r | _ => 0
        ((s2.setProps []).put REPAIR.LOWLAND_STAT.CAUSE r).enterLowland .lowEntry
      else s2)

/-! ### Background runs (R124 to R130) -/

/-- Propose the application point of the run, at least 8,192 beats ahead (R129). -/
def State.proposeApply (s : State) : State :=
  let (r, s1) := s.draw
  let b := s1.ahead (Config.bounded 8192 (2 ^ 21) r)
  let n := s1.get CAL.RUN_STAT.RUN
  (s1.setCal fun c => { c with own := some { beat := b, run := n, accepted := false, lastSent := s1.beat } }).sbSend .calApply
    (packLow [(b.toNat, 32), (n, 4), (1, 4)])

/-- The run goes on once its drive writes are done: it proposes its application point, with parked lanes after a wake (R435). -/
def State.calContinue (s : State) : State :=
  match s.cal.run with
  | some r =>
    if (r.stage == .restore || r.stage == .agree) && s.sb.rpaQueue == [] && s.sb.rpa.isNone && s.cal.own.isNone then
      if s.parked then s.wake 5 else s.proposeApply
    else s
  | none => s

/-- After a failed run the sites rejected in it have one more consecutive rejection, and all others none; a third one declares the site
failing (R128, R132). -/
def State.rejectRows (s : State) (sites : List Nat) : State :=
  let rows := sites.foldl (fun l i => Sparse.set i (some ((Sparse.find s.cal.rejects i).getD 0 + 1)) l) []
  (rows.filter (fun x => x.2 == 3)).foldl (fun t x => t.siteFailing x.1 1) (s.setCal fun c => { c with rejects := rows })

/-- A run has failed (R128). -/
def State.runFails (s : State) (r : CalRun) (noPoint : Bool) : Bool :=
  noPoint || r.rejGroup ||
  s.rxGroupList.any (fun g => decide ((if g < 4 then 2 else 1) < (r.rejSites.filter (fun i => siteGroup i == g)).length))

/-- A run ends: passed or failed, and R151 is evaluated (R128). -/
def State.runEnd (s : State) (noPoint : Bool) : State :=
  match s.cal.run with
  | none => s
  | some r =>
    let fails := s.runFails r noPoint
    let s1 := ((s.dropPended r.pended).setCal fun c => { c with run := none, own := none }).put CAL.RUN_STAT.ACTIVE 0
    if fails then
      let n := min 3 (s1.get CAL.RUN_STAT.FAILS + 1)
      let s2 := ((s1.put CAL.RUN_STAT.FAILS n).raise EV.CAL.CAL_RUN_FAIL (s1.get CAL.RUN_STAT.RUN)).rejectRows r.rejSites
      if n = 3 ∧ s2.chip.col = .lowland then s2.goFault EV.REPAIR.LOWLAND_LOST 0 else s2.checkLowland
    else
      ((s1.put CAL.RUN_STAT.FAILS 0).setCal fun c => { c with rejects := [] }).checkLowland

/-- A run starts; with parked lanes it starts at the end of the wake (R436). -/
def State.tryRun (s : State) (temp : Bool) : State :=
  if s.parked then s.setPwr fun p => { p with runAfterWake := true, runTemp := temp && (p.runTemp || !p.runAfterWake) } else s.startRun temp

/-- RUN_CMD.GO: BUSY during a run, STATE outside ACTIVE and LOWLAND (R124). -/
def execCalRunGo (s : State) : Host.Outcome State Fault Refusal :=
  .next (s.command CAL.RUN_CMD.GO.key 1
    (fun s => if s.cal.run.isSome then some .busy else if !s.colIn [.active, .lowland] then some .state else none)
    (fun s => s.tryRun false))

/-- The correction window of a run ends: codes are computed and checked, then the point is agreed (R125, R126, R129). -/
def execCalCorrectionEnd (counts : List EdgeCounts) (s : State) : Host.Outcome State Fault Refusal :=
  .next (match s.cal.run with
    | some r =>
      if counts.all (fun c => siteOk c.site) = true ∧ r.stage = .correct then
        let s1 := s.correct counts
        let ds := (s1.cal.run.map (·.drive)).getD []
        let s2 := { s1 with sb := { s1.sb with rpaQueue := s1.sb.rpaQueue ++ ds } }
        ((s2.onRun fun r => { r with stage := .agree, drive := [] }).rpaNext).calContinue
      else s
    | none => s)

/-- CAL_APPLY PROPOSE: every copy is answered with ACCEPT, and pending drive codes are scheduled (R129). DESIGN CHOICE: a frame with a
reserved KIND has no effect and raises no event. -/
def execCalApplyProposeRx (c : SbCopies) (s : State) : Host.Outcome State Fault Refusal :=
  .next (s.receive c SbType.calApply.code fun _ pl s =>
    if bits pl 36 4 ≠ 1 then s
    else
      let b := resolveBeat 32 (bits pl 0 32) s.beat
      (s.setCal fun c => { c with far := some { beat := b, run := bits pl 32 4, accepted := true, lastSent := s.beat } }).sbSend .calApply
        (packLow [(bits pl 0 32, 32), (bits pl 32 4, 4), (2, 4)]))

/-- CAL_APPLY ACCEPT: the proposer may apply its trims at the beat. -/
def execCalApplyAcceptRx (c : SbCopies) (s : State) : Host.Outcome State Fault Refusal :=
  .next (s.receive c SbType.calApply.code fun _ pl s =>
    if bits pl 36 4 ≠ 2 then s
    else s.setCal fun c => { c with own := c.own.map (fun a =>
      if a.run == bits pl 32 4 && a.beat.toNat % 2 ^ 32 == bits pl 0 32 && !a.declined then { a with accepted := true } else a) })

/-- CAL_APPLY DECLINE: the end that receives it before the beat does not apply. -/
def execCalApplyDeclineRx (c : SbCopies) (s : State) : Host.Outcome State Fault Refusal :=
  .next (s.receive c SbType.calApply.code fun _ pl s =>
    if bits pl 36 4 ≠ 3 then s
    else
      let hit (a : ApplyPlan) : Bool := a.run == bits pl 32 4 && a.beat.toNat % 2 ^ 32 == bits pl 0 32
      let s1 := s.setCal fun c => { c with far := c.far.filter (fun a => !hit a) }
      match s1.cal.own with
      | some a => if hit a then s1.runEnd true else s1
      | none => s1)

/-- PROPOSE is repeated every 1,024 beats; without ACCEPT 1,024 beats before the beat, DECLINE goes and the run fails. -/
def execCalProposeRepeat (now : Beat) (s : State) : Host.Outcome State Fault Refusal :=
  let s1 := s.at now
  .next (match s1.cal.own with
    | some a =>
      if a.accepted then s1
      else if s1.reached (a.beat - 1024) then
        (s1.sbSend .calApply (packLow [(a.beat.toNat, 32), (a.run, 4), (3, 4)])).runEnd true
      else if s1.past a.lastSent 1024 then
        (s1.setCal fun c => { c with own := some { a with lastSent := s1.beat } }).sbSend .calApply (packLow [(a.beat.toNat, 32), (a.run, 4), (1, 4)])
      else s1
    | none => s1)

/-- Application points are void in a pause and outside ACTIVE and LOWLAND (R130, R150). -/
def State.applyVoid (s : State) : Bool := !s.colIn [.active, .lowland] || s.rep.props.any (fun p => decide (1 ≤ p.stage))

/-- The far end's beat is reached: this end's drive codes are applied. -/
def State.farApply (s : State) : State :=
  match s.cal.far with
  | some a =>
    if s.reached a.beat then
      let s1 := s.setCal fun c => { c with far := none }
      if s1.applyVoid then s1 else s1.applyDrives
    else s
  | none => s

/-- This end's beat is reached: its receive trims are applied, or the run is abandoned. -/
def State.ownApply (s : State) : State :=
  match s.cal.own with
  | some a =>
    if s.reached a.beat && a.accepted then
      let s1 := s.setCal fun c => { c with own := none }
      if s1.applyVoid then
        ((s1.dropPended ((s1.cal.run.map (·.pended)).getD [])).setCal fun c =>
          { c with run := none, again := true, againTemp := (c.run.map (·.temp)).getD false }).put CAL.RUN_STAT.ACTIVE 0
      else
        let s2 := s1.applyTrims.onRun fun r => { r with pended := [] }
        match s2.cal.run with
        | some r => if r.stage = .restore then s2.runEnd false else s2.onRun fun r => { r with stage := .measure }
        | none => s2
    else s
  | none => s

/-- CAL_APPLY_BEAT: pending trims and drive codes are applied at the agreed beat, or the beat is void. -/
def execCalApplyBeat (now : Beat) (s : State) : Host.Outcome State Fault Refusal :=
  .next ((s.at now).farApply.ownApply)

/-- A measured site is worse than its published figures (R127). -/
def State.worse (s : State) (e : EyeMeas) : Bool :=
  s.on (CAL.EYE.VALID e.site) &&
  (decide (e.width + 2 ≤ s.get (CAL.EYE.WIDTH e.site)) || decide (e.height + 8 ≤ s.get (CAL.EYE.HEIGHT e.site)))

/-- A worse site's old codes wait for the second application point, the far drive written before it, and the site counts as rejected
(R127). -/
def State.restoreSite (s : State) (i : Nat) : State :=
  let s1 := (s.reject i).onRun fun r => { r with rejSites := if r.rejSites.contains i then r.rejSites else r.rejSites ++ [i] }
  match (s.cal.run.map (·.old)).getD [] |>.find? (fun o => o.1 == i) with
  | some (_, d, o, w) =>
    let s2 : State := { s1 with sb := { s1.sb with rpaQueue := s1.sb.rpaQueue ++ (if w = s.driveNow i then [] else [(i, w)]) } }
    ((s2.pend .deskew i d).pend .offset i o).onRun fun r => { r with pended := r.pended ++ [(.deskew, i, d), (.offset, i, o)] }
  | none => s1

/-- The measurement window of a run ends (R127, R128, R132). -/
def execCalMeasureEnd (eyes : List EyeMeas) (s : State) : Host.Outcome State Fault Refusal :=
  .next (match s.cal.run with
    | some r =>
      if eyes.all (fun e => siteOk e.site) = true ∧ r.stage = .measure then
        let bad := eyes.filter s.worse
        let good := eyes.filter (fun e => !s.worse e)
        let s1 := (bad.map (·.site)).foldl State.restoreSite (s.publish good)
        let s2 := (good.filter (fun e => decide (e.width < 16))).foldl (fun t e => t.siteFailing e.site 2) s1
        if bad = [] then s2.runEnd false
        else ((s2.onRun fun r => { r with stage := .restore }).rpaNext).calContinue
      else s
    | none => s)

end Sys2Proof.Machine
end

