-- ==== Sys2Proof/Machine/BringUp.lean ====
section
/-!
DEFINITION. Bring-up over the sideband: TRAIN frames and what they drive (R96, R100, R101, R206, R260), the identity exchange
and its checks (R103 to R111), the time limits of the bring-up states (R99), and the silence of the far end (R260).
-/

namespace Sys2Proof.Machine

/-! ### Identity -/

/-- CAP that this end sends (R110). -/
def State.ownCap (s : State) : Nat := if s.isM then 0x1F03FF else 0x3FF

/-- The QID of a BXC-2 end (R106). -/
def ownQid : Nat := 0x0B7E0002

/-- This end's identity record (R104). -/
def State.ownRecord (s : State) : Nat :=
  identRecord s.role (s.get IDENT.FUSE_STAT.DIE) (s.get IDENT.FUSE_STAT.ASSY) (s.get IDENT.FUSE_STAT.COL) ownQid s.ownCap

/-- The eight words of a record go into registers. -/
def State.putRecord (s : State) (f : Nat → Field) (r : Nat) : State :=
  (List.range 8).foldl (fun t k => t.put (f k) (bits r (64 * k) 64)) s

/-- Send chunks 0 to 15 of the own record in order (R103). -/
def State.sendRecord (s : State) : State :=
  (List.range 16).foldl (fun t c => t.sbSend .ident (packLow [(bits t.ownRecord (32 * c) 32, 32), (0, 4), (c, 4)])) s

/-- An exchange begins from chunk 0, with nothing of the far record held. -/
def State.startExchange (s : State) : State :=
  { (s.put IDENT.REC_STAT.FAR_HELD 0) with
    sb := { s.sb with chunks := [], recOk := false, ownPass := false, farPass := false, rejected := false, status := 0, arg := 0 } }.train.sendRecord

/-- Entry to IDENT: the own record is composed and the first attempt begins (R103, R109). -/
def State.enterIdent (s : State) : State :=
  (((s.setCol .ident).putRecord IDENT.OWN_REC.DATA s.ownRecord).put IDENT.IDENT_STAT.ATTEMPTS 1).startExchange

/-- The far ROLE, DIE and POS that R17 requires. -/
def State.expectedFar (s : State) : Nat × Nat × Nat :=
  let d := s.get IDENT.FUSE_STAT.DIE
  let k := s.get IDENT.FUSE_STAT.COL
  match s.role with
  | 1 => (2, (d - 2) / 4, 10 * ((d - 2) % 4) + k)
  | 2 => (1, 2 + 4 * d + k / 10, k % 10)
  | _ => (3, 1 - d, k)

/-- The allow-list entry that a QID passes by (R106). -/
def State.qidMatch (s : State) (q : Nat) : Option Nat :=
  (List.range 8).find? (fun i => q != 0 && bit (s.get IDENT.FUSE_STAT.QID_EN) i &&
    (if i % 2 = 0 then s.get (IDENT.FUSE_QID.LO (i / 2)) else s.get (IDENT.FUSE_QID.HI (i / 2))) == q)

/-- The capabilities agreed with a far record (R110, R111). -/
def State.agreedCap (s : State) (farCap gen : Nat) : Nat :=
  let link := s.ownCap &&& farCap &&& 0x3FF
  let mem := if s.isM then s.ownCap &&& 0x1F0000 else if s.isH then farCap &&& 0x1F0000 else 0
  if gen = 1 then (link ||| mem) &&& 0x130387 else link ||| mem

/-- IDENT is left: capabilities bind, overlay O2 and the compatibility crossings are switched, and CAL begins (R110, R111, R250). -/
def State.identExit (s : State) : State :=
  let s1 := s.put IDENT.CAP_AGREED.VALID 1
  let s2 := { s1 with chip := { s1.chip with compatDue := !bit (s1.get IDENT.CAP_AGREED.CAP) 5 } }.compatSettle
  let s3 := if s2.farGen = 1 then (s2.applyOverlay 2).raise EV.IDENT.COMPAT_MODE (s2.get IDENT.CAP_AGREED.CAP) else s2
  s3.enterCal

/-- Both ends have passed the checks. -/
def State.identMaybe (s : State) : State :=
  if s.chip.col = .ident && s.sb.ownPass && s.sb.farPass && !s.sb.rejected then s.identExit else s

/-- A check of R107 fails: the event, and the reject STATUS in every TRAIN frame from now on (R108). -/
def State.rejectFar (s : State) (e : Event) (value status : Nat) : State :=
  ({ (s.raise e value) with sb := { (s.raise e value).sb with rejected := true } }.setStatus status 0)

/-- The checks of R107, in order; the first failure stops them. -/
def State.identChecks (s : State) (r : Nat) : State :=
  let gen := bits r 24 4
  let role := bits r 28 2
  let die := bits r 32 4
  let pos := bits r 40 6
  let cap := s.agreedCap (bits r 96 32) gen
  if bits r 16 8 ≠ 1 ∨ (gen ≠ 1 ∧ gen ≠ 2) then s.rejectFar EV.IDENT.IDENT_FORMAT_BAD (bits r 16 8 + gen * 2 ^ 8) 3
  else if bits r 36 4 ≠ s.get IDENT.FUSE_STAT.ASSY ∨ (role, die, pos) ≠ s.expectedFar ∨ bits r 48 6 ≠ pos ^^^ 1 ∨ (gen = 1 ∧ !s.isH) then
    s.rejectFar EV.IDENT.CONNECT_MISMATCH (die + role * 2 ^ 8 + pos * 2 ^ 16) 4
  else match s.qidMatch (bits r 64 32) with
    | none => (s.put IDENT.QUAL_STAT.FAR_QID (bits r 64 32)).rejectFar EV.IDENT.QUAL_REJECT (bits r 64 32) 5
    | some i =>
      let s1 := ((s.put IDENT.QUAL_STAT.FAR_QID (bits r 64 32)).put IDENT.QUAL_STAT.MATCH i).put IDENT.QUAL_STAT.PASS 1
      if !bit cap 0 || (!s.isS && !bit cap 16) then s1.rejectFar EV.IDENT.CAP_BAD (bits r 96 32) 6
      else
        let s2 := s1.put IDENT.CAP_AGREED.CAP cap
        ({ s2 with sb := { s2.sb with ownPass := true } }.setStatus 2 0).identMaybe

/-- The 512 bits of the chunks held. -/
def chunkRecord (l : List (Nat × BitVec 32)) : Nat :=
  l.foldl (fun a c => a + c.2.toNat * 2 ^ (32 * c.1)) 0

/-- A complete record: a good CRC holds it and runs the checks; a bad one discards all chunks (R103). -/
def State.recordComplete (s : State) : State :=
  let r := chunkRecord s.sb.chunks
  if recordOk r then
    let s1 := (s.put IDENT.REC_STAT.FAR_HELD 1).putRecord IDENT.FAR_REC.DATA r
    (s1.setStatus 1 0).identChecks r
  else { (s.bump IDENT.REC_STAT.CRC_BAD) with sb := { s.sb with chunks := [] } }

/-- IDENT_CHUNK: store one chunk by index (R103). -/
def execIdentChunk (c : SbCopies) (s : State) : Host.Outcome State Fault Refusal :=
  .next (s.receive c SbType.ident.code fun _ pl s =>
    if s.chip.col ≠ .ident ∨ s.on IDENT.REC_STAT.FAR_HELD then s
    else
      let s1 : State :=
        { s with sb := { s.sb with chunks := Sparse.set (bits pl 36 4) (some (BitVec.ofNat 32 pl)) s.sb.chunks } }
      if s1.sb.chunks.length = 16 then s1.recordComplete else s1)

/-- An attempt that 200,000 beats have not ended restarts, and the third ends in DOWN (R109). -/
def execIdentAttemptTimeout (now : Beat) (s : State) : Host.Outcome State Fault Refusal :=
  let s1 := s.at now
  .next (if s1.chip.col = .ident && !s1.sb.rejected && s1.past s1.chip.stepEntry 200000 then
      let n := s1.get IDENT.IDENT_STAT.ATTEMPTS
      if 3 ≤ n then s1.downFor EV.IDENT.IDENT_TIMEOUT n
      else
        let s2 := s1.put IDENT.IDENT_STAT.ATTEMPTS (n + 1)
        { s2 with chip := { s2.chip with stepEntry := s2.beat } }.startExchange
    else s1)

/-! ### Torn crossings (R258) -/

/-- A crossing found torn: its bits are set, TORN is raised, and the Col goes to FAULT unless it is there; a tear within the end
settles as R259 says, the Col's own tear as R208 does. -/
def State.tear (s : State) (mask : Nat) : State :=
  let k := RESET.XING_STAT.TORN.key
  let s1 := s.setReg k (s.reg k ||| BitVec.ofNat 64 mask)
  if s.reg k &&& BitVec.ofNat 64 mask == BitVec.ofNat 64 mask then s1
  else s1.goFaultBy (mask != 0x8000) EV.RESET.TORN (bits (s1.reg k).toNat 0 16)

/-! ### TRAIN frames -/

/-- What a TRAIN frame's STATUS does in the state and step it names (R100, R108, R113, R120, R143). -/
def State.onStatus (s : State) (st step status arg : Nat) : State :=
  let same := st == s.chip.col.code && step == s.chip.step
  match s.chip.col with
  | .ident =>
    match status with
    | 1 => { s with sb := { s.sb with recOk := true } }
    | 2 => { s with sb := { s.sb with recOk := true, farPass := true } }.identMaybe
    | 3 | 4 | 5 | 6 =>
      { ((s.put IDENT.IDENT_STAT.FAR_STATUS status).raise EV.IDENT.IDENT_FAR_REJECT status) with
        sb := { (s.raise EV.IDENT.IDENT_FAR_REJECT status).sb with rejected := true, recOk := true } }
    | _ => if 4 ≤ st && st ≤ 6 then { s with sb := { s.sb with recOk := true, farPass := true } }.identMaybe else s
  | .cal | .retrain | .lowland =>
    match status with
    | 7 => if same then s.onStart arg else s
    | 10 => if same then s.onStartReady else s
    | 8 | 9 => if st = s.chip.col.code ∧ (step = s.chip.step ∨ (s.chip.step = 1 ∧ step = 2) ∨ (s.chip.step = 2 ∧ step = 1 ∧ status = 9)) then s.onReport arg else s
    | _ => s
  | .repair =>
    match status with
    | 10 => if st = 5 then { s with rep := { s.rep with farReady := true } }.repairDone else s
    | _ => s
  | _ => s

/-- The consecutive TRAIN frames that end SB_UP (R96). DESIGN CHOICE: a frame with the reserved STATE 15 counts as one of SB_UP or later;
it is stored in FAR_STATE like any other. -/
def State.countTrain (s : State) (st : Nat) : State :=
  let n := if 2 ≤ st then s.sb.trains + 1 else 0
  let s1 : State := { s with sb := { s.sb with trains := n } }
  if 4 ≤ n then s1.enterIdent else s1

/-- A far end in DOWN or FAULT takes an end in service to DOWN with FAR_DOWN (R206); of an end in DRAIN with acknowledged buffers the
fault summary records no cause, for it has drained (R236). -/
def State.onFarEnd (s : State) (st : Nat) : State :=
  (s.raise EV.IDENT.FAR_DOWN st).goDown (if s.chip.col = .drain && s.bothAcked then none else some EV.IDENT.FAR_DOWN.code)

/-- A far Col that shows an early state after IDENT has been reset alone (R260). -/
def State.farReset (s : State) (st : Nat) : Bool :=
  decide (st ≤ 2) && s.sb.farIdentSeen && !(match s.chip.plan with | some p => p.acked | none => false) &&
  s.colIn [.ident, .cal, .repair, .creditInit, .active, .retrain, .quietRepair, .widthChange, .lowland, .drain]

/-- The payload of an accepted TRAIN frame takes effect (R100, R101). -/
def State.onTrain (s : State) (pl : Nat) : State :=
  let st := bits pl 36 4
  let step := bits pl 32 4
  let status := bits pl 28 4
  let arg := bits pl 0 28
  if 11 ≤ status then s.raise EV.PHY.SB_TYPE_BAD (1 + status * 2 ^ 8)
  else
    let before := s.get IDENT.IDENT_STAT.FAR_STATE
    let s1 := (s.put IDENT.IDENT_STAT.FAR_STATE st).put IDENT.IDENT_STAT.FAR_STEP step
    if s1.farReset st then s1.tear 0x8000
    else
      let s2 : State := { s1 with sb := { s1.sb with farIdentSeen := s1.sb.farIdentSeen || decide (3 ≤ st) } }
      match s2.chip.col with
      | .sbUp => s2.countTrain st
      | .active =>
        if st = 13 ∨ st = 14 then s2.onFarEnd st
        else if st = 8 ∧ before ≠ 8 then s2.enterRetrain false else s2
      | .quietRepair | .widthChange => if st = 13 ∨ st = 14 then s2.onFarEnd st else s2
      | .drain =>
        if st = 13 ∨ st = 14 then s2.onFarEnd st
        else if st = 12 then { s2 with sb := { s2.sb with farState := 12 } } else s2
      | .off | .resetHeld | .creditInit | .down | .fault => s2
      | .ident | .cal | .repair | .retrain | .lowland =>
        if (st = 13 ∨ st = 14) ∧ s2.colIn [.retrain, .lowland] then s2.onFarEnd st
        else if s2.chip.col = .retrain ∧ st = 8 ∧ before ≠ 8 then s2.retrainMet.onStatus st step status arg
        else if s2.chip.col = .repair ∧ 6 ≤ st ∧ st ≤ 12 then { s2 with rep := { s2.rep with farReady := true } }.repairDone
        else if s2.sb.acted.contains (st, step, status * 2 ^ 28 + arg) then s2
        else
          { s2 with sb := { s2.sb with acted := (st, step, status * 2 ^ 28 + arg) :: s2.sb.acted } }.onStatus st step status arg

/-- TRAIN_FRAME. -/
def execTrainFrame (c : SbCopies) (s : State) : Host.Outcome State Fault Refusal :=
  .next (s.receive c SbType.train.code fun _ pl s => s.onTrain pl)

/-- DOWN, FAULT and DRAIN entered from service repeat their TRAIN frame (R206, R236). -/
def State.trainsOn (s : State) : Bool :=
  s.colIn [.sbUp, .ident, .cal, .repair, .creditInit, .drain] ||
  (s.colIn [.down, .fault] && s.chip.announce)

/-- A report that a periodic TRAIN frame of CAL has repeated is judged, once both are there (R101, R120). -/
def State.reportShown (s : State) : State :=
  if s.chip.col == .cal && s.cal.ownRep.isSome && !s.cal.shown then (s.setCal fun c => { c with shown := true }).judge else s

/-- A TRAIN frame every 1,000 beats, and in IDENT the record again until REC_OK (R101, R103). -/
def execTrainPeriodic (now : Beat) (s : State) : Host.Outcome State Fault Refusal :=
  let s1 := s.at now
  .next (if s1.trainsOn && s1.past s1.sb.lastTrain 1000 then
      let s2 := s1.train
      if s2.chip.col = .ident && !s2.sb.recOk then s2.sendRecord else s2.reportShown
    else s1)

/-- From CREDIT_INIT exit, 1,000 beats without a sideband frame call for a TRAIN frame with STATUS WORKING (R260). -/
def execSbKeepalive (now : Beat) (s : State) : Host.Outcome State Fault Refusal :=
  let s1 := s.at now
  .next (if s1.colIn inService && s1.past s1.sb.lastTx 1000 then
      s1.sbSend .train (s1.chip.col.code * 2 ^ 36 + s1.chip.step % 16 * 2 ^ 32) else s1)

/-! ### Time limits -/

/-- No partner within 5,000,000 beats (R96). -/
def execSbUpTimeout (now : Beat) (s : State) : Host.Outcome State Fault Refusal :=
  let s1 := s.at now
  .next (if s1.chip.col = .sbUp && s1.past s1.chip.entry 5000000 then s1.downFor EV.IDENT.SB_NO_PARTNER 0 else s1)

/-- CREDIT_INIT that lasts 200,000 beats (R96). -/
def execCreditInitTimeout (now : Beat) (s : State) : Host.Outcome State Fault Refusal :=
  let s1 := s.at now
  .next (if s1.chip.col = .creditInit && s1.past s1.chip.entry 200000 then s1.downFor EV.IDENT.CREDIT_INIT_TIMEOUT 0 else s1)

/-- No sideband frame accepted for 8,192 beats (R260, first row). -/
def execFarSilentSb (now : Beat) (s : State) : Host.Outcome State Fault Refusal :=
  let s1 := s.at now
  .next (if s1.colIn [.ident, .cal, .repair, .creditInit, .active, .retrain, .quietRepair, .widthChange, .lowland, .drain] &&
      s1.past s1.sb.lastRx 8192 then s1.goFault EV.RESET.FAR_SILENT 1 else s1)

/-- No control flit with a good CRC for 1,024 LCLK cycles; a paused control stream freezes the condition (R260, second row). -/
def execFarSilentCtrl (cycles : Nat) (s : State) : Host.Outcome State Fault Refusal :=
  .next (if s.colIn inService && 1024 ≤ cycles && !s.ctrlPaused true then s.goFault EV.RESET.FAR_SILENT 2 else s)

end Sys2Proof.Machine
end

