-- ==== Sys2Proof/Machine/Time.lean ====
section
/-!
DEFINITION. Fabric time (13_fabric_time_and_level_delivery.md): the seed and lock of the beat counter (R59, R60), beat marks, the
offset and the slew (R364 to R367), and L_LEVEL (R368).
-/

namespace Sys2Proof.Machine

/-- The beat counter is loaded: times that have been measured are kept. -/
def State.loadBeat (s0 : State) (seed : Beat) : State :=
  let s := s0.uiFrom seed 0
  let d := seed - s.beat
  if s.chip.counter.isSome then s.setCount seed
  else { s with
    beat := seed
    pwr := { s.pwr with lastContent := s.pwr.lastContent + d, thrSince := s.pwr.thrSince + d, shortSince := s.pwr.shortSince.map (· + d) } }

/-- BEAT_LOAD: at a BCLK edge, and only in OFF or RESET_HELD (R31, R59). -/
def execBeatLoad (seed : Beat) (s : State) : Host.Outcome State Fault Refusal :=
  .next (if !s.beatRuns then s
    else if s.colIn [.off, .resetHeld] then (s.loadBeat seed).bump TIME.SEED_STAT.LOADS
    else s.bump TIME.SEED_STAT.IGNORED_LOADS)

/-- A BCLK edge finds BEAT_LOCK low: outside OFF and RESET_HELD the end raises BEAT_UNLOCK and keeps counting (R60, R361). -/
def State.sampleLock (s : State) : State :=
  let s1 : State := { s with chip := { s.chip with beatLock := false, lockFell := false } }
  if s.colIn [.off, .resetHeld] then s1 else s1.raise EV.TIME.BEAT_UNLOCK 0

/-- BEAT_LOCK_FALL: the next BCLK edge samples it (R31). -/
def execBeatLockFall (s : State) : Host.Outcome State Fault Refusal :=
  .next (if s.chip.dieRst || s.role == 0 then s
    else if s.beatRuns then s.sampleLock
    else { s with chip := { s.chip with lockFell := true } })

/-- The states in which beat marks are sent (R364). -/
def State.marking (s : State) : Bool := s.colIn [.cal, .repair, .creditInit] || s.colIn inService

/-- BEAT_MARK_SEND: at CAL entry, and at each multiple of 2^20 beats (R364). -/
def execBeatMarkSend (now : Beat) (s : State) : Host.Outcome State Fault Refusal :=
  let s1 := s.at now
  let due := match s1.marks.lastTx with
    | none => true
    | some t => decide (t.toNat / 2 ^ 20 < s1.beat.toNat / 2 ^ 20)
  .next (if s1.marking && s1.sbSends && due then
      let pl := packLow [(s1.get TIME.MARK_STAT.OWN_MEAS, 16), (s1.beat.toNat, 24)]
      let s2 := s1.sbSend .beatMark pl
      { s2 with marks := { s2.marks with lastTx := some s2.beat } }
    else s1)

/-- The Level guarantee of the receive direction is suspended until Col reset, and Level delivery goes on (R366, R370). -/
def State.suspendAlign (s : State) : State := { s with susp := s.susp ++ [⟨true, s.beat, BitVec.allOnes 64 - 1⟩] }

/-- The follower acts on a new offset; the reference end never changes its counter, and its receive direction is suspended as the
follower's is (R366). -/
def State.onOffset (s : State) (d : Int) : State :=
  if d.natAbs ≤ 1 then s
  else if s.wins then (if 64 < d.natAbs then s.suspendAlign else s)
  else if d.natAbs ≤ 64 then
    let going := s.on TIME.SLEW_STAT.PENDING
    let s1 := ((s.put TIME.SLEW_STAT.PENDING d.natAbs).put TIME.SLEW_STAT.DIR (b2n (decide (d < 0)))).raise EV.TIME.BEAT_SLEW (ofInt 16 d)
    if going then s1 else { s1 with marks := { s1.marks with nextSlew := s1.ahead 1024 } }
  else (s.put TIME.LOCK_STAT.ALIGN_FAIL 1).raise EV.TIME.BEAT_ALIGN_FAIL (ofInt 16 d)

/-- An accepted mark stamped at `stamp` (R364, R365). -/
def State.onMark (s : State) (stamp : Beat) (txb meas : Nat) : State :=
  let m := toInt 24 ((stamp.toNat + 2 ^ 24 - txb) % 2 ^ 24)
  let s1 := ((s.put TIME.MARK_STAT.OWN_MEAS (ofInt 16 m)).put TIME.MARK_STAT.FAR_MEAS meas)
  let s2 := { s1 with marks := { s1.marks with lastRx := s1.beat, missing := false } }
  let near := match s.marks.lastTx with
    | some t => decide ((stamp - t).toNat ≤ 2 ^ 21) || decide ((t - stamp).toNat ≤ 2 ^ 21)
    | none => false
  if meas = 0x8000 ∨ near = false then s2
  else
    let d := (m - toInt 16 meas).tdiv 2
    (s2.put TIME.MARK_STAT.OFFSET (ofInt 16 d)).onOffset d

/-- BEAT_MARK_RX: a mark is measured in whatever state it is accepted, the far end's CAL entry coming first or last (R365). -/
def execBeatMarkRx (c : SbCopies) (stamp : Beat) (s : State) : Host.Outcome State Fault Refusal :=
  .next (s.receive c SbType.beatMark.code fun _ pl s => s.onMark stamp (bits pl 16 24) (bits pl 0 16))

/-- SLEW_STEP: one BCLK edge in 1,024 holds the count, or advances it by two (R366): the next is due 1,024 edges later, which bring the
count 1,023 or 1,025 further. -/
def execSlewStep (now : Beat) (s : State) : Host.Outcome State Fault Refusal :=
  let s1 := s.at now
  .next (if s1.beatRuns && s1.chip.counter.isNone && s1.on TIME.SLEW_STAT.PENDING && s1.reached s1.marks.nextSlew then
      let s2 := ((s1.put TIME.SLEW_STAT.PENDING (s1.get TIME.SLEW_STAT.PENDING - 1)).bump TIME.SLEW_STAT.TOTAL)
      let up := s1.on TIME.SLEW_STAT.DIR
      let b := if up then s1.beat + 2 else s1.beat
      { s2.uiFrom b s2.uiPerBeat with beat := b, marks := { s2.marks with nextSlew := s1.marks.nextSlew + (if up then 1025 else 1023) } }
    else s1)

/-- BEAT_MARK_TIMEOUT (R367). -/
def execBeatMarkTimeout (now : Beat) (s : State) : Host.Outcome State Fault Refusal :=
  let s1 := s.at now
  .next (if s1.marking && !s1.marks.missing && s1.past s1.marks.lastRx (3 * 2 ^ 20) then
      { (s1.raise EV.TIME.BEAT_MARK_MISSING 0) with marks := { s1.marks with missing := true } }
    else s1)

/-- L_LEVEL_WRITE (R368). -/
def execLLevelWrite (v : BitVec 8) (s : State) : Host.Outcome State Fault Refusal :=
  .next (s.command TIME.LEVEL_CTL.L_LEVEL.key (v.setWidth 64)
    (fun s =>
      if !s.colIn [.off, .resetHeld, .sbUp, .ident, .cal, .repair, .creditInit] then some .state
      else if v.toNat < 32 then some .range else none)
    (fun s => s.put TIME.LEVEL_CTL.L_LEVEL v.toNat))

end Sys2Proof.Machine
end

