-- ==== Sys2Proof/Machine/Drain.lean ====
section
/-!
DEFINITION. Draining a Col (R234 to R237), draining memory (R238 to R240), and the queue of lost contexts (R456).
-/

namespace Sys2Proof.Machine

/-! ### Draining a Col -/

/-- DRAIN_GO: the turning-away phase and the drain timer start, and the token is released (R234, R235, R400).  DESIGN CHOICE (log entry 78):
a Col in DOWN or FAULT whose DRAIN_STAT.PHASE still reads 1 or 2 refuses the GO as busy, before its state is looked at. -/
def execDrainGo (s : State) : Host.Outcome State Fault Refusal :=
  .next (s.command TXN.DRAIN_CMD.GO.key 1
    (fun s =>
      if [1, 2].contains (s.get TXN.DRAIN_STAT.PHASE) then some .busy
      else if !s.colIn [.active, .quietRepair, .widthChange, .lowland] then some .state
      else none)
    (fun s => ((s.put TXN.DRAIN_STAT.PHASE 1).setTxn fun t => { t with drainAt := s.beat }).leaveService false))

/-- Entry to DRAIN; accepted repairs and width changes that have not begun are void (R150, R236). -/
def State.enterDrain (s : State) : State :=
  ((s.put TXN.DRAIN_STAT.PHASE 2).setTxn fun t => { t with drainAt := s.beat }).voidProps.setCol .drain

/-- The Col is turning requests away and may enter DRAIN. -/
def State.turningAway (s : State) : Bool := s.get TXN.DRAIN_STAT.PHASE == 1 && s.colIn [.active, .retrain, .quietRepair, .widthChange, .lowland]

/-- DRAIN_QUIET: tables empty and replay buffers acknowledged (R236). -/
def execDrainQuiet (s : State) : Host.Outcome State Fault Refusal :=
  .next (if s.turningAway && s.txn.outT.isEmpty && s.txn.served.isEmpty && s.bothAcked then s.enterDrain else s)

/-- DRAIN_TIMER: into DRAIN, or out of it for DOWN with DRAIN_BOUND as its cause (R236). -/
def execDrainTimer (now : Beat) (s : State) : Host.Outcome State Fault Refusal :=
  let s1 := s.at now
  .next (if !s1.past s1.txn.drainAt (s1.get TXN.DRAIN_CTL.BOUND) then s1
    else if s1.turningAway then (s1.raise EV.TXN.DRAIN_BOUND (s1.txn.outT.length + s1.txn.served.length * 2 ^ 16)).enterDrain
    else if s1.chip.col = .drain then s1.downFor EV.TXN.DRAIN_BOUND (s1.txn.outT.length + s1.txn.served.length * 2 ^ 16)
    else s1)

/-- DRAIN_TO_DOWN: both buffers acknowledged, and the far end shown in DRAIN, DOWN or FAULT (R236). -/
def execDrainToDown (s : State) : Host.Outcome State Fault Refusal :=
  .next (if s.chip.col = .drain && s.bothAcked && [12, 13, 14].contains (s.get IDENT.IDENT_STAT.FAR_STATE) then s.goDown none else s)

/-! ### Draining memory (R240) -/

/-- A request that waits on memory for a page that has been set to DRAINING: the engine's, by any page that its accesses go by, or one
the die holds. -/
def State.drainEng (s : State) (q : EngReq) : Bool := (s.pagesOf q).any (fun p => s.pageDrained (p * 2 ^ 23))
def State.drainDie (s : State) (h : Hdr) : Bool := s.pageDrained h.byteAddr

/-- A window whose close action waits for writes into such a page (R353, R484). -/
def State.drainClose (s : State) (n : Nat) : Bool := s.resultWritten n && (s.resultRanges n).any s.rangeDrained

/-- A read that memory still owes was issued for an unconfirmed request of the run-ahead buffer for such a page. -/
def State.drainAhead (s : State) (a : Ahead) : Bool :=
  !a.conf && s.drainEng (a.req s) && s.txn.prefetch.any (fun p => a.reads p && p.ans.isNone && !p.dropped)

/-- The end waits on memory for a page that has been set to DRAINING, its windows, DMA channels and run-ahead among it. -/
def State.drainWaits (s : State) : Bool :=
  s.txn.engQ.any s.drainEng || s.txn.runAhead.any s.drainAhead || s.txn.served.any (fun q => s.drainDie q.2) || s.eng.closing.any s.drainClose ||
  (List.range 4).any (fun n => (s.chan n).acc.any s.accDrains)

/-- A contribution to memory accumulators is answered DRAINED: its window fails, and the context is lost (R484). -/
def State.drainContrib (s : State) (q : EngReq) : State :=
  let n := q.hdr.window
  if q.isOp .contrib && s.winIn n [1, 2] then s.failWindow n [4] true else s

/-- The memory drain is complete. -/
def State.mdrainDone (s : State) : State := (s.put TXN.MDRAIN_STAT.RUNNING 0).put TXN.MDRAIN_STAT.DONE 1

/-- A request is answered DRAINED, and its context is charged where its effect is uncertain (R237, R240). -/
def State.drainOne (s : State) (h : Hdr) : State :=
  let s1 := if h.isPosted then s.bump TXN.MDRAIN_STAT.POSTED_DROPPED
    else ((s.respond h .drained 0 []).bump TXN.MDRAIN_STAT.DRAINED).wake 2
  if ((h.operation).map Op.chargesContext).getD false then s1.reportLost h.ctx 2 else s1

/-- MDRAIN_GO: M-end only; a GO while one runs is refused (R240). -/
def execMdrainGo (s : State) : Host.Outcome State Fault Refusal :=
  .next (s.command TXN.MDRAIN_CMD.GO.key 1
    (fun s => if !s.isM then some .role else if s.on TXN.MDRAIN_STAT.RUNNING then some .busy else none)
    (fun s =>
      let s1 := ((s.put TXN.MDRAIN_STAT.DONE 0).put TXN.MDRAIN_STAT.RUNNING 1).setTxn fun t => { t with mdrainAt := s.beat }
      if s1.drainWaits then s1 else s1.mdrainDone))

/-- MDRAIN_BOUND: what still waits at the bound is answered DRAINED, and what memory brings for it later is discarded; with nothing left to
wait for, the drain is done (R240). An unconfirmed request is not answered yet (R224): its page answers it at its commit. -/
def execMdrainBound (now : Beat) (s : State) : Host.Outcome State Fault Refusal :=
  let s1 := s.at now
  .next (if !s1.on TXN.MDRAIN_STAT.RUNNING then s1
    else if !s1.drainWaits then s1.mdrainDone
    else if s1.past s1.txn.mdrainAt (s1.get TXN.DRAIN_CTL.BOUND) then
      let eng := s1.txn.engQ.filter s1.drainEng
      let die := s1.txn.served.filter (fun q => s1.drainDie q.2)
      let owed (p : Prefetch) : Bool :=
        eng.any (fun q => p.owner == some (q.seq, q.hdr.tag)) || s1.txn.runAhead.any (fun a => s1.drainAhead a && a.reads p)
      let s2 := ((s1.discardAhead (fun a => eng.any (·.isAhead a))).dropReads owed).setTxn fun t =>
        { t with engQ := t.engQ.filter (fun q => !s1.drainEng q), served := t.served.filter (fun q => !s1.drainDie q.2)
                 gone := t.gone ++ die.map (·.1) }
      let s3 := eng.foldl (fun t q => ((t.drainContrib q).drainOne q.hdr).freeRequest q.hdr) s2
      let s4 := die.foldl (fun t q => t.drainOne q.2) s3
      let s5 := (s1.eng.closing.filter s1.drainClose).foldl (fun t n => (t.closeErr n true).bump TXN.MDRAIN_STAT.DRAINED) s4
      (((List.range 4).foldl (fun t n => t.drainChan n (t.chan n).acc.length) s5).mdrainDone).leaveDone
    else s1)

/-! ### Lost contexts (R456) -/

/-- LOST_FIFO_READ: the oldest entry is returned and removed. -/
def execLostFifoRead (s : State) : Host.Outcome State Fault Refusal :=
  .next (s.accessRead (s.needs TXN.LOST_FIFO.CTX.key) fun s =>
    if !s.present 8 then s.mbRead 0
    else
      let ovf := b2n s.lostOvf * 2 ^ 15
      let s1 : State := { s with lostOvf := false, lostQ := s.lostQ.drop 1 }
      match s.lostQ with
      | [] => s1.mbRead (BitVec.ofNat 64 ovf)
      | e :: _ => s1.mbRead (BitVec.ofNat 64 (packLow [(e.ctx, 14), (1, 1), (0, 1), (e.cause, 4), (0, 12), (e.beat, 32)] + ovf)))

end Sys2Proof.Machine
end

