-- ==== Sys2Proof/Machine/Resets.lean ====
section
/-!
DEFINITION. Resets, clocks and Col enabling (02_boundary_of_the_end.md R53, R64 to R69; 09_clock_crossings_and_resets.md R252 to
R267; the first rows of R96).
-/

namespace Sys2Proof.Machine

/-! ### Die reset (R53, R64 to R67, R262) -/

/-- What stands outside the end survives every reset: commands that wait, memory, and the levels of the input pins and clocks. -/
def State.outside (s : State) : State :=
  let m := s.loseWrites
  { pending := s.pending, freeCtr := m.freeCtr, epoch := s.epoch + 1, mem := m.mem, poison := m.poison, inp := s.inp
    chip := { beatLock := s.chip.beatLock && !s.chip.lockFell, stopped := s.chip.stopped } }

/-- DIE_RST_ASSERT: everything is reset at once, and a host-port access in progress ends with MB_ERR (R53, R67). -/
def execDieRstAssert (s : State) : Host.Outcome State Fault Refusal :=
  .next (if s.chip.mbHung then s.outside.mbError else s.outside)

/-- DIE_SUPPLY_LOSS: nothing is kept (R69, R438). -/
def execDieSupplyLoss (s : State) : Host.Outcome State Fault Refusal := .next s.outside

/-- The position that fuses name exists in the fused assembly and has a die opposite it (R15, R16). -/
def positionUsed (assy die role col : Nat) : Bool :=
  let last := match assy with | 1 => 9 | 2 => 5 | _ => 3
  match role with
  | 1 => decide (2 ≤ die) && decide (die ≤ last)
  | 2 => (decide (die = 0) || assy == 1) && decide (2 + 4 * die + col / 10 ≤ last)
  | 3 => assy == 1
  | _ => true

/-- Fuses are invalid (R65). -/
def fusesBad (f : Fuses) : Bool :=
  let r := f.role.toNat
  let d := f.die.toNat
  let c := f.col.toNat
  !f.ok || !(decide (1 ≤ f.assy.toNat) && decide (f.assy.toNat ≤ 3)) || decide (9 < d) || (r == 1 && decide (d < 2)) ||
  ((r == 2 || r == 3) && decide (2 ≤ d)) || (r == 1 && decide (9 < c)) || (r == 2 && decide (39 < c)) || (r == 3 && decide (11 < c)) ||
  !positionUsed f.assy.toNat d r c

/-- The fuse registers take the sampled values (R64). -/
def State.sampleFuses (s : State) (f : Fuses) : State :=
  let w := packLow [(b2n f.ok, 1), (0, 3), (f.assy.toNat, 4), (f.die.toNat, 4), (f.role.toNat, 2), (0, 2), (f.col.toNat, 6), (0, 2),
    (f.qidEn.toNat, 8), (b2n (fusesBad f), 1)]
  let s1 := s.setReg IDENT.FUSE_STAT.OK.key (BitVec.ofNat 64 w)
  (List.range 4).foldl (fun t k => t.setReg (IDENT.FUSE_QID.LO k).key (BitVec.ofNat 64 (bits f.qid.toNat (64 * k) 64))) s1

/-- The clocks whose domains the release step after step `n` releases; an unused end has none but MCLK (R70, R242, R266). -/
def State.stepClocks (s : State) (n : Nat) : BitVec 12 :=
  match n with
  | 0 => 1
  | 1 => if s.role = 0 then 0 else 0x80A
  | _ => if s.isM then 4 else 0

/-- One release step: it waits while one of its clocks does not run (R266). -/
def State.releaseStep (s : State) : State :=
  let n := s.chip.released
  if s.chip.stopped &&& s.stepClocks n ≠ 0 then s.put RESET.COL_STAT.WAIT_CLK 1
  else
    { s.put RESET.COL_STAT.WAIT_CLK 0 with
      chip := { s.chip with released := n + 1, clk := s.chip.clk ||| s.stepClocks n, releaseAt := none } }

/-- A low TEMP_VALID raises TEMP_INVALID once in its low period (R61). -/
def State.tempLost (s : State) : State :=
  if s.inp.tempValid || s.pwr.tempLow then s
  else { s with pwr := { s.pwr with tempLow := true } }.raise EV.CAL.TEMP_INVALID 0

/-! The budget as it is judged (R427, R428) -/

/-- The power of one lane group in use, in mW, by rate code (R427). -/
def groupPower : Nat → Nat
  | 0 => 60
  | 1 => 100
  | 2 => 150
  | _ => 200

/-- P_fix in mW (R428). -/
def State.fixedPower (s : State) : Nat :=
  100 + popCount 4 (s.groups false) * groupPower (s.get PHY.RATE_STAT.RATE) + (if s.isM then 800 + 300 else 900)

/-- BUDGET in quarters of a mW, no more than the role's maximum (R62, R427). -/
def State.budget4 (s : State) : Nat := min (125 * s.inp.budget.toNat) (if s.isM then 17600 else 7200)

/-- BUDGET is below P_fix + 37.5 mW (R428). -/
def State.budgetShort (s : State) : Bool := s.inp.budgetValid && decide (s.budget4 < 4 * s.fixedPower + 150)

/-- The end's power logic, in MCLK, runs, and its role has a budget. -/
def State.powered (s : State) : Bool := !s.chip.dieRst && s.role != 0 && s.clkOn 0

/-- BUDGET_SHORT is raised where the budget becomes too small, once for as long as it stays so (R428).  DEDUCED (log entry 79): the
period of R428 is the time for which the condition holds. -/
def State.judgeBudget (s : State) : State :=
  if !s.powered then s
  else if s.budgetShort then
    (if s.pwr.shortSince.isSome then s
     else (s.setPwr fun p => { p with shortSince := some s.beat }).raise EV.POWER.BUDGET_SHORT s.inp.budget.toNat)
  else s.setPwr fun p => { p with shortSince := none }

/-- MCLK is released, and its first edge samples the pins (R31): temperature and budget are judged as they stand. -/
def State.pinsReleased (s : State) : State :=
  let s1 := s.latchPins
  if s1.role = 0 then s1
  else (if s1.inp.tempValid then s1.setPwr fun p => { p with tempLow := false } else s1.tempLost).hotCheck.judgeBudget

/-- DIE_RST_DEASSERT: fuses are sampled, domains are released in order as far as their clocks run, and the Col is in OFF (R64, R65,
R266). The first MCLK edge is what samples the fuses, so MCLK runs. -/
def execDieRstDeassert (f : Fuses) (s : State) : Host.Outcome State Fault Refusal :=
  .next (if !s.chip.dieRst then s
    else
      let s1 := { s with chip := { s.chip with dieRst := false, col := .off, released := 1, clk := 1,
                                               stopped := s.chip.stopped &&& 0xFFE } }.sampleFuses f
      let s2 := s1.releaseStep
      let s3 := if s2.chip.released = 2 then s2.releaseStep else s2
      if fusesBad f then s3.latchPins.raise EV.IDENT.FUSE_INVALID (s3.reg IDENT.FUSE_STAT.OK.key).toNat
      else s3.pinsReleased)

/-! ### Col reset (R262 to R266) -/

/-- Registers that a Col reset keeps: chain address, fuses and the wrapper's. -/
def keptRegs : List Nat :=
  [IDENT.CHAIN_ADDR.ADDR.key, IDENT.FUSE_STAT.OK.key, (IDENT.FUSE_QID.LO 0).key, (IDENT.FUSE_QID.LO 1).key, (IDENT.FUSE_QID.LO 2).key,
   (IDENT.FUSE_QID.LO 3).key, TEST.WRAP_STAT.WIR.key]

/-- Reset is asserted to every domain, and held for 256 beats (R262, R264, R265). -/
def State.colReset (s : State) (oneSided : Bool) : State :=
  let o := s.outside
  let s1 : State :=
    { o with
      out := s.out, beat := s.count
      pwr := { tempLow := s.pwr.tempLow, lastContent := s.count, thrSince := s.count }
      test := { s.test with startAt := none, begun := false }
      chip := { dieRst := false, col := .resetHeld, entry := s.count, stopped := s.chip.stopped, releaseAt := some (s.count + 256)
                colReset := true, enumTo := s.chip.enumTo, beatLock := o.chip.beatLock } }
  let s2 := keptRegs.foldl (fun t k => t.setReg k (s.reg k)) s1
  let s3 := (s2.setReg RESET.PREV_FAULT.DATA.key (s.reg IDENT.FAULT_SUM.CAUSE.key)).put POWER.PWR_STAT.STATE 0
  if oneSided then (s3.put RESET.COL_STAT.ONE_SIDED 1).raise EV.RESET.RESET_ONE_SIDED 0 else s3

/-- The payload of a RESET frame (R263). -/
def resetPayload (kind : Nat) (b : Beat) : Nat := packLow [(b.toNat, 22), (0, 14), (kind, 4)]

/-- A reset beat is agreed or requested (R447, COL_STAT). -/
def State.setPlan (s : State) (p : ResetPlan) : State :=
  ({ s with chip := { s.chip with plan := some p } }.put RESET.COL_STAT.PENDING 1).put RESET.COL_STAT.B_LOW p.beat.toNat

/-- COL_RST_GO (R264). -/
def execColRstGo (s : State) : Host.Outcome State Fault Refusal :=
  .next (s.command RESET.COL_RST_CMD.GO.key 1
    (fun s => if s.role = 0 then some .role else if s.colIn [.off, .resetHeld] then some .state else if s.chip.plan.isSome then some .busy else none)
    (fun s =>
      let (r, s1) := s.draw
      let b := s1.ahead (Config.bounded 8192 (2 ^ 21) r)
      (s1.setPlan { beat := b, initiator := true, acked := false, lastReq := s1.beat, settled := false }).sbSend .reset (resetPayload 1 b)))

/-- COL_RST_NOW: at once, one-sided, in every state but OFF (R265). -/
def execColRstNow (s : State) : Host.Outcome State Fault Refusal :=
  .next (s.command RESET.COL_RST_CMD.GO.key 3
    (fun s => if s.role = 0 then some .role else if s.chip.col = .off then some .state else none)
    (fun s => s.colReset true))

/-- A REQ is taken: B is resolved, ACK answers it, and an own request yields (R264). -/
def State.onResetReq (s : State) (low : Nat) : State :=
  let take (s : State) : State :=
    let b := resolveBeat 22 low s.beat
    (s.setPlan { beat := b, initiator := false, acked := true, lastReq := s.beat, settled := false }).sbSend .reset (resetPayload 2 b)
  match s.chip.plan with
  | none => take s
  | some p =>
    if p.initiator then (if s.wins then s else take s)
    else if p.beat.toNat % 2 ^ 22 = low then s.sbSend .reset (resetPayload 2 p.beat)
    else take s

/-- RESET_REQ: an end from SB_UP to FAULT answers (R264). -/
def execResetReq (c : SbCopies) (s : State) : Host.Outcome State Fault Refusal :=
  .next (s.receive c SbType.reset.code fun _ pl s => if bits pl 36 4 = 1 then s.onResetReq (bits pl 0 22) else s)

/-- RESET_ACK (R264). -/
def execResetAck (c : SbCopies) (s : State) : Host.Outcome State Fault Refusal :=
  .next (s.receive c SbType.reset.code fun _ pl s =>
    match s.chip.plan with
    | some p =>
      if bits pl 36 4 = 2 ∧ p.initiator = true ∧ p.beat.toNat % 2 ^ 22 = bits pl 0 22 then
        { s with chip := { s.chip with plan := some { p with acked := true } } }
      else s
    | none => s)

/-- RESET_REQ_REPEAT: every 1,024 beats until ACK or B − 1,024 (R264). -/
def execResetReqRepeat (now : Beat) (s : State) : Host.Outcome State Fault Refusal :=
  let s1 := s.at now
  .next (match s1.chip.plan with
    | some p =>
      if p.initiator && !p.acked && s1.past p.lastReq 1024 && decide (s1.beat < p.beat - 1024) then
        { s1 with chip := { s1.chip with plan := some { p with lastReq := s1.beat } } }.sbSend .reset (resetPayload 1 p.beat)
      else s1
    | none => s1)

/-- RESET_SETTLE_BEAT: from B − 4,096 an end that is not in DOWN or FAULT settles (R207, R208, R264). -/
def execResetSettleBeat (now : Beat) (s : State) : Host.Outcome State Fault Refusal :=
  let s1 := s.at now
  .next (match s1.chip.plan with
    | some p =>
      if !p.settled && s1.reached (p.beat - 4096) then
        let s2 := if s1.colIn [.creditInit] || s1.colIn inService then s1.settleWith false false else s1
        { s2 with chip := { s2.chip with plan := some { p with settled := true } } }
      else s1
    | none => s1)

/-- RESET_BEAT: at B; an initiator without ACK resets alone (R264). A stopped MCLK leaves only die reset (R255). -/
def execResetBeat (now : Beat) (s : State) : Host.Outcome State Fault Refusal :=
  let s1 := s.at now
  .next (match s1.chip.plan with
    | some p => if s1.clkOn 0 && s1.reached p.beat then s1.colReset (p.initiator && !p.acked) else s1
    | none => s1)

/-- The third release step of a Col reset completes it: RESET_HELD, DONE and COL_RESET_DONE (R266). -/
def State.resetDone (s : State) : State :=
  { s.put RESET.COL_STAT.DONE 1 with
    chip := { s.chip with colReset := false, col := .resetHeld, entry := s.beat, stepEntry := s.beat } }.raise EV.RESET.COL_RESET_DONE 0

/-- RESET_RELEASE_STEP: the first step of a Col reset at B + 256 beats, the others 8 MCLK cycles after the one before (R266); `cycles`
of MCLK have passed since. -/
def execResetReleaseStep (now : Beat) (s : State) (cycles : Nat := 0) : Host.Outcome State Fault Refusal :=
  let s1 := s.at now
  let due := match s1.chip.releaseAt with
    | some t => s1.reached t
    | none => decide (8 ≤ cycles)
  .next (if s1.chip.dieRst || 3 ≤ s1.chip.released || !due then s1
    else
      let s2 := s1.releaseStep
      if s1.chip.released = 0 && s2.chip.released = 1 then s2.pinsReleased
      else if s2.chip.colReset && s2.chip.released = 3 then s2.resetDone else s2)

/-! ### A pattern that is stopped (R497) -/

/-- A pattern no longer runs, and is not complete. -/
def State.stopPattern (s : State) : State :=
  { (s.put TEST.TEST_STAT.RUNNING 0) with test := { s.test with startAt := none, begun := false } }

/-- The results of the wires are undefined: each field takes a free value. -/
def State.freeResults (s : State) : State :=
  (List.range 166).foldl (fun t w =>
    let (v, t1) := t.draw
    t1.setReg (TEST.WIRE_RES.TESTED w).key (BitVec.ofNat 64 v &&& 0xFF00FFFFFF0F#64)) s

/-- A pattern that runs is stopped with undefined results. -/
def State.abortPattern (s : State) : State := if s.on TEST.TEST_STAT.RUNNING then s.stopPattern.freeResults else s

/-! ### Enabling and releasing the Col (R96) -/

/-- The Col is in OFF: PHY and drivers unpowered. -/
def State.colOff (s : State) : State :=
  let s1 := ((s.abortPattern.put RESET.COL_CTL.ENABLE 0).put PHY.PLL_STAT.LOCKED 0).put POWER.PWR_STAT.STATE 3
  { s1.setCol .off with
    chip := { s1.chip with col := .off, entry := s1.beat, step := 0, stepEntry := s1.beat, drivers := false, laneDrv := false, announce := false, fwd := 0, rxReleased := 0
                           released := 3
                           clk := s1.chip.clk &&& 0x80F }
    pwr := { s1.pwr with stopping := false, waking := false, waitEclk := none, afterWake := [], runAfterWake := false, runTemp := false }
    cal := { s1.cal with txSeed := none, rxSeed := [], seeded := false } }.put POWER.PWR_STAT.WAIT_ECLK 0

/-- Arrays 1 to 5 and 9 hold good codes of zeros (R419): no flit and no transaction is left in them, no correction of theirs is under
way, and what memory still brings for the run-ahead buffer is dropped. -/
def State.zeroBuffers (s : State) : State :=
  let s1 : State := { s with arrays := s.arrays.filter (fun a => !(([1, 2, 3, 4, 5, 9] : List Nat).contains a.1)) }
  let s2 := s1.setLnk fun k =>
    { k with
      marked := [], cMarked := []
      rpl := k.rpl.map (fun f => { f with slots := f.slots.map (fun _ => 0) })
      crpl := k.crpl.map (fun f => (f.1, f.2.map (fun _ => 0)))
      rxQ := [], openT := none, openC := none, withheld := [], openShown := false, gather := none
      dpoQ := [], dpoTaken := [], cnfWait := [], dpoLock := none }
  (s2.setTxn fun t =>
    { t with
      early := [], levelQ := [], engQ := [], runAhead := [], aheadWait := []
      prefetch := (t.prefetch.filter (fun p => p.ans.isNone)).map (fun p => { p with dropped := true, now := false }) }).leaveDone

/-- COL_ENABLE_SET (R96, R447): a reset whose third step is still to come has not reached OFF (R266). In RESET_HELD the buffers are zeroed
(R419). -/
def execColEnableSet (s : State) : Host.Outcome State Fault Refusal :=
  .next (s.command RESET.COL_CTL.ENABLE.key 1
    (fun s => if s.role = 0 then some .role else if s.chip.released < 3 then some .state else none)
    (fun s => if s.chip.col = .off then (((s.put RESET.COL_CTL.ENABLE 1).put POWER.PWR_STAT.STATE 0).setCol .resetHeld).zeroBuffers
      else s.put RESET.COL_CTL.ENABLE 1))

/-- COL_ENABLE_CLEAR: in RESET_HELD, DOWN and FAULT (R96), and in LOWLAND (R136, R156). -/
def execColEnableClear (s : State) : Host.Outcome State Fault Refusal :=
  .next (s.command RESET.COL_CTL.ENABLE.key 0
    (fun s => if s.role = 0 then some .role
      else if s.colIn [.off, .lowland, .down, .fault] || (s.chip.col == .resetHeld && !s.chip.colReset) then none else some .state)
    (fun s => if s.chip.col = .off then s
      else if s.chip.col = .lowland then (((s.settle false).leaveService true).voidProps).colOff else s.colOff))

/-- COL_RELEASE: in RESET_HELD with the PLL locked, and not in test mode (R96, R464). The die holds BEAT_LOCK high by then (R60). -/
def execColRelease (s : State) : Host.Outcome State Fault Refusal :=
  .next (s.command RESET.COL_CTL.RELEASE.key 3
    (fun s => if s.role = 0 then some .role
      else if s.chip.col ≠ .resetHeld ∨ s.chip.colReset = true ∨ s.on PHY.PLL_STAT.LOCKED = false ∨ s.on TEST.TEST_STAT.IN_TEST = true then some .state
      else none)
    (fun s =>
      let s1 := ((s.put RESET.COL_CTL.ENABLE 1).put RESET.COL_STAT.DONE 0).put TEST.WRAP_STAT.OWNER 0
      ({ s1 with
        sb := { lastRx := s1.beat, lastTx := s1.beat, farIdentSeen := s1.sb.farIdentSeen }
        chip := { s1.chip with drivers := true, clk := s1.chip.clk ||| (0x800 &&& ~~~ s1.chip.stopped), beatLock := true, lockFell := false } }).setCol .sbUp))

/-- PLL_LOCK: in RESET_HELD; PHY TX and LCLK are released (R266 step 4). -/
def execPllLock (s : State) : Host.Outcome State Fault Refusal :=
  .next (if s.chip.dieRst || s.chip.col != .resetHeld || s.chip.colReset || s.on PHY.PLL_STAT.LOCKED then s
    else
      { (s.put PHY.PLL_STAT.LOCKED 1) with
        chip := { s.chip with released := 4, clk := s.chip.clk ||| 0x030, stopped := s.chip.stopped &&& 0xFCF } })

/-- PLL_LOCK_TIMEOUT: 50,000 beats after RESET_HELD entry (R96). -/
def execPllLockTimeout (now : Beat) (s : State) : Host.Outcome State Fault Refusal :=
  let s1 := s.at now
  .next (if s1.chip.col = .resetHeld && !s1.chip.colReset && !s1.on PHY.PLL_STAT.LOCKED && s1.past s1.chip.entry 50000 then
      s1.goFault EV.PHY.PLL_LOCK_FAIL 0 else s1)

/-! ### Clock faults (R253, R255, R256, R437) -/

/-- PLL lock is lost: PHY TX alone is reset, which tears X01 (R255, R257), and the generators, whose UI the PLL gives, have lost their
step. -/
def State.pllLost (s : State) : State :=
  (((s.put PHY.PLL_STAT.LOCKED 0).goFaultBy true EV.PHY.PHY_UNLOCK 0).tear 1).setCal fun c => { c with txSeed := none, rxSeed := [] }

/-- PHY_UNLOCK. -/
def execPhyUnlock (s : State) : Host.Outcome State Fault Refusal :=
  .next (if s.chip.dieRst || !s.on PHY.PLL_STAT.LOCKED then s else s.pllLost)

/-- The clock and valid lane of a receive group fail (R76, R135, R255): in a calibration step the group fails it. -/
def State.groupFault (s : State) (g : Nat) : State :=
  if 4 ≤ g then (if s.colIn [.off, .resetHeld, .sbUp, .ident, .down, .fault] then s else s.cgFault)
  else if s.colIn [.cal, .retrain] || (s.chip.col == .lowland && s.chip.step != 0) then
    s.setCal fun c => { c with noRise := c.noRise ||| BitVec.ofNat 5 (2 ^ g) }
  else if s.colIn [.repair, .creditInit, .active, .quietRepair, .widthChange, .lowland, .drain] then s.evalTrigger (.group g 2 true)
  else s

/-- RX_FIFO_SLIP: a clock fault of the group (R243). -/
def execRxFifoSlip (g : Fin 5) (s : State) : Host.Outcome State Fault Refusal :=
  .next (if s.chip.dieRst || s.role == 0 || !s.clkOn 4 then s else (s.raise EV.PHY.RX_FIFO_SLIP g.val).groupFault g.val)

/-- Every condition of ECLK_IDLE but the scrubbers' EN holds (R437, R454). -/
def State.engQuiet (s : State) : Bool :=
  s.isM && (s.windowsIn [1, 2, 3]).isEmpty && !((List.range 4).any s.chBusy) && !s.engHolds

/-- ECLK may be stopped (R437). -/
def State.eclkIdle (s : State) : Bool := s.engQuiet && !s.on (PAGE.SCRUB_CTL.EN 10) && !s.on (PAGE.SCRUB_CTL.EN 11)

/-- A stop of a clock is expected (R253): its domain is not released yet, or one of the table's cases. -/
def State.stopExpected (s : State) (c : Nat) : Bool :=
  s.role == 0 && c != 0 || s.chip.released < 2 && c != 0 ||
  (match c with
  | 2 => !s.isM || s.chip.released < 3 || ([2, 3].contains (s.get POWER.PWR_STAT.STATE) && s.eclkIdle)
  | 4 | 5 => s.chip.col == .off || (s.chip.col == .resetHeld && !s.on PHY.PLL_STAT.LOCKED)
  | 6 | 7 | 8 | 9 => !s.chip.rxReleased.getLsbD (c - 6) || !bit (s.groups true) (c - 6) || s.parked || s.pwr.stopping || s.colIn [.off, .resetHeld, .down, .fault]
  | 10 => s.colIn [.off, .resetHeld, .sbUp, .ident, .down, .fault]
  | 11 => s.colIn [.off, .resetHeld]
  | _ => false)

/-- What follows an unexpected stop (R255). -/
def State.stopReaction (s : State) (c : Nat) : State :=
  match c with
  | 0 => s
  | 1 | 2 | 3 => s.goFault EV.RESET.CLOCK_STOP (s.get RESET.CLK_STAT.LOST)
  | 4 | 5 | 11 => s.pllLost
  | _ => s.groupFault (c - 6)

/-- A clock stops: its alive bit falls (R252), and a stop that is not expected is recorded and has its reaction (R253, R255). In
reset nothing watches it. -/
def State.clockStops (s : State) (c : Nat) : State :=
  let b := BitVec.ofNat 12 (2 ^ c)
  let s1 : State := { s with chip := { s.chip with clk := s.chip.clk &&& ~~~ b, stopped := s.chip.stopped ||| b } }
  if s.chip.dieRst || !s.clkOn c || s.stopExpected c then s1
  else
      let s2 := { s1 with chip := { s1.chip with lostRun := s1.chip.lostRun ||| b } }.put RESET.CLK_STAT.LOST
        (setBit (s1.get RESET.CLK_STAT.LOST) c)
      if c = 1 ∨ c = 2 ∨ c = 3 then s2.stopReaction c else (s2.raise EV.RESET.CLOCK_STOP (s2.get RESET.CLK_STAT.LOST)).stopReaction c

/-- CLOCK_STOP_DETECT. -/
def execClockStopDetect (clk : Clock) (s : State) : Host.Outcome State Fault Refusal := .next (s.clockStops (clockBit clk))

/-- The crossings of a domain, bit k − 1 for Xk (R244, R256). The X02 of a lane group is frozen by its clock's stop, and cleared at the next
scrambler start (R255). -/
def crossingsOf (c : Nat) : Nat :=
  match c with
  | 1 => 0x33CC
  | 2 => 0x33F0
  | 3 => 0x3300
  | 4 => 0x333F
  | 5 => 0x3201
  | 11 => 0x3A00
  | 10 => 0x3202
  | 6 | 7 | 8 | 9 => 0x3200
  | _ => 0

/-- The domain of a clock has been released since the last reset, so that its watch flop shows the clock (R252, R266). -/
def State.domainUp (s : State) (c : Nat) : Bool :=
  match c with
  | 0 => decide (1 ≤ s.chip.released)
  | 1 | 3 | 11 => decide (2 ≤ s.chip.released) && s.role != 0
  | 2 => decide (3 ≤ s.chip.released) && s.isM
  | 4 | 5 => decide (4 ≤ s.chip.released)
  | _ => s.chip.rxReleased.getLsbD (c - 6)

/-- The restart of a clock that stopped unexpectedly, with no reset of its domain since, tears the crossings of the domain (R256). -/
def State.restartTears (s : State) (c : Nat) : Bool := s.chip.lostRun.getLsbD c

/-- BCLK runs again: the count that the domains hold stays where X09 is torn, the counter goes on, and how many UI have passed meanwhile is
open (R246, R258). A fall of BEAT_LOCK is seen now (R31). -/
def State.bclkRuns (s : State) (torn : Bool) : State :=
  let (v, s1) := s.draw
  let s2 := { s1 with chip := { s1.chip with counter := if torn then some s1.count else s1.chip.counter } }.uiFrom s1.count v
  if s2.chip.lockFell then s2.sampleLock else s2

/-- A clock runs again: after an unexpected stop its crossings are torn (R256). A stopped MCLK is recovered by die reset only (R255). -/
def State.clockRuns (s : State) (c : Nat) : State :=
  let b := BitVec.ofNat 12 (2 ^ c)
  let s1 : State := { s with chip := { s.chip with stopped := s.chip.stopped &&& ~~~ b } }.crossOut c
  if s.chip.dieRst || c == 0 || s.clkOn c || !s.domainUp c then s1
  else if s.restartTears c then
    let s2 := { s1 with chip := { s1.chip with clk := s1.chip.clk ||| b, torn := s1.chip.torn ||| b } }.tear
      (if s.isM then crossingsOf c else crossingsOf c &&& 0x3F0F)
    if c = 1 then s2.settleTorn else if c = 3 then s2.bclkRuns true else s2
  else
    let s2 : State := { s1 with chip := { s1.chip with clk := s1.chip.clk ||| b } }
    if c = 3 then s2.bclkRuns false else s2

/-- CLOCK_RESTART. -/
def execClockRestart (clk : Clock) (s : State) : Host.Outcome State Fault Refusal := .next (s.clockRuns (clockBit clk))

/-- ECLK_STOP: the allowed stop of an M-end's engine clock; any other stop is one of R253 (R437). -/
def execEclkStop (s : State) : Host.Outcome State Fault Refusal := .next (if s.isM then s.clockStops 2 else s)

/-- ECLK_RESTART: a wake that waits goes on (R437). -/
def execEclkRestart (s : State) : Host.Outcome State Fault Refusal :=
  .next (if !s.isM then s
    else
      let s1 := s.clockRuns 2
      match s1.pwr.waitEclk with
      | some t =>
        if s1.clkOn 2 then ((s1.put POWER.PWR_STAT.WAIT_ECLK 0).setPwr fun p => { p with waitEclk := none }).wake t else s1
      | none => s1)

/-! ### Event crossings (R248 to R250) -/

/-- EVENT_CROSSING_IDLE: a pending pulse starts its own handshake and is delivered; a torn X13 carries none (R248, R258). -/
def execEventCrossingIdle (clk : Clock) (s : State) : Host.Outcome State Fault Refusal :=
  let d := clockBit clk
  .next (if s.chip.dieRst || !s.chip.evtBusy.getLsbD d || s.chip.torn.getLsbD d then s
    else match Sparse.find s.chip.evtPend d with
      | some p => { s with chip := { s.chip with evtPend := Sparse.set d none s.chip.evtPend } }.deliver p.page p.bit p.value false
      | none => { s with chip := { s.chip with evtBusy := s.chip.evtBusy &&& ~~~ BitVec.ofNat 12 (2 ^ d) } }.compatSettle)

/-! ### Clearing counters (R262, R441) -/

/-- Clear a page's statistics counters, EVT_COUNT, refusal count and ECC capture (R441, R443, R446). The beats at the stack throttle's
level count from there on (R432). -/
def State.clearPage (s : State) (p : Nat) : State :=
  let s0 := s.clearAll (pageCounters p ++ [PAGE.PAGE_STAT.EVT_COUNT p, PAGE.REFUSED.COUNT p])
  let s1 := if p = 14 then { s0 with pwr := { s0.pwr with thrSince := s0.beat } } else s0
  if hasEcc p then (s1.clearAll [PAGE.ECC_STAT.CE p, PAGE.ECC_STAT.UE p]).setReg (PAGE.ECC_CAPTURE.ARRAY p).key 0 else s1

/-- SOFT_CLR (R262). -/
def execSoftClr (s : State) : Host.Outcome State Fault Refusal :=
  .next (s.command RESET.SOFT_CLR.GO.key 1 (fun _ => none)
    (fun s => ((List.range 16).foldl State.clearPage s).put RESET.XING_STAT.OVERRUN 0))

end Sys2Proof.Machine
end

