-- ==== Sys2Proof/Machine/Arrays.lean ====
section
/-!
DEFINITION. Array integrity (16_array_integrity_and_scrubbing.md): scrubbers (R417, R418), corrections and their write-back (R415,
R416), merge buffers (R420, R421), uncorrectable words (R422) and relayed scrubs of pool memory (R424).
-/

namespace Sys2Proof.Machine

/-! ### The arrays (R413) -/

/-- The clock bit of an array's domain. -/
def arrayClock : Nat → Nat
  | 5 | 6 => 1 | 7 | 8 | 9 | 10 | 11 => 2 | 12 => 0 | _ => 4

/-- Arrays that only an M-end has. -/
def arrayM (a : Nat) : Bool := decide (6 ≤ a) && decide (a ≤ 11)

/-- The array exists on this end and its domain runs. -/
def State.arrayHere (s : State) (a : Nat) : Bool :=
  !s.chip.dieRst && s.clkOn (arrayClock a) && (if arrayM a then s.isM else s.role != 0 || a == 12)

/-- The scrubber of an array runs (R418); that of array 9 pauses while every condition of ECLK_IDLE but EN holds (R454). -/
def State.scrubs (s : State) (a : Nat) : Bool :=
  let carries := s.chip.col == .creditInit || s.colIn inService
  s.arrayHere a &&
  (if a = 9 then carries && !s.engQuiet
   else if a ≤ 5 then carries && s.on (PAGE.SCRUB_CTL.EN (arrayPage a))
   else s.on (PAGE.SCRUB_CTL.EN (arrayPage a)))

/-- The array that SCRUB_STAT of a page follows (R446, R454). -/
def scrubShown : Nat → Nat
  | 1 => 12 | 5 => 1 | 6 => 2 | 7 => 4 | 8 => 6 | 10 => 7 | _ => 11

/-! ### Captures and events (R415, R416, R422, R446) -/

/-- A correction is counted: the first since a clear is captured. -/
def State.countCe (s : State) (a index : Nat) : State :=
  let p := arrayPage a
  let s1 := s.bump (PAGE.ECC_STAT.CE p)
  let s2 := if s1.on (PAGE.ECC_CAPTURE.VALID p) then s1 else s1.eccCapture a index false
  s2.raise (eccEvents p).1 (s2.eccValue a)

/-- A word is corrected again in the pass after its write-back: it is captured whatever capture is held (R416). -/
def State.countStuck (s : State) (a index : Nat) : State :=
  let s1 := s.eccCapture a index false
  s1.raise (eccEvents (arrayPage a)).2.2 (s1.eccValue a)

/-! ### Scrubbers (R415 to R418) -/

/-- One error that a scrub read finds. -/
def State.scrubError (s : State) (a index : Nat) (e : EccError) : State :=
  match e with
  | .correctable =>
    if (s.sram a).fixedPrev.contains index then (s.corrected a index).countStuck a index else s.corrected a index
  | .uncorrectable => s.ueMet a index

/-- SCRUB_ROW: INTERVAL cycles after the last row the next is read; each error is of a code word of the row. -/
def execScrubRow (array : Nat) (errs : List (Nat × EccError)) (s : State) (cycles : Nat := 0) : Host.Outcome State Fault Refusal :=
  .next (if !arrayOk array || !s.scrubs array || decide (cycles < s.get (PAGE.SCRUB_CTL.INTERVAL (arrayPage array))) then s
    else
      let row := (s.sram array).row
      let w := rowWords array
      let s1 := errs.foldl (fun t e => t.scrubError array (row * w + e.1 % w) e.2) s
      let last := decide (arrayRows array ≤ row + 1)
      let s2 := s1.setSram array fun r =>
        { r with row := if last then 0 else row + 1
                 fixedPrev := if last then r.fixedNow else r.fixedPrev
                 fixedNow := if last then [] else r.fixedNow
                 late := if last then r.pending else r.late }
      let p := arrayPage array
      if scrubShown p ≠ array then s2
      else
        let s3 := s2.put (PAGE.SCRUB_STAT.ROW p) (if last then 0 else row + 1)
        if last then s3.put (PAGE.SCRUB_STAT.PASSES p) (s3.get (PAGE.SCRUB_STAT.PASSES p) + 1) else s3)

/-- ECC_WRITE_BACK: a corrected word is written back, or its write-back is suppressed; either is counted. A word for which the model holds no
correction was corrected by a functional read. `written` says that a write has reached the word since, where the model does not see it:
for such a word, and for the arrays whose layout is not given (DESIGN CHOICE, log entry 63). A word that the scrubber corrected before it
began its present pass counts for the pass before (R416). -/
def execEccWriteBack (array index : Nat) (s : State) (written : Bool := false) : Host.Outcome State Fault Refusal :=
  .next (if !arrayOk array || !s.arrayHere array || decide (arrayRows array * rowWords array ≤ index) then s
    else
      let r := s.sram array
      let held := r.suppressed.contains index || r.merge.contains index ||
        (written && (!r.pending.contains index || [3, 4, 5, 9].contains array))
      let note (l : List Nat) (b : Bool) : List Nat := if held || !b || l.contains index then l else index :: l
      let s1 := s.setSram array fun r =>
        { r with pending := r.pending.filter (· != index), suppressed := r.suppressed.filter (· != index), late := r.late.filter (· != index)
                 fixedNow := note r.fixedNow (!r.late.contains index), fixedPrev := note r.fixedPrev (r.late.contains index) }
      s1.countCe array index)

/-- MERGE_FLUSH: an entry without a write for 4 cycles is written to its array with a fresh code: the one written longest ago (R420). -/
def execMergeFlush (array : Nat) (s : State) (cycles : Nat := 0) : Host.Outcome State Fault Refusal :=
  .next (if !arrayOk array || !s.arrayHere array || (s.sram array).merge = [] || decide (cycles < 4) then s
    else
      let r := s.sram array
      let i := r.idle.headD (r.merge.headD 0)
      (s.setSram array fun r => { r with merge := r.merge.filter (· != i), idle := r.idle.filter (· != i) }).wordWritten (array, i))

/-! ### Relayed scrubs of pool memory (R424, R425) -/

/-- MSCRUB_GO. -/
def execMscrubGo (s : State) : Host.Outcome State Fault Refusal :=
  .next (s.command TXN.MSCRUB_CMD.GO.key 1
    (fun s =>
      let n := s.get TXN.MSCRUB_CTL.COUNT
      if !s.isM then some .role
      else if [1, 2].contains (s.get TXN.MSCRUB_STAT.STATE) then some .busy
      else if n = 0 || decide (122880 < n) || decide (131072 < s.get TXN.MSCRUB_CTL.PAGE + n) then some .range
      else none)
    (fun s => (s.put TXN.MSCRUB_STAT.STATE 1).emit (.msvReq (s.get TXN.MSCRUB_CTL.PAGE) (s.get TXN.MSCRUB_CTL.COUNT))))

/-- MSV_REQ_ACK. -/
def execMsvReqAck (s : State) : Host.Outcome State Fault Refusal :=
  .next (if s.dmaRuns && s.get TXN.MSCRUB_STAT.STATE == 1 then s.put TXN.MSCRUB_STAT.STATE 2 else s)

/-- MSV_SUM_VALID. -/
def execMsvSumValid (sum : BitVec 256) (s : State) : Host.Outcome State Fault Refusal :=
  .next (if !s.dmaRuns then s
    else if s.get TXN.MSCRUB_STAT.STATE ≠ 2 then s.raise EV.TXN.MSCRUB_ORPHAN 0
    else
      let s1 := (List.range 4).foldl (fun t k => t.put (TXN.MSCRUB_SUM.DATA k) (bits sum.toNat (64 * k) 64)) s
      (s1.put TXN.MSCRUB_STAT.STATE 3).raise EV.TXN.MSCRUB_DONE (bits sum.toNat 34 2))

end Sys2Proof.Machine
end

