-- ==== Sys2Proof/Machine/Power.lean ====
section
/-!
DEFINITION. Power and heat (17_power_and_thermal_behaviour.md; 02_boundary_of_the_end.md R61 to R63): idling, budgets, the hot limit,
the stack throttle, rate steps, and lane parking.
-/

namespace Sys2Proof.Machine

/-! ### Idling (R426) -/

/-- Nothing is going on: the engine holds no transaction, and no channel is RUNNING or WAITING. -/
def State.idleNow (s : State) : Bool := !s.engHolds && !(List.range 4).any s.chBusy

/-- IDLE_CLOCKED_ENTRY: 1,024 DCLK cycles without activity. -/
def execIdleClockedEntry (cycles : Nat) (s : State) : Host.Outcome State Fault Refusal :=
  .next (if !s.chip.dieRst && s.get POWER.PWR_STAT.STATE == 0 && s.idleNow && decide (1024 ≤ cycles) then s.put POWER.PWR_STAT.STATE 1 else s)

/-! ### Budgets (R427 to R429) -/

/-- k of R428: the share of 64 ECLK cycles that the budget leaves to the engine. -/
def State.budgetCap (s : State) : Nat :=
  min 64 (max 1 (64 * (s.budget4 - 4 * s.fixedPower) / 9600))

/-- k as it applies: no cap without a valid budget, and at most 16 while the hot limit is in force (R429, R431). -/
def State.engineCap (s : State) : Nat :=
  let k := if s.inp.budgetValid then s.budgetCap else 64
  if s.pwr.hot then min 16 k else k

/-- PWR_DEMAND in steps of 31.25 mW, for `ready` of `period` ECLK cycles with an operation ready (R429). -/
def State.demand (s : State) (ready period : Nat) : Nat :=
  if s.isM && decide (0 < period) then (4 * (s.fixedPower * period + 2400 * min ready period) + 125 * period - 1) / (125 * period)
  else (4 * s.fixedPower + 124) / 125

/-- ENGINE_CAP_RECOMPUTE: the cap and the demand, and whether the budget is too small. -/
def execEngineCapRecompute (now : Beat) (ready period : Nat) (s : State) : Host.Outcome State Fault Refusal :=
  let s1 := (s.at now).accrue
  .next (if !s1.powered then s1
    else
      let s2 := (if s1.isM then s1.put POWER.BUDGET_STAT.ENG_CAP s1.engineCap else s1).put POWER.BUDGET_STAT.DEMAND (s1.demand ready period)
      s2.judgeBudget)

/-- The next lower agreed rate code, 8 GT/s or faster (R430). -/
def State.lowerRate (s : State) : Option Nat :=
  let now := min (s.get PHY.RATE_CTL.RATE) (s.get PHY.RATE_STAT.RATE)
  ((List.range 4).filter (fun r => decide (1 ≤ r) && decide (r < now) && bit (s.get IDENT.CAP_AGREED.CAP) r)).getLast?

/-- RATE_AUTO_STEP (R430): refused, and the rate held, where a RETRAIN would be. -/
def execRateAutoStep (now : Beat) (s : State) : Host.Outcome State Fault Refusal :=
  let s1 := s.at now
  .next (match s1.pwr.shortSince, s1.lowerRate with
    | some t, some r =>
      if s1.powered && s1.on POWER.THR_CTL.RATE_AUTO && s1.past t (s1.get POWER.THR_CTL.HOLD) && s1.retrainRefusal.isNone then
        (((s1.put PHY.RATE_CTL.RATE r).setPwr fun p => { p with shortSince := some s1.beat }).raise EV.POWER.RATE_STEP_DOWN r).askRetrain
      else s1
    | _, _ => s1)

/-- BUDGET_CHANGE: the budget is judged at once, and the cap follows at the next recomputation; with BUDGET_VALID the stack throttle
comes and goes, and what it held goes on (R428, R432). -/
def execBudgetChange (budget : BitVec 8) (valid : Bool) (s : State) : Host.Outcome State Fault Refusal :=
  let s1 : State := { s with inp := { s.inp with pin := { s.inp.pin with budget := budget, budgetValid := valid } } }
  .next (if s1.clkOn 0 then s1.accrue.latchPins.judgeBudget.throttleMoved else s1)

/-- STK_THR_CHANGE: the new levels apply, and what was held goes on (R63, R432). -/
def execStkThrChange (thr : BitVec 8) (s : State) : Host.Outcome State Fault Refusal :=
  let s1 : State := { s with inp := { s.inp with pin := { s.inp.pin with stkThr := thr } } }
  .next (if s1.clkOn 0 then s1.accrue.latchPins.throttleMoved else s1)

/-! ### Temperature (R61, R124, R431) -/

/-- The temperature has moved by DELTA_T or more since the previous run: a run starts, unless one is in progress (R124). -/
def State.tempRun (s : State) : State :=
  let d := toInt 10 s.inp.temp.toNat - toInt 10 (s.get CAL.RUN_STAT.T_LAST)
  if s.colIn [.active, .lowland] && s.clkOn 4 && s.cal.run.isNone && decide (4 * s.get CAL.DT_CTL.DELTA_T ≤ d.natAbs) then s.tryRun true else s

/-- TEMP_UPDATE, seen at an MCLK edge (R31, R61). -/
def execTempUpdate (temp : BitVec 10) (valid : Bool) (s : State) : Host.Outcome State Fault Refusal :=
  let s0 : State := { s with inp := { s.inp with pin := { s.inp.pin with temp := temp, tempValid := valid } } }
  .next (if !s0.clkOn 0 then s0
    else
      let s1 := s0.latchPins
      if s1.role == 0 then s1
      else if !valid then s1.tempLost
      else (((s1.setPwr fun p => { p with tempLow := false }).hotCheck).tempRun).runAgain)

/-! ### Parking (R433 to R436) -/

/-- PARK_CMD.GO. -/
def execParkGo (s : State) : Host.Outcome State Fault Refusal :=
  .next (s.command POWER.PARK_CMD.GO.key 1 State.parkRefusal State.askPark)

/-- PARK_CMD.WAKE. -/
def execParkWake (s : State) : Host.Outcome State Fault Refusal :=
  .next (s.command POWER.PARK_CMD.GO.key 2 (fun _ => none) (fun s => s.wake 3))

/-- PARK_IDLE_TIMEOUT: with AUTO, IDLE beats without bulk content. -/
def execParkIdleTimeout (now : Beat) (s : State) : Host.Outcome State Fault Refusal :=
  let s1 := s.at now
  .next (if !s1.chip.dieRst && s1.on POWER.PARK_CTL.AUTO && s1.past s1.pwr.lastContent (s1.get POWER.PARK_CTL.IDLE) && s1.parkRefusal.isNone then
      s1.askPark else s1)

/-- A frame is about a park of this end, or of the far end, at its beat. -/
def parkIs (own : Bool) (pl : Nat) (p : Proposal) : Bool := p.own == own && p.isPark && p.stage == 0 && p.beatIs (bits pl 0 22)

/-- PARK PROPOSE: crossing proposals are settled as R150 settles them. -/
def execParkProposeRx (c : SbCopies) (s : State) : Host.Outcome State Fault Refusal :=
  .next (s.receive c SbType.park.code fun _ pl s =>
    if bits pl 36 4 ≠ 1 then s
    else
      let beat := resolveBeat 22 (bits pl 0 22) s.beat
      let cross := s.rep.props.any (fun p => p.own && p.isPark && !p.accepted)
      if s.parkRefusal.isSome then s.declineFar .park beat
      else if s.known .park beat then s.acceptFar .park beat
      else if cross && s.wins then s.declineFar .park beat
      else
        let s1 := if cross then (s.dropProps (fun p => p.own && p.isPark && !p.accepted)).raise EV.REPAIR.REQ_WITHDRAWN 1 else s
        s1.acceptFar .park beat)

/-- PARK ACCEPT. -/
def execParkAcceptRx (c : SbCopies) (s : State) : Host.Outcome State Fault Refusal :=
  .next (s.receive c SbType.park.code fun _ pl s => if bits pl 36 4 ≠ 2 then s else s.acceptOwn (parkIs true pl))

/-- PARK DECLINE: the park is proposed again later (R139, R433). -/
def execParkDeclineRx (c : SbCopies) (s : State) : Host.Outcome State Fault Refusal :=
  .next (s.receive c SbType.park.code fun _ pl s => if bits pl 36 4 ≠ 3 then s else s.declinedBy (parkIs true pl))

/-- PARK CANCEL. -/
def execParkCancelRx (c : SbCopies) (s : State) : Host.Outcome State Fault Refusal :=
  .next (s.receive c SbType.park.code fun _ pl s => if bits pl 36 4 ≠ 4 then s else s.dropProps (parkIs false pl))

/-- PARK_BEAT: from K on no new bulk flit starts (R434); a park that meets another Col state than ACTIVE is void. -/
def execParkBeat (now : Beat) (s : State) : Host.Outcome State Fault Refusal :=
  let s1 := s.at now
  let due := s1.rep.props.filter (fun p => p.isPark && s1.reached p.beat)
  .next (if due = [] then s1
    else
      let s2 := s1.dropProps (fun p => p.isPark && s1.reached p.beat)
      if due.any (·.accepted) && s2.chip.col == .active && !s2.parked then s2.setPwr fun p => { p with stopping := true } else s2)

/-- Work that waits for a flit wakes the lanes again at once (R436): a request is the die's, a response the engine's. -/
def State.wakeForWork (s : State) : State :=
  match s.lnk.txQ with
  | [] => s
  | t :: _ => s.wake (if t.hdr.isResponse then 2 else 1)

/-- LANES_STOP: the replay buffer is acknowledged and no NAK episode is pending (R434). A Col that has gone to DRAIN meanwhile stops its lanes
too (R436). -/
def execLanesStop (s : State) : Host.Outcome State Fault Refusal :=
  .next (if s.pwr.stopping && s.colIn [.active, .drain] && s.outB == 0 && !s.on BULK.RPL_STAT.NAK_PENDING then
      let s1 := { (s.endBurst.setPwr fun p => { p with stopping := false }).put POWER.PWR_STAT.STATE 2 with chip := { s.chip with fwd := 16 } }
      ((s1.bump POWER.PARK_STAT.PARKS).raise EV.POWER.PARKED 0).wakeForWork
    else s)

/-- FAR_CLOCK_DETECT. -/
def execFarClockDetect (s : State) : Host.Outcome State Fault Refusal := .next (if s.chip.dieRst || s.role == 0 then s else s.wake 4)

/-- WAKE_HOLD_END: the wake is complete; what waited for it happens now (R435, R436). -/
def execWakeHoldEnd (s : State) : Host.Outcome State Fault Refusal :=
  .next (if !s.parked || !s.pwr.waking then s
    else
      let after := s.pwr.afterWake
      let run := s.pwr.runAfterWake
      let temp := s.pwr.runTemp
      let s1 := (s.put POWER.PWR_STAT.STATE 0).setPwr fun p =>
        { p with waking := false, afterWake := [], runAfterWake := false, runTemp := false, lastContent := s.beat }
      let s2 := s1.evalTriggers after
      let s3 := if run && s2.cal.run.isNone && s2.colIn [.active, .lowland] then (s2.setCal fun c => { c with again := true, againTemp := temp }).runAgain
        else s2.calContinue
      if after.contains .retrain && s3.retrainRefusal.isNone then s3.enterRetrain true else s3)

end Sys2Proof.Machine
end

