-- ==== Sys2Proof/Machine/Test.lean ====
section
/-!
DEFINITION. Package test (21_package_test_and_compatible_ends.md R486 to R497, R464): test mode, the interconnect patterns and their
results, and the IEEE 1500 wrapper.
-/

namespace Sys2Proof.Machine

/-! ### Starting a pattern (R491, R493) -/

/-- Fields of a control word laid out as BX_CTL and TEST_CTL (R489). -/
def ctlMode (c : Nat) : Nat := bits c 0 2
def ctlPattern (c : Nat) : Nat := bits c 4 2
def ctlRate (c : Nat) : Nat := bits c 8 2
def ctlLength (c : Nat) : Nat := bits c 16 16

/-- The first beat that is a multiple of 2^20 and at least 8,192 beats away (R493). -/
def alignedStart (now : Nat) : Nat := (now + 8192 + 2 ^ 20 - 1) / 2 ^ 20 * 2 ^ 20

/-- A pattern is started with a control word: in die loopback at once, else at the next aligned beat. MODE 0 and the reserved codes
name no pattern. -/
def State.startPattern (s : State) (ctl : Nat) (byWrapper : Bool) : State :=
  if ctlMode ctl = 0 || ctlMode ctl = 3 || ctlPattern ctl = 3 then s
  else
    let b := if ctlMode ctl = 2 then s.beat else BitVec.ofNat 64 (alignedStart s.beat.toNat)
    { (s.put TEST.TEST_STAT.RUNNING 1).put TEST.TEST_STAT.DONE 0 with
      test := { s.test with startAt := some b, begun := ctlMode ctl == 2, byWrapper := byWrapper, ctl := ctl } }

/-- Why TEST_CMD.ENTER is refused (R464): BUSY under the wrapper, STATE unless the Col is in RESET_HELD with the PLL locked. -/
def State.enterRefusal (s : State) : Option Reason :=
  if s.on TEST.WRAP_STAT.OWNER then some .busy
  else if s.chip.col ≠ .resetHeld ∨ s.chip.colReset = true ∨ s.on PHY.PLL_STAT.LOCKED = false then some .state else none

/-- TEST_CMD.ENTER; `errs` are the code words that the reads of O1 find in error (R414). -/
def execTestEnter (s : State) (errs : List ArrayErr := []) : Host.Outcome State Fault Refusal :=
  .next (s.command TEST.TEST_CMD.ENTER.key 1 State.enterRefusal
    (fun s => ((s.meet (fun a i => a == 12 && i / 128 == 1) errs).put TEST.TEST_STAT.IN_TEST 1).applyOverlay 1))

/-- Why TEST_CMD.GO is refused (R464). -/
def State.goRefusal (s : State) : Option Reason :=
  if s.on TEST.WRAP_STAT.OWNER then some .busy
  else if !s.on TEST.TEST_STAT.IN_TEST then some .state
  else if s.on TEST.TEST_STAT.RUNNING then some .busy else none

/-- TEST_CMD.GO. -/
def execTestGo (s : State) : Host.Outcome State Fault Refusal :=
  .next (s.command TEST.TEST_CMD.ENTER.key 2 State.goRefusal (fun s => s.startPattern (s.reg TEST.TEST_CTL.MODE.key).toNat false))

/-- Why TEST_CMD.EXIT is refused. -/
def State.exitRefusal (s : State) : Option Reason := if s.on TEST.WRAP_STAT.OWNER then some .busy else none

/-- Every trim is back at its reset code, and the scramblers of both directions are unseeded (R497). -/
def State.resetTrims (s : State) : State :=
  let keys := (List.range 5).map (fun g => (CAL.TRIM_DUTY.CODE g).key) ++ (List.range 5).map (fun g => (CAL.TRIM_PHASE.CODE g).key) ++
    (List.range 145).map (fun i => (CAL.TRIM_DESKEW.CODE i).key) ++ (List.range 145).map (fun i => (CAL.TRIM_OFFSET.CODE i).key) ++
    (List.range 145).map (fun i => (PHY.TX_DRIVE.CODE i).key)
  (keys.foldl (fun t k => t.setReg k (regReset k)) s).setCal fun c => { c with txSeed := none, rxSeed := [], seeded := false }

/-- Test mode is left (R464, R497). -/
def State.leaveTest (s : State) : State := (s.abortPattern.put TEST.TEST_STAT.IN_TEST 0).resetTrims

/-- TEST_CMD.EXIT: leaves test mode; the Col stays in RESET_HELD. -/
def execTestExit (s : State) : Host.Outcome State Fault Refusal :=
  .next (s.command TEST.TEST_CMD.ENTER.key 4 State.exitRefusal
    (fun s => if s.on TEST.TEST_STAT.IN_TEST then s.leaveTest else s))

/-- Replace the test logic's state. -/
def State.setTest (s : State) (f : TestLogic → TestLogic) : State := { s with test := f s.test }

/-- The time that a pattern is measured by: the beat counter, or on an unused end, which keeps none, the beats that have passed (R70, R490,
R491). -/
def State.testTime (s : State) (now : Beat) : Beat := if s.role = 0 then now else s.beat

/-! ### Transmitters (R494, R496) -/

/-- The level expected on wire `w` in step `st` of a walking pattern. -/
def walkExpected (zero : Bool) (st w : Nat) : Bool := (st == w) != zero

/-- The levels of the TX wires in step `st` of a walking pattern: wire `st` alone differs, and in step 166 none does. -/
def walkDrive (zero : Bool) (st : Nat) : Nat := let one := if st < 166 then 2 ^ st else 0; if zero then 2 ^ 166 - 1 - one else one

/-- A step of a walking pattern is driven. Under BX_WIRE the drive cells take its levels; an unused end drives no wire, nor does die
loopback, which is joined ahead of the output stages (R490, R491).  DEDUCED (log entry 49). -/
def State.driveStep (s : State) (st : Nat) : State :=
  let v := walkDrive (ctlPattern s.test.ctl == 1) st
  let s1 := if s.test.byWrapper && ctlMode s.test.ctl == 1 then
      s.setTest fun t => { t with drive := BitVec.ofNat 332 (bits t.drive.toNat 0 166 + v * 2 ^ 166) }
    else s
  if s1.role = 0 || ctlMode s.test.ctl == 2 then s1 else s1.emit (.wires v)

/-- The wires that carry PRBS31: all but the forwarded and sideband clocks (R496). -/
def carriesPrbs (w : Nat) : Bool := decide (w < 145) || (decide (155 ≤ w) && decide (w ≤ 159)) || [161, 163, 165].contains w

/-- The PRBS31 streams start, each generator in seed(256 + w), with the clock wires running, and with the receivers terminated at 12 and
16 GT/s. -/
def State.driveStreams (s : State) : State :=
  let rate := ctlRate s.test.ctl
  if s.role = 0 || ctlMode s.test.ctl == 2 then s
  else s.emit (.streams rate (((List.range 166).filter carriesPrbs).map (fun w => (w, scramblerSeed (256 + w))))
    ((List.range 166).filter (fun w => !carriesPrbs w)) (decide (2 ≤ rate)))

/-- TEST_PATTERN_START: the transmitter begins with step 0, or with the streams. -/
def execTestPatternStart (now : Beat) (s : State) : Host.Outcome State Fault Refusal :=
  let s1 := s.at now
  .next (match s1.test.startAt with
    | some b =>
      if s1.chip.dieRst || s1.test.begun || decide (s1.testTime now < b) then s1
      else
        let s2 := s1.setTest (fun t => { t with begun := true })
        if ctlPattern s2.test.ctl = 2 then s2.driveStreams else s2.driveStep 0
    | none => s1)

/-! ### Receivers (R494, R496) -/

/-- Samples of wire `w` that were 1, in runs of samples. -/
def onesOf (runs : List (Nat × BitVec 166)) (w : Nat) : Nat := runs.foldl (fun n r => if r.2.getLsbD w then n + r.1 else n) 0

/-- The majority of 64 samples; where they are level, a free value. -/
def majority (ones : Nat) (tie : Bool) : Bool := if ones = 32 then tie else decide (32 < ones)

/-- The value of every wire in every step, by the majority of its samples.  DESIGN CHOICE (log entry 49): R494 gives no majority of 32 against
32, and one free value's bits stand for them. -/
def sampledSteps (free : Nat) (ones : Nat → Nat → Nat) : List (BitVec 166) :=
  (List.range 167).map (fun st =>
    BitVec.ofNat 166 ((List.range 166).foldl (fun n w => n + b2n (majority (ones st w) (bit free (166 * st + w))) * 2 ^ w) 0))

/-- Samples of a wire that are 1 in a step of die loopback: those of this end's own transmitter, but for what a fault in the die inverts
(R491). -/
def joinedOnes (zero : Bool) (faults : List (Nat × Nat × Nat)) (st w : Nat) : Nat :=
  let n := ((List.range 64).filter (fun i => faults.contains (st, 96 + i, w))).length
  if walkExpected zero st w then 64 - n else n

/-- The values of the steps from what the receivers sampled; a wired pattern is not observed as a joined one is, nor the other way round. -/
def stepValues (ctl free : Nat) : TestObs → Option (List (BitVec 166))
  | .walking steps => if ctlMode ctl = 2 then none else some (sampledSteps free (fun st w => onesOf (steps.getD st []) w))
  | .joined faults => if ctlMode ctl = 2 then some (sampledSteps free (joinedOnes (ctlPattern ctl == 1) faults)) else none
  | .prbs _ => none

/-- UI of a bit of wire `w` at a rate: a sideband data wire runs at 250 Mb/s, a bit in four beats (R59, R81, R496). -/
def bitUi (rate w : Nat) : Nat := if 160 ≤ w then 16 * (rate + 1) else 1

/-- Bit `k` of a wire comes other than the stream that reaches the wire. -/
def flipped (flips : List (Nat × Nat)) (w k : Nat) : Bool := (flips.filter (fun e => e == (w, k))).length % 2 == 1

/-- Bit `k` of a wire is mispredicted: the checker has the 31 bits before it from the line itself, and predicts the sum of the 28th and the
31st of them (R83, R496). A stream that the polynomial gives is therefore predicted whatever its state, and each bit that comes wrong
shows when it comes and in the predictions that use it. -/
def mispredicted (flips : List (Nat × Nat)) (w k : Nat) : Bool :=
  flipped flips w k != (flipped flips w (k - 28) != flipped flips w (k - 31))

/-- Mispredicted bits of a wire, from UI 2^20 for LENGTH · 2^16 UI. -/
def wireErrors (ctl : Nat) (flips : List (Nat × Nat)) (w : Nat) : Nat :=
  let near := (((flips.filter (fun e => e.1 == w)).map (fun e => [e.2, e.2 + 28, e.2 + 31])).flatten).eraseDups
  let ui := bitUi (ctlRate ctl) w
  (near.filter (fun k => decide (2 ^ 20 ≤ ui * k) && decide (ui * k < 2 ^ 20 + ctlLength ctl * 2 ^ 16) && mispredicted flips w k)).length

/-! ### Results (R494 to R496) -/

/-- What a walking pattern leaves in WIRE_RES[w] (R495). -/
def walkResult (zero : Bool) (steps : List (BitVec 166)) (w : Nat) : Nat :=
  let reads := steps.map (fun v => v.getLsbD w)
  let stuck0 := reads.all (fun b => !b)
  let stuck1 := reads.all (fun b => b)
  let idx := List.range steps.length
  let wrong := idx.filter (fun st => reads.getD st false != walkExpected zero st w)
  let foreign := if stuck0 || stuck1 then none else idx.find? (fun st => st != w && reads.getD st false == !zero)
  packLow [(1, 1), (b2n stuck0, 1), (b2n stuck1, 1), (b2n foreign.isSome, 1), (0, 4), (wrong.length, 24), (0, 8), (foreign.getD 0, 8)]

/-- The wires that read a wrong level in a step, lowest first. -/
def wrongWires (zero : Bool) (v : BitVec 166) (st : Nat) : List Nat :=
  (List.range 166).filter (fun w => v.getLsbD w != walkExpected zero st w)

/-- The lowest wire that is wrong in the earliest step in which any is. -/
def firstWrong (zero : Bool) : Nat → List (BitVec 166) → Option Nat
  | _, [] => none
  | st, v :: vs => match wrongWires zero v st with
    | w :: _ => some w
    | [] => firstWrong zero (st + 1) vs

/-- What a PRBS31 pattern leaves in WIRE_RES[w]. -/
def prbsResult (ctl : Nat) (flips : List (Nat × Nat)) (w : Nat) : Nat :=
  if carriesPrbs w then packLow [(1, 1), (0, 7), (min (wireErrors ctl flips w) (2 ^ 24 - 1), 24)] else 0

/-- Beats from the start of a pattern to its end: 42,752, or the PRBS31 length at its rate and 4,096 more. -/
def patternBeats (ctl : Nat) : Nat :=
  if ctlPattern ctl = 2 then (2 ^ 20 + ctlLength ctl * 2 ^ 16 + 4 * (ctlRate ctl + 1) - 1) / (4 * (ctlRate ctl + 1)) + 4096 else 42752

/-- Windows 1 to 3 of R119 have set a trim: to what, only the wires decide. -/
def State.freeTrim (k : TrimKind) (s : State) (i : Nat) : State :=
  let (v, s1) := s.draw
  s1.put (trimCode k i) (match k with | .offset => ofInt 6 ((v % 61 : Nat) - 30) | _ => v)

/-- Every receive trim after windows 1 to 3. -/
def State.freeTrims (s : State) : State :=
  let s1 := (List.range 5).foldl (State.freeTrim .phase) ((List.range 5).foldl (State.freeTrim .duty) s)
  (List.range 145).foldl (State.freeTrim .offset) ((List.range 145).foldl (State.freeTrim .deskew) s1)

/-- The results are published: FAIL_N, TEST_WIRE_FAIL with its wire, and TEST_DONE. -/
def State.publishTest (s : State) (res : Nat → Nat) (first : List Nat → State → Nat × State) : State :=
  let s1 := (List.range 166).foldl (fun t w => t.setReg (TEST.WIRE_RES.TESTED w).key (BitVec.ofNat 64 (res w))) s
  let fails := (List.range 166).filter (fun w => bits (res w) 8 24 != 0)
  let s2 := (s1.stopPattern.put TEST.TEST_STAT.DONE 1).put TEST.TEST_STAT.FAIL_N fails.length
  let s3 := if fails = [] then s2 else
    let (w, t) := first fails s2
    t.raise EV.TEST.TEST_WIRE_FAIL w
  s3.raise EV.TEST.TEST_DONE fails.length

/-- The PRBS31 streams end: windows 1 to 3 have set the trims, and drive cells that the streams went through are left at some bit of
theirs, a free value.  Which failing wire PRBS31 names is open: R495 gives an order to walking patterns alone. -/
def State.streamsEnd (s : State) (flips : List (Nat × Nat)) : State :=
  let s1 := if s.test.byWrapper && ctlMode s.test.ctl == 1 then
      let (v, t) := s.draw
      t.setTest fun x => { x with drive := BitVec.ofNat 332 (bits x.drive.toNat 0 166 + v * 2 ^ 166) }
    else s
  s1.freeTrims.publishTest (prbsResult s.test.ctl flips) (fun fails t => let (v, t1) := t.draw; (fails.getD (v % fails.length) 0, t1))

/-- A walking pattern ends: its other steps have been driven, and the values of all steps give the results. -/
def State.walkEnd (s : State) (obs : TestObs) : State :=
  let (v, s1) := s.draw
  match stepValues s.test.ctl v obs with
  | none => s
  | some steps =>
    let zero := ctlPattern s.test.ctl == 1
    (((List.range 166).foldl (fun t st => t.driveStep (st + 1)) s1).publishTest (walkResult zero steps)
      (fun _ t => ((firstWrong zero 0 steps).getD 0, t)))

/-- TEST_PATTERN_END. -/
def execTestPatternEnd (now : Beat) (obs : TestObs) (s : State) : Host.Outcome State Fault Refusal :=
  let s1 := s.at now
  let ctl := s1.test.ctl
  .next (match s1.test.startAt with
    | none => s1
    | some b =>
      if !obs.wf || s1.chip.dieRst || !s1.test.begun || decide (s1.testTime now < b) || decide ((s1.testTime now - b).toNat < patternBeats ctl) then s1
      else if ctlPattern ctl = 2 then (match obs with
        | .prbs flips => s1.streamsEnd flips
        | _ => s1)
      else s1.walkEnd obs)

/-! ### The wrapper (R486 to R492) -/

/-- The codes of the instructions other than WS_BYPASS; every other code acts as WS_BYPASS (R487). -/
def wrapperCodes : List Nat := [1, 2, 3, 0x20, 0x21, 0x22, 0x23]

/-- An instruction is loaded: any but WS_BYPASS stops a pattern that firmware started, with no wire tested (R490). -/
def State.loadWir (s : State) (wir : Nat) (owner : Bool) : State :=
  let s1 := (s.put TEST.WRAP_STAT.WIR wir).put TEST.WRAP_STAT.OWNER (b2n owner)
  if wrapperCodes.contains wir ∧ s1.on TEST.TEST_STAT.RUNNING ∧ s1.test.byWrapper = false then
    (List.range 166).foldl (fun t w => t.put (TEST.WIRE_RES.TESTED w) 0) s1.stopPattern
  else s1

/-- WS_EXTEST, BX_WIRE and BX_LOOPBACK take effect (R490). -/
def State.wrapperActs (s : State) : Bool := s.colIn [.off, .resetHeld]

/-- The bits of a number, lowest first. -/
def bitList (w n : Nat) : List Bool := (List.range w).map (bit n)

/-- Bits shifted through the 1-bit bypass register: what it held leaves first, and the last bit stays in it (R487). -/
def State.throughBypass (s : State) (wsi : List Bool) : State :=
  let all := s.test.bypass :: wsi
  (s.setTest fun t => { t with bypass := all.getLastD false }).emit (.wso all.dropLast)

/-- WS_BYPASS, by its own code or by a reserved one, which WIR shows; one bit is shifted (R487). A code of another instruction is not
loaded by this command. -/
def execWsBypass (s : State) (wir : BitVec 8 := 0) (wsi : Bool := false) : Host.Outcome State Fault Refusal :=
  .next (if s.chip.dieRst || wrapperCodes.contains wir.toNat then s else (s.loadWir wir.toNat false).throughBypass [wsi])

/-- WS_EXTEST: CaptureWR, the shift of the boundary register, and UpdateWR. An unused end drives nothing (R488, R490). -/
def execWsExtest (drive : BitVec 332) (rx : BitVec 166) (s : State) : Host.Outcome State Fault Refusal :=
  .next (if s.chip.dieRst then s
    else
      let s1 := s.loadWir 1 false
      if !s1.wrapperActs then s1.throughBypass (bitList 332 drive.toNat)
      else
        let out := bitList 166 rx.toNat ++ bitList 166 (bits s1.test.drive.toNat 166 166)
        let s2 := (s1.setTest fun t => { t with drive := drive, capture := rx }).emit (.wso out)
        if s2.role = 0 then s2 else s2.emit (.wires (bits drive.toNat 166 166)))

/-- WS_PRELOAD: the boundary register is shifted without a capture, and the drive cells are loaded without driving (R487, R488). -/
def execWsPreload (drive : BitVec 332) (s : State) : Host.Outcome State Fault Refusal :=
  .next (if s.chip.dieRst then s
    else
      ((s.loadWir 2 false).setTest fun t => { t with drive := drive }).emit (.wso (bitList 332 s.test.drive.toNat)))

/-- WS_INTEST_SCAN: the chains are not described, and nothing of them is part of the state. -/
def execWsIntestScan (s : State) : Host.Outcome State Fault Refusal := .next (if s.chip.dieRst then s else s.loadWir 3 false)

/-- BX_CTL reaches UpdateWR: GO runs the pattern and EXIT leaves test mode (R489). -/
def State.bxUpdate (s : State) (ctl : Nat) : State :=
  let s1 := if bit ctl 2 && !s.on TEST.TEST_STAT.RUNNING then (s.put TEST.TEST_STAT.IN_TEST 1).startPattern ctl true else s
  if bit ctl 3 && s1.on TEST.TEST_STAT.IN_TEST then s1.leaveTest else s1

/-- BX_CTL is shifted and updated: what it held leaves on WSO (R487, R489). -/
def State.bxShift (s : State) (ctl : BitVec 32) : State :=
  (s.setTest fun t => { t with bxCtl := ctl }).emit (.wso (bitList 32 s.test.bxCtl.toNat))

/-- BX_WIRE. Outside OFF and RESET_HELD it acts as WS_BYPASS (R490). -/
def execBxWire (ctl : BitVec 32) (s : State) : Host.Outcome State Fault Refusal :=
  .next (if s.chip.dieRst then s
    else if s.wrapperActs then ((s.loadWir 0x20 true).bxShift ctl).bxUpdate ctl.toNat
    else (s.loadWir 0x20 false).throughBypass (bitList 32 ctl.toNat))

/-- BX_RES: the results of the last pattern, TESTED, STUCK0, STUCK1 and FOREIGN of each wire (R489). -/
def execBxRes (s : State) : Host.Outcome State Fault Refusal :=
  .next (if s.chip.dieRst then s
    else
      let s1 := s.loadWir 0x21 false
      s1.emit (.wso (((List.range 166).map (fun w => bitList 4 (s1.reg (TEST.WIRE_RES.TESTED w).key).toNat)).flatten)))

/-- BX_LOOPBACK: as BX_WIRE, in die loopback. -/
def execBxLoopback (ctl : BitVec 32) (s : State) : Host.Outcome State Fault Refusal :=
  .next (if s.chip.dieRst then s
    else if s.wrapperActs then ((s.loadWir 0x22 true).bxShift ctl).bxUpdate (ctl.toNat / 4 * 4 + 2)
    else (s.loadWir 0x22 false).throughBypass (bitList 32 ctl.toNat))

/-- BX_ARRAY_BIST: what BX_BIST held is shifted out, and the self-test starts. -/
def execBxArrayBist (s : State) : Host.Outcome State Fault Refusal :=
  .next (if s.chip.dieRst then s
    else
      let s1 := s.loadWir 0x23 false
      (s1.setTest fun t => { t with bist := 0, bistRuns := true }).emit (.wso (bitList 16 s1.test.bist.toNat)))

/-- Every array is zeroed with good codes (R492): the tables and overlay slots, the Basin, and the buffers. -/
def State.zeroArrays (s : State) : State :=
  let z := s.zeroBuffers
  { z with
    tbl := [], tblZeroed := true, basin := [], basinZeroed := true, arrays := []
    chip := { z.chip with badOvl := [] }
    txn := { z.txn with badBinds := [] }
    eng := { z.eng with badSlots := [] } }

/-- BIST_DONE: DONE and the pass bits. -/
def execBistDone (pass : BitVec 12) (s : State) : Host.Outcome State Fault Refusal :=
  .next (if s.chip.dieRst || !s.test.bistRuns then s
    else
      let s1 := s.zeroArrays
      s1.setTest fun t => { t with bistRuns := false, bist := BitVec.ofNat 16 (2 ^ 15 + pass.toNat) })

/-- WRAPPER_RESET. -/
def execWrapperReset (s : State) : Host.Outcome State Fault Refusal := .next (if s.chip.dieRst then s else s.loadWir 0 false)

end Sys2Proof.Machine
end

