-- ==== Sys2Proof/Machine/HostPort.lean ====
section
/-!
DEFINITION. The host port (02_boundary_of_the_end.md R51 to R57, 18_register_pages_0_to_7.md R439 to R453): reads with their derived
fields, writes with the commands that registers hold, broadcast, and remote page access over the sideband.
-/

namespace Sys2Proof.Machine

/-! ### Reading a register (R439, R443, R448, R452, R453) -/

/-- Arrays whose counters the page holds in this role (PAGE_CAP.ARRAYS). -/
def State.pageArrays (s : State) (p : Nat) : Nat :=
  match p with
  | 1 | 5 | 6 => 1
  | 7 | 10 => 3
  | 8 => if s.isM then 1 else 0
  | 11 => 2
  | _ => 0

/-- Pages with a bit set in EVT_STAT, or in both EVT_STAT and EVT_EN (R448). -/
def State.evtPages (s : State) (enabled : Bool) : Nat :=
  packLow ((List.range 16).map (fun p =>
    (b2n (s.present p && (s.reg (PAGE.EVT_STAT p).key &&& (if enabled then s.reg (PAGE.EVT_EN p).key else BitVec.allOnes 64)) != 0), 1)))

/-- The level of END_IRQ (R58). -/
def State.irq (s : State) : Bool := s.evtPages true != 0

/-- The word with a field replaced. -/
def withField (w : Word) (f : Field) (v : Nat) : Word := setBits w f.lo f.width v

/-- The RW fields that do not serve the role read zero (R453). -/
def State.maskRole (s : State) (w : Word) : List RwField → Word
  | [] => w
  | f :: fs => s.maskRole (if s.serves f.serves then w else setBits w f.lo f.width 0) fs

/-- A common register of a page. -/
def State.readCommon (s : State) (page off : Nat) : Word :=
  match off with
  | 0x000 => BitVec.ofNat 64 (packLow [(page, 4), (s.get IDENT.FUSE_STAT.ROLE, 4), (2, 4), (0, 4), (0xB2C0, 16)])
  | 0x008 => BitVec.ofNat 64 (packLow [(1, 1), (s.pageArrays page, 3)])
  | 0x018 => withField (s.reg (4096 * page + 0x018)) (PAGE.PAGE_STAT.CLK_ALIVE page) (s.chip.clk.toNat &&& pageDomains page)
  | 0x020 | 0x028 | 0x038 | 0x040 => s.reg (4096 * page + off)
  | _ => 0

/-- LEASE of R462: the own expiry in OWNER, the partner's in STANDBY and CLAIMING. -/
def State.leaseShown (s : State) : Nat :=
  match s.prole with
  | 5 => s.pair.expiry.toNat
  | 2 | 3 => s.pair.eLast.toNat
  | _ => 0

/-- The fields of a register that follow other state, put into the word that the register holds. -/
def State.derived (s : State) (key : Nat) (w : Word) : Word :=
  if key = IDENT.BEAT_LO.COUNT.key then BitVec.ofNat 64 (s.beat.toNat % 2 ^ 32)
  else if key = IDENT.COL_STATE.STATE.key then
    BitVec.ofNat 64 (packLow [(s.chip.col.code, 4), (s.get POWER.PWR_STAT.STATE, 2), (b2n s.steer, 1)])
  else if key = IDENT.CLK_ALIVE.ALIVE.key then s.chip.clk.setWidth 64
  else if key = IDENT.EVT_PAGES.PEND.key then BitVec.ofNat 64 (packLow [(s.evtPages true, 16), (s.evtPages false, 16)])
  else if key = BULK.RPL_STAT.OUTSTANDING.key then
    withField (withField w BULK.RPL_STAT.OUTSTANDING s.outB) BULK.RPL_STAT.FULL (b2n (decide (256 ≤ s.outB)))
  else if key = TXN.OUT_STAT.REQ.key then
    withField (withField w TXN.OUT_STAT.REQ s.txn.outT.length) TXN.OUT_STAT.SERVED s.txn.served.length
  else if key = TXN.LOST_FIFO.CTX.key then
    match s.lostQ with
    | [] => BitVec.ofNat 64 (b2n s.lostOvf * 2 ^ 15)
    | e :: _ => BitVec.ofNat 64 (packLow [(e.ctx, 14), (1, 1), (b2n s.lostOvf, 1), (e.cause, 4), (0, 12), (e.beat, 32)])
  else if key = TIME.LEVEL_STAT.L_MIN.key then
    withField (withField w TIME.LEVEL_STAT.SUSP (b2n s.suspendedNow)) TIME.LEVEL_STAT.ON (b2n (s.levelAgreed && s.chip.col != .lowland))
  else if key = TIME.MARK_STAT.OWN_MEAS.key then withField w TIME.MARK_STAT.REF (b2n s.wins)
  else if key = TIME.LOCK_STAT.BEAT_LOCK.key then withField w TIME.LOCK_STAT.BEAT_LOCK (b2n s.chip.beatLock)
  else if key = PAIR.ROLE_STAT.PROLE.key then withField w PAIR.ROLE_STAT.LEASE s.leaseShown
  else if key = PAIR.LIVE_STAT.ALIVE.key then withField w PAIR.LIVE_STAT.ALIVE (setBit (bits w.toNat 0 4) s.orig)
  else if key = POWER.PWR_STAT.STATE.key then withField w POWER.PWR_STAT.ECLK_IDLE (b2n s.eclkIdle)
  else if key = POWER.BUDGET_STAT.ENG_CAP.key then
    if s.role = 0 then withField w POWER.BUDGET_STAT.ENG_CAP 0 else
    let w1 := withField (withField w POWER.BUDGET_STAT.BUDGET s.inp.budget.toNat) POWER.BUDGET_STAT.BUDGET_VALID (b2n s.inp.budgetValid)
    let w2 := withField (withField w1 POWER.BUDGET_STAT.TEMP s.inp.temp.toNat) POWER.BUDGET_STAT.TEMP_VALID (b2n s.inp.tempValid)
    if s.isM then w2 else withField w2 POWER.BUDGET_STAT.ENG_CAP 0
  else if key = POWER.STK_STAT.HELD0.key || key = POWER.STK_STAT_HI.HELD2.key then s.accrue.reg key
  else w

/-- The wide registers: keys of their lower words (R452). -/
def wideLow (key : Nat) : Bool :=
  [TXN.SPEC_STAT.RUNAHEAD_COMMITTED.key, DEFILE.SAFE_STAT.SAT.key, BASIN.ADM_STAT.DENIED.key, PAIR.MIR_STAT.BEGUN.key, POWER.STK_STAT.HELD0.key,
   (DMA.CH_CNT.RD_OUT 0).key, (DMA.CH_CNT.RD_OUT 1).key, (DMA.CH_CNT.RD_OUT 2).key, (DMA.CH_CNT.RD_OUT 3).key].contains key

/-- The register as it stands, without the latch of wide registers. -/
def State.readLive (s : State) (key : Nat) : Word :=
  let page := key / 4096
  let off := key % 4096
  if !s.present page then 0
  else if off < 0x100 then s.readCommon page off
  else match rowOf key with
    | none => 0
    | some row => s.maskRole (s.derived key (s.reg key)) row.rw &&& ~~~ BitVec.ofNat 64 row.wo

/-- What a read of a register returns: the upper word of a wide register is the one latched. -/
def State.readWord (s : State) (key : Nat) : Word :=
  if wideLow (key - 8) then (Sparse.find s.chip.wide key).getD 0 else s.readLive key

/-- The key of a host-port word address with MB_APER 0, if it is one of the register space (R447). -/
def regKey (addr : Nat) : Option Nat := if 2 ^ 13 ≤ addr then none else some (8 * addr)

/-- Latch the upper word of a wide register. -/
def State.latchWide (s : State) (key : Nat) : State :=
  { s with chip := { s.chip with wide := Sparse.set (key + 8) (some (s.readLive (key + 8))) s.chip.wide } }

/-! ### Reads with an effect -/

/-- BEAT_LO_READ (R448). -/
def execBeatLoRead (s : State) : Host.Outcome State Fault Refusal :=
  .next (s.accessRead 1 fun s => (s.put IDENT.BEAT_HI.COUNT (s.beat.toNat / 2 ^ 32)).mbRead (s.readLive IDENT.BEAT_LO.COUNT.key))

/-- A read of a table word (R465, R466): with MB_APER 1, by the index of the word; what it finds in error is met first (R414). -/
def State.tableRead (s : State) (idx : Nat) (errs : List ArrayErr) : State :=
  s.accessRead (s.aperNeeds idx) fun s =>
    let t := if s.isM || tblOverlay idx then s.meet (fun a i => (a, i) == tblArray idx) errs else s
    t.mbRead (t.tblRead idx)

/-- WIDE_REGISTER_READ: a read by word address. Of a register (R452): the lower word of a wide one latches the upper, BEAT_LO and LOST_FIFO
act as their own rows say (R448, R456), and any other is only read. With MB_APER 1 it reads a table word. -/
def execWideRegisterRead (addr : BitVec 18) (s : State) (aper : Bool := false) (errs : List ArrayErr := []) : Host.Outcome State Fault Refusal :=
  if aper then .next (s.tableRead addr.toNat errs)
  else match regKey addr.toNat with
    | none => .next (s.access 1 State.mbError)
    | some key =>
      if key = IDENT.BEAT_LO.COUNT.key then execBeatLoRead s
      else if key = TXN.LOST_FIFO.CTX.key then execLostFifoRead s
      else .next (s.accessRead (s.needs key) fun s => (if wideLow key && s.present (key / 4096) then s.latchWide key else s).mbRead (s.readWord key))

/-! ### Common registers -/

/-- EVT_STAT_CLEAR: a hardware set in the same cycle wins (R444). -/
def execEvtStatClear (page : Fin 16) (mask : Word) (hw : Option (Nat × BitVec 48)) (s : State) : Host.Outcome State Fault Refusal :=
  .next (s.access 1 fun s =>
    let s1 := s.hostWrite (PAGE.EVT_STAT page.val).key mask
    match hw with
    | some (b, v) => if b < eventCount page.val then s1.deliver page.val b v.toNat false else s1
    | none => s1)

/-- EVT_FORCE (R443). -/
def execEvtForce (page : Fin 16) (mask : Word) (s : State) : Host.Outcome State Fault Refusal :=
  .next (s.access 1 fun s => s.hostWrite (PAGE.EVT_FORCE page.val).key mask)

/-- EVT_FIRST_CLEAR (R443). -/
def execEvtFirstClear (page : Fin 16) (s : State) : Host.Outcome State Fault Refusal :=
  .next (s.access 1 fun s => s.hostWrite (PAGE.EVT_FIRST.VALID page.val).key 0x40)

/-- CNT_CLR (R443). -/
def execCntClr (page : Fin 16) (s : State) : Host.Outcome State Fault Refusal :=
  .next (s.command (PAGE.PAGE_CTL.CNT_CLR page.val).key 1 (fun _ => none) (fun s => s.clearPage page.val))

/-- APPLY_O3 (R469); `errs` is what the reads of the slot find in error (R414). -/
def execApplyO3 (s : State) (errs : List ArrayErr := []) : Host.Outcome State Fault Refusal :=
  .next (s.command RESET.OVL_CMD.APPLY_O3.key 1 (fun _ => none) (fun s => (s.meet (fun a i => a == 12 && i / 128 == 3) errs).applyOverlay 3))

/-! ### Registers with a row of their own -/

/-- TX_DRIVE_WRITE (R129). -/
def execTxDriveWrite (site : Nat) (code : BitVec 4) (s : State) : Host.Outcome State Fault Refusal :=
  .next (if siteOk site then
      s.access (s.needs (PHY.TX_DRIVE.CODE site).key) fun s => s.hostWrite (PHY.TX_DRIVE.CODE site).key (code.setWidth 64)
    else s)

/-- TRIM_WRITE (R129). -/
def execTrimWrite (kind : TrimKind) (idx : Nat) (code : BitVec 7) (s : State) : Host.Outcome State Fault Refusal :=
  .next (if trimOk kind idx then
      s.access (s.needs (trimCode kind idx).key) fun s => s.hostWrite (trimCode kind idx).key (code.setWidth 64)
    else s)

/-- RATE_CTL_WRITE (R112). -/
def execRateCtlWrite (rate : BitVec 2) (s : State) : Host.Outcome State Fault Refusal :=
  .next (s.access (s.needs PHY.RATE_CTL.RATE.key) fun s => s.hostWrite PHY.RATE_CTL.RATE.key (rate.setWidth 64))

/-! ### Remote page access (R449 to R451) -/

/-- The data of a write of RPA_CMD. -/
def rpaData (wr : Bool) (page word lsb width data : Nat) : Word :=
  BitVec.ofNat 64 (packLow [(1, 1), (b2n wr, 1), (page, 4), (word, 9), (lsb, 6), (width, 4), (0, 7), (data, 16)])

/-- Firmware starts a remote access, unless the slot is in use. -/
def State.rpaCmd (s : State) (wr : Bool) (page word lsb width data : Nat) : State :=
  s.command PHY.RPA_CMD.GO.key (rpaData wr page word lsb width data) (fun s => if s.sb.rpa.isSome then some .busy else none)
    (fun s => s.rpaStart wr (pagePayload page word lsb width data) true)

/-- RPA_READ. -/
def execRpaRead (page : BitVec 4) (word : BitVec 9) (lsb : BitVec 6) (width : BitVec 4) (s : State) : Host.Outcome State Fault Refusal :=
  .next (s.rpaCmd false page.toNat word.toNat lsb.toNat width.toNat 0)

/-- RPA_WRITE. -/
def execRpaWrite (page : BitVec 4) (word : BitVec 9) (lsb : BitVec 6) (width : BitVec 4) (data : BitVec 16) (s : State) :
    Host.Outcome State Fault Refusal :=
  .next (s.rpaCmd true page.toNat word.toNat lsb.toNat width.toNat data.toNat)

/-- The slot is free again: the calibration's next write takes it, or its run goes on. -/
def State.rpaFree (s : State) : State := (({ s with sb := { s.sb with rpa := none } }.put PHY.RPA_STAT.BUSY 0).rpaNext).calContinue

/-- RPA_RETRY: every 1,024 beats, four copies in all. -/
def execRpaRetry (now : Beat) (s : State) : Host.Outcome State Fault Refusal :=
  let s1 := s.at now
  .next (match s1.sb.rpa with
    | some a => if a.seqs.length < 4 && s1.past a.lastSent 1024 then s1.rpaSend a else s1
    | none => s1)

/-- A firmware access is complete with a status. -/
def State.rpaEnd (s : State) (status : Nat) : State := ((s.put PHY.RPA_STAT.DONE 1).put PHY.RPA_STAT.STATUS status).raise EV.PHY.RPA_DONE status

/-- RPA_TIMEOUT: STATUS 4. -/
def execRpaTimeout (now : Beat) (s : State) : Host.Outcome State Fault Refusal :=
  let s1 := s.at now
  .next (match s1.sb.rpa with
    | some a =>
      if 4 ≤ a.seqs.length && s1.past a.lastSent 1024 then (if a.firmware then s1.rpaEnd 4 else s1).rpaFree else s1
    | none => s1)

/-- The drive code that an access has written at the far end. -/
def State.noteDrive (s : State) (a : RpaSlot) : State :=
  let w := bits a.payload 27 9
  if a.wr && bits a.payload 36 4 == 2 && decide (0x40 ≤ w) && siteOk (w - 0x40) then
    s.setCal fun c => { c with farDrive := Sparse.set (w - 0x40) (some (bits a.payload 0 4)) c.farDrive }
  else s

/-- PAGE_RSP: the first answer to any copy completes the access. -/
def execPageRspRx (c : SbCopies) (s : State) : Host.Outcome State Fault Refusal :=
  .next (s.receive c SbType.pageRsp.code fun _ pl s =>
    match s.sb.rpa with
    | none => s
    | some a =>
      if !a.seqs.contains (bits pl 36 4) then s
      else
        let st := bits pl 32 4
        let s1 := if st = 0 then s.noteDrive a else s
        (if a.firmware then (s1.put PHY.RPA_STAT.DATA (bits pl 0 16)).rpaEnd st else s1).rpaFree)

/-- The answer to a request (R449). -/
def State.pageRsp (s : State) (fseq status value : Nat) : State :=
  s.sbSend .pageRsp (packLow [(value, 16), (0, 16), (status, 4), (fseq, 4)])

/-- Why a far end does not serve a request: 1 REFUSED, 2 ADDRESS, 3 CLOCK (R450). -/
def State.pageStatus (s : State) (pl : Nat) : Option Nat :=
  if !s.colIn [.cal, .repair, .creditInit, .active, .retrain, .quietRepair, .widthChange, .lowland, .drain] then some 1
  else if 63 < bits pl 21 6 + bits pl 17 4 then some 2
  else if !s.clocksOn (pageDomains (bits pl 36 4)) then some 3
  else none

/-- The register that a request names, and the field's value. -/
def reqKey (pl : Nat) : Nat := 4096 * bits pl 36 4 + 8 * bits pl 27 9
def State.reqValue (s : State) (pl : Nat) : Nat := bits (s.readWord (reqKey pl)).toNat (bits pl 21 6) (bits pl 17 4 + 1)

/-- A request that is not served: the register is not touched, and what the value field carries is open. -/
def State.pageNo (s : State) (fseq status : Nat) : State :=
  let (v, s1) := s.draw
  s1.pageRsp fseq status v

/-- PAGE_RD (R450). -/
def execPageRdRx (c : SbCopies) (s : State) : Host.Outcome State Fault Refusal :=
  .next (s.receive c SbType.pageRd.code fun fseq pl s =>
    match s.pageStatus pl with
    | some st => s.pageNo fseq st
    | none => s.pageRsp fseq 0 (s.reqValue pl))

/-- A request writes TX_DRIVE[i].CODE. -/
def writesDrive (pl : Nat) : Bool :=
  bits pl 36 4 == 2 && decide (0x40 ≤ bits pl 27 9) && siteOk (bits pl 27 9 - 0x40) && bits pl 21 6 == 0 && bits pl 17 4 == 3

/-- PAGE_WR (R450): only a drive code is written, under the register's own rule. -/
def execPageWrRx (c : SbCopies) (s : State) : Host.Outcome State Fault Refusal :=
  .next (s.receive c SbType.pageWr.code fun fseq pl s =>
    match s.pageStatus pl with
    | some st => s.pageNo fseq st
    | none =>
      let data := BitVec.ofNat 64 (bits pl 0 16)
      let key := reqKey pl
      if !writesDrive pl then
        let s1 := s.refuse key .state data
        s1.pageRsp fseq 1 (s1.reqValue pl)
      else
        let bad := s.stateRefusal 2 (key % 4096) data
        let s1 := s.hostWrite key data
        s1.pageRsp fseq (if bad.isSome then 1 else 0) (s1.reqValue pl))

/-! ### Writes by the host port (R440, R447) -/

/-- The state that an outcome leaves. -/
def stateOf (s : State) (o : Host.Outcome State Fault Refusal) : State :=
  match o with
  | .next t => t
  | _ => s

/-- Issue a command of a page; if it is refused, REFUSED.DATA takes the bits that were written. One that clears REFUSED.COUNT (SOFT_CLR
and a Col reset at once, R262, R441) leaves it as it clears it. -/
def State.issue (s : State) (page : Nat) (data : Word) (f : State → Host.Outcome State Fault Refusal) (clears : Bool := false) : State :=
  let n := s.get (PAGE.REFUSED.COUNT page)
  let t := stateOf s (f (s.put (PAGE.REFUSED.COUNT page) 0))
  if t.on (PAGE.REFUSED.COUNT page) then
    (t.put (PAGE.REFUSED.COUNT page) (min (n + t.get (PAGE.REFUSED.COUNT page)) 65535)).put (PAGE.REFUSED.DATA page) data.toNat
  else if clears then stateOf s (f s)
  else t.put (PAGE.REFUSED.COUNT page) n

/-- COL_CTL: ENABLE and RELEASE of one write stand or fall together. -/
def State.writeColCtl (s : State) (data : Word) : State :=
  if data.getLsbD 1 then
    if data.getLsbD 0 then s.issue 1 data execColRelease
    else s.access 1 fun s => s.refuse RESET.COL_CTL.ENABLE.key (if s.role = 0 then .role else .state) data
  else s.issue 1 data (if data.getLsbD 0 then execColEnableSet else execColEnableClear)

/-- TEST_CMD: several commands of one write are each checked, and carried out only if none is refused. -/
def State.writeTestCmd (s : State) (data : Word) : State :=
  let cs := [(0, State.enterRefusal, execTestEnter), (1, State.goRefusal, execTestGo), (2, State.exitRefusal, execTestExit)].filter
    (fun c => data.getLsbD c.1)
  s.command TEST.TEST_CMD.ENTER.key data (fun s => (cs.map (fun c => c.2.1 s)).findSome? id) (fun s => cs.foldl (fun t c => stateOf t (c.2.2 t)) s)

/-- PARK_CMD: GO, WAKE or both. -/
def State.writeParkCmd (s : State) (data : Word) : State :=
  s.command POWER.PARK_CMD.GO.key data (fun s => if data.getLsbD 0 then s.parkRefusal else none)
    (fun s =>
      let s1 := if data.getLsbD 0 then s.askPark else s
      if data.getLsbD 1 then s1.wake 3 else s1)

/-- MIR_CMD: BEGIN needs no open generation and SEALED one, so a write of both is always refused (R405, R406, R440). -/
def State.writeMirCmd (s : State) (data : Word) : State :=
  if data.getLsbD 0 && data.getLsbD 1 then s.command PAIR.MIR_CMD.BEGIN.key data (fun s => if s.isM then some .state else some .role) id
  else if data.getLsbD 0 then s.issue 13 data execMirBegin
  else if data.getLsbD 1 then s.issue 13 data execMirSealed
  else s

/-- RPA_CMD. -/
def State.writeRpaCmd (s : State) (data : Word) : State :=
  let d := data.toNat
  if data.getLsbD 0 then s.issue 2 data (fun t => .next (t.rpaCmd (data.getLsbD 1) (bits d 2 4) (bits d 6 9) (bits d 15 6) (bits d 21 4) (if data.getLsbD 1 then bits d 32 16 else 0)))
  else s

/-- The command register at a key, if it is one: what a write with GO at bit 0 issues. -/
def goCommand (key : Nat) (data : Word) : Option (State → Host.Outcome State Fault Refusal) :=
  if key = RESET.COL_RST_CMD.GO.key then some (if data.getLsbD 1 then execColRstNow else execColRstGo)
  else if key = RESET.SOFT_CLR.GO.key then some execSoftClr
  else if key = PHY.RETRAIN_CMD.GO.key then some execRetrainGo
  else if key = CAL.RUN_CMD.GO.key then some execCalRunGo
  else if key = REPAIR.MARK_CMD.GO.key then some (execMarkSite (data.extractLsb' 8 8))
  else if key = REPAIR.WIDTH_CMD.GO.key then some (execWidthCmd (data.getLsbD 1) (data.extractLsb' 2 4) (data.getLsbD 6))
  else if key = REPAIR.LOWLAND_CMD.GO.key then some execLowlandCmd
  else if key = TXN.DRAIN_CMD.GO.key then some execDrainGo
  else if key = TXN.MDRAIN_CMD.GO.key then some execMdrainGo
  else if key = TXN.MSCRUB_CMD.GO.key then some execMscrubGo
  else if key = BASIN.INIT_CMD.GO.key then some execBasinInitGo
  else if key = PAIR.TOKEN_CMD.RELEASE.key then some execTokenRelease
  else none

/-- CH_CMD of channel `n`. -/
def State.writeChCmd (s : State) (n : Fin 4) (data : Word) : State :=
  if data.getLsbD 0 then s.issue 12 data (execDmaStart n (data.getLsbD 1))
  else if data.getLsbD 1 then s.issue 12 data (execDmaDisable n)
  else s

/-- A write of a register: the commands that it holds are issued, and any other register takes its fields. -/
def State.writeReg (s : State) (key : Nat) (data : Word) : State :=
  let page := key / 4096
  if key % 4096 = 0x010 then (if data.getLsbD 0 then s.command key data (fun _ => none) (fun s => s.clearPage page) else s)
  else if key = RESET.COL_CTL.ENABLE.key then s.writeColCtl data
  else if key = RESET.OVL_CMD.APPLY_O3.key then (if data.getLsbD 0 then stateOf s (execApplyO3 s) else s)
  else if key = PHY.RPA_CMD.GO.key then s.writeRpaCmd data
  else if key = PAIR.MIR_CMD.BEGIN.key then s.writeMirCmd data
  else if key = POWER.PARK_CMD.GO.key then s.writeParkCmd data
  else if key = TEST.TEST_CMD.ENTER.key then s.writeTestCmd data
  else if page = 12 && key % 4096 < 0x200 && key % 64 = 8 && decide (0x100 ≤ key % 4096) then
    s.writeChCmd ⟨(key % 4096 - 0x100) / 64 % 4, Nat.mod_lt _ (by decide)⟩ data
  else match goCommand key data with
    | some f =>
      if data.getLsbD 0 then s.issue page data f (key == RESET.SOFT_CLR.GO.key || (key == RESET.COL_RST_CMD.GO.key && data.getLsbD 1)) else s
    | none => s.access (s.needs key) fun s => s.hostWrite key data

/-- A write at a word address; outside the register space it completes with MB_ERR (R447). -/
def State.writeAddr (s : State) (addr : Nat) (data : Word) : State :=
  match regKey addr with
  | some key => s.writeReg key data
  | none => s.access 1 State.mbError

/-- A write by word address; after one of CH_WM a channel that waits for its gate goes on where it is open now (R384), and after one of
THR_CTL what the stack throttle held (R432). -/
def State.writePaced (s : State) (addr : Nat) (data : Word) : State :=
  let t := s.writeAddr addr data
  match (List.range 4).find? (fun n => regKey addr == some (DMA.CH_WM.HIGH n).key) with
  | some n => if t.dmaRuns then t.dmaResume n else t
  | none => if regKey addr = some POWER.THR_CTL.STK_ALWAYS.key then t.throttleMoved else t

/-- REGISTER_WRITE. -/
def execRegisterWrite (addr : BitVec 18) (data : Word) (s : State) : Host.Outcome State Fault Refusal := .next (s.writePaced addr.toNat data)

/-- BROADCAST_WRITE: an access at 0xFFE. Every M-end of the die takes a write; a read completes with MB_ERR and undefined data (R57,
R447). Other ends do not respond. -/
def execBroadcastWrite (aper : Bool) (addr : BitVec 18) (data : Word) (s : State) (wr : Bool := true) : Host.Outcome State Fault Refusal :=
  .next (if !s.isM then s
    else if !wr then s.access 1 State.mbError
    else if aper then s.hostTable addr.toNat data else s.writePaced addr.toNat data)

/-- CHAIN_ADDR_WRITE: a write at 0xFFF reaches the unassigned end whose ENUM_TI is high (R54). -/
def execChainAddrWrite (ti : Bool) (data : Word) (s : State) : Host.Outcome State Fault Refusal :=
  .next (s.access 1 fun s =>
    if !ti || s.on IDENT.CHAIN_ADDR.ASSIGNED then s
    else if 0xFFE ≤ bits data.toNat 0 12 then s.refuse IDENT.CHAIN_ADDR.ADDR.key .address data
    else
      let s1 := (s.put IDENT.CHAIN_ADDR.ADDR (bits data.toNat 0 12)).put IDENT.CHAIN_ADDR.ASSIGNED 1
      { s1 with chip := { s1.chip with enumTo := true } })

end Sys2Proof.Machine
end

