-- ==== Sys2Proof/Machine/Dispatch.lean ====
section
/-!
DEFINITION. The dispatch of commands to their meanings, one arm a constructor.
-/

namespace Sys2Proof.Machine

/-- The effect of a command on everything but the queue. -/
def exec (i : Instr) (s : State) : Host.Outcome State Fault Refusal :=
  match i with
  | .dieRstAssert => Sys2Proof.Machine.execDieRstAssert s
  | .dieRstDeassert f => Sys2Proof.Machine.execDieRstDeassert f s
  | .dieSupplyLoss => Sys2Proof.Machine.execDieSupplyLoss s
  | .dpiHeaderOffer c => Sys2Proof.Machine.execDpiHeaderOffer c s
  | .dpiContinuation c => Sys2Proof.Machine.execDpiContinuation c s
  | .dieResponseOffer c => Sys2Proof.Machine.execDieResponseOffer c s
  | .dpoTransferTaken cls => Sys2Proof.Machine.execDpoTransferTaken cls s
  | .msgInOffer cls data => Sys2Proof.Machine.execMsgInOffer cls data s
  | .msgOutTaken cls => Sys2Proof.Machine.execMsgOutTaken cls s
  | .dirVerdict tag dirty => Sys2Proof.Machine.execDirVerdict tag dirty s
  | .verdictTimeout tag now => Sys2Proof.Machine.execVerdictTimeout tag now s
  | .msvReqAck => Sys2Proof.Machine.execMsvReqAck s
  | .msvSumValid sum => Sys2Proof.Machine.execMsvSumValid sum s
  | .dmqReqEdge ch => Sys2Proof.Machine.execDmqReqEdge ch s
  | .dmqFillChange ch fill => Sys2Proof.Machine.execDmqFillChange ch fill s
  | .beatLoad seed => Sys2Proof.Machine.execBeatLoad seed s
  | .beatLockFall => Sys2Proof.Machine.execBeatLockFall s
  | .tempUpdate temp valid => Sys2Proof.Machine.execTempUpdate temp valid s
  | .budgetChange budget valid => Sys2Proof.Machine.execBudgetChange budget valid s
  | .stkThrChange thr => Sys2Proof.Machine.execStkThrChange thr s
  | .clockStopDetect clk => Sys2Proof.Machine.execClockStopDetect clk s
  | .clockRestart clk => Sys2Proof.Machine.execClockRestart clk s
  | .pllLock => Sys2Proof.Machine.execPllLock s
  | .pllLockTimeout now => Sys2Proof.Machine.execPllLockTimeout now s
  | .phyUnlock => Sys2Proof.Machine.execPhyUnlock s
  | .rxFifoSlip g => Sys2Proof.Machine.execRxFifoSlip g s
  | .eclkStop => Sys2Proof.Machine.execEclkStop s
  | .chainAddrWrite ti data => Sys2Proof.Machine.execChainAddrWrite ti data s
  | .broadcastWrite aper addr data wr => Sys2Proof.Machine.execBroadcastWrite aper addr data s wr
  | .registerWrite addr data => Sys2Proof.Machine.execRegisterWrite addr data s
  | .beatLoRead => Sys2Proof.Machine.execBeatLoRead s
  | .wideRegisterRead addr aper errs => Sys2Proof.Machine.execWideRegisterRead addr s aper errs
  | .evtStatClear page mask hw => Sys2Proof.Machine.execEvtStatClear page mask hw s
  | .evtForce page mask => Sys2Proof.Machine.execEvtForce page mask s
  | .evtFirstClear page => Sys2Proof.Machine.execEvtFirstClear page s
  | .cntClr page => Sys2Proof.Machine.execCntClr page s
  | .colEnableSet => Sys2Proof.Machine.execColEnableSet s
  | .colEnableClear => Sys2Proof.Machine.execColEnableClear s
  | .colRelease => Sys2Proof.Machine.execColRelease s
  | .colRstGo => Sys2Proof.Machine.execColRstGo s
  | .colRstNow => Sys2Proof.Machine.execColRstNow s
  | .softClr => Sys2Proof.Machine.execSoftClr s
  | .applyO3 errs => Sys2Proof.Machine.execApplyO3 s errs
  | .retrainGo => Sys2Proof.Machine.execRetrainGo s
  | .rpaRead page word lsb width => Sys2Proof.Machine.execRpaRead page word lsb width s
  | .rpaWrite page word lsb width data => Sys2Proof.Machine.execRpaWrite page word lsb width data s
  | .rpaRetry now => Sys2Proof.Machine.execRpaRetry now s
  | .rpaTimeout now => Sys2Proof.Machine.execRpaTimeout now s
  | .txDriveWrite site code => Sys2Proof.Machine.execTxDriveWrite site code s
  | .trimWrite kind idx code => Sys2Proof.Machine.execTrimWrite kind idx code s
  | .calRunGo => Sys2Proof.Machine.execCalRunGo s
  | .markSite site => Sys2Proof.Machine.execMarkSite site s
  | .widthCmd dir groups force => Sys2Proof.Machine.execWidthCmd dir groups force s
  | .lowlandCmd => Sys2Proof.Machine.execLowlandCmd s
  | .rateCtlWrite rate => Sys2Proof.Machine.execRateCtlWrite rate s
  | .lLevelWrite v => Sys2Proof.Machine.execLLevelWrite v s
  | .drainGo => Sys2Proof.Machine.execDrainGo s
  | .mdrainGo => Sys2Proof.Machine.execMdrainGo s
  | .mdrainBound now => Sys2Proof.Machine.execMdrainBound now s
  | .mscrubGo => Sys2Proof.Machine.execMscrubGo s
  | .lostFifoRead => Sys2Proof.Machine.execLostFifoRead s
  | .basinInitGo => Sys2Proof.Machine.execBasinInitGo s
  | .basinInitDone cycles => Sys2Proof.Machine.execBasinInitDone cycles s
  | .peekLineWrite data errs => Sys2Proof.Machine.execPeekLineWrite data s errs
  | .dmaStart ch disable => Sys2Proof.Machine.execDmaStart ch disable s
  | .dmaDisable ch => Sys2Proof.Machine.execDmaDisable ch s
  | .cqHeadWrite ch data => Sys2Proof.Machine.execCqHeadWrite ch data s
  | .cqConfigWrite ch ctl data => Sys2Proof.Machine.execCqConfigWrite ch ctl data s
  | .escNextWrite data => Sys2Proof.Machine.execEscNextWrite data s
  | .tokenRelease => Sys2Proof.Machine.execTokenRelease s
  | .mirBegin => Sys2Proof.Machine.execMirBegin s
  | .mirSealed => Sys2Proof.Machine.execMirSealed s
  | .parkGo => Sys2Proof.Machine.execParkGo s
  | .parkWake => Sys2Proof.Machine.execParkWake s
  | .testEnter errs => Sys2Proof.Machine.execTestEnter s errs
  | .testGo => Sys2Proof.Machine.execTestGo s
  | .testExit => Sys2Proof.Machine.execTestExit s
  | .testPatternStart now => Sys2Proof.Machine.execTestPatternStart now s
  | .testPatternEnd now obs => Sys2Proof.Machine.execTestPatternEnd now obs s
  | .bindingWrite entry data => Sys2Proof.Machine.execBindingWrite entry data s
  | .contextWrite ctx word data => Sys2Proof.Machine.execContextWrite ctx word data s
  | .recipeWrite slot word data => Sys2Proof.Machine.execRecipeWrite slot word data s
  | .windowArm w data => Sys2Proof.Machine.execWindowArm w data s
  | .windowFree w data => Sys2Proof.Machine.execWindowFree w data s
  | .windowAbort w data => Sys2Proof.Machine.execWindowAbort w data s
  | .windowWordWrite w word data => Sys2Proof.Machine.execWindowWordWrite w word data s
  | .overlayWrite slot entry hi data => Sys2Proof.Machine.execOverlayWrite slot entry hi data s
  | .mirrorBlockWrite off data => Sys2Proof.Machine.execMirrorBlockWrite off data s
  | .wsBypass wir wsi => Sys2Proof.Machine.execWsBypass s wir wsi
  | .wsExtest drive rx => Sys2Proof.Machine.execWsExtest drive rx s
  | .wsPreload drive => Sys2Proof.Machine.execWsPreload drive s
  | .wsIntestScan => Sys2Proof.Machine.execWsIntestScan s
  | .bxWire ctl => Sys2Proof.Machine.execBxWire ctl s
  | .bxRes => Sys2Proof.Machine.execBxRes s
  | .bxLoopback ctl => Sys2Proof.Machine.execBxLoopback ctl s
  | .bxArrayBist => Sys2Proof.Machine.execBxArrayBist s
  | .bistDone pass => Sys2Proof.Machine.execBistDone pass s
  | .wrapperReset => Sys2Proof.Machine.execWrapperReset s
  | .trainFrame c => Sys2Proof.Machine.execTrainFrame c s
  | .sbFrameReserved c => Sys2Proof.Machine.execSbFrameReserved c s
  | .identChunk c => Sys2Proof.Machine.execIdentChunk c s
  | .identAttemptTimeout now => Sys2Proof.Machine.execIdentAttemptTimeout now s
  | .sbUpTimeout now => Sys2Proof.Machine.execSbUpTimeout now s
  | .calTimeout now => Sys2Proof.Machine.execCalTimeout now s
  | .repairTimeout now => Sys2Proof.Machine.execRepairTimeout now s
  | .creditInitTimeout now => Sys2Proof.Machine.execCreditInitTimeout now s
  | .trainPeriodic now => Sys2Proof.Machine.execTrainPeriodic now s
  | .sbKeepalive now => Sys2Proof.Machine.execSbKeepalive now s
  | .farSilentSb now => Sys2Proof.Machine.execFarSilentSb now s
  | .farSilentCtrl cycles => Sys2Proof.Machine.execFarSilentCtrl cycles s
  | .resetReq c => Sys2Proof.Machine.execResetReq c s
  | .resetAck c => Sys2Proof.Machine.execResetAck c s
  | .resetReqRepeat now => Sys2Proof.Machine.execResetReqRepeat now s
  | .resetSettleBeat now => Sys2Proof.Machine.execResetSettleBeat now s
  | .resetBeat now => Sys2Proof.Machine.execResetBeat now s
  | .resetReleaseStep now cycles => Sys2Proof.Machine.execResetReleaseStep now s cycles
  | .beatMarkRx c stamp => Sys2Proof.Machine.execBeatMarkRx c stamp s
  | .beatMarkSend now => Sys2Proof.Machine.execBeatMarkSend now s
  | .slewStep now => Sys2Proof.Machine.execSlewStep now s
  | .beatMarkTimeout now => Sys2Proof.Machine.execBeatMarkTimeout now s
  | .heartbeatSbRx c => Sys2Proof.Machine.execHeartbeatSbRx c s
  | .heartbeatMsgRx => Sys2Proof.Machine.execHeartbeatMsgRx s
  | .strapHeartbeatRx f idle => Sys2Proof.Machine.execStrapHeartbeatRx f s idle
  | .heartbeatSend now => Sys2Proof.Machine.execHeartbeatSend now s
  | .hbPathTimeout orig now => Sys2Proof.Machine.execHbPathTimeout orig now s
  | .leaseRenew now => Sys2Proof.Machine.execLeaseRenew now s
  | .leaseClaim now => Sys2Proof.Machine.execLeaseClaim now s
  | .mirrorLoadDone => Sys2Proof.Machine.execMirrorLoadDone s
  | .resyncSealRead now => Sys2Proof.Machine.execResyncSealRead now s
  | .initOwnerTimeout now => Sys2Proof.Machine.execInitOwnerTimeout now s
  | .pageRdRx c => Sys2Proof.Machine.execPageRdRx c s
  | .pageWrRx c => Sys2Proof.Machine.execPageWrRx c s
  | .pageRspRx c => Sys2Proof.Machine.execPageRspRx c s
  | .repairProposeRx c => Sys2Proof.Machine.execRepairProposeRx c s
  | .repairAcceptRx c => Sys2Proof.Machine.execRepairAcceptRx c s
  | .repairDeclineRx c => Sys2Proof.Machine.execRepairDeclineRx c s
  | .repairCancelRx c => Sys2Proof.Machine.execRepairCancelRx c s
  | .widthProposeRx c => Sys2Proof.Machine.execWidthProposeRx c s
  | .widthAcceptRx c => Sys2Proof.Machine.execWidthAcceptRx c s
  | .widthDeclineRx c => Sys2Proof.Machine.execWidthDeclineRx c s
  | .widthLowlandRx c => Sys2Proof.Machine.execWidthLowlandRx c s
  | .widthCancelRx c => Sys2Proof.Machine.execWidthCancelRx c s
  | .calApplyProposeRx c => Sys2Proof.Machine.execCalApplyProposeRx c s
  | .calApplyAcceptRx c => Sys2Proof.Machine.execCalApplyAcceptRx c s
  | .calApplyDeclineRx c => Sys2Proof.Machine.execCalApplyDeclineRx c s
  | .calProposeRepeat now => Sys2Proof.Machine.execCalProposeRepeat now s
  | .parkProposeRx c => Sys2Proof.Machine.execParkProposeRx c s
  | .parkAcceptRx c => Sys2Proof.Machine.execParkAcceptRx c s
  | .parkDeclineRx c => Sys2Proof.Machine.execParkDeclineRx c s
  | .parkCancelRx c => Sys2Proof.Machine.execParkCancelRx c s
  | .proposalRepeat now => Sys2Proof.Machine.execProposalRepeat now s
  | .proposalCancelDue now => Sys2Proof.Machine.execProposalCancelDue now s
  | .bulkFlitArrival flit pos => Sys2Proof.Machine.execBulkFlitArrival flit pos s
  | .bulkCrcResult ue errs => Sys2Proof.Machine.execBulkCrcResult s ue errs
  | .ctrlFlitRx flit => Sys2Proof.Machine.execCtrlFlitRx flit s
  | .creditAdvRx => Sys2Proof.Machine.execCreditAdvRx s
  | .creditRetRx => Sys2Proof.Machine.execCreditRetRx s
  | .advDoneRx => Sys2Proof.Machine.execAdvDoneRx s
  | .squashRx => Sys2Proof.Machine.execSquashRx s
  | .bulkFlitStart ue => Sys2Proof.Machine.execBulkFlitStart s ue
  | .ctrlFlitStart ue => Sys2Proof.Machine.execCtrlFlitStart s ue
  | .ackOnlySend => Sys2Proof.Machine.execAckOnlySend s
  | .ackOnlyKeepalive cycles => Sys2Proof.Machine.execAckOnlyKeepalive cycles s
  | .probeInterval cycles => Sys2Proof.Machine.execProbeInterval cycles s
  | .replayTimeout cycles => Sys2Proof.Machine.execReplayTimeout cycles s
  | .nakTimeout cycles => Sys2Proof.Machine.execNakTimeout cycles s
  | .ctrlReplayTimeout cycles => Sys2Proof.Machine.execCtrlReplayTimeout cycles s
  | .creditReturnSend => Sys2Proof.Machine.execCreditReturnSend s
  | .levelRelease now => Sys2Proof.Machine.execLevelRelease now s
  | .staleCut now => Sys2Proof.Machine.execStaleCut now s
  | .engineMemoryData addr data ans => Sys2Proof.Machine.execEngineMemoryData addr data ans s
  | .viewRead errs => Sys2Proof.Machine.execViewRead s errs
  | .viewWrite errs miss => Sys2Proof.Machine.execViewWrite s errs miss
  | .xfApply errs miss => Sys2Proof.Machine.execXfApply s errs miss
  | .xfApplyR errs miss => Sys2Proof.Machine.execXfApplyR s errs miss
  | .xfAcc errs miss => Sys2Proof.Machine.execXfAcc s errs miss
  | .atFadd errs => Sys2Proof.Machine.execAtFadd s errs
  | .atSwap errs => Sys2Proof.Machine.execAtSwap s errs
  | .atCas errs => Sys2Proof.Machine.execAtCas s errs
  | .contrib ue errs miss => Sys2Proof.Machine.execContrib s ue errs miss
  | .windowZeroingDone w cycles => Sys2Proof.Machine.execWindowZeroingDone w cycles s
  | .windowOpenBeat w now => Sys2Proof.Machine.execWindowOpenBeat w now s
  | .windowCloseBeat w now ue miss => Sys2Proof.Machine.execWindowCloseBeat w now s ue miss
  | .closeWritesAccepted w => Sys2Proof.Machine.execCloseWritesAccepted w s
  | .drainQuiet => Sys2Proof.Machine.execDrainQuiet s
  | .drainTimer now => Sys2Proof.Machine.execDrainTimer now s
  | .drainToDown => Sys2Proof.Machine.execDrainToDown s
  | .scramblerRepropose now => Sys2Proof.Machine.execScramblerRepropose now s
  | .scramblerStartBeat now => Sys2Proof.Machine.execScramblerStartBeat now s
  | .validRiseTimeout now => Sys2Proof.Machine.execValidRiseTimeout now s
  | .calWindowEnd r => Sys2Proof.Machine.execCalWindowEnd r s
  | .rateStepDone => Sys2Proof.Machine.execRateStepDone s
  | .repairVerifyEnd now mismatch => Sys2Proof.Machine.execRepairVerifyEnd now mismatch s
  | .calCorrectionEnd counts => Sys2Proof.Machine.execCalCorrectionEnd counts s
  | .calApplyBeat now => Sys2Proof.Machine.execCalApplyBeat now s
  | .calMeasureEnd eyes => Sys2Proof.Machine.execCalMeasureEnd eyes s
  | .attrWindowExpiry idx now grp => Sys2Proof.Machine.execAttrWindowExpiry idx now s grp
  | .qrPauseBeat now => Sys2Proof.Machine.execQrPauseBeat now s
  | .qrMaskSwitch now => Sys2Proof.Machine.execQrMaskSwitch now s
  | .qrResume now mismatch => Sys2Proof.Machine.execQrResume now mismatch s
  | .widthChangeBeat now => Sys2Proof.Machine.execWidthChangeBeat now s
  | .widthSwitch now => Sys2Proof.Machine.execWidthSwitch now s
  | .widthResume now => Sys2Proof.Machine.execWidthResume now s
  | .lowlandEntryBeat now => Sys2Proof.Machine.execLowlandEntryBeat now s
  | .scrubRow array errs cycles => Sys2Proof.Machine.execScrubRow array errs s cycles
  | .eccWriteBack array index written => Sys2Proof.Machine.execEccWriteBack array index s written
  | .mergeFlush array cycles => Sys2Proof.Machine.execMergeFlush array s cycles
  | .idleClockedEntry cycles => Sys2Proof.Machine.execIdleClockedEntry cycles s
  | .engineCapRecompute now ready period => Sys2Proof.Machine.execEngineCapRecompute now ready period s
  | .rateAutoStep now => Sys2Proof.Machine.execRateAutoStep now s
  | .parkIdleTimeout now => Sys2Proof.Machine.execParkIdleTimeout now s
  | .parkBeat now => Sys2Proof.Machine.execParkBeat now s
  | .lanesStop => Sys2Proof.Machine.execLanesStop s
  | .farClockDetect => Sys2Proof.Machine.execFarClockDetect s
  | .wakeHoldEnd => Sys2Proof.Machine.execWakeHoldEnd s
  | .move ch => Sys2Proof.Machine.execMove ch s
  | .loop ch => Sys2Proof.Machine.execLoop ch s
  | .wait ch => Sys2Proof.Machine.execWait ch s
  | .signal ch => Sys2Proof.Machine.execSignal ch s
  | .dmaWaitBeat ch now => Sys2Proof.Machine.execDmaWaitBeat ch now s
  | .dmaProgramFetch ch data ans => Sys2Proof.Machine.execDmaProgramFetch ch data ans s
  | .dmaReadData ch data ans errs => Sys2Proof.Machine.execDmaReadData ch data ans s errs
  | .dmaWritesAccepted ch => Sys2Proof.Machine.execDmaWritesAccepted ch s
  | .dmaBusRetry ch now ans => Sys2Proof.Machine.execDmaBusRetry ch now ans s
  | .validLaneRise g => Sys2Proof.Machine.execValidLaneRise g s
  | .eclkRestart => Sys2Proof.Machine.execEclkRestart s
  | .memoryWriteError o ans => Sys2Proof.Machine.execMemoryWriteError o ans s
  | .eventCrossingIdle clk => Sys2Proof.Machine.execEventCrossingIdle clk s

end Sys2Proof.Machine
end

