-- ==== Sys2Proof/Machine/Step.lean ====
section
/-!
DEFINITION. One step: the command at the front of the queue takes effect with the queue's rest behind it. An empty queue is
one BCLK edge: the beat counter advances if it runs (R59, R359).
-/

namespace Sys2Proof.Machine

/-- One BCLK edge with nothing commanded (R359). -/
def State.tick (s : State) : State := if s.beatRuns then s.setCount (s.count + 1) else s

/-- One step of the end. -/
def step (s : State) : Host.Outcome State Fault Refusal :=
  match s.pending with
  | [] => .next s.tick
  | c :: rest => exec c { s with pending := rest }

/-- `s` with the command that a word spells put at the front of its queue; `s` where the word spells none. -/
def State.withFetchWord (s : State) (nbits w : Nat) : State :=
  match decodeTableWord nbits w with
  | some c => { s with pending := c :: s.pending }
  | none => s

end Sys2Proof.Machine
end

