-- ==== Sys2Proof/Safety.lean ====
section
/-!
DEFINITION. The terms in which claims about the end are stated: when a host-port access goes through, when a sideband frame is
accepted, and the invariant of the data that the end holds in canonical form.
-/

namespace Sys2Proof.Machine

/-- A host-port access that needs the clocks of `mask` completes: the end is out of die reset, no earlier access hangs, and the
clocks run and no crossing on its way is torn (R52, R53, R255, R258). -/
def HostUp (s : State) (mask : Nat) : Prop :=
  s.chip.dieRst = false ∧ s.chip.mbHung = false ∧ s.clocksOn mask = true ∧ s.tornAt (mask ||| 1) = false

/-- The sideband runs, the vote over the copies accepts the body `b`, and `r` is the state it leaves, with the time of the last
accepted frame (R90 to R92, R102, R260). -/
def Heard (s : State) (c : SbCopies) (b : Nat) (r : State) : Prop :=
  s.sbRuns = true ∧ ∃ s1, s.vote c = (some b, s1) ∧ r = { s1 with sb := { s1.sb with lastRx := s1.beat } }

/-- An event has left its mark: its status bit is set, it waits in the crossing of its domain, or the overrun of that crossing is
recorded (R244 X13, R248, R249). A torn crossing carries no event (R258). -/
def Raised (e : Event) (t : State) : Prop :=
  bit (t.get (PAGE.EVT_STAT e.page)) e.bit = true ∨
  (∃ p, Sparse.find t.chip.evtPend e.dom = some p ∧ p.page = e.page ∧ p.bit = e.bit) ∨
  bit (t.get RESET.XING_STAT.OVERRUN) e.dom = true ∨ (e.dom ≠ 0 ∧ t.chip.torn.getLsbD e.dom = true)

/-- A statistics counter has counted one, or stands at its all-ones value (R441). -/
def CountedOne (f : Field) (s t : State) : Prop := t.get f = min (s.get f + 1) (2 ^ f.width - 1)

/-- From `s` to `t` one proposal of this end is added, for a beat 8,192 to 2^21 ahead (R138). -/
def Proposes (k : PropKind) (s t : State) : Prop :=
  ∃ lead : Nat, 8192 ≤ lead ∧ lead ≤ 2 ^ 21 ∧
    t.rep.props = s.rep.props ++ [{ kind := k, beat := s.ahead lead, own := true, accepted := false, lastSent := s.beat }]

/-- A proposal of the far end is accepted: it is the only one held, for its beat, and ACCEPT goes out if the sideband runs. -/
def AcceptsFar (k : PropKind) (beat : Beat) (r t : State) : Prop :=
  t.rep.props = [{ kind := k, beat := beat, own := false, accepted := true, lastSent := r.beat }] ∧
  t.out = (r.sendProp .accept k beat).out

/-- A proposal of the far end is declined: nothing is held for it, and DECLINE goes out if the sideband runs. -/
def DeclinesFar (k : PropKind) (beat : Beat) (r t : State) : Prop :=
  t.rep = r.rep ∧ t.out = (r.sendProp .decline k beat).out

/-- The engine of this M-end runs, and the next commit of the kind `mine` is the request `q`; the stack throttle holds none that is
due, and no escape write of one (R219, R228, R432), and the token is not to be released after it (R207, R400). -/
def Commits (s : State) (mine waits : EngReq → Bool) (q : EngReq) : Prop :=
  s.isM = true ∧ s.chip.dieRst = false ∧ s.clkOn 1 = true ∧ s.clkOn 2 = true ∧
  (s.nextCommits waits).any s.reqHeld = false ∧ (s.nextCommits waits).find? mine = some q ∧
  (s.stackStops && (s.nextCommits waits).any (fun q => s.escapeHeld (s.perform q))) = false ∧ s.pair.leaving = false

/-- The answer to a request goes to a sender that waits for it: the Col carries flits, the request is not posted, and no SQUASH has
named its tag (R207, R231). -/
def AnswerWanted (s : State) (h : Hdr) : Prop := s.colDead = false ∧ h.isPosted = false ∧ s.txn.squashed.contains h.tag = false

/-- From `s` to `t` exactly one response is queued for the Col: the answer OK to `h`, with its data. -/
def AnsweredOk (s t : State) (h : Hdr) (vfmt : Nat) (units : List Nat) : Prop :=
  t.lnk.txQ = s.lnk.txQ ++ [{ hdr := { respHdr h .ok with opd := if (respHdr h .ok).op = Op.cplD.code then vfmt else 0 }
                              slots := units.take ((lenBytes (respHdr h .ok).len).getD 0 / 16) }]

/-- From `s` to `t` exactly one response is queued for the Col: the answer `st` to `h`. -/
def AnsweredWith (s t : State) (h : Hdr) (st : Status) : Prop :=
  ∃ us, t.lnk.txQ = s.lnk.txQ ++ [{ hdr := respHdr h st, slots := us }]

/-- The memory outside some ranges, each an address and a length, is the same. -/
def MemoryKeptOutside (s t : State) (rs : List (Nat × Nat)) : Prop :=
  ∀ a, (∀ r ∈ rs, a < r.1 ∨ r.1 + r.2 ≤ a) → t.memByte a = s.memByte a

/-- The page of a request of the engine, or its context record, turns it away with DENIED or DRAINED (R304 to R306). -/
def PageDenies (s : State) (q : EngReq) : Prop := ∃ st ∈ (s.pageCheck q.hdr.ctx q.page q.bind).sts, st = .denied ∨ st = .drained

/-- The state in which the operands of a request are used at its commit: the reads that were issued for it count (R325). -/
def State.asUsed (s : State) (q : EngReq) : State :=
  s.setPrefetch (s.txn.prefetch.map (fun p => if p.owner = some (q.seq, q.hdr.tag) ∧ p.dropped = false then { p with now := true } else p))

/-- A transform on an M-end is answered OK: every check of R304, R306, R314, R316, R320 and R423 passes, and memory answers the
operands it reads; `j` is its job and `w` are the rows of its operands. -/
def TransformPasses (s : State) (q : EngReq) (u : RcpUse) (j : XfJob) (w : XfRows) : Prop :=
  let h := q.hdr
  let pc := s.pageCheck h.ctx q.page q.bind
  let r := s.recipe h.recipe
  j = s.xfJob u q (Binding.of q.bind) ∧ w = s.rowsOf q (Binding.of q.bind) j ∧ pc.sts = [] ∧ vfmtBad h.vfmt = false ∧
  (s.ctxOf h.ctx).lost = false ∧ h.poison = false ∧
  r.refusal u (!pc.bind.isView && (w.readsY || w.writesY || h.vfmt == 0)) (w.usesZ && !w.zb.isView) = none ∧
  (w.known = true → q.off + j.n * fmtBytes w.y.fmt ≤ 2 ^ 23) ∧ (w.writesY = true → w.y.refuses j.ks = false) ∧
  (w.usesZ = true → ∃ p, w.zp = some p ∧ (s.pageCheck h.ctx p (q.entry s p)).sts = [] ∧
    (fmtScalar w.z.fmt = true → w.j0 + j.n ≤ pageElems w.z.fmt)) ∧
  (w.writesZ = true → w.z.refuses j.ks = false) ∧
  w.y.answer (s.asUsed q) (w.needY j) = .ok ∧ w.z.answer (s.asUsed q) (w.needZ j) = .ok

/-- The next commit is the contribution `q`, to window `w` with `cnt` elements from accumulator `k0` on; the end holds the token and
the checks of R306 and R345 pass (R343, R349). -/
def ContribNamed (s : State) (q : EngReq) (w k0 cnt : Nat) : Prop :=
  Commits s (EngReq.isOp .contrib) s.contribWaits q ∧ AnswerWanted s q.hdr ∧
  s.isOwner = true ∧ (s.ctxOf q.hdr.ctx).valid = true ∧ (s.ctxOf q.hdr.ctx).lost = false ∧ w = q.hdr.window ∧
  (k0, cnt) = s.contribAt q.hdr ∧ s.win w WIN.CTX = q.hdr.ctx ∧ q.hdr.contributor < s.win w WIN.EXPECT ∧
  k0 + cnt ≤ s.win w WIN.NELEM ∧ q.late = false

/-- The same, with a recipe, where the window has one, that R314 does not refuse. -/
def ContribSound (s : State) (q : EngReq) (w k0 cnt : Nat) : Prop :=
  ContribNamed s q w k0 cnt ∧ ((s.winRecipe w).bind (fun r => r.refusal .contrib false false)) = none

/-- A sound contribution without a recipe is on time for its open window, and is not poisoned (R346); no line that it reads is found
uncorrectable (R354). -/
def ContribOnTime (s : State) (ue : Option (BitVec 18)) (q : EngReq) (w k0 cnt : Nat) : Prop :=
  ContribSound s q w k0 cnt ∧ (∀ i, ue = some i → i.toNat / 4 ∉ s.contribLines q.hdr) ∧ s.win w WIN.STATE = 2 ∧ s.win w WIN.RCP_EN = 0 ∧ q.hdr.poison = false ∧
  s.bmpBit w q.hdr.contributor = false ∧ ∃ r, q.release = some r ∧ s.openBeat w ≤ r ∧ r < s.closeBeat w

/-- The group of a channel's program that holds unit `u` is here, or its page lets it be fetched (R376). -/
def Fetchable (s : State) (n : Fin 4) (u : Nat) : Prop :=
  (s.chUnit n u).isSome = true ∨ s.rawRouteN (s.get (DMA.CH_PROG.ADDR n) + 128 * (u / 8)) 128 = .direct

/-- Memory is in canonical form: addresses strictly rise, and no byte that equals what unwritten memory reads as is listed. -/
def MemoryCanonical (s : State) : Prop := Memory.wf s.mem = true

/-- The invariant that every step keeps: memory is in canonical form, and there are four DMA channels (R374). -/
def InvariantHolds (s : State) : Prop := MemoryCanonical s ∧ s.dma.length = 4

/-- A step is safe if it answers a next state: the end never stops. -/
def StepSafe (s : State) : Prop := ∃ t, step s = .next t

end Sys2Proof.Machine

namespace Sys2Proof

/-! ### What commands may write -/

/-- Commands on some path of which the end writes die-local memory: the engine, the windows, the DMA channels, and whatever may end in
Lowland or in a lost Col, where the channels write their HALT records (R155, R303, R389). -/
def Instr.mayStore : Instr → Bool
  | .dieRstAssert | .dieSupplyLoss | .dmqReqEdge _ | .dmqFillChange _ _ | .budgetChange _ _ | .stkThrChange _
  | .clockStopDetect _ | .clockRestart _ | .pllLockTimeout _ | .phyUnlock | .rxFifoSlip _ | .eclkStop
  | .broadcastWrite _ _ _ _ | .registerWrite _ _ | .wideRegisterRead _ _ _ | .colEnableSet | .colEnableClear | .colRstNow
  | .applyO3 _ | .markSite _ | .widthCmd _ _ _ | .lowlandCmd | .drainGo | .mdrainBound _ | .peekLineWrite _ _
  | .tokenRelease | .testEnter _ | .bindingWrite _ _ | .contextWrite _ _ _ | .recipeWrite _ _ _ | .windowArm _ _
  | .windowFree _ _ | .windowAbort _ _ | .windowWordWrite _ _ _ | .overlayWrite _ _ _ _ | .mirrorBlockWrite _ _
  | .bistDone _ | .trainFrame _ | .sbFrameReserved _ | .identChunk _ | .identAttemptTimeout _ | .sbUpTimeout _
  | .calTimeout _ | .repairTimeout _ | .creditInitTimeout _ | .trainPeriodic _ | .farSilentSb _ | .farSilentCtrl _
  | .resetReq _ | .resetAck _ | .resetBeat _ | .beatMarkRx _ _ | .heartbeatSbRx _ | .heartbeatMsgRx
  | .strapHeartbeatRx _ _ | .mirrorLoadDone | .pageRdRx _ | .pageWrRx _ | .pageRspRx _ | .repairProposeRx _
  | .repairAcceptRx _ | .repairDeclineRx _ | .repairCancelRx _ | .widthProposeRx _ | .widthAcceptRx _ | .widthDeclineRx _
  | .widthLowlandRx _ | .widthCancelRx _ | .calApplyProposeRx _ | .calApplyAcceptRx _ | .calApplyDeclineRx _
  | .calProposeRepeat _ | .parkProposeRx _ | .parkAcceptRx _ | .parkDeclineRx _ | .parkCancelRx _ | .proposalRepeat _
  | .proposalCancelDue _ | .bulkCrcResult _ _ | .ctrlFlitRx _ | .creditAdvRx | .creditRetRx | .advDoneRx
  | .bulkFlitStart _ | .ctrlFlitStart _ | .replayTimeout _ | .ctrlReplayTimeout _ | .engineMemoryData _ _ _ | .viewRead _
  | .viewWrite _ _ | .xfApply _ _ | .xfApplyR _ _ | .xfAcc _ _ | .atFadd _ | .atSwap _ | .atCas _ | .contrib _ _ _
  | .windowCloseBeat _ _ _ _ | .closeWritesAccepted _ | .drainTimer _ | .drainToDown | .scramblerStartBeat _
  | .validRiseTimeout _ | .calWindowEnd _ | .repairVerifyEnd _ _ | .calApplyBeat _ | .calMeasureEnd _ | .qrMaskSwitch _
  | .qrResume _ _ | .widthSwitch _ | .widthResume _ | .lowlandEntryBeat _ | .scrubRow _ _ _ | .wakeHoldEnd | .move _
  | .dmaProgramFetch _ _ _ | .dmaReadData _ _ _ _ | .dmaWritesAccepted _ | .dmaBusRetry _ _ _ | .eclkRestart
  | .memoryWriteError _ _ => true
  | _ => false

/-- Commands on some path of which a line of the Basin is written: contributions, arming, zeroing, scrubbing, the table aperture (which
the mirror, DMA and a channel that goes on share), and the resets (R331, R333, R337). -/
def Instr.mayChangeBasin : Instr → Bool
  | .dieRstAssert | .dieSupplyLoss | .dmqReqEdge _ | .dmqFillChange _ _ | .budgetChange _ _ | .stkThrChange _
  | .broadcastWrite _ _ _ _ | .registerWrite _ _ | .wideRegisterRead _ _ _ | .colRstNow | .applyO3 _ | .basinInitDone _
  | .peekLineWrite _ _ | .testEnter _ | .bindingWrite _ _ | .contextWrite _ _ _ | .recipeWrite _ _ _ | .windowArm _ _
  | .windowFree _ _ | .windowAbort _ _ | .windowWordWrite _ _ _ | .overlayWrite _ _ _ _ | .mirrorBlockWrite _ _
  | .bistDone _ | .resetBeat _ | .mirrorLoadDone | .bulkCrcResult _ _ | .viewRead _ | .viewWrite _ _ | .xfApply _ _
  | .xfApplyR _ _ | .xfAcc _ _ | .atFadd _ | .atSwap _ | .atCas _ | .contrib _ _ _ | .scrubRow _ _ _ | .move _
  | .dmaProgramFetch _ _ _ | .dmaReadData _ _ _ _ | .dmaWritesAccepted _ | .dmaBusRetry _ _ _ => true
  | _ => false

/-- Commands that are changes of the sampled inputs: temperature, fill levels, stack throttles and the power budget (R48, R50, R62, R63). -/
def Instr.mayMoveInputs : Instr → Bool
  | .dieRstDeassert _ | .dmqFillChange _ _ | .tempUpdate _ _ | .budgetChange _ _ | .stkThrChange _
  | .resetReleaseStep _ _ => true
  | _ => false

/-- Commands on some path of which the test unit changes: patterns, the wrapper and the resets (R464, R488, R497). -/
def Instr.mayChangeTest : Instr → Bool
  | .dieRstAssert | .dieSupplyLoss | .broadcastWrite _ _ _ _ | .registerWrite _ _ | .colEnableClear | .colRstNow
  | .testGo | .testExit | .testPatternStart _ | .testPatternEnd _ _ | .wsBypass _ _ | .wsExtest _ _ | .wsPreload _
  | .wsIntestScan | .bxWire _ | .bxRes | .bxLoopback _ | .bxArrayBist | .bistDone _ | .wrapperReset | .resetBeat _ => true
  | _ => false

/-- Commands on some path of which a DMA channel changes: its own, pacing inputs, Lowland entry, writes of its registers by any way, and
the resets (R155, R375, R384, R389, R390). -/
def Instr.mayMoveChannels : Instr → Bool
  | .dieRstAssert | .dieSupplyLoss | .dmqReqEdge _ | .dmqFillChange _ _ | .budgetChange _ _ | .stkThrChange _
  | .broadcastWrite _ _ _ _ | .registerWrite _ _ | .evtStatClear _ _ _ | .evtForce _ _ | .evtFirstClear _ | .colRstNow
  | .applyO3 _ | .txDriveWrite _ _ | .trimWrite _ _ _ | .rateCtlWrite _ | .mdrainBound _ | .peekLineWrite _ _
  | .dmaStart _ _ | .dmaDisable _ | .cqHeadWrite _ _ | .cqConfigWrite _ _ _ | .escNextWrite _ | .testEnter _
  | .trainFrame _ | .identChunk _ | .calTimeout _ | .trainPeriodic _ | .resetBeat _ | .pageWrRx _ | .ctrlFlitRx _
  | .advDoneRx | .calWindowEnd _ | .lowlandEntryBeat _ | .move _ | .loop _ | .wait _ | .signal _ | .dmaWaitBeat _ _
  | .dmaProgramFetch _ _ _ | .dmaReadData _ _ _ _ | .dmaWritesAccepted _ | .dmaBusRetry _ _ _ | .memoryWriteError _ _ => true
  | _ => false

/-- The register pages in which a command may write, for commands with few of them; `none` for the others. An event writes its own page,
and page 1 where its crossing overruns (R248, R443). -/
def Instr.writesPages : Instr → Option (List Nat)
  | .rpaRetry _ | .testPatternStart _ | .sbKeepalive _ | .resetReqRepeat _ | .beatMarkSend _ | .heartbeatSend _
  | .leaseRenew _ | .nakTimeout _ | .creditReturnSend | .levelRelease _ | .staleCut _ | .engineMemoryData _ _ _
  | .mergeFlush _ _ | .parkIdleTimeout _ | .parkBeat _ | .validLaneRise _ => some []
  | .chainAddrWrite _ _ | .scramblerRepropose _ => some [0]
  | .pllLock | .rpaRead _ _ _ _ | .rpaWrite _ _ _ _ _ => some [2]
  | .attrWindowExpiry _ _ _ => some [4]
  | .probeInterval _ => some [5]
  | .msgOutTaken _ => some [7]
  | .msvReqAck | .squashRx => some [8]
  | .beatLoad _ | .slewStep _ => some [9]
  | .leaseClaim _ | .resyncSealRead _ => some [13]
  | .idleClockedEntry _ => some [14]
  | .wsBypass _ _ | .wsExtest _ _ | .wsPreload _ | .wsIntestScan | .bxRes | .bxArrayBist | .wrapperReset => some [15]
  | .drainQuiet => some [0, 8]
  | .colRstGo => some [1, 2]
  | .msvSumValid _ => some [1, 8]
  | .beatLockFall | .beatMarkTimeout _ => some [1, 9]
  | .basinInitDone _ | .windowZeroingDone _ _ | .windowOpenBeat _ _ => some [1, 11]
  | .hbPathTimeout _ _ | .initOwnerTimeout _ => some [1, 13]
  | .dpiContinuation _ | .engineCapRecompute _ _ _ | .lanesStop | .farClockDetect => some [1, 14]
  | .calRunGo => some [2, 3]
  | .mdrainGo | .mscrubGo | .lostFifoRead => some [2, 8]
  | .lLevelWrite _ => some [2, 9]
  | .basinInitGo => some [2, 11]
  | .dmaDisable _ => some [2, 12]
  | .mirBegin | .mirSealed => some [2, 13]
  | .parkGo => some [2, 14]
  | .testGo => some [2, 15]
  | .ackOnlySend | .ackOnlyKeepalive _ => some [5, 6]
  | .bulkFlitArrival _ _ => some [5, 14]
  | .dpoTransferTaken _ => some [7, 10]
  | .rateStepDone => some [0, 2, 3]
  | .qrPauseBeat _ | .widthChangeBeat _ => some [0, 3, 13]
  | .rpaTimeout _ | .parkWake => some [1, 2, 14]
  | .tempUpdate _ _ | .resetReleaseStep _ _ => some [1, 3, 14]
  | .testPatternEnd _ _ => some [1, 3, 15]
  | .msgInOffer _ _ => some [1, 6, 7]
  | .dirVerdict _ _ | .verdictTimeout _ _ => some [1, 7, 8]
  | .loop _ | .wait _ | .signal _ | .dmaWaitBeat _ _ => some [1, 10, 12]
  | .testExit | .bxWire _ | .bxLoopback _ => some [2, 3, 15]
  | .colRelease => some [0, 1, 2, 15]
  | .calCorrectionEnd _ => some [1, 2, 3, 14]
  | .resetSettleBeat _ => some [1, 5, 6, 8]
  | .dpiHeaderOffer _ | .dieResponseOffer _ => some [1, 7, 8, 14]
  | .closeWritesAccepted _ => some [1, 8, 10, 11]
  | .dmaStart _ _ => some [1, 2, 10, 12, 14]
  | .move _ | .dmaProgramFetch _ _ _ => some [1, 8, 10, 11, 12, 13]
  | .windowCloseBeat _ _ _ _ => some [1, 5, 6, 7, 8, 10, 11]
  | _ => none

end Sys2Proof
end

