-- ==== Sys2Proof/Certificates/Slice0/Obligations.lean ====
section
/-!
DEFINITION. The statements for the provers.
-/

open Sys2Proof Sys2Proof.Machine

/-! ### The step -/

/-- A step with a command at the front of the queue is `exec` of it with the queue's rest; a step with an empty queue is one
edge of the beat clock, which advances the beat counter and nothing else while that clock runs, and where X09 is torn the counter
behind it alone (the model's choice, log entries 2 and 40). -/
def Obligations.StepRunsTheFrontCommand : Prop :=
  (∀ (c : Instr) (rest : List Instr) (s : State), step { s with pending := c :: rest } = exec c { s with pending := rest }) ∧
  (∀ s : State, s.pending = [] → (s.chip.dieRst = true ∨ s.role = 0 ∨ s.chip.stopped.getLsbD 3 = true) → step s = .next s) ∧
  (∀ s : State, s.pending = [] → s.chip.dieRst = false → s.role ≠ 0 → s.chip.stopped.getLsbD 3 = false → s.chip.counter = none →
    step s = .next { s with beat := s.beat + 1 }) ∧
  (∀ (s : State) (b : Beat), s.pending = [] → s.chip.dieRst = false → s.role ≠ 0 → s.chip.stopped.getLsbD 3 = false →
    s.chip.counter = some b → step s = .next { s with chip := { s.chip with counter := some (b + 1) } })

/-! ### Resets, clocks and Col enabling -/

/-- DIE_RST_ASSERT, DIE_SUPPLY_LOSS and DIE_RST_DEASSERT (R53, R64 to R67, R69, R252), with the release steps of R266. That the release
steps of a die reset are all done at DIE_RST_DEASSERT where their clocks run, and stop with WAIT_CLK at the first that does not, is the
model's choice (log entry 41). -/
def Obligations.DieResetClearsAndFusesSetTheRole : Prop :=
  (∀ s : State, ∃ t, exec .dieRstAssert s = .next t ∧ t.chip.dieRst = true ∧ t.chip.col = .off ∧ t.chip.mbHung = false ∧
    ∀ k, t.reg k = regReset k) ∧
  (∀ s : State, ∃ t, exec .dieSupplyLoss s = .next t ∧ t.chip.dieRst = true ∧ t.chip.col = .off ∧ ∀ k, t.reg k = regReset k) ∧
  (∀ (s : State) (f : Fuses), s.chip.dieRst = true → fusesBad f = false → ∃ t, exec (.dieRstDeassert f) s = .next t ∧
    t.chip.dieRst = false ∧ t.chip.col = .off ∧ t.role = f.role.toNat ∧ t.get IDENT.FUSE_STAT.COL = f.col.toNat ∧
    (s.chip.stopped &&& 0x80E = 0 →
      t.chip.released = 3 ∧ t.chip.clk = (if f.role = 0 then 1 else if f.role = 1 then 0x80F else 0x80B)) ∧
    (f.role ≠ 0 → s.chip.stopped &&& 0x80A ≠ 0 → t.chip.released = 1 ∧ t.chip.clk = 1 ∧ t.get RESET.COL_STAT.WAIT_CLK = 1)) ∧
  (∀ (s : State) (f : Fuses), s.chip.dieRst = true → fusesBad f = true → ∃ t, exec (.dieRstDeassert f) s = .next t ∧
    t.chip.dieRst = false ∧ t.role = 0 ∧ t.chip.clk = 1 ∧ bit (t.get (PAGE.EVT_STAT 0)) EV.IDENT.FUSE_INVALID.bit = true)

/-- CLOCK_STOP_DETECT, CLOCK_RESTART, ECLK_STOP, ECLK_RESTART and EVENT_CROSSING_IDLE (R248, R252, R253, R255, R437). A restart after
an unexpected stop tears the crossings of its domain and takes the Col to FAULT (R256, R258; log entry 40 says which stop counts for which
restart). -/
def Obligations.ClocksStopAndRunAndCrossingsDeliver : Prop :=
  (∀ (s : State) (k : Clock), s.chip.dieRst = false → s.clkOn (clockBit k) = true → s.stopExpected (clockBit k) = true →
    ∃ t, exec (.clockStopDetect k) s = .next t ∧ t.clkOn (clockBit k) = false ∧ t.regs = s.regs) ∧
  (∀ s : State, s.chip.dieRst = false → s.clkOn 0 = true → ∃ t, exec (.clockStopDetect .mclk) s = .next t ∧
    t.clkOn 0 = false ∧ bit (t.get RESET.CLK_STAT.LOST) 0 = true ∧ bit (t.get (PAGE.EVT_STAT 1)) EV.RESET.CLOCK_STOP.bit = true) ∧
  (∀ (s : State) (k : Clock), s.chip.dieRst = false → s.clkOn (clockBit k) = false → clockBit k ≠ 0 → s.domainUp (clockBit k) = true →
    s.restartTears (clockBit k) = false → s.chip.lockFell = false →
    ∃ t, exec (.clockRestart k) s = .next t ∧ t.clkOn (clockBit k) = true ∧ t.regs = s.regs) ∧
  (∀ s : State, s.chip.dieRst = false → s.role ≠ 0 → s.clkOn 3 = false → s.domainUp 3 = true → s.restartTears 3 = false → s.chip.lockFell = true →
    ∃ t, exec (.clockRestart .bclk) s = .next t ∧ t.clkOn 3 = true ∧ t.chip.beatLock = false ∧ t.chip.lockFell = false) ∧
  (∀ (s : State) (k : Clock), s.chip.dieRst = false → s.clkOn (clockBit k) = false → clockBit k ≠ 0 → s.domainUp (clockBit k) = true →
    s.restartTears (clockBit k) = true → s.get RESET.XING_STAT.TORN = 0 → s.chip.col ≠ .off →
    ∃ t, exec (.clockRestart k) s = .next t ∧ t.chip.col = .fault) ∧
  (∀ s : State, s.isM = true → s.chip.dieRst = false → s.clkOn 2 = true → s.stopExpected 2 = true →
    ∃ t, exec .eclkStop s = .next t ∧ t.clkOn 2 = false ∧ t.regs = s.regs) ∧
  (∀ (s : State) (n : Nat), s.isM = true → s.chip.dieRst = false → s.clkOn 2 = false → 3 ≤ s.chip.released →
    s.chip.lostRun.getLsbD 2 = false → s.pwr.waitEclk = some n → s.parked = true → s.pwr.waking = false →
    ∃ t, exec .eclkRestart s = .next t ∧ t.clkOn 2 = true ∧ t.pwr.waking = true ∧ t.pwr.waitEclk = none) ∧
  (∀ (s : State) (k : Clock), s.chip.dieRst = false → s.chip.evtBusy.getLsbD (clockBit k) = true →
    s.chip.torn.getLsbD (clockBit k) = false → Sparse.find s.chip.evtPend (clockBit k) = none →
    ∃ t, exec (.eventCrossingIdle k) s = .next t ∧ t.chip.evtBusy.getLsbD (clockBit k) = false ∧ t.regs = s.regs) ∧
  (∀ (s : State) (k : Clock) (p : EvtPulse), s.chip.dieRst = false → s.chip.evtBusy.getLsbD (clockBit k) = true →
    s.chip.torn.getLsbD (clockBit k) = false → Sparse.find s.chip.evtPend (clockBit k) = some p → p.bit < 64 →
    ∃ t, exec (.eventCrossingIdle k) s = .next t ∧ Sparse.find t.chip.evtPend (clockBit k) = none ∧
      bit (t.get (PAGE.EVT_STAT p.page)) p.bit = true) ∧
  (∀ (s : State) (k : Clock), s.chip.torn.getLsbD (clockBit k) = true → exec (.eventCrossingIdle k) s = .next s)

/-- PLL_LOCK, PLL_LOCK_TIMEOUT, PHY_UNLOCK and RX_FIFO_SLIP (R96, R243, R255, R266). -/
def Obligations.PhyClockFaultsActOnTheCol : Prop :=
  (∀ s : State, s.chip.dieRst = false → s.chip.col = .resetHeld → s.chip.colReset = false → s.on PHY.PLL_STAT.LOCKED = false →
    ∃ t, exec .pllLock s = .next t ∧ t.on PHY.PLL_STAT.LOCKED = true ∧ t.clkOn 4 = true ∧ t.clkOn 5 = true ∧ t.chip.col = .resetHeld) ∧
  (∀ (s : State) (now : Beat), (s.at now).chip.col = .resetHeld → (s.at now).chip.colReset = false →
    (s.at now).on PHY.PLL_STAT.LOCKED = false → (s.at now).past (s.at now).chip.entry 50000 = true →
    ∃ t, exec (.pllLockTimeout now) s = .next t ∧ t.chip.col = .fault) ∧
  (∀ s : State, s.chip.dieRst = false → s.on PHY.PLL_STAT.LOCKED = true → s.colIn [.off, .fault] = false →
    ∃ t, exec .phyUnlock s = .next t ∧ t.chip.col = .fault) ∧
  (∀ (s : State) (g : Fin 5), s.chip.dieRst = false → s.role ≠ 0 → s.clkOn 4 = true → s.chip.evtBusy.getLsbD 4 = false →
    s.chip.torn.getLsbD 4 = false →
    s.colIn [.off, .resetHeld, .sbUp, .ident, .down, .fault] = true →
    ∃ t, exec (.rxFifoSlip g) s = .next t ∧ bit (t.get (PAGE.EVT_STAT 2)) EV.PHY.RX_FIFO_SLIP.bit = true ∧ t.chip.col = s.chip.col) ∧
  (∀ (s : State) (g : Fin 5), s.chip.dieRst = false → s.role ≠ 0 → s.clkOn 4 = true → g.val < 4 → s.colIn [.cal, .retrain] = true →
    ∃ t, exec (.rxFifoSlip g) s = .next t ∧ t.cal.noRise.getLsbD g.val = true ∧ t.chip.col = s.chip.col)

/-- COL_ENABLE_SET, COL_ENABLE_CLEAR and COL_RELEASE (R96, R419). Clearing ENABLE in LOWLAND leads to OFF by the state table (R136, R156)
against page 1's register table: the model's reading (log entry 41). -/
def Obligations.ColEnablingMovesTheCol : Prop :=
  (∀ s : State, HostUp s (keyDomains RESET.COL_CTL.ENABLE.key) → s.role ≠ 0 → 3 ≤ s.chip.released → s.chip.col = .off →
    ∃ t, exec .colEnableSet s = .next t ∧ t.chip.col = .resetHeld ∧ t.get RESET.COL_CTL.ENABLE = 1 ∧
      t.txn.engQ = [] ∧ t.txn.levelQ = [] ∧ t.lnk.dpoQ = [] ∧ t.lnk.rxQ = []) ∧
  (∀ s : State, HostUp s (keyDomains RESET.COL_CTL.ENABLE.key) → s.role ≠ 0 →
    (s.colIn [.down, .fault] = true ∨ (s.chip.col = .resetHeld ∧ s.chip.colReset = false)) →
    ∃ t, exec .colEnableClear s = .next t ∧ t.chip.col = .off ∧ t.get RESET.COL_CTL.ENABLE = 0 ∧ t.chip.drivers = false ∧
      t.chip.clk = s.chip.clk &&& 0x80F) ∧
  (∀ s : State, HostUp s (keyDomains RESET.COL_CTL.ENABLE.key) → s.role ≠ 0 → s.chip.col = .lowland →
    ∃ t, exec .colEnableClear s = .next t ∧ t.chip.col = .off ∧ t.get RESET.COL_CTL.ENABLE = 0 ∧ t.chip.drivers = false) ∧
  (∀ s : State, HostUp s (keyDomains RESET.COL_CTL.RELEASE.key) → s.role ≠ 0 → s.chip.col = .resetHeld → s.chip.colReset = false →
    s.on PHY.PLL_STAT.LOCKED = true → s.on TEST.TEST_STAT.IN_TEST = false →
    ∃ t, exec .colRelease s = .next t ∧ t.chip.col = .sbUp ∧ t.chip.drivers = true ∧ (s.chip.stopped.getLsbD 11 = false → t.clkOn 11 = true))

/-- COL_RST_GO, COL_RST_NOW, RESET_BEAT, RESET_SETTLE_BEAT and RESET_RELEASE_STEP (R264 to R266). -/
def Obligations.ColResetIsAgreedAppliedAndReleased : Prop :=
  (∀ s : State, HostUp s (keyDomains RESET.COL_RST_CMD.GO.key) → s.role ≠ 0 → s.colIn [.off, .resetHeld] = false → s.chip.plan = none →
    ∃ t, ∃ lead : Nat, exec .colRstGo s = .next t ∧ 8192 ≤ lead ∧ lead ≤ 2 ^ 21 ∧
      t.chip.plan = some { beat := s.beat + BitVec.ofNat 64 lead, initiator := true, acked := false, lastReq := s.beat, settled := false }) ∧
  (∀ s : State, HostUp s (keyDomains RESET.COL_RST_CMD.GO.key) → s.role ≠ 0 → s.chip.col ≠ .off →
    ∃ t, exec .colRstNow s = .next t ∧ t.chip.col = .resetHeld ∧ t.chip.colReset = true ∧ t.get RESET.COL_STAT.ONE_SIDED = 1 ∧
      t.chip.releaseAt = some (s.count + 256)) ∧
  (∀ (s : State) (now : Beat) (p : ResetPlan), (s.at now).chip.plan = some p → p.settled = false → (s.at now).reached (p.beat - 4096) = true →
    ∃ t, exec (.resetSettleBeat now) s = .next t ∧ t.chip.plan = some { p with settled := true }) ∧
  (∀ (s : State) (now : Beat) (p : ResetPlan), (s.at now).chip.plan = some p → (s.at now).reached p.beat = true → s.clkOn 0 = true →
    ∃ t, exec (.resetBeat now) s = .next t ∧ t.chip.col = .resetHeld ∧ t.chip.colReset = true ∧ t.chip.plan = none ∧
      t.get RESET.COL_STAT.ONE_SIDED = b2n (p.initiator && !p.acked)) ∧
  (∀ (s : State) (now b : Beat) (n : Nat), s.chip.dieRst = false → s.chip.releaseAt = some b → (s.at now).reached b = true →
    s.chip.released = 0 → ∃ t, exec (.resetReleaseStep now n) s = .next t ∧
      if s.chip.stopped.getLsbD 0 then t.chip.released = 0 ∧ t.get RESET.COL_STAT.WAIT_CLK = 1
      else t.chip.released = 1 ∧ t.clkOn 0 = true ∧ t.chip.releaseAt = none) ∧
  (∀ (s : State) (now : Beat) (n : Nat), s.chip.dieRst = false → s.chip.releaseAt = none → 8 ≤ n → s.chip.released = 1 → s.role ≠ 0 →
    ∃ t, exec (.resetReleaseStep now n) s = .next t ∧
      if s.chip.stopped &&& 0x80A = 0 then t.chip.released = 2 ∧ t.clkOn 1 = true ∧ t.clkOn 3 = true ∧ t.clkOn 11 = true
      else t.chip.released = 1 ∧ t.get RESET.COL_STAT.WAIT_CLK = 1) ∧
  (∀ (s : State) (now : Beat) (n : Nat), s.chip.dieRst = false → s.chip.releaseAt = none → s.chip.colReset = true → 8 ≤ n →
    s.chip.released = 2 → (s.isM = true → s.chip.stopped.getLsbD 2 = false) →
    ∃ t, exec (.resetReleaseStep now n) s = .next t ∧ t.chip.released = 3 ∧
      t.chip.colReset = false ∧ t.chip.col = .resetHeld ∧ t.get RESET.COL_STAT.DONE = 1)

/-- RESET_REQ, RESET_ACK, RESET_REQ_REPEAT and SOFT_CLR (R262 to R264, R441). -/
def Obligations.ResetRequestsAreAnsweredAndCountersClear : Prop :=
  (∀ (s : State) (c : SbCopies) (b : Nat) (r : State), Heard s c b r → bodyType b = SbType.reset.code → bits (bodyPayload b) 36 4 = 1 →
    r.chip.plan = none → ∃ t, exec (.resetReq c) s = .next t ∧
      t.chip.plan = some { beat := resolveBeat 22 (bits (bodyPayload b) 0 22) r.beat, initiator := false, acked := true, lastReq := r.beat, settled := false }) ∧
  (∀ (s : State) (c : SbCopies) (b : Nat) (r : State) (p : ResetPlan), Heard s c b r → bodyType b = SbType.reset.code →
    bits (bodyPayload b) 36 4 = 2 → r.chip.plan = some p → p.initiator = true → p.beat.toNat % 2 ^ 22 = bits (bodyPayload b) 0 22 →
    ∃ t, exec (.resetAck c) s = .next t ∧ t.chip.plan = some { p with acked := true }) ∧
  (∀ (s : State) (now : Beat) (p : ResetPlan), (s.at now).chip.plan = some p → p.initiator = true → p.acked = false →
    (s.at now).past p.lastReq 1024 = true → (s.at now).beat < p.beat - 1024 → (s.at now).sbSends = true →
    ∃ t, exec (.resetReqRepeat now) s = .next t ∧ t.chip.plan = some { p with lastReq := (s.at now).beat } ∧
      t.out = .sb (sbFrame SbType.reset.code s.sb.fseq (resetPayload 1 p.beat)) (if s.oneChannel then 1 else 7) :: s.out) ∧
  (∀ s : State, HostUp s (keyDomains RESET.SOFT_CLR.GO.key) → ∃ t, exec .softClr s = .next t ∧ t.get RESET.XING_STAT.OVERRUN = 0 ∧
    ∀ p, p < 16 → ∀ f ∈ pageCounters p, t.get f = 0)

/-! ### Sideband and bring-up -/

/-- TRAIN_FRAME, IDENT_CHUNK, SB_FRAME_RESERVED and IDENT_ATTEMPT_TIMEOUT (R89, R96, R100, R103, R109). -/
def Obligations.TrainAndIdentFramesMoveBringUp : Prop :=
  (∀ (s : State) (c : SbCopies) (b : Nat) (r : State), Heard s c b r → bodyType b = SbType.train.code → r.chip.col = .sbUp →
    bits (bodyPayload b) 28 4 < 11 → 2 ≤ bits (bodyPayload b) 36 4 → r.sb.trains < 3 →
    ∃ t, exec (.trainFrame c) s = .next t ∧ t.sb.trains = r.sb.trains + 1 ∧ t.chip.col = .sbUp ∧
      t.get IDENT.IDENT_STAT.FAR_STATE = bits (bodyPayload b) 36 4) ∧
  (∀ (s : State) (c : SbCopies) (b : Nat) (r : State), Heard s c b r → bodyType b = SbType.train.code → r.chip.col = .sbUp →
    bits (bodyPayload b) 28 4 < 11 → 2 ≤ bits (bodyPayload b) 36 4 → r.sb.trains = 3 →
    ∃ t, exec (.trainFrame c) s = .next t ∧ t.chip.col = .ident) ∧
  (∀ (s : State) (c : SbCopies) (b : Nat) (r : State), Heard s c b r → bodyType b = SbType.ident.code → r.chip.col = .ident →
    r.on IDENT.REC_STAT.FAR_HELD = false →
    (Sparse.set (bits (bodyPayload b) 36 4) (some (BitVec.ofNat 32 (bodyPayload b))) r.sb.chunks).length ≠ 16 →
    ∃ t, exec (.identChunk c) s = .next t ∧ Sparse.find t.sb.chunks (bits (bodyPayload b) 36 4) = some (BitVec.ofNat 32 (bodyPayload b))) ∧
  (∀ (s : State) (c : SbCopies) (b : Nat) (r : State), Heard s c b r → bodyType b ∈ [0, 13, 14, 15] →
    ∃ t, exec (.sbFrameReserved c) s = .next t ∧ bit (t.get (PAGE.EVT_STAT 2)) EV.PHY.SB_TYPE_BAD.bit = true ∧ t.chip.col = r.chip.col) ∧
  (∀ (s : State) (now : Beat), (s.at now).chip.col = .ident → (s.at now).sb.rejected = false →
    (s.at now).past (s.at now).chip.stepEntry 200000 = true → (s.at now).get IDENT.IDENT_STAT.ATTEMPTS < 3 →
    ∃ t, exec (.identAttemptTimeout now) s = .next t ∧ t.chip.col = .ident ∧
      t.get IDENT.IDENT_STAT.ATTEMPTS = (s.at now).get IDENT.IDENT_STAT.ATTEMPTS + 1 ∧ t.sb.chunks = []) ∧
  (∀ (s : State) (now : Beat), (s.at now).chip.col = .ident → (s.at now).sb.rejected = false →
    (s.at now).past (s.at now).chip.stepEntry 200000 = true → 3 ≤ (s.at now).get IDENT.IDENT_STAT.ATTEMPTS →
    ∃ t, exec (.identAttemptTimeout now) s = .next t ∧ t.chip.col = .down)

/-- TRAIN_PERIODIC and SB_KEEPALIVE send a TRAIN frame (R101, R260). -/
def Obligations.PeriodicFramesAreSent : Prop :=
  (∀ (s : State) (now : Beat), (s.at now).trainsOn = true → (s.at now).past (s.at now).sb.lastTrain 1000 = true → (s.at now).sbSends = true →
    (s.chip.col ≠ .ident ∨ s.sb.recOk = true) → (s.chip.col ≠ .cal ∨ s.cal.ownRep = none ∨ s.cal.shown = true) →
    ∃ t, exec (.trainPeriodic now) s = .next t ∧ t.sb.lastTrain = (s.at now).beat ∧
      t.out = .sb (sbFrame SbType.train.code s.sb.fseq s.trainPayload) (if s.oneChannel then 1 else 7) :: s.out) ∧
  (∀ (s : State) (now : Beat), (s.at now).colIn inService = true → (s.at now).past (s.at now).sb.lastTx 1000 = true → (s.at now).sbSends = true →
    ∃ t, exec (.sbKeepalive now) s = .next t ∧ t.sb.lastTx = (s.at now).beat ∧
      t.out = .sb (sbFrame SbType.train.code s.sb.fseq (s.chip.col.code * 2 ^ 36 + s.chip.step % 16 * 2 ^ 32)) (if s.oneChannel then 1 else 7) :: s.out)

/-- The time limits of bring-up, and the silence of the far end, end in DOWN or FAULT (R96, R97, R99, R121, R260). That CAL_TIMEOUT in
phase A leads to FAULT is the model's reading (log entry 28). -/
def Obligations.TimeLimitsEndInDownOrFault : Prop :=
  (∀ (s : State) (now : Beat), (s.at now).chip.col = .sbUp → (s.at now).past (s.at now).chip.entry 5000000 = true →
    ∃ t, exec (.sbUpTimeout now) s = .next t ∧ t.chip.col = .down) ∧
  (∀ (s : State) (now : Beat), (s.at now).chip.col = .creditInit → (s.at now).past (s.at now).chip.entry 200000 = true →
    ∃ t, exec (.creditInitTimeout now) s = .next t ∧ t.chip.col = .down) ∧
  (∀ (s : State) (now : Beat), (s.at now).chip.col = .repair → (s.at now).past (s.at now).chip.entry 1000000 = true →
    ∃ t, exec (.repairTimeout now) s = .next t ∧ t.chip.col = .down) ∧
  (∀ (s : State) (now : Beat), (s.at now).chip.col = .cal → (s.at now).chip.step = 0 → (s.at now).past (s.at now).chip.stepEntry 1000000 = true →
    ∃ t, exec (.calTimeout now) s = .next t ∧ t.chip.col = .fault) ∧
  (∀ (s : State) (now : Beat),
    (s.at now).colIn [.ident, .cal, .repair, .creditInit, .active, .retrain, .quietRepair, .widthChange, .lowland, .drain] = true →
    (s.at now).past (s.at now).sb.lastRx 8192 = true → ∃ t, exec (.farSilentSb now) s = .next t ∧ t.chip.col = .fault) ∧
  (∀ (s : State) (cycles : Nat), s.colIn inService = true → 1024 ≤ cycles → s.ctrlPaused true = false →
    ∃ t, exec (.farSilentCtrl cycles) s = .next t ∧ t.chip.col = .fault)

/-! ### Fabric time -/

/-- BEAT_LOAD, BEAT_LOCK_FALL, L_LEVEL_WRITE and SLEW_STEP (R59, R60, R361, R366, R368). -/
def Obligations.BeatCounterLoadsSlewsAndLevelIsWritten : Prop :=
  (∀ (s : State) (seed : Beat), s.beatRuns = true → s.colIn [.off, .resetHeld] = true →
    ∃ t, exec (.beatLoad seed) s = .next t ∧ t.count = seed ∧ (s.chip.counter = none → t.beat = seed)) ∧
  (∀ (s : State) (seed : Beat), s.beatRuns = false → exec (.beatLoad seed) s = .next s) ∧
  (∀ (s : State) (seed : Beat), s.beatRuns = true → s.colIn [.off, .resetHeld] = false →
    ∃ t, exec (.beatLoad seed) s = .next t ∧ t.beat = s.beat ∧
      t.get TIME.SEED_STAT.IGNORED_LOADS = min (s.get TIME.SEED_STAT.IGNORED_LOADS + 1) (2 ^ TIME.SEED_STAT.IGNORED_LOADS.width - 1)) ∧
  (∀ s : State, s.chip.dieRst = false → s.role ≠ 0 → ∃ t, exec .beatLockFall s = .next t ∧ t.beat = s.beat ∧
    if s.chip.stopped.getLsbD 3 then t.chip.beatLock = s.chip.beatLock ∧ t.chip.lockFell = true
    else t.chip.beatLock = false ∧ (s.colIn [.off, .resetHeld] = false → Raised EV.TIME.BEAT_UNLOCK t)) ∧
  (∀ (s : State) (v : BitVec 8), HostUp s (keyDomains TIME.LEVEL_CTL.L_LEVEL.key) → s.role ≠ 0 →
    s.colIn [.off, .resetHeld, .sbUp, .ident, .cal, .repair, .creditInit] = true → 32 ≤ v.toNat →
    ∃ t, exec (.lLevelWrite v) s = .next t ∧ t.get TIME.LEVEL_CTL.L_LEVEL = v.toNat) ∧
  (∀ (s : State) (now : Beat), s.beatRuns = true → s.chip.counter = none → s.on TIME.SLEW_STAT.PENDING = true →
    (s.at now).reached s.marks.nextSlew = true →
    ∃ t, exec (.slewStep now) s = .next t ∧ t.get TIME.SLEW_STAT.PENDING = s.get TIME.SLEW_STAT.PENDING - 1 ∧
      if s.on TIME.SLEW_STAT.DIR then t.beat = (s.at now).beat + 2 ∧ t.marks.nextSlew = s.marks.nextSlew + 1025
      else t.beat = (s.at now).beat ∧ t.marks.nextSlew = s.marks.nextSlew + 1023)

/-- BEAT_MARK_SEND, BEAT_MARK_RX and BEAT_MARK_TIMEOUT (R364, R365, R367). -/
def Obligations.BeatMarksAreSentMeasuredAndMissed : Prop :=
  (∀ (s : State) (now : Beat), (s.at now).marking = true → (s.at now).sbSends = true → s.marks.lastTx = none →
    ∃ t, exec (.beatMarkSend now) s = .next t ∧ t.marks.lastTx = some (s.at now).beat ∧
      t.out = .sb (sbFrame SbType.beatMark.code s.sb.fseq (packLow [(s.get TIME.MARK_STAT.OWN_MEAS, 16), ((s.at now).beat.toNat, 24)]))
        (if s.oneChannel then 1 else 7) :: s.out) ∧
  (∀ (s : State) (c : SbCopies) (stamp : Beat) (b : Nat) (r : State), Heard s c b r → bodyType b = SbType.beatMark.code → r.marking = true →
    ∃ t, exec (.beatMarkRx c stamp) s = .next t ∧ t.marks.lastRx = r.beat ∧ t.marks.missing = false ∧
      t.get TIME.MARK_STAT.OWN_MEAS = ofInt 16 (toInt 24 ((stamp.toNat + 2 ^ 24 - bits (bodyPayload b) 16 24) % 2 ^ 24)) ∧
      t.get TIME.MARK_STAT.FAR_MEAS = bits (bodyPayload b) 0 16) ∧
  (∀ (s : State) (now : Beat), (s.at now).marking = true → s.marks.missing = false → (s.at now).past s.marks.lastRx (3 * 2 ^ 20) = true →
    ∃ t, exec (.beatMarkTimeout now) s = .next t ∧ t.marks.missing = true)

/-! ### Draining -/

/-- DRAIN_GO, DRAIN_QUIET, DRAIN_TIMER and DRAIN_TO_DOWN (R234 to R236). DRAIN_GO at the owner of the token releases it (R400). -/
def Obligations.ColDrainsInPhases : Prop :=
  (∀ s : State, HostUp s (keyDomains TXN.DRAIN_CMD.GO.key) → s.role ≠ 0 → s.get TXN.DRAIN_STAT.PHASE ∉ [1, 2] →
    s.colIn [.active, .quietRepair, .widthChange, .lowland] = true → s.isOwner = false →
    ∃ t, exec .drainGo s = .next t ∧ t.get TXN.DRAIN_STAT.PHASE = 1 ∧ t.txn.drainAt = s.beat ∧ t.chip.col = s.chip.col) ∧
  (∀ s : State, HostUp s (keyDomains TXN.DRAIN_CMD.GO.key) → s.isM = true → s.get TXN.DRAIN_STAT.PHASE ∉ [1, 2] →
    s.colIn [.active, .quietRepair, .widthChange, .lowland] = true → s.isOwner = true →
    ∃ t, exec .drainGo s = .next t ∧ t.get TXN.DRAIN_STAT.PHASE = 1 ∧ t.get PAIR.ROLE_STAT.PROLE = 6 ∧ t.pair.since = s.beat ∧
      CountedOne PAIR.TOKEN_STAT.RELEASED s t ∧ Raised EV.PAIR.TOKEN_RELEASED t ∧
      (s.clkOn 2 = true → (t.windowsIn [1, 2, 3]).isEmpty = true ∧ t.txn.engQ.any EngReq.tokenScope = false)) ∧
  (∀ s : State, s.turningAway = true → s.txn.outT = [] → s.txn.served = [] → s.bothAcked = true →
    ∃ t, exec .drainQuiet s = .next t ∧ t.chip.col = .drain ∧ t.get TXN.DRAIN_STAT.PHASE = 2 ∧ t.txn.drainAt = s.beat) ∧
  (∀ (s : State) (now : Beat), (s.at now).past s.txn.drainAt (s.get TXN.DRAIN_CTL.BOUND) = true → s.turningAway = true →
    ∃ t, exec (.drainTimer now) s = .next t ∧ t.chip.col = .drain ∧ t.txn.drainAt = (s.at now).beat) ∧
  (∀ (s : State) (now : Beat), (s.at now).past s.txn.drainAt (s.get TXN.DRAIN_CTL.BOUND) = true → s.chip.col = .drain →
    ∃ t, exec (.drainTimer now) s = .next t ∧ t.chip.col = .down) ∧
  (∀ s : State, s.chip.col = .drain → s.bothAcked = true → s.get IDENT.IDENT_STAT.FAR_STATE ∈ [12, 13, 14] →
    ∃ t, exec .drainToDown s = .next t ∧ t.chip.col = .down)

/-- MDRAIN_GO, MDRAIN_BOUND and LOST_FIFO_READ (R240, R455, R456). That a memory drain for which nothing waits ends at once, and not after
BOUND beats, is the model's reading of R240 (log entry 38). -/
def Obligations.MemoryDrainsAndLostContextsAreRead : Prop :=
  (∀ s : State, HostUp s (keyDomains TXN.MDRAIN_CMD.GO.key) → s.isM = true → s.on TXN.MDRAIN_STAT.RUNNING = false → s.drainWaits = true →
    ∃ t, exec .mdrainGo s = .next t ∧ t.get TXN.MDRAIN_STAT.RUNNING = 1 ∧ t.get TXN.MDRAIN_STAT.DONE = 0 ∧ t.txn.mdrainAt = s.beat) ∧
  (∀ s : State, HostUp s (keyDomains TXN.MDRAIN_CMD.GO.key) → s.isM = true → s.on TXN.MDRAIN_STAT.RUNNING = false → s.drainWaits = false →
    ∃ t, exec .mdrainGo s = .next t ∧ t.get TXN.MDRAIN_STAT.RUNNING = 0 ∧ t.get TXN.MDRAIN_STAT.DONE = 1) ∧
  (∀ (s : State) (now : Beat), (s.at now).on TXN.MDRAIN_STAT.RUNNING = true →
    ((s.at now).drainWaits = false ∨ (s.at now).past s.txn.mdrainAt (s.get TXN.DRAIN_CTL.BOUND) = true) →
    ∃ t, exec (.mdrainBound now) s = .next t ∧ t.get TXN.MDRAIN_STAT.RUNNING = 0 ∧ t.get TXN.MDRAIN_STAT.DONE = 1) ∧
  (∀ (s : State) (e : LostEntry) (l : List LostEntry), HostUp s (keyDomains TXN.LOST_FIFO.CTX.key) → s.role ≠ 0 → s.lostQ = e :: l →
    ∃ t, exec .lostFifoRead s = .next t ∧ t.lostQ = l ∧ t.lostOvf = false ∧
      t.out = .mb (BitVec.ofNat 64 (packLow [(e.ctx, 14), (1, 1), (0, 1), (e.cause, 4), (0, 12), (e.beat, 32)] + b2n s.lostOvf * 2 ^ 15)) false :: s.out)

/-! ### Calibration -/

/-- Scrambler starts: SCRAMBLER_REPROPOSE, SCRAMBLER_START_BEAT, VALID_LANE_RISE and VALID_RISE_TIMEOUT (R113, R114). -/
def Obligations.ScramblerStartsAreProposedAndTaken : Prop :=
  (∀ (s : State) (now b : Beat), s.cal.startAt = some b → s.cal.starter = true → s.cal.ready = false → (s.at now).reached (b - 2000) = true →
    s.wins = true →
    ∃ t, ∃ lead : Nat, exec (.scramblerRepropose now) s = .next t ∧ 10000 ≤ lead ∧ lead ≤ 2 ^ 27 ∧
      t.cal.startAt = some ((s.at now).beat + BitVec.ofNat 64 lead) ∧ t.cal.ready = false ∧ t.sb.status = 7) ∧
  (∀ (s : State) (now b : Beat), s.cal.startAt = some b → s.cal.ready = true → s.cal.seeded = false → (s.at now).reached b = true →
    s.colIn [.cal, .retrain, .lowland] = true → ¬ (s.chip.col = .cal ∧ s.chip.step = 3) →
    ∃ t, ∃ ui < 32, exec (.scramblerStartBeat now) s = .next t ∧ t.cal.seeded = true ∧
      t.cal.txSeed = some ((s.at now).uiNow - ((s.at now).count - b).toNat * s.uiPerBeat + ui) ∧
      t.chip.col = s.chip.col) ∧
  (∀ (s : State) (g : Fin 5), s.cal.seeded = true → s.cal.candRx.getLsbD g.val = true → s.cal.risen.getLsbD g.val = false →
    s.cal.noRise.getLsbD g.val = false →
    ∃ t, ∃ ui < 4 * (s.get PHY.RATE_STAT.RATE + 1), exec (.validLaneRise g) s = .next t ∧ t.cal.risen.getLsbD g.val = true ∧
      Sparse.find t.cal.rxSeed g.val = some (s.uiNow - (s.count - s.beat).toNat * s.uiPerBeat + ui) ∧ t.chip.rxReleased.getLsbD g.val = true ∧ t.clkOn (6 + g.val) = true) ∧
  (∀ (s : State) (g : Fin 5), s.cal.noRise.getLsbD g.val = true → exec (.validLaneRise g) s = .next s) ∧
  (∀ (s : State) (now b : Beat) (g : Fin 5), s.cal.startAt = some b → s.cal.seeded = true → (s.at now).reached (b + 4096) = true →
    s.chip.col ≠ .repair → s.cal.candRx.getLsbD g.val = true → s.cal.risen.getLsbD g.val = false →
    ∃ t, exec (.validRiseTimeout now) s = .next t ∧ t.cal.noRise.getLsbD g.val = true)

/-- Bring-up calibration steps: RATE_STEP_DONE, CAL_WINDOW_END, RETRAIN_GO and REPAIR_VERIFY_END (R96, R119, R122, R143, R149). -/
def Obligations.CalibrationStepsProceed : Prop :=
  (∀ s : State, s.chip.step = 1 → s.colIn [.cal, .retrain, .lowland] = true →
    ∃ t, exec .rateStepDone s = .next t ∧ t.chip.step = 2 ∧ t.cal.window = 0 ∧ t.cal.seeded = false) ∧
  (∀ (s : State) (r : CalWindow), r.wf = true → s.cal.seeded = true → s.cal.ownRep = none → s.chip.col = .cal → s.chip.step = 0 →
    s.cal.window < 5 →
    ∃ t, exec (.calWindowEnd r) s = .next t ∧ t.cal.window = s.cal.window + 1 ∧ t.chip.col = .cal) ∧
  (∀ (s : State) (r : CalWindow) (i : Nat) (c : BitVec 6), r.wf = true → s.cal.seeded = true → s.cal.ownRep = none → s.chip.col = .cal →
    s.chip.step = 0 → s.cal.window = 2 → r.offset = [(i, c)] →
    ∃ t, exec (.calWindowEnd r) s = .next t ∧ t.get (CAL.TRIM_OFFSET.CODE i) = c.toNat) ∧
  (∀ s : State, HostUp s (keyDomains PHY.RETRAIN_CMD.GO.key) → s.role ≠ 0 → s.chip.col = .active → s.anyPause = false → s.parked = false →
    ∃ t, exec .retrainGo s = .next t ∧ t.chip.col = .retrain ∧ t.chip.step = 1 ∧ t.cal.mode = .retrain ∧ t.cal.fails = 0) ∧
  (∀ (s : State) (now b : Beat), s.rep.verify = some b → s.chip.col = .repair → (s.at now).past b 1024 = true → s.rep.farReady = false →
    ∃ t, exec (.repairVerifyEnd now 0) s = .next t ∧ t.rep.ownReady = true ∧ t.rep.verify = none ∧ t.sb.status = 10)

/-- Background calibration: CAL_RUN_GO, CAL_CORRECTION_END, CAL_MEASURE_END, CAL_APPLY frames, repeats and beats (R124 to R130). With
parked lanes a run waits for the wake (R436). The BEAT of a PROPOSE is resolved to the nearest beat with its low 32 bits: the model's
reading (log entry 22). -/
def Obligations.BackgroundCalibrationRuns : Prop :=
  (∀ s : State, HostUp s (keyDomains CAL.RUN_CMD.GO.key) → s.role ≠ 0 → s.cal.run = none → s.colIn [.active, .lowland] = true → s.parked = false →
    ∃ t, exec .calRunGo s = .next t ∧ t.get CAL.RUN_STAT.ACTIVE = 1 ∧
      t.cal.run = some { stage := .correct, old := [], drive := [], rejSites := [], rejGroup := false }) ∧
  (∀ s : State, HostUp s (keyDomains CAL.RUN_CMD.GO.key) → s.role ≠ 0 → s.cal.run = none → s.colIn [.active, .lowland] = true → s.parked = true →
    ∃ t, exec .calRunGo s = .next t ∧ t.pwr.runAfterWake = true ∧ t.cal = s.cal) ∧
  (∀ (s : State) (r : CalRun) (counts : List EdgeCounts), (counts.all fun c => siteOk c.site) = true → s.cal.run = some r →
    r.stage = .correct →
    ∃ t r', exec (.calCorrectionEnd counts) s = .next t ∧ t.cal.run = some r' ∧ r'.stage = .agree ∧ r'.drive = []) ∧
  (∀ (s : State) (r : CalRun) (eyes : List EyeMeas), (eyes.all fun e => siteOk e.site) = true → s.cal.run = some r → r.stage = .measure →
    eyes.any s.worse = false → ∃ t, exec (.calMeasureEnd eyes) s = .next t ∧ t.cal.run = none) ∧
  (∀ (s : State) (r : CalRun) (eyes : List EyeMeas), (eyes.all fun e => siteOk e.site) = true → s.cal.run = some r → r.stage = .measure →
    eyes.any s.worse = true → (eyes.all fun e => decide (16 ≤ e.width)) = true →
    ∃ t r', exec (.calMeasureEnd eyes) s = .next t ∧ t.cal.run = some r' ∧ r'.stage = .restore) ∧
  (∀ (s : State) (c : SbCopies) (b : Nat) (r : State), Heard s c b r → bodyType b = SbType.calApply.code → bits (bodyPayload b) 36 4 = 1 →
    ∃ t, exec (.calApplyProposeRx c) s = .next t ∧
      t.cal.far = some { beat := resolveBeat 32 (bits (bodyPayload b) 0 32) r.beat, run := bits (bodyPayload b) 32 4, accepted := true, lastSent := r.beat }) ∧
  (∀ (s : State) (c : SbCopies) (b : Nat) (r : State) (a : ApplyPlan), Heard s c b r → bodyType b = SbType.calApply.code →
    bits (bodyPayload b) 36 4 = 2 → r.cal.own = some a → a.run = bits (bodyPayload b) 32 4 → a.beat.toNat % 2 ^ 32 = bits (bodyPayload b) 0 32 →
    a.declined = false → ∃ t, exec (.calApplyAcceptRx c) s = .next t ∧ t.cal.own = some { a with accepted := true }) ∧
  (∀ (s : State) (c : SbCopies) (b : Nat) (r : State) (a : ApplyPlan), Heard s c b r → bodyType b = SbType.calApply.code →
    bits (bodyPayload b) 36 4 = 3 → r.cal.far = some a → r.cal.own = none → a.run = bits (bodyPayload b) 32 4 →
    a.beat.toNat % 2 ^ 32 = bits (bodyPayload b) 0 32 →
    ∃ t, exec (.calApplyDeclineRx c) s = .next t ∧ t.cal.far = none) ∧
  (∀ (s : State) (c : SbCopies) (b : Nat) (r : State) (a : ApplyPlan) (u : CalRun), Heard s c b r → bodyType b = SbType.calApply.code →
    bits (bodyPayload b) 36 4 = 3 → r.cal.own = some a → r.cal.run = some u → a.run = bits (bodyPayload b) 32 4 →
    a.beat.toNat % 2 ^ 32 = bits (bodyPayload b) 0 32 →
    ∃ t, exec (.calApplyDeclineRx c) s = .next t ∧ t.cal.own = none ∧ t.cal.run = none) ∧
  (∀ (s : State) (now : Beat) (a : ApplyPlan), s.cal.own = some a → a.accepted = false → (s.at now).reached (a.beat - 1024) = false →
    (s.at now).past a.lastSent 1024 = true →
    ∃ t, exec (.calProposeRepeat now) s = .next t ∧ t.cal.own = some { a with lastSent := (s.at now).beat }) ∧
  (∀ (s : State) (now : Beat) (a : ApplyPlan), s.cal.own = some a → a.accepted = true → (s.at now).reached a.beat = true → s.cal.far = none →
    s.colIn [.active, .lowland] = false →
    ∃ t, exec (.calApplyBeat now) s = .next t ∧ t.cal.own = none ∧ t.cal.run = none ∧ t.cal.again = true) ∧
  (∀ (s : State) (now : Beat) (a : ApplyPlan) (r : CalRun), s.cal.own = some a → a.accepted = true → (s.at now).reached a.beat = true →
    s.cal.far = none → s.colIn [.active, .lowland] = true → s.rep.props = [] → s.cal.run = some r → r.stage = .agree →
    ∃ t, exec (.calApplyBeat now) s = .next t ∧ t.cal.own = none ∧ t.cal.run = some { r with stage := .measure, pended := [] })

/-! ### The die port -/

/-- DPI_HEADER_OFFER, DPI_CONTINUATION and DIE_RESPONSE_OFFER. A non-posted request whose TAG is registered already is taken and
discarded, counted, captured and raised, and the registered request keeps its answer (R213). In LOWLAND a TC2 or TC3 offer is taken
on its credits and answered FMT_REFUSED, and nothing crosses the Col (R37). Any other good request with its credits joins the
transmit path (R35, R202, R212), a continuation is taken whenever it is offered, and a response leaves under its request's TAG
(R214). An early read is held until its verdict, for VERDICT_TIMEOUT as it stands when the read is taken (R230, R455; the model's reading,
log entry 35). -/
def Obligations.DieOffersAreTakenSentOrTurnedAway : Prop :=
  (∀ (s : State) (c : DieCycle) (h q : Hdr), c.wf = true → s.portOpen = true → h = hdrOf ((cycleUnits c).headD 0) → h.isResponse = false →
    h.isPosted = false → h.operation ≠ some .nop → Sparse.find s.txn.outT h.tag = some q →
    ∃ t, exec (.dpiHeaderOffer c) s = .next t ∧ t.txn = s.txn ∧ t.lnk.txQ = s.lnk.txQ ∧ t.lnk.dpoQ = s.lnk.dpoQ ∧
      t.lnk.txCur.map (·.1) = (if c.last then none else some .sink) ∧ (∀ k < 11, t.avail k = s.avail k) ∧
      t.get CREDIT.RSP_STAT.FREE = s.get CREDIT.RSP_STAT.FREE ∧ CountedOne TXN.ERR_STAT.TAG_REUSE s t ∧
      t.get TXN.ERR_CAPTURE.TAG = h.tag ∧ t.get TXN.ERR_CAPTURE.CTX = h.ctx ∧ Raised EV.TXN.TAG_REUSE t) ∧
  (∀ (s : State) (c : DieCycle) (h : Hdr) (o : Op), c.wf = true → s.portOpen = true → h = hdrOf ((cycleUnits c).headD 0) →
    h.isResponse = false → (h.isPosted = true ∨ Sparse.find s.txn.outT h.tag = none) → offerMalformed c.cls.toNat h = false →
    h.operation = some o → s.hasCredits h o = true → s.chip.col = .lowland → 2 ≤ h.tc →
    ∃ t i, exec (.dpiHeaderOffer c) s = .next t ∧ t.lnk.txQ = s.lnk.txQ ∧ t.lnk.dpoQ = s.lnk.dpoQ ++ [i] ∧ i.hdr.tag = h.tag ∧
      i.hdr.op = Op.cpl.code ∧ i.hdr.status = Status.fmtRefused.code ∧ i.tent = false ∧ Sparse.find t.txn.outT h.tag = some h) ∧
  (∀ (s : State) (c : DieCycle) (h : Hdr) (o : Op), c.wf = true → s.portOpen = true → h = hdrOf ((cycleUnits c).headD 0) →
    h.isResponse = false → (h.isPosted = true ∨ Sparse.find s.txn.outT h.tag = none) → offerMalformed c.cls.toNat h = false →
    h.operation = some o → o ≠ .nop → s.fmtRefused h o = false → s.hasCredits h o = true → ¬ (s.chip.col = .lowland ∧ 2 ≤ h.tc) →
    s.get TXN.DRAIN_STAT.PHASE ≠ 1 → (o.isPosted = true ∨ respEntries o h.len ≤ s.get CREDIT.RSP_STAT.FREE) → h.early = false →
    c.last = true → slotsAfter (some o) h.len = some ((cycleUnits c).length - 1) →
    ∃ t, exec (.dpiHeaderOffer c) s = .next t ∧ t.lnk.txQ = s.lnk.txQ ++ [{ hdr := s.sentHdr h, slots := (cycleUnits c).drop 1 }] ∧
      (∀ d ∈ reqCredits h.tc o h.len, t.get (CREDIT.TX_STAT.CONS d.1) = (s.get (CREDIT.TX_STAT.CONS d.1) + d.2) % 2 ^ 16) ∧
      (o.isPosted = false → Sparse.find t.txn.outT h.tag = some h)) ∧
  (∀ (s : State) (c : DieCycle) (h : Hdr), c.wf = true → s.portOpen = true → h = hdrOf ((cycleUnits c).headD 0) →
    Sparse.find s.txn.outT h.tag = none → offerMalformed c.cls.toNat h = false → h.operation = some .rd → h.early = true → s.isH = true →
    s.fmtRefused h .rd = false → s.hasCredits h .rd = true → s.get TXN.DRAIN_STAT.PHASE ≠ 1 →
    respEntries .rd h.len ≤ s.get CREDIT.RSP_STAT.FREE → c.last = true →
    ∃ t, exec (.dpiHeaderOffer c) s = .next t ∧ (s.on TXN.SPEC_CTL.EARLY_EN = false →
        t.lnk.txQ = s.lnk.txQ ++ [{ hdr := s.sentHdr h, slots := [], held := true }]) ∧
      Sparse.find t.txn.early h.tag =
        some { hdr := h, since := s.beat, held := !s.on TXN.SPEC_CTL.EARLY_EN, limit := s.get TXN.SPEC_CTL.VERDICT_TIMEOUT }) ∧
  (∀ (s : State) (c : DieCycle) (m : TakeMode) (i : TxItem), c.wf = true → s.chip.dieRst = false → s.clkOn 1 = true →
    s.lnk.txCur = some (m, i) → c.last = false →
    ∃ t, exec (.dpiContinuation c) s = .next t ∧ t.lnk.txCur = some (m, { i with slots := i.slots ++ cycleUnits c }) ∧ t.lnk.txQ = s.lnk.txQ) ∧
  (∀ (s : State) (c : DieCycle) (i : TxItem), c.wf = true → s.chip.dieRst = false → s.clkOn 1 = true →
    s.lnk.txCur = some (.send, i) → c.last = true → slotsAfter i.hdr.operation i.hdr.len = some (i.slots ++ cycleUnits c).length →
    ∃ t, exec (.dpiContinuation c) s = .next t ∧ t.lnk.txCur = none ∧ t.lnk.txQ = s.lnk.txQ ++ [{ i with slots := i.slots ++ cycleUnits c }]) ∧
  (∀ (s : State) (c : DieCycle) (h q : Hdr), c.wf = true → s.portOpen = true → h = hdrOf ((cycleUnits c).headD 0) → h.isResponse = true →
    s.txn.gone.contains h.tag = false → Sparse.find s.txn.served h.tag = some q → s.txn.squashed.contains h.tag = false →
    rspFits q h = true → c.last = true →
    ∃ t i, exec (.dieResponseOffer c) s = .next t ∧ Sparse.find t.txn.served h.tag = none ∧ t.lnk.txQ = s.lnk.txQ ++ [i] ∧
      i.hdr.op = h.op ∧ i.hdr.tag = h.tag ∧ i.hdr.tc = q.tc ∧ i.hdr.status = h.status ∧ i.hdr.ctx = q.ctx) ∧
  (∀ (s : State) (c : DieCycle) (h : Hdr), c.wf = true → s.portOpen = true → h = hdrOf ((cycleUnits c).headD 0) → h.isResponse = true →
    s.txn.gone.contains h.tag = false → Sparse.find s.txn.served h.tag = none →
    ∃ t, exec (.dieResponseOffer c) s = .next t ∧ t.lnk.txQ = s.lnk.txQ ∧ CountedOne TXN.ERR_STAT.ORPHAN_DIE s t ∧
      t.get TXN.ERR_CAPTURE.TAG = h.tag ∧ t.get TXN.ERR_CAPTURE.KIND = 2 ∧ Raised EV.TXN.RSP_ORPHAN t)

/-- DPO_TRANSFER_TAKEN, MSG_IN_OFFER and MSG_OUT_TAKEN (R40, R41, R44, R45, R203, R205, R212). -/
def Obligations.TransfersAndMessagesPassTheDiePort : Prop :=
  (∀ (s : State) (cls : BitVec 2) (i : DpoItem) (q : List DpoItem), s.chip.dieRst = false → s.clkOn 1 = true →
    s.pickItem cls.toNat [] s.lnk.dpoQ = some (i, q) → i.tent = true → i.cnf = false →
    ∃ t, exec (.dpoTransferTaken cls) s = .next t ∧ t.lnk.dpoQ = q ∧ t.lnk.dpoTaken = s.lnk.dpoTaken ++ [i] ∧ t.txn = s.txn ∧ t.regs = s.regs) ∧
  (∀ (s : State) (cls : BitVec 2) (i : DpoItem) (q : List DpoItem), s.chip.dieRst = false → s.clkOn 1 = true →
    s.pickItem cls.toNat [] s.lnk.dpoQ = some (i, q) → i.tent = false → i.hdr.isResponse = true → i.first = true → i.last = true →
    ∃ t, exec (.dpoTransferTaken cls) s = .next t ∧ t.lnk.dpoQ = q ∧ Sparse.find t.txn.outT i.hdr.tag = none ∧
      t.get CREDIT.RSP_STAT.FREE = (s.get CREDIT.RSP_STAT.FREE + i.resv) % 2 ^ 14) ∧
  (∀ (s : State) (cls : BitVec 2) (i : DpoItem) (q : List DpoItem), s.chip.dieRst = false → s.clkOn 1 = true →
    s.pickItem cls.toNat [] s.lnk.dpoQ = some (i, q) → i.tent = false → i.hdr.isResponse = false → i.hdr.isPosted = false → i.first = true →
    s.colDead = false →
    ∃ t, exec (.dpoTransferTaken cls) s = .next t ∧ t.lnk.dpoQ = q ∧ Sparse.find t.txn.served i.hdr.tag = some i.hdr) ∧
  (∀ (s : State) (cls : BitVec 3) (data : Word), s.chip.dieRst = false → s.role ≠ 0 → s.clkOn 1 = true → s.colIn inService = true →
    s.preReset = false → (cls.toNat = 2 ∨ 5 ≤ cls.toNat) →
    ∃ t, exec (.msgInOffer cls data) s = .next t ∧ t.lnk = s.lnk ∧ Raised EV.CTRL.MSG_CLASS_BAD t) ∧
  (∀ (s : State) (cls : BitVec 3) (data : Word), s.chip.dieRst = false → s.role ≠ 0 → s.clkOn 1 = true → s.colIn inService = true →
    s.preReset = false → cls.toNat ∈ [0, 1, 3, 4] → s.get (CREDIT.TX_STAT.ADV (msgIdx cls.toNat)) = 0 →
    ∃ t, exec (.msgInOffer cls data) s = .next t ∧ t.lnk = s.lnk ∧ CountedOne CTRL.FAIL_STAT.MSG_LOST s t ∧ Raised EV.CTRL.MSG_LOST t) ∧
  (∀ (s : State) (cls : BitVec 3) (data : Word), s.chip.dieRst = false → s.role ≠ 0 → s.clkOn 1 = true → s.colIn inService = true →
    s.preReset = false → cls.toNat ∈ [0, 1, 3, 4] → 0 < s.avail (msgIdx cls.toNat) →
    ∃ t, exec (.msgInOffer cls data) s = .next t ∧ t.lnk.msgQ = s.lnk.msgQ ++ [data.toNat / 8 * 8 + cls.toNat] ∧
      t.get (CREDIT.TX_STAT.CONS (msgIdx cls.toNat)) = (s.get (CREDIT.TX_STAT.CONS (msgIdx cls.toNat)) + 1) % 2 ^ 16) ∧
  (∀ (s : State) (cls : BitVec 3) (m : Nat), s.chip.dieRst = false → s.clkOn 1 = true →
    s.lnk.msgOut.find? (fun m => msgClass m == cls.toNat) = some m →
    ∃ t, exec (.msgOutTaken cls) s = .next t ∧ t.lnk.msgOut = s.lnk.msgOut.erase m ∧
      t.get (CREDIT.RX_STAT.RETURNED (msgIdx cls.toNat)) = (s.get (CREDIT.RX_STAT.RETURNED (msgIdx cls.toNat)) + 1) % 2 ^ 16)

/-- DIR_VERDICT and SQUASH_RX: a verdict without an early read is discarded and raises DIR_ORPHAN (R48); a clear verdict sends or
confirms the read, and a dirty one answers it SQUASHED or sends SQUASH on MC2 (R47, R230, R231). That a response which is still being
taken from the die counts as not sent, so that SQUASH replaces it, is the model's reading (log entry 35). -/
def Obligations.VerdictsAndSquashesDecideEarlyReads : Prop :=
  (∀ (s : State) (tag : BitVec 12) (dirty : Bool), s.chip.dieRst = false → s.isH = true → s.clkOn 1 = true →
    (∀ e, Sparse.find s.txn.early tag.toNat = some e → e.verdict ≠ none) →
    ∃ t, exec (.dirVerdict tag dirty) s = .next t ∧ t.txn = s.txn ∧ t.lnk = s.lnk ∧ Raised EV.TXN.DIR_ORPHAN t) ∧
  (∀ (s : State) (tag : BitVec 12) (e : EarlyRead), s.chip.dieRst = false → s.isH = true → s.clkOn 1 = true →
    Sparse.find s.txn.early tag.toNat = some e → e.verdict = none → e.hdr.tag = tag.toNat → e.held = true →
    ∃ t, exec (.dirVerdict tag false) s = .next t ∧ Sparse.find t.txn.early tag.toNat = none ∧
      ∀ (a b : List TxItem) (i : TxItem), s.lnk.txQ = a ++ i :: b → i.held = true → i.hdr.tag = tag.toNat →
        (∀ j ∈ a ++ b, j.held = true → j.hdr.tag ≠ tag.toNat) →
        t.lnk.txQ = a ++ { i with held := false, hdr := { i.hdr with attr := clearBit i.hdr.attr 0 } } :: b) ∧
  (∀ (s : State) (tag : BitVec 12) (e : EarlyRead), s.chip.dieRst = false → s.isH = true → s.clkOn 1 = true →
    Sparse.find s.txn.early tag.toNat = some e → e.verdict = none → e.hdr.tag = tag.toNat → e.held = true →
    ∃ t i, exec (.dirVerdict tag true) s = .next t ∧ Sparse.find t.txn.early tag.toNat = none ∧
      t.lnk.txQ = s.lnk.txQ.filter (fun x => !(x.held && x.hdr.tag == tag.toNat)) ∧
      i ∈ t.lnk.dpoQ ∧ i.hdr.tag = tag.toNat ∧ i.hdr.status = Status.squashed.code) ∧
  (∀ (s : State) (tag : BitVec 12) (e : EarlyRead), s.chip.dieRst = false → s.isH = true → s.clkOn 1 = true →
    Sparse.find s.txn.early tag.toNat = some e → e.verdict = none → e.hdr.tag = tag.toNat → e.held = false → e.resp = none →
    ∃ t, exec (.dirVerdict tag false) s = .next t ∧ Sparse.find t.txn.early tag.toNat = some { e with verdict := some false } ∧
      t.lnk = s.lnk) ∧
  (∀ (s : State) (tag : BitVec 12) (e : EarlyRead), s.chip.dieRst = false → s.isH = true → s.clkOn 1 = true →
    Sparse.find s.txn.early tag.toNat = some e → e.verdict = none → e.hdr.tag = tag.toNat → e.held = false → e.resp = none →
    ∃ t, exec (.dirVerdict tag true) s = .next t ∧ Sparse.find t.txn.early tag.toNat = some { e with verdict := some true } ∧
      t.lnk.msgQ = linkMsg 4 tag.toNat :: s.lnk.msgQ ∧ CountedOne TXN.SPEC_STAT_HI.SQUASHED s t) ∧
  (∀ (s : State) (m : Nat) (i : TxItem), s.linkHead 4 = some m → s.lnk.txQ = [i] → i.fresh = true → i.hdr.isResponse = true →
    i.hdr.tag = bits m 8 12 →
    ∃ t j, exec .squashRx s = .next t ∧ t.lnk.linkQ = s.lnk.linkQ.drop 1 ∧ t.lnk.txQ = [j] ∧ j.hdr.tag = i.hdr.tag ∧
      j.hdr.op = Op.cpl.code ∧ j.hdr.status = Status.squashed.code ∧ j.slots = []) ∧
  (∀ (s : State) (m : Nat) (i : TxItem), s.linkHead 4 = some m → s.lnk.txQ = [] → s.lnk.txCur = some (.send, i) → i.fresh = true →
    i.hdr.isResponse = true → i.hdr.tag = bits m 8 12 →
    ∃ t j, exec .squashRx s = .next t ∧ t.lnk.linkQ = s.lnk.linkQ.drop 1 ∧ t.lnk.txQ = [j] ∧ t.lnk.txCur = some (.sink, i) ∧
      j.hdr.tag = i.hdr.tag ∧ j.hdr.op = Op.cpl.code ∧ j.hdr.status = Status.squashed.code ∧ j.slots = []) ∧
  (∀ (s : State) (m : Nat), s.linkHead 4 = some m → s.lnk.txQ = [] → s.lnk.txCur = none → s.holdsRead (bits m 8 12) = true →
    ∃ t, exec .squashRx s = .next t ∧ t.lnk.linkQ = s.lnk.linkQ.drop 1 ∧ bits m 8 12 ∈ t.txn.squashed) ∧
  (∀ (s : State) (m : Nat), s.linkHead 4 = some m → s.lnk.txQ = [] → s.lnk.txCur = none → s.holdsRead (bits m 8 12) = false →
    ∃ t, exec .squashRx s = .next t ∧ t.lnk.linkQ = s.lnk.linkQ.drop 1 ∧ t.txn = s.txn ∧ CountedOne TXN.SPEC_STAT_HI.SQUASH_LATE s t)

/-- VERDICT_TIMEOUT (R232): an H-end that holds an early read without a verdict for the beats that `TXN.SPEC_CTL.VERDICT_TIMEOUT` gave
when it took the read treats the verdict as dirty and raises DIR_TIMEOUT; a verdict after that is an orphan. The default is 100,000
beats, and a write outside 1,000 to 1,000,000 does not reach the register. -/
def Obligations.AnEarlyReadWithoutVerdictTimesOut : Prop :=
  (∀ (s : State) (tag : BitVec 12) (now : Beat) (e : EarlyRead), s.chip.dieRst = false → s.isH = true → s.clkOn 1 = true →
    Sparse.find s.txn.early tag.toNat = some e → e.verdict = none → (s.at now).past e.since e.limit = true →
    ∃ t, exec (.verdictTimeout tag now) s = .next t ∧ exec (.dirVerdict tag true) ((s.at now).raise EV.TXN.DIR_TIMEOUT tag.toNat) = .next t ∧
      Raised EV.TXN.DIR_TIMEOUT t) ∧
  (∀ (s : State) (tag : BitVec 12) (now : Beat) (e : EarlyRead), Sparse.find s.txn.early tag.toNat = some e →
    (s.at now).past e.since e.limit = false → exec (.verdictTimeout tag now) s = .next (s.at now)) ∧
  (∀ (s : State) (tag : BitVec 12) (now : Beat) (e : EarlyRead) (dirty : Bool), s.chip.dieRst = false → s.isH = true → s.clkOn 1 = true →
    Sparse.find s.txn.early tag.toNat = some e → e.verdict = none → e.hdr.tag = tag.toNat →
    (s.at now).past e.since e.limit = true →
    ∃ t u, exec (.verdictTimeout tag now) s = .next t ∧ exec (.dirVerdict tag dirty) t = .next u ∧ u.txn = t.txn ∧ Raised EV.TXN.DIR_ORPHAN u) ∧
  State.reset.get TXN.SPEC_CTL.VERDICT_TIMEOUT = 100000 ∧
  (∀ (s : State) (data : Word), HostUp s (keyDomains TXN.SPEC_CTL.VERDICT_TIMEOUT.key) →
    (bits data.toNat 32 20 < 1000 ∨ 1000000 < bits data.toNat 32 20) →
    ∃ t, exec (.registerWrite (BitVec.ofNat 18 (TXN.SPEC_CTL.VERDICT_TIMEOUT.key / 8)) data) s = .next t ∧
      t.get TXN.SPEC_CTL.VERDICT_TIMEOUT = s.get TXN.SPEC_CTL.VERDICT_TIMEOUT)

/-! ### Power and heat -/

/-- TEMP_UPDATE, BUDGET_CHANGE and STK_THR_CHANGE: TEMP_INVALID once in a low period, no temperature run meanwhile (R61), the hot
limit with TEMP_HOT and its end (R431), a temperature run (R124), and the inputs, which an MCLK edge samples (R31, R62, R63). -/
def Obligations.InputsAreSampledAndHeatLimitsTheEngine : Prop :=
  (∀ (s : State) (temp : BitVec 10), s.clkOn 0 = true → s.role ≠ 0 → s.pwr.tempLow = false →
    ∃ t, exec (.tempUpdate temp false) s = .next t ∧ t.inp.tempValid = false ∧ t.pwr.tempLow = true ∧ t.cal = s.cal ∧ Raised EV.CAL.TEMP_INVALID t) ∧
  (∀ (s : State) (temp : BitVec 10), s.clkOn 0 = true → s.role ≠ 0 → s.pwr.tempLow = true →
    ∃ t, exec (.tempUpdate temp false) s = .next t ∧ t.inp.temp = temp ∧ t.inp.tempValid = false ∧ { t with inp := s.inp } = s) ∧
  (∀ (s : State) (temp : BitVec 10) (valid : Bool), s.clkOn 0 = false →
    exec (.tempUpdate temp valid) s = .next { s with inp := { s.inp with pin := { s.inp.pin with temp := temp, tempValid := valid } } }) ∧
  (∀ (s : State) (temp : BitVec 10), s.clkOn 0 = true → s.role ≠ 0 → s.pwr.hot = false →
    toInt 10 (s.get POWER.TEMP_CTL.HOT) ≤ toInt 10 temp.toNat → s.colIn [.active, .lowland] = false →
    ∃ t, exec (.tempUpdate temp true) s = .next t ∧ t.pwr.hot = true ∧ (s.isM = true → t.get POWER.BUDGET_STAT.ENG_CAP ≤ 16) ∧
      Raised EV.POWER.TEMP_HOT t) ∧
  (∀ (s : State) (temp : BitVec 10), s.clkOn 0 = true → s.role ≠ 0 → s.pwr.hot = true →
    toInt 10 temp.toNat ≤ toInt 10 (s.get POWER.TEMP_CTL.HOT) - 20 → ∃ t, exec (.tempUpdate temp true) s = .next t ∧ t.pwr.hot = false) ∧
  (∀ (s : State) (temp : BitVec 10), s.clkOn 0 = true → s.role ≠ 0 → s.colIn [.active, .lowland] = true → s.clkOn 4 = true →
    s.cal.run = none → s.parked = false →
    4 * s.get CAL.DT_CTL.DELTA_T ≤ (toInt 10 temp.toNat - toInt 10 (s.get CAL.RUN_STAT.T_LAST)).natAbs →
    ∃ t, exec (.tempUpdate temp true) s = .next t ∧ t.cal.run.isSome = true ∧ t.get CAL.RUN_STAT.T_LAST = temp.toNat) ∧
  (∀ (s : State) (budget : BitVec 8) (valid : Bool), s.clkOn 0 = true → ∃ t, exec (.budgetChange budget valid) s = .next t ∧
    t.inp.budget = budget ∧ t.inp.budgetValid = valid ∧ (s.powered = true → (t.pwr.shortSince.isSome = true ↔ t.budgetShort = true))) ∧
  (∀ (s : State) (budget : BitVec 8) (valid : Bool), s.clkOn 0 = false →
    exec (.budgetChange budget valid) s = .next { s with inp := { s.inp with pin := { s.inp.pin with budget := budget, budgetValid := valid } } }) ∧
  (∀ (s : State) (thr : BitVec 8), s.clkOn 0 = true → ∃ t, exec (.stkThrChange thr) s = .next t ∧ t.inp.stkThr = thr) ∧
  (∀ (s : State) (thr : BitVec 8), s.clkOn 0 = false →
    exec (.stkThrChange thr) s = .next { s with inp := { s.inp with pin := { s.inp.pin with stkThr := thr } } })

/-- PWR_DEMAND is P_fix + 2.4 W × d rounded up to the next 31.25 mW step, with or without a valid budget, and without one the cap
does not apply (R429). Powers are in mW and DEMAND counts steps of 31.25 mW, so four times a power is at most 125 × DEMAND. -/
def Obligations.DemandIsRoundedUpToTheNextStep : Prop :=
  (∀ (s : State) (now : Beat) (ready period : Nat), s.powered = true → s.isM = true → 0 < period →
    ∃ t, exec (.engineCapRecompute now ready period) s = .next t ∧
      4 * (s.fixedPower * period + 2400 * min ready period) ≤ 125 * period * t.get POWER.BUDGET_STAT.DEMAND ∧
      125 * period * t.get POWER.BUDGET_STAT.DEMAND < 4 * (s.fixedPower * period + 2400 * min ready period) + 125 * period) ∧
  (∀ (s : State) (now : Beat) (ready period : Nat), s.powered = true → s.isM = false →
    ∃ t, exec (.engineCapRecompute now ready period) s = .next t ∧ 4 * s.fixedPower ≤ 125 * t.get POWER.BUDGET_STAT.DEMAND ∧
      125 * t.get POWER.BUDGET_STAT.DEMAND < 4 * s.fixedPower + 125) ∧
  (∀ (s : State) (now : Beat) (ready period : Nat), s.powered = true → s.isM = true → s.inp.budgetValid = false → s.pwr.hot = false →
    ∃ t, exec (.engineCapRecompute now ready period) s = .next t ∧ t.get POWER.BUDGET_STAT.ENG_CAP = 64)

/-- ENGINE_CAP_RECOMPUTE, RATE_AUTO_STEP and IDLE_CLOCKED_ENTRY (R426, R428, R430, R431). The cap is floor(64 × (BUDGET − P_fix) / 2.4 W),
from 1 to 64, with BUDGET in steps of 31.25 mW up to 4.4 W (R62) and P_fix from the rows of R427: in quarters of a mW, so that every
step is whole. -/
def Obligations.BudgetsCapTheEngineAndStepTheRate : Prop :=
  (∀ (s : State) (now : Beat) (ready period : Nat), s.powered = true → s.isM = true → s.inp.budgetValid = true →
    ∃ t, ∃ k fix : Nat, exec (.engineCapRecompute now ready period) s = .next t ∧
      t.get POWER.BUDGET_STAT.ENG_CAP = (if s.pwr.hot then min 16 k else k) ∧ 1 ≤ k ∧ k ≤ 64 ∧
      fix = 100 + ((List.range 4).filter (bit (s.groups false))).length * [60, 100, 150, 200].getD (s.get PHY.RATE_STAT.RATE) 200 + 800 + 300 ∧
      (1 < k → 9600 * k ≤ 64 * (min (125 * s.inp.budget.toNat) 17600 - 4 * fix)) ∧
      (k < 64 → 64 * (min (125 * s.inp.budget.toNat) 17600 - 4 * fix) < 9600 * (k + 1))) ∧
  (∀ (s : State) (now : Beat) (ready period : Nat), s.powered = true → s.budgetShort = true →
    ∃ t, exec (.engineCapRecompute now ready period) s = .next t ∧ t.pwr.shortSince = some (s.pwr.shortSince.getD (s.at now).beat) ∧
      (s.pwr.shortSince = none → Raised EV.POWER.BUDGET_SHORT t)) ∧
  (∀ (s : State) (now : Beat) (ready period : Nat), s.powered = true → s.budgetShort = false →
    ∃ t, exec (.engineCapRecompute now ready period) s = .next t ∧ t.pwr.shortSince = none) ∧
  (∀ (s : State) (now b : Beat) (r : Nat), s.powered = true → s.pwr.shortSince = some b → s.lowerRate = some r →
    s.on POWER.THR_CTL.RATE_AUTO = true → (s.at now).past b (s.get POWER.THR_CTL.HOLD) = true → s.retrainRefusal = none → s.parked = false →
    ∃ t, exec (.rateAutoStep now) s = .next t ∧ t.get PHY.RATE_CTL.RATE = r ∧ t.chip.col = .retrain ∧ Raised EV.POWER.RATE_STEP_DOWN t) ∧
  (∀ (s : State) (cycles : Nat), s.chip.dieRst = false → s.get POWER.PWR_STAT.STATE = 0 → s.idleNow = true → 1024 ≤ cycles →
    ∃ t, exec (.idleClockedEntry cycles) s = .next t ∧ t.get POWER.PWR_STAT.STATE = 1 ∧ t.chip = s.chip)

/-- PARK_GO, PARK_IDLE_TIMEOUT, PARK_WAKE, FAR_CLOCK_DETECT, PARK_BEAT, LANES_STOP and WAKE_HOLD_END (R433 to R436). That WAKES and WOKEN
count at the trigger of a wake is the model's reading (log entry 46). -/
def Obligations.LanesParkAndWake : Prop :=
  (∀ s : State, HostUp s (keyDomains POWER.PARK_CMD.GO.key) → s.parkRefusal = none → s.parked = false → s.pwr.stopping = false →
    s.rep.props.any Proposal.isPark = false →
    ∃ t, ∃ lead : Nat, exec .parkGo s = .next t ∧ 8192 ≤ lead ∧ lead ≤ 2 ^ 21 ∧ t.rep.props = s.rep.props ++
      [{ kind := .park, beat := s.beat + BitVec.ofNat 64 lead, own := true, accepted := false, lastSent := s.beat }]) ∧
  (∀ (s : State) (now : Beat), s.chip.dieRst = false → s.on POWER.PARK_CTL.AUTO = true →
    (s.at now).past s.pwr.lastContent (s.get POWER.PARK_CTL.IDLE) = true → s.parkRefusal = none → s.parked = false → s.pwr.stopping = false →
    s.rep.props.any Proposal.isPark = false →
    ∃ t, ∃ lead : Nat, exec (.parkIdleTimeout now) s = .next t ∧ 8192 ≤ lead ∧ lead ≤ 2 ^ 21 ∧ t.rep.props = s.rep.props ++
      [{ kind := .park, beat := (s.at now).beat + BitVec.ofNat 64 lead, own := true, accepted := false, lastSent := (s.at now).beat }]) ∧
  (∀ s : State, HostUp s (keyDomains POWER.PARK_CMD.GO.key) → s.parked = true → s.pwr.waking = false → (s.isM = true → s.clkOn 2 = true) →
    ∃ t, exec .parkWake s = .next t ∧ t.pwr.waking = true ∧ CountedOne POWER.PARK_STAT.WAKES s t ∧ Raised EV.POWER.WOKEN t) ∧
  (∀ s : State, s.chip.dieRst = false → s.role ≠ 0 → s.parked = true → s.pwr.waking = false → (s.isM = true → s.clkOn 2 = true) →
    ∃ t, exec .farClockDetect s = .next t ∧ t.pwr.waking = true ∧ CountedOne POWER.PARK_STAT.WAKES s t ∧ Raised EV.POWER.WOKEN t) ∧
  (∀ (s : State) (now : Beat) (p : Proposal), s.rep.props = [p] → p.kind = .park → p.accepted = true → (s.at now).reached p.beat = true →
    s.chip.col = .active → s.parked = false →
    ∃ t, exec (.parkBeat now) s = .next t ∧ t.pwr.stopping = true ∧ t.rep.props = []) ∧
  (∀ s : State, s.pwr.stopping = true → s.colIn [.active, .drain] = true → s.outB = 0 → s.on BULK.RPL_STAT.NAK_PENDING = false → s.lnk.txQ = [] →
    ∃ t, exec .lanesStop s = .next t ∧ t.get POWER.PWR_STAT.STATE = 2 ∧ t.pwr.stopping = false ∧ CountedOne POWER.PARK_STAT.PARKS s t ∧
      Raised EV.POWER.PARKED t) ∧
  (∀ s : State, s.parked = true → s.pwr.waking = true → s.pwr.afterWake = [] → s.pwr.runAfterWake = false → s.cal.run = none →
    ∃ t, exec .wakeHoldEnd s = .next t ∧ t.get POWER.PWR_STAT.STATE = 0 ∧ t.pwr.waking = false ∧ t.pwr.lastContent = s.beat)

/-! ### The host port -/

/-- CHAIN_ADDR_WRITE, BROADCAST_WRITE, REGISTER_WRITE, BEAT_LO_READ and WIDE_REGISTER_READ (R6, R54, R57, R440, R447, R448, R452). -/
def Obligations.TheHostPortReadsAndWritesRegisters : Prop :=
  (∀ (s : State) (data : Word), HostUp s 1 → s.on IDENT.CHAIN_ADDR.ASSIGNED = false → bits data.toNat 0 12 < 0xFFE →
    ∃ t, exec (.chainAddrWrite true data) s = .next t ∧ t.get IDENT.CHAIN_ADDR.ADDR = bits data.toNat 0 12 ∧
      t.get IDENT.CHAIN_ADDR.ASSIGNED = 1 ∧ t.chip.enumTo = true) ∧
  (∀ (s : State) (data : Word), HostUp s 1 → s.on IDENT.CHAIN_ADDR.ASSIGNED = false → 0xFFE ≤ bits data.toNat 0 12 →
    ∃ t, exec (.chainAddrWrite true data) s = .next t ∧ t.get IDENT.CHAIN_ADDR.ASSIGNED = 0 ∧ t.chip.enumTo = s.chip.enumTo ∧
      t.get (PAGE.REFUSED.REASON 0) = 7) ∧
  (∀ (s : State) (ti : Bool) (data : Word), HostUp s 1 → (ti = false ∨ s.on IDENT.CHAIN_ADDR.ASSIGNED = true) →
    exec (.chainAddrWrite ti data) s = .next s) ∧
  (∀ (s : State) (wr aper : Bool) (addr : BitVec 18) (data : Word), s.isM = false → exec (.broadcastWrite aper addr data wr) s = .next s) ∧
  (∀ (s : State) (addr : BitVec 18) (data : Word), s.isM = true →
    exec (.broadcastWrite false addr data) s = exec (.registerWrite addr data) s) ∧
  (∀ (s m p : State) (data : Word), s.isM = true → HostUp s 1 → m.isM = true → HostUp m 1 → p.isM = false →
    ∃ t u, exec (.broadcastWrite false (BitVec.ofNat 18 (IDENT.SCRATCH.DATA.key / 8)) data) s = .next t ∧
      exec (.broadcastWrite false (BitVec.ofNat 18 (IDENT.SCRATCH.DATA.key / 8)) data) m = .next u ∧
      exec (.broadcastWrite false (BitVec.ofNat 18 (IDENT.SCRATCH.DATA.key / 8)) data) p = .next p ∧
      t.reg IDENT.SCRATCH.DATA.key = data ∧ u.reg IDENT.SCRATCH.DATA.key = data ∧ t.out = s.out ∧ u.out = m.out ∧
      ∀ k, k ≠ IDENT.SCRATCH.DATA.key → t.reg k = s.reg k ∧ u.reg k = m.reg k) ∧
  (∀ (s : State) (aper : Bool) (addr : BitVec 18) (data : Word), s.isM = true → HostUp s 1 →
    ∃ t v, exec (.broadcastWrite aper addr data false) s = .next t ∧ t.regs = s.regs ∧ t.out = .mb v true :: s.out) ∧
  (∀ (s : State) (data : Word), HostUp s 1 →
    ∃ t, exec (.registerWrite (BitVec.ofNat 18 (IDENT.SCRATCH.DATA.key / 8)) data) s = .next t ∧ t.reg IDENT.SCRATCH.DATA.key = data ∧
      ∀ k, k ≠ IDENT.SCRATCH.DATA.key → t.reg k = s.reg k) ∧
  (∀ (s : State) (data : Word), HostUp s (keyDomains BULK.RPL_CTL.TIMEOUT.key) → s.role ≠ 0 → 8 ≤ bits data.toNat 0 8 →
    256 ≤ bits data.toNat 16 12 → 4 ≤ bits data.toNat 32 8 →
    ∃ t, exec (.registerWrite (BitVec.ofNat 18 (BULK.RPL_CTL.TIMEOUT.key / 8)) data) s = .next t ∧
      t.get BULK.RPL_CTL.PROBE_INTERVAL = bits data.toNat 0 8 ∧ t.get BULK.RPL_CTL.TIMEOUT = bits data.toNat 16 12 ∧
      t.get BULK.RPL_CTL.LIMIT = bits data.toNat 32 8) ∧
  (∀ (s : State) (data : Word), HostUp s (keyDomains BULK.RPL_CTL.TIMEOUT.key) → s.role ≠ 0 →
    bits data.toNat 0 8 < 8 ∨ bits data.toNat 16 12 < 256 ∨ bits data.toNat 32 8 < 4 →
    ∃ t, exec (.registerWrite (BitVec.ofNat 18 (BULK.RPL_CTL.TIMEOUT.key / 8)) data) s = .next t ∧
      t.reg BULK.RPL_CTL.TIMEOUT.key = s.reg BULK.RPL_CTL.TIMEOUT.key ∧ t.get (PAGE.REFUSED.REASON 5) = 2) ∧
  (∀ (s : State) (addr : BitVec 18) (data : Word), HostUp s 1 → 2 ^ 13 ≤ addr.toNat →
    ∃ t v, exec (.registerWrite addr data) s = .next t ∧ t.regs = s.regs ∧ t.out = .mb v true :: s.out) ∧
  (∀ s : State, HostUp s 1 → ∃ t, exec .beatLoRead s = .next t ∧ t.get IDENT.BEAT_HI.COUNT = s.beat.toNat / 2 ^ 32 ∧
    t.out = .mb (BitVec.ofNat 64 (s.beat.toNat % 2 ^ 32)) false :: s.out) ∧
  (∀ (s : State) (addr : BitVec 18) (key : Nat), HostUp s (keyDomains key) → regKey addr.toNat = some key → wideLow key = true →
    s.present (key / 4096) = true →
    ∃ t, exec (.wideRegisterRead addr) s = .next t ∧ Sparse.find t.chip.wide (key + 8) = some (s.readLive (key + 8)) ∧
      t.out = .mb (s.readLive key) false :: s.out ∧ t.regs = s.regs) ∧
  (∀ (s : State) (addr : BitVec 18), HostUp s 1 → 2 ^ 13 ≤ addr.toNat →
    ∃ t v, exec (.wideRegisterRead addr) s = .next t ∧ t.regs = s.regs ∧ t.out = .mb v true :: s.out) ∧
  (∀ (s : State) (addr : BitVec 18), HostUp s (keyDomains IDENT.BEAT_LO.COUNT.key) → regKey addr.toNat = some IDENT.BEAT_LO.COUNT.key →
    ∃ t, exec (.wideRegisterRead addr) s = .next t ∧ t.get IDENT.BEAT_HI.COUNT = s.beat.toNat / 2 ^ 32 ∧
      t.out = .mb (BitVec.ofNat 64 (s.beat.toNat % 2 ^ 32)) false :: s.out) ∧
  (∀ (s : State) (addr : BitVec 18) (e : LostEntry) (rest : List LostEntry), HostUp s (keyDomains TXN.LOST_FIFO.CTX.key) → s.isM = true →
    regKey addr.toNat = some TXN.LOST_FIFO.CTX.key → s.lostQ = e :: rest →
    ∃ t, exec (.wideRegisterRead addr) s = .next t ∧ t.lostQ = rest ∧ t.lostOvf = false) ∧
  (∀ (s : State) (addr : BitVec 18), HostUp s (s.aperNeeds addr.toNat) → s.isM = true →
    ∃ t, exec (.wideRegisterRead addr true) s = .next t ∧ t.regs = s.regs ∧ t.tbl = s.tbl ∧
      t.out = .mb (s.tblWord addr.toNat &&& tblMask addr.toNat) false :: s.out)

/-- END_IRQ is high while any page of the end has a bit set in both EVT_STAT and EVT_EN, and low otherwise (R58). -/
def Obligations.EndIrqShowsAnEnabledEvent : Prop :=
  ∀ s : State, s.irq = true ↔ ∃ p < 16, s.present p = true ∧ s.reg (PAGE.EVT_STAT p).key &&& s.reg (PAGE.EVT_EN p).key ≠ 0

/-- EVT_STAT_CLEAR, EVT_FORCE, EVT_FIRST_CLEAR, CNT_CLR and APPLY_O3 (R443, R444, R441, R469). -/
def Obligations.CommonRegistersClearForceAndCount : Prop :=
  (∀ (s : State) (page : Fin 16) (mask : Word), HostUp s 1 → s.present page.val = true →
    ∃ t, exec (.evtStatClear page mask none) s = .next t ∧ t.reg (PAGE.EVT_STAT page.val).key = s.reg (PAGE.EVT_STAT page.val).key &&& ~~~ mask ∧
      ∀ k, k ≠ (PAGE.EVT_STAT page.val).key → t.reg k = s.reg k) ∧
  (∀ (s : State) (page : Fin 16) (mask : Word) (b : Nat) (v : BitVec 48), HostUp s 1 → s.present page.val = true → b < eventCount page.val →
    ∃ t, exec (.evtStatClear page mask (some (b, v))) s = .next t ∧ bit (t.get (PAGE.EVT_STAT page.val)) b = true) ∧
  (∀ (s : State) (page : Fin 16) (b : Nat), HostUp s 1 → s.present page.val = true → b < eventCount page.val →
    ∃ t, exec (.evtForce page (BitVec.ofNat 64 (2 ^ b))) s = .next t ∧ bit (t.get (PAGE.EVT_STAT page.val)) b = true ∧
      CountedOne (PAGE.PAGE_STAT.EVT_COUNT page.val) s t) ∧
  (∀ (s : State) (page : Fin 16), HostUp s 1 → s.present page.val = true →
    ∃ t, exec (.evtFirstClear page) s = .next t ∧ t.get (PAGE.EVT_FIRST.VALID page.val) = 0 ∧
      ∀ k, k ≠ (PAGE.EVT_FIRST.VALID page.val).key → t.reg k = s.reg k) ∧
  (∀ (s : State) (page : Fin 16), HostUp s (keyDomains (PAGE.PAGE_CTL.CNT_CLR page.val).key) → s.present page.val = true →
    ∃ t, exec (.cntClr page) s = .next t ∧ ∀ f ∈ pageCounters page.val, t.get f = 0) ∧
  (∀ s : State, HostUp s (keyDomains RESET.OVL_CMD.APPLY_O3.key) → s.chip.badOvl.contains 3 = false →
    (s.tblWord (ovlIdx 3 0 0)).getLsbD 0 = false →
    ∃ t, exec .applyO3 s = .next t ∧ t.get RESET.OVL_STAT.LAST = 3 ∧ t.get RESET.OVL_STAT.ANY = 1 ∧ t.get RESET.OVL_STAT.WRITES = 0 ∧
      ∀ k, k ≠ RESET.OVL_STAT.LAST.key → t.reg k = s.reg k) ∧
  (∀ (s : State) (w0 w1 data : Word), HostUp s (keyDomains RESET.OVL_CMD.APPLY_O3.key) → HostUp s (keyDomains BULK.RPL_CTL.TIMEOUT.key) →
    s.role ≠ 0 → s.chip.badOvl.contains 3 = false →
    w0 = s.tblWord (ovlIdx 3 0 0) → w0.getLsbD 0 = true → bits w0.toNat 4 4 = 0 →
    w1 = s.tblWord (ovlIdx 3 1 0) → w1.getLsbD 0 = true → 4096 * bits w1.toNat 4 4 + bits w1.toNat 8 12 = BULK.RPL_CTL.TIMEOUT.key →
    data = s.tblWord (ovlIdx 3 1 1) → 8 ≤ bits data.toNat 0 8 → 256 ≤ bits data.toNat 16 12 → 4 ≤ bits data.toNat 32 8 →
    (s.tblWord (ovlIdx 3 2 0)).getLsbD 0 = false →
    ∃ t, exec .applyO3 s = .next t ∧ t.get RESET.OVL_STAT.LAST = 3 ∧ t.get RESET.OVL_STAT.WRITES = 1 ∧ t.get (PAGE.REFUSED.REASON 0) = 1 ∧
      t.get BULK.RPL_CTL.PROBE_INTERVAL = bits data.toNat 0 8 ∧ t.get BULK.RPL_CTL.TIMEOUT = bits data.toNat 16 12 ∧
      t.get BULK.RPL_CTL.LIMIT = bits data.toNat 32 8) ∧
  (∀ (s : State) (slot j n : Nat), (s.tblWord (ovlIdx slot j 0)).getLsbD 0 = true →
    s.applyEntries slot j (n + 1) = (s.applyEntry (s.tblWord (ovlIdx slot j 0)) (s.tblWord (ovlIdx slot j 1))).applyEntries slot (j + 1) n) ∧
  (∀ s : State, HostUp s (keyDomains RESET.OVL_CMD.APPLY_O3.key) → s.chip.badOvl.contains 3 = true →
    ∃ t, exec .applyO3 s = .next t ∧ t.get RESET.OVL_STAT.BAD = 1 ∧ bit (t.get (PAGE.EVT_STAT 1)) EV.RESET.OVERLAY_BAD.bit = true)

/-- Remote page access: RPA_READ, RPA_WRITE, RPA_RETRY, RPA_TIMEOUT, PAGE_RD, PAGE_WR and PAGE_RSP (R449 to R451). -/
def Obligations.RemotePageAccessIsSentRepeatedAndAnswered : Prop :=
  (∀ (s : State) (page : BitVec 4) (word : BitVec 9) (lsb : BitVec 6) (width : BitVec 4), HostUp s (keyDomains PHY.RPA_CMD.GO.key) →
    s.role ≠ 0 → s.sb.rpa = none → s.sbSends = true →
    ∃ t, exec (.rpaRead page word lsb width) s = .next t ∧ t.get PHY.RPA_STAT.BUSY = 1 ∧ t.get PHY.RPA_STAT.DONE = 0 ∧
      t.out = .sb (sbFrame SbType.pageRd.code s.sb.fseq (pagePayload page.toNat word.toNat lsb.toNat width.toNat 0)) (if s.oneChannel then 1 else 7) :: s.out) ∧
  (∀ (s : State) (page : BitVec 4) (word : BitVec 9) (lsb : BitVec 6) (width : BitVec 4) (data : BitVec 16),
    HostUp s (keyDomains PHY.RPA_CMD.GO.key) → s.role ≠ 0 → s.sb.rpa = none → s.sbSends = true →
    ∃ t, exec (.rpaWrite page word lsb width data) s = .next t ∧ t.get PHY.RPA_STAT.BUSY = 1 ∧ t.get PHY.RPA_STAT.DONE = 0 ∧
      t.out = .sb (sbFrame SbType.pageWr.code s.sb.fseq (pagePayload page.toNat word.toNat lsb.toNat width.toNat data.toNat))
        (if s.oneChannel then 1 else 7) :: s.out) ∧
  (∀ (s : State) (now : Beat) (a : RpaSlot), s.sb.rpa = some a → a.seqs.length < 4 → (s.at now).past a.lastSent 1024 = true →
    ∃ t, exec (.rpaRetry now) s = .next t ∧ t.sb.rpa = some { a with seqs := a.seqs ++ [s.sb.fseq], lastSent := (s.at now).beat }) ∧
  (∀ (s : State) (now : Beat) (a : RpaSlot), s.sb.rpa = some a → 4 ≤ a.seqs.length → (s.at now).past a.lastSent 1024 = true → a.firmware = true →
    s.sb.rpaQueue = [] → s.cal.run = none →
    ∃ t, exec (.rpaTimeout now) s = .next t ∧ t.sb.rpa = none ∧ t.get PHY.RPA_STAT.DONE = 1 ∧ t.get PHY.RPA_STAT.STATUS = 4 ∧
      t.get PHY.RPA_STAT.BUSY = 0) ∧
  (∀ (s : State) (c : SbCopies) (b : Nat) (r : State), Heard s c b r → bodyType b = SbType.pageRd.code → r.pageStatus (bodyPayload b) = none →
    ∃ t, exec (.pageRdRx c) s = .next t ∧ t.regs = r.regs ∧ (r.sbSends = true →
      t.out = .sb (sbFrame SbType.pageRsp.code r.sb.fseq (packLow [(r.reqValue (bodyPayload b), 16), (0, 16), (0, 4), (bodyFseq b, 4)]))
        (if r.oneChannel then 1 else 7) :: r.out)) ∧
  (∀ (s : State) (c : SbCopies) (b : Nat) (r : State), Heard s c b r → bodyType b = SbType.pageWr.code → r.pageStatus (bodyPayload b) = none →
    writesDrive (bodyPayload b) = true → r.role ≠ 0 → r.colIn [.active, .lowland] = true →
    ∃ t, exec (.pageWrRx c) s = .next t ∧ t.get (PHY.TX_DRIVE.PENDING (bits (bodyPayload b) 27 9 - 0x40)) = bits (bodyPayload b) 0 4 ∧
      t.get (PHY.TX_DRIVE.PEND_V (bits (bodyPayload b) 27 9 - 0x40)) = 1) ∧
  (∀ (s : State) (c : SbCopies) (b : Nat) (r : State) (a : RpaSlot), Heard s c b r → bodyType b = SbType.pageRsp.code → r.sb.rpa = some a →
    bits (bodyPayload b) 36 4 ∈ a.seqs → a.firmware = true → r.sb.rpaQueue = [] → r.cal.run = none →
    ∃ t, exec (.pageRspRx c) s = .next t ∧ t.sb.rpa = none ∧ t.get PHY.RPA_STAT.DONE = 1 ∧ t.get PHY.RPA_STAT.BUSY = 0 ∧
      t.get PHY.RPA_STAT.STATUS = bits (bodyPayload b) 32 4 ∧ t.get PHY.RPA_STAT.DATA = bits (bodyPayload b) 0 16)

/-- TX_DRIVE_WRITE, TRIM_WRITE, RATE_CTL_WRITE, PEEK_LINE_WRITE and ESC_NEXT_WRITE (R112, R129, R327, R333, R459). -/
def Obligations.DriveTrimRatePeekAndEscapeWrites : Prop :=
  (∀ (s : State) (site : Nat) (code : BitVec 4), siteOk site = true → HostUp s (keyDomains (PHY.TX_DRIVE.CODE site).key) → s.role ≠ 0 →
    s.colIn [.active, .lowland] = true →
    ∃ t, exec (.txDriveWrite site code) s = .next t ∧ t.get (PHY.TX_DRIVE.PENDING site) = code.toNat ∧ t.get (PHY.TX_DRIVE.PEND_V site) = 1 ∧
      t.get (PHY.TX_DRIVE.CODE site) = s.get (PHY.TX_DRIVE.CODE site)) ∧
  (∀ (s : State) (site : Nat) (code : BitVec 4), siteOk site = true → HostUp s (keyDomains (PHY.TX_DRIVE.CODE site).key) → s.role ≠ 0 →
    s.chip.col = .cal → ∃ t, exec (.txDriveWrite site code) s = .next t ∧ t.get (PHY.TX_DRIVE.CODE site) = code.toNat) ∧
  (∀ (s : State) (k : TrimKind) (i : Nat) (code : BitVec 7), trimOk k i = true → HostUp s (keyDomains (trimCode k i).key) → s.role ≠ 0 →
    s.colIn [.active, .lowland] = true → s.cal.run = none → code.toNat < 2 ^ (trimCode k i).width → (k = .offset → offsetExcluded code.toNat = false) →
    ∃ t, exec (.trimWrite k i code) s = .next t ∧ t.get (trimPending k i) = code.toNat ∧ t.get (trimPendV k i) = 1 ∧
      t.get (trimCode k i) = s.get (trimCode k i)) ∧
  (∀ (s : State) (rate : BitVec 2), HostUp s (keyDomains PHY.RATE_CTL.RATE.key) → s.role ≠ 0 →
    (s.on IDENT.CAP_AGREED.VALID = false ∨ bit (s.get IDENT.CAP_AGREED.CAP) rate.toNat = true) →
    ∃ t, exec (.rateCtlWrite rate) s = .next t ∧ t.get PHY.RATE_CTL.RATE = rate.toNat) ∧
  (∀ (s : State) (rate : BitVec 2), HostUp s (keyDomains PHY.RATE_CTL.RATE.key) → s.role ≠ 0 →
    s.on IDENT.CAP_AGREED.VALID = true → bit (s.get IDENT.CAP_AGREED.CAP) rate.toNat = false →
    ∃ t, exec (.rateCtlWrite rate) s = .next t ∧ t.get PHY.RATE_CTL.RATE = s.get PHY.RATE_CTL.RATE ∧ t.get (PAGE.REFUSED.REASON 2) = 3) ∧
  (∀ (s : State) (data : Word), HostUp s (keyDomains BASIN.PEEK_CTL.LINE.key) → s.isM = true → s.on BASIN.INIT_STAT.RUNNING = false →
    ∃ t, exec (.peekLineWrite data) s = .next t ∧ t.get BASIN.PEEK_CTL.LINE = bits data.toNat 0 16 ∧
      ∀ k < 8, t.get (BASIN.PEEK_DATA.DATA k) = bits (t.peekLine (bits data.toNat 0 16) (data.getLsbD 16)) (64 * k) 64) ∧
  (∀ (s : State) (data : Word), HostUp s (keyDomains DEFILE.ESC_STAT.NEXT.key) → s.isM = true →
    bits data.toNat 0 24 ≤ s.get DEFILE.ESC_LIMIT.SLOTS →
    ∃ t, exec (.escNextWrite data) s = .next t ∧ t.get DEFILE.ESC_STAT.NEXT = bits data.toNat 0 24 ∧ t.eng.escFull = false)

/-! ### Lane repair, width and parking -/

/-- MARK_SITE, WIDTH_CMD and LOWLAND_CMD (R132, R135, R137, R138, R147, R151): what is proposed, and what is refused. -/
def Obligations.RepairCommandsPropose : Prop :=
  (∀ (s : State) (site : BitVec 8) (g k : Nat), HostUp s (keyDomains REPAIR.MARK_CMD.GO.key) → s.role ≠ 0 → s.colIn [.active, .lowland] = true →
    site.toNat ≤ 144 → g = siteGroup site.toNat → k = sitePlace site.toNat → s.isBad true g k = false → s.parked = false →
    s.dirBusy true = false → s.freeSite true g = true → s.cap 8 = true → (∀ p ∈ s.rep.props, p.own = false) →
    ∃ t, exec (.markSite site) s = .next t ∧
      Proposes (.quiet g k (if s.carriesLane true g k then s.get REPAIR.QR_CTL.PAUSE else 0)) s t ∧ Raised EV.REPAIR.SITE_FAILING t) ∧
  (∀ (s : State) (site : BitVec 8) (g : Nat), HostUp s (keyDomains REPAIR.MARK_CMD.GO.key) → s.role ≠ 0 → s.chip.col = .active →
    site.toNat ≤ 135 → g = siteGroup site.toNat → s.isBad true g (sitePlace site.toNat) = false → s.parked = false → s.dirBusy true = false → s.wideAsked = false →
    s.freeSite true g = false → clearBit (s.groups true) g ≠ 0 → s.cap 7 = true → s.levelAgreed = false →
    ∃ t, exec (.markSite site) s = .next t ∧ Proposes (.width true (BitVec.ofNat 4 (clearBit (s.groups true) g)) false 1) s.cancelQuiet t) ∧
  (∀ (s : State) (site : BitVec 8), HostUp s (keyDomains REPAIR.MARK_CMD.GO.key) → s.role ≠ 0 → s.colIn [.active, .lowland] = false →
    ∃ t, exec (.markSite site) s = .next t ∧ t.rep = s.rep ∧ t.get (PAGE.REFUSED.REASON 4) = 1) ∧
  (∀ (s : State) (site : BitVec 8), HostUp s (keyDomains REPAIR.MARK_CMD.GO.key) → s.role ≠ 0 → s.colIn [.active, .lowland] = true →
    (144 < site.toNat ∨ s.isBad true (siteGroup site.toNat) (sitePlace site.toNat) = true) →
    ∃ t, exec (.markSite site) s = .next t ∧ t.rep = s.rep ∧ t.get (PAGE.REFUSED.REASON 4) = 2) ∧
  (∀ (s : State) (dir force : Bool) (gs : BitVec 4), HostUp s (keyDomains REPAIR.WIDTH_CMD.GO.key) → s.role ≠ 0 → s.chip.col = .active →
    s.parked = false → s.anyPause = false → gs ≠ 0 → gs.toNat &&& s.groups dir = gs.toNat → gs.toNat ≠ s.groups dir → s.cap 7 = true →
    (s.levelAgreed = false ∨ force = true ∨
      (if dir then s.lMinFor gs.toNat (s.groups false) else s.lMinFor (s.groups true) gs.toNat) ≤ s.get TIME.LEVEL_CTL.L_LEVEL) →
    ∃ t, exec (.widthCmd dir gs force) s = .next t ∧ Proposes (.width dir gs force 0) (if dir then s.cancelQuiet else s) t) ∧
  (∀ (s : State) (dir force : Bool) (gs : BitVec 4), HostUp s (keyDomains REPAIR.WIDTH_CMD.GO.key) → s.role ≠ 0 → s.chip.col = .active →
    s.parked = true → s.anyPause = false → gs ≠ 0 → gs.toNat &&& s.groups dir = gs.toNat → gs.toNat ≠ s.groups dir → s.cap 7 = true →
    (s.levelAgreed = false ∨ force = true) →
    ∃ t, exec (.widthCmd dir gs force) s = .next t ∧ t.rep = s.rep ∧ .widthCmd dir gs force ∈ t.pwr.afterWake ∧
      (t.pwr.waking = true ∨ t.pwr.waitEclk ≠ none)) ∧
  (∀ (s : State) (dir : Bool) (gs : BitVec 4), HostUp s (keyDomains REPAIR.WIDTH_CMD.GO.key) → s.role ≠ 0 → s.chip.col = .active →
    s.anyPause = false → gs ≠ 0 → gs.toNat &&& s.groups dir = gs.toNat → gs.toNat ≠ s.groups dir → s.levelAgreed = true →
    s.get TIME.LEVEL_CTL.L_LEVEL < (if dir then s.lMinFor gs.toNat (s.groups false) else s.lMinFor (s.groups true) gs.toNat) →
    ∃ t, exec (.widthCmd dir gs false) s = .next t ∧ t.rep = s.rep ∧ t.get (PAGE.REFUSED.REASON 4) = 8) ∧
  (∀ (s : State), HostUp s (keyDomains REPAIR.LOWLAND_CMD.GO.key) → s.role ≠ 0 → s.chip.col = .active → s.parked = false → s.cap 1 = true →
    s.rep.props = [] →
    ∃ t, exec .lowlandCmd s = .next t ∧ Proposes (.lowland (BitVec.ofNat 4 (s.groups true &&& s.groups false)) 6) s t) ∧
  (∀ (s : State), HostUp s (keyDomains REPAIR.LOWLAND_CMD.GO.key) → s.role ≠ 0 → s.chip.col = .active → s.parked = true →
    ∃ t, exec .lowlandCmd s = .next t ∧ t.rep = s.rep ∧ .lowland 6 ∈ t.pwr.afterWake ∧ (t.pwr.waking = true ∨ t.pwr.waitEclk ≠ none)) ∧
  (∀ (s : State), HostUp s (keyDomains REPAIR.LOWLAND_CMD.GO.key) → s.role ≠ 0 → s.chip.col ≠ .active →
    ∃ t, exec .lowlandCmd s = .next t ∧ t.rep = s.rep ∧ t.get (PAGE.REFUSED.REASON 4) = 1)

/-- REPAIR_PROPOSE, REPAIR_ACCEPT, REPAIR_DECLINE and REPAIR_CANCEL (R137 to R139). -/
def Obligations.RepairFramesAreAnswered : Prop :=
  (∀ (s : State) (c : SbCopies) (b : Nat) (r : State) (pl g k n : Nat), Heard s c b r → bodyType b = SbType.repair.code → pl = bodyPayload b →
    bits pl 36 4 = 1 → g = bits pl 33 3 → k = bits pl 27 6 → n = bits pl 22 5 → r.colIn [.active, .quietRepair, .lowland, .repair] = true →
    g ≤ 4 → k < groupSites g → (n = 0 ∨ (20 ≤ n ∧ n ≤ 31)) → r.isBad false g k = false → r.rep.props = [] →
    ∃ t, exec (.repairProposeRx c) s = .next t ∧ AcceptsFar (.quiet g k n) (resolveBeat 22 (bits pl 0 22) r.beat) r t) ∧
  (∀ (s : State) (c : SbCopies) (b : Nat) (r : State) (pl g k n : Nat), Heard s c b r → bodyType b = SbType.repair.code → pl = bodyPayload b →
    bits pl 36 4 = 1 → g = bits pl 33 3 → k = bits pl 27 6 → n = bits pl 22 5 → r.rep.props = [] →
    (r.colIn [.active, .quietRepair, .lowland, .repair] = false ∨ 4 < g ∨ groupSites g ≤ k ∨ (n ≠ 0 ∧ n < 20) ∨ r.isBad false g k = true) →
    ∃ t, exec (.repairProposeRx c) s = .next t ∧ DeclinesFar (.quiet g k n) (resolveBeat 22 (bits pl 0 22) r.beat) r t) ∧
  (∀ (s : State) (c : SbCopies) (b : Nat) (r : State) (pl : Nat) (p : Proposal), Heard s c b r → bodyType b = SbType.repair.code →
    pl = bodyPayload b → bits pl 36 4 = 2 → r.rep.props = [p] → p.own = true → quietIs pl p = true →
    ∃ t, exec (.repairAcceptRx c) s = .next t ∧ t.rep.props = [if p.cancels = 0 then { p with accepted := true } else p]) ∧
  (∀ (s : State) (c : SbCopies) (b : Nat) (r : State) (pl g k n : Nat) (p : Proposal), Heard s c b r → bodyType b = SbType.repair.code →
    pl = bodyPayload b → bits pl 36 4 = 3 → r.rep.props = [p] → p.own = true → p.stage = 0 → p.kind = .quiet g k n → quietIs pl p = true →
    ∃ t, exec (.repairDeclineRx c) s = .next t ∧ t.rep.props = [] ∧ (.site (siteIndex g k), r.beat) ∈ t.rep.declined ∧
      t.rep.waiting = r.rep.waiting) ∧
  (∀ (s : State) (c : SbCopies) (b : Nat) (r : State) (pl : Nat) (p : Proposal), Heard s c b r → bodyType b = SbType.repair.code →
    pl = bodyPayload b → bits pl 36 4 = 4 → r.rep.props = [p] → p.own = false → p.stage = 0 → quietIs pl p = true →
    ∃ t, exec (.repairCancelRx c) s = .next t ∧ t.rep.props = [] ∧ t.rep.waiting = r.rep.waiting)

/-- WIDTH_PROPOSE, WIDTH_ACCEPT, WIDTH_DECLINE, WIDTH_LOWLAND and WIDTH_CANCEL (R139, R146, R147, R150, R152). -/
def Obligations.WidthFramesAreAnswered : Prop :=
  (∀ (s : State) (c : SbCopies) (b : Nat) (r : State) (pl gs : Nat) (rx : Bool), Heard s c b r → bodyType b = SbType.width.code →
    pl = bodyPayload b → bits pl 36 4 = 1 → rx = !bit pl 35 → gs = bits pl 31 4 → r.colIn [.active, .quietRepair, .widthChange, .repair] = true →
    gs ≠ 0 → gs &&& r.groups rx = gs → r.cap 7 = true → (r.levelAgreed = false ∨ bit pl 30 = true) → r.rep.props = [] →
    ∃ t, exec (.widthProposeRx c) s = .next t ∧
      AcceptsFar (.width rx (BitVec.ofNat 4 gs) (bit pl 30) (bits pl 26 4)) (resolveBeat 22 (bits pl 0 22) r.beat) r t) ∧
  (∀ (s : State) (c : SbCopies) (b : Nat) (r : State) (pl : Nat), Heard s c b r → bodyType b = SbType.width.code →
    pl = bodyPayload b → bits pl 36 4 = 1 → r.ownWide ≠ [] → r.wins = true → (∀ p ∈ r.rep.props, p.own = true) →
    ∃ t, exec (.widthProposeRx c) s = .next t ∧
      DeclinesFar (.width (!bit pl 35) (BitVec.ofNat 4 (bits pl 31 4)) (bit pl 30) (bits pl 26 4)) (resolveBeat 22 (bits pl 0 22) r.beat) r t) ∧
  (∀ (s : State) (c : SbCopies) (b : Nat) (r : State) (pl : Nat) (p : Proposal), Heard s c b r → bodyType b = SbType.width.code →
    pl = bodyPayload b → bits pl 36 4 = 2 → r.rep.props = [p] → p.own = true → widthIs pl p = true →
    ∃ t, exec (.widthAcceptRx c) s = .next t ∧ t.rep.props = [if p.cancels = 0 then { p with accepted := true } else p]) ∧
  (∀ (s : State) (c : SbCopies) (b : Nat) (r : State) (pl : Nat) (p : Proposal) (rx f : Bool) (gs : BitVec 4), Heard s c b r →
    bodyType b = SbType.width.code → pl = bodyPayload b → bits pl 36 4 = 3 → r.rep.props = [p] → p.own = true → p.stage = 0 →
    p.kind = .width rx gs f 0 → widthIs pl p = true →
    ∃ t, exec (.widthDeclineRx c) s = .next t ∧ t.rep.props = [] ∧ t.rep.waiting = r.rep.waiting) ∧
  (∀ (s : State) (c : SbCopies) (b : Nat) (r : State) (pl : Nat), Heard s c b r → bodyType b = SbType.width.code →
    pl = bodyPayload b → bits pl 36 4 = 4 → r.colIn [.active, .quietRepair, .widthChange] = true → r.cap 1 = true → r.rep.props = [] →
    ∃ t, exec (.widthLowlandRx c) s = .next t ∧
      AcceptsFar (.lowland (BitVec.ofNat 4 (bits pl 31 4)) (bits pl 26 4)) (resolveBeat 22 (bits pl 0 22) r.beat) r t) ∧
  (∀ (s : State) (c : SbCopies) (b : Nat) (r : State) (pl : Nat), Heard s c b r → bodyType b = SbType.width.code →
    pl = bodyPayload b → bits pl 36 4 = 4 → r.colIn [.active, .quietRepair, .widthChange] = false → r.rep.props = [] →
    ∃ t, exec (.widthLowlandRx c) s = .next t ∧
      DeclinesFar (.lowland (BitVec.ofNat 4 (bits pl 31 4)) (bits pl 26 4)) (resolveBeat 22 (bits pl 0 22) r.beat) r t) ∧
  (∀ (s : State) (c : SbCopies) (b : Nat) (r : State) (pl : Nat) (p : Proposal), Heard s c b r → bodyType b = SbType.width.code →
    pl = bodyPayload b → bits pl 36 4 = 5 → r.rep.props = [p] → p.own = false → p.stage = 0 → widthIs pl p = true →
    ∃ t, exec (.widthCancelRx c) s = .next t ∧ t.rep.props = [])

/-- PARK_PROPOSE, PARK_ACCEPT, PARK_DECLINE and PARK_CANCEL (R433; crossings as R150 settles them). -/
def Obligations.ParkFramesAreAnswered : Prop :=
  (∀ (s : State) (c : SbCopies) (b : Nat) (r : State) (pl : Nat), Heard s c b r → bodyType b = SbType.park.code → pl = bodyPayload b →
    bits pl 36 4 = 1 → r.parkRefusal = none → r.rep.props = [] →
    ∃ t, exec (.parkProposeRx c) s = .next t ∧ AcceptsFar .park (resolveBeat 22 (bits pl 0 22) r.beat) r t) ∧
  (∀ (s : State) (c : SbCopies) (b : Nat) (r : State) (pl : Nat), Heard s c b r → bodyType b = SbType.park.code → pl = bodyPayload b →
    bits pl 36 4 = 1 → r.parkRefusal ≠ none → r.rep.props = [] →
    ∃ t, exec (.parkProposeRx c) s = .next t ∧ DeclinesFar .park (resolveBeat 22 (bits pl 0 22) r.beat) r t) ∧
  (∀ (s : State) (c : SbCopies) (b : Nat) (r : State) (pl : Nat) (p : Proposal), Heard s c b r → bodyType b = SbType.park.code →
    pl = bodyPayload b → bits pl 36 4 = 1 → r.rep.props = [p] → p.own = true → p.kind = .park → p.accepted = false → r.wins = true →
    ∃ t, exec (.parkProposeRx c) s = .next t ∧ DeclinesFar .park (resolveBeat 22 (bits pl 0 22) r.beat) r t) ∧
  (∀ (s : State) (c : SbCopies) (b : Nat) (r : State) (pl : Nat) (p : Proposal), Heard s c b r → bodyType b = SbType.park.code →
    pl = bodyPayload b → bits pl 36 4 = 1 → r.parkRefusal = none → r.rep.props = [p] → p.own = true → p.kind = .park → p.accepted = false →
    r.wins = false →
    ∃ t, exec (.parkProposeRx c) s = .next t ∧ AcceptsFar .park (resolveBeat 22 (bits pl 0 22) r.beat) r t ∧ Raised EV.REPAIR.REQ_WITHDRAWN t) ∧
  (∀ (s : State) (c : SbCopies) (b : Nat) (r : State) (pl : Nat) (p : Proposal), Heard s c b r → bodyType b = SbType.park.code →
    pl = bodyPayload b → bits pl 36 4 = 2 → r.rep.props = [p] → parkIs true pl p = true →
    ∃ t, exec (.parkAcceptRx c) s = .next t ∧ t.rep.props = [if p.cancels = 0 then { p with accepted := true } else p]) ∧
  (∀ (s : State) (c : SbCopies) (b : Nat) (r : State) (pl : Nat) (p : Proposal), Heard s c b r → bodyType b = SbType.park.code →
    pl = bodyPayload b → bits pl 36 4 = 3 → r.rep.props = [p] → parkIs true pl p = true →
    ∃ t, exec (.parkDeclineRx c) s = .next t ∧ t.rep.props = [] ∧ (.park, r.beat) ∈ t.rep.declined ∧ t.rep.waiting = r.rep.waiting) ∧
  (∀ (s : State) (c : SbCopies) (b : Nat) (r : State) (pl : Nat) (p : Proposal), Heard s c b r → bodyType b = SbType.park.code →
    pl = bodyPayload b → bits pl 36 4 = 4 → r.rep.props = [p] → parkIs false pl p = true →
    ∃ t, exec (.parkCancelRx c) s = .next t ∧ t.rep.props = [])

/-- PROPOSAL_REPEAT, PROPOSAL_CANCEL_DUE and ATTR_WINDOW_EXPIRY (R134, R139, R433). A declined proposal's trigger is looked at again
1,024 beats later (the model's choice, log entry 32). -/
def Obligations.ProposalsAreRepeatedAndCancelled : Prop :=
  (∀ (s : State) (now : Beat) (p : Proposal), s.rep.props = [p] → s.rep.waiting = [] → s.rep.yielded = [] → s.rep.declined = [] → p.own = true → p.accepted = false → p.cancels = 0 →
    (s.at now).past p.lastSent 1024 = true → (s.at now).beat.toNat + 1024 < p.beat.toNat →
    ∃ t, exec (.proposalRepeat now) s = .next t ∧ t.rep.props = [{ p with lastSent := (s.at now).beat }] ∧
      t.out = ((s.at now).sendProp .propose p.kind p.beat).out) ∧
  (∀ (s : State) (now : Beat) (p : Proposal), s.rep.props = [p] → s.rep.waiting = [] → s.rep.yielded = [] → (p.own = false ∨ p.accepted = true) →
    s.rep.declined = [] → exec (.proposalRepeat now) s = .next (s.at now)) ∧
  (∀ (s : State) (now : Beat) (i : Nat) (b : Beat), s.rep.props = [] → s.rep.waiting = [] → s.rep.yielded = [] → s.rep.declined = [(.site i, b)] →
    (s.at now).past b 1024 = false → exec (.proposalRepeat now) s = .next (s.at now)) ∧
  (∀ (s : State) (now : Beat) (p : Proposal), s.rep.props = [p] → s.rep.waiting = [] → s.rep.yielded = [] → s.rep.declined = [] → p.own = true → p.accepted = false → p.stage = 0 →
    p.cancels < 3 → p.beat.toNat ≤ (s.at now).beat.toNat + (1024 - 256 * p.cancels) →
    ∃ t, exec (.proposalCancelDue now) s = .next t ∧ t.rep.props = [{ p with cancels := p.cancels + 1 }] ∧
      t.out = ((s.at now).sendProp .cancel p.kind p.beat).out) ∧
  (∀ (s : State) (now : Beat) (p : Proposal), s.rep.props = [p] → s.rep.waiting = [] → s.rep.yielded = [] → s.rep.declined = [] → p.own = true → p.accepted = false → p.stage = 0 →
    p.cancels = 3 → p.beat.toNat ≤ (s.at now).beat.toNat + 256 → p.kind = .park → s.chip.col ≠ .active → s.parked = false → s.pwr.stopping = false →
    ∃ t, exec (.proposalCancelDue now) s = .next t ∧ t.rep.props = [] ∧ t.rep.waiting = [.park] ∧
      t.out = ((s.at now).sendProp .cancel p.kind p.beat).out) ∧
  (∀ (s : State) (now : Beat) (p : Proposal), s.rep.props = [p] → s.rep.waiting = [] → s.rep.yielded = [] → s.rep.declined = [] → p.own = true →
    p.accepted = false → p.stage = 0 → p.cancels = 3 → p.beat.toNat ≤ (s.at now).beat.toNat + 256 → p.kind = .park → s.parked = false →
    s.pwr.stopping = false → (s.setProps []).parkRefusal = none →
    ∃ t, exec (.proposalCancelDue now) s = .next t ∧ Proposes .park { s.at now with rep := { s.rep with props := [] } } t) ∧
  (∀ (s : State) (now : Beat) (p : Proposal) (rx f : Bool) (gs : BitVec 4) (re : Nat), s.rep.props = [p] → s.rep.waiting = [] → s.rep.yielded = [] → s.rep.declined = [] → p.own = true →
    p.accepted = false → p.stage = 0 → p.cancels = 3 → p.beat.toNat ≤ (s.at now).beat.toNat + 256 → p.kind = .width rx gs f re →
    ∃ t, exec (.proposalCancelDue now) s = .next t ∧ Proposes p.kind { s.at now with rep := { s.rep with props := [] } } t) ∧
  (∀ (s : State) (now : Beat) (site : Nat), siteOk site = true → s.get (REPAIR.SITE_ERR.COUNT site) ≠ 0 →
    s.get REPAIR.ATTR_CTL.WINDOW ≤ (s.at now).beat.toNat - (s.at now).firstBeat site →
    ∃ t, exec (.attrWindowExpiry site now) s = .next t ∧ t.get (REPAIR.SITE_ERR.COUNT site) = 0 ∧ t.get (REPAIR.SITE_ERR.FIRST site) = 0 ∧
      ∀ k, k ≠ (REPAIR.SITE_ERR.COUNT site).key → t.reg k = s.reg k) ∧
  (∀ (s : State) (now b : Beat) (g : Nat), g < 5 → s.get (REPAIR.GROUP_ERR.COUNT g) ≠ 0 → Sparse.find s.rep.grpFirst g = some b →
    (s.at now).past b (s.get REPAIR.ATTR_CTL.WINDOW) = true →
    ∃ t, exec (.attrWindowExpiry g now true) s = .next t ∧ t.get (REPAIR.GROUP_ERR.COUNT g) = 0 ∧ Sparse.find t.rep.grpFirst g = none ∧
      ∀ k, k ≠ (REPAIR.GROUP_ERR.COUNT g).key → t.reg k = s.reg k)

/-- QR_PAUSE_BEAT, QR_MASK_SWITCH, QR_RESUME, WIDTH_CHANGE_BEAT, WIDTH_SWITCH, WIDTH_RESUME and LOWLAND_ENTRY_BEAT: an accepted
repair, width change or Lowland entry at its beats (R136, R140, R142, R143, R145, R148, R149, R152; LEVEL_STAT in LOWLAND by R155, R369 and
R457). That QR_DONE is counted and raised for a repair with N = 0 too is the model's choice (log entry 84), and that the transmitting end
counts it as well is its reading (log entry 25). -/
def Obligations.RepairsRunAtTheirBeats : Prop :=
  (∀ (s : State) (now : Beat) (p : Proposal) (g k n : Nat), s.rep.props = [p] → p.kind = .quiet g k n → n ≠ 0 → p.stage = 0 →
    p.accepted = true → (s.at now).reached p.beat = true → s.chip.col = .active →
    ∃ t, exec (.qrPauseBeat now) s = .next t ∧ t.rep.props = [{ p with stage := 1 }] ∧ t.chip.col = .quietRepair ∧
      t.susp = s.susp ++ [⟨p.own, p.beat, p.beat + BitVec.ofNat 64 (64 * n + s.get TIME.LEVEL_CTL.L_LEVEL)⟩]) ∧
  (∀ (s : State) (now : Beat) (p : Proposal) (g k n : Nat), s.rep.props = [p] → p.kind = .quiet g k n → p.stage = 0 →
    p.accepted = false → (s.at now).reached p.beat = true → s.chip.col = .active →
    ∃ t, exec (.qrPauseBeat now) s = .next t ∧ t.rep.props = [] ∧ t.chip.col = .active ∧ t.susp = s.susp) ∧
  (∀ (s : State) (now : Beat) (p : Proposal) (g k n : Nat), s.rep.props = [p] → s.rep.waiting = [] → s.rep.yielded = [] → p.kind = .quiet g k n → n ≠ 0 →
    g ≤ 4 → k < groupSites g → p.stage = 1 → (s.at now).reached (p.beat + 64) = true → s.rep.declined = [] →
    s.colIn [.quietRepair, .lowland, .repair] = true →
    ∃ t, exec (.qrMaskSwitch now) s = .next t ∧ t.rep.props = [{ p with stage := 2 }] ∧ t.isBad p.own g k = true ∧
      ∀ f : Field, f.key ≠ (maskField p.own g).key → t.get f = s.get f) ∧
  (∀ (s : State) (now : Beat), s.colIn [.drain, .down, .fault] = true → exec (.qrMaskSwitch now) s = .next (s.at now)) ∧
  (∀ (s : State) (now : Beat) (p : Proposal) (g k : Nat), s.rep.props = [p] → s.rep.waiting = [] → s.rep.yielded = [] → p.kind = .quiet g k 0 →
    g ≤ 4 → k < groupSites g → p.stage = 1 → (s.at now).reached (p.beat + 64) = true → s.chip.col = .repair → s.rep.declined = [] →
    ∃ t, exec (.qrMaskSwitch now) s = .next t ∧ t.rep.props = [] ∧ t.isBad p.own g k = true ∧ CountedOne REPAIR.RPR_STAT.QR_DONE s t) ∧
  (∀ (s : State) (now : Beat) (p : Proposal) (g k n : Nat) (mismatch : Bool), s.rep.props = [p] → s.rep.waiting = [] → s.rep.yielded = [] → p.kind = .quiet g k n →
    p.stage = 2 → (s.at now).reached (p.beat + BitVec.ofNat 64 (64 * n)) = true → (p.own = false ∨ mismatch = false) →
    s.chip.col = .quietRepair → s.cal.again = false → s.sparesSpent = false → s.rep.declined = [] → s.get CAL.RUN_STAT.FAILS ≠ 3 →
    ∃ t, exec (.qrResume now mismatch) s = .next t ∧ t.rep.props = [] ∧ t.chip.col = .active ∧ CountedOne REPAIR.RPR_STAT.QR_DONE s t ∧
      (p.own = true → Raised EV.REPAIR.QR_DONE t)) ∧
  (∀ (s : State) (now : Beat) (p : Proposal) (g k n : Nat), s.rep.props = [p] → s.rep.waiting = [] → s.rep.yielded = [] → p.kind = .quiet g k n →
    p.stage = 2 → (s.at now).reached (p.beat + BitVec.ofNat 64 (64 * n)) = true → p.own = true → g < 4 → bit (s.groups true) g = true →
    clearBit (s.groups true) g ≠ 0 → s.cap 7 = true → s.levelAgreed = false → s.parked = false → s.chip.col = .quietRepair →
    s.cal.again = false → s.sparesSpent = false → s.rep.declined = [] → s.get CAL.RUN_STAT.FAILS ≠ 3 →
    ∃ t, exec (.qrResume now true) s = .next t ∧ CountedOne REPAIR.RPR_STAT.QR_FAIL s t ∧ Raised EV.REPAIR.QR_VERIFY_FAIL t ∧
      Proposes (.width true (BitVec.ofNat 4 (clearBit (s.groups true) g)) false 3) { s.at now with rep := { s.rep with props := [] } } t) ∧
  (∀ (s : State) (now : Beat) (p : Proposal) (rx f : Bool) (gs : BitVec 4) (re : Nat), s.rep.props = [p] → p.kind = .width rx gs f re →
    p.stage = 0 → p.accepted = true → (s.at now).reached p.beat = true → s.chip.col = .active →
    ∃ t, exec (.widthChangeBeat now) s = .next t ∧ t.rep.props = [{ p with stage := 1 }] ∧ t.chip.col = .widthChange ∧
      t.susp = s.susp ++ [⟨rx, p.beat, p.beat + BitVec.ofNat 64 (512 + s.get TIME.LEVEL_CTL.L_LEVEL)⟩]) ∧
  (∀ (s : State) (now : Beat) (p : Proposal) (rx f : Bool) (gs : BitVec 4) (re : Nat), s.rep.props = [p] → p.kind = .width rx gs f re →
    p.stage = 1 → (s.at now).reached (p.beat + 64) = true → s.groups rx &&& gs.toNat ≠ 0 → s.groups (!rx) ≠ 0 →
    ∃ t, exec (.widthSwitch now) s = .next t ∧ t.rep.props = [{ p with stage := 2 }] ∧ t.groups rx = s.groups rx &&& gs.toNat ∧
      t.groups (!rx) = s.groups (!rx) ∧
      (re ≠ 0 → t.rep.cmdRx = s.rep.cmdRx ∧ t.rep.cmdTx = s.rep.cmdTx) ∧
      (re = 0 → (if rx then t.rep.cmdRx else t.rep.cmdTx) =
        (if rx then s.rep.cmdRx else s.rep.cmdTx) ||| (BitVec.ofNat 4 (s.groups rx) &&& ~~~ gs))) ∧
  (∀ (s : State) (now : Beat) (p : Proposal) (rx f : Bool) (gs : BitVec 4) (re : Nat), s.rep.props = [p] → p.kind = .width rx gs f re →
    p.stage = 1 → (s.at now).reached (p.beat + 64) = true → s.groups rx &&& gs.toNat = 0 → s.chip.col = .widthChange →
    ∃ t, exec (.widthSwitch now) s = .next t ∧ t.chip.col = .fault) ∧
  (∀ (s : State) (now : Beat) (p : Proposal) (rx f : Bool) (gs : BitVec 4) (re : Nat), s.rep.props = [p] → s.rep.waiting = [] → s.rep.yielded = [] →
    p.kind = .width rx gs f re → p.stage = 2 → (s.at now).reached (p.beat + 512) = true → s.chip.col = .widthChange →
    s.cal.again = false → s.sparesSpent = false → s.rep.declined = [] → s.get CAL.RUN_STAT.FAILS ≠ 3 →
    ∃ t, exec (.widthResume now) s = .next t ∧ t.rep.props = [] ∧ t.chip.col = .active ∧ CountedOne REPAIR.RPR_STAT.WIDTH s t ∧
      Raised EV.REPAIR.WIDTH_CHANGED t ∧ t.get TIME.LEVEL_STAT.L_MIN = s.lMinFor (s.groups true) (s.groups false) % 2 ^ 8) ∧
  (∀ (s : State) (now : Beat) (p : Proposal) (gs : BitVec 4) (re : Nat), s.rep.props = [p] → p.kind = .lowland gs re → p.accepted = true →
    (s.at now).reached p.beat = true → s.colIn [.active, .quietRepair, .widthChange] = true →
    ∃ t, exec (.lowlandEntryBeat now) s = .next t ∧ t.chip.col = .lowland ∧ t.chip.step = 1 ∧ t.get TIME.LEVEL_STAT.L_MIN = 0 ∧
      t.get TIME.LEVEL_STAT.L_RPL = 0) ∧
  (∀ (s : State) (now : Beat) (p : Proposal) (gs : BitVec 4) (re : Nat), s.rep.props = [p] → p.kind = .lowland gs re → p.accepted = false →
    (s.at now).reached p.beat = true →
    ∃ t, exec (.lowlandEntryBeat now) s = .next t ∧ t.rep.props = [] ∧ t.chip.col = s.chip.col)

/-! ### Tables, windows and arrays -/

/-- BINDING_WRITE, CONTEXT_WRITE, RECIPE_WRITE, OVERLAY_WRITE and MIRROR_BLOCK_WRITE (R9, R239, R309, R405, R422, R465 to R467): the
word takes the data in its bits that are not reserved, every other word of the aperture stays, and the mirror block refuses. -/
def Obligations.TablesTakeWrites : Prop :=
  (∀ (s : State) (entry : BitVec 17) (data : Word), HostUp s (aperDomains entry.toNat) → s.isM = true →
    ∃ t, exec (.bindingWrite entry data) s = .next t ∧ t.tblWord entry.toNat = data ∧ (∀ i, i ≠ entry.toNat → t.tblWord i = s.tblWord i) ∧
      t.txn.badBinds.contains entry.toNat = false ∧ t.regs = s.regs) ∧
  (∀ (s : State) (ctx : BitVec 14) (word : BitVec 2) (data : Word), HostUp s (aperDomains (ctxIdx ctx.toNat word.toNat)) → s.isM = true →
    ∃ t, exec (.contextWrite ctx word data) s = .next t ∧
      t.tblWord (ctxIdx ctx.toNat word.toNat) = data &&& tblMask (ctxIdx ctx.toNat word.toNat) ∧
      (∀ i, i ≠ ctxIdx ctx.toNat word.toNat → t.tblWord i = s.tblWord i) ∧ Sparse.find t.pair.dirty ctx.toNat = some ()) ∧
  (∀ (s : State) (slot : BitVec 6) (word : BitVec 5) (data : Word), HostUp s (aperDomains (rcpIdx slot.toNat word.toNat)) → s.isM = true →
    tblMask (rcpIdx slot.toNat word.toNat) ≠ 0 →
    ∃ t, exec (.recipeWrite slot word data) s = .next t ∧
      t.tblWord (rcpIdx slot.toNat word.toNat) = data &&& tblMask (rcpIdx slot.toNat word.toNat) ∧
      (∀ i, i ≠ rcpIdx slot.toNat word.toNat → t.tblWord i = s.tblWord i) ∧ t.eng.badSlots.contains slot.toNat = false ∧ t.regs = s.regs) ∧
  (∀ (s : State) (slot : BitVec 2) (entry : BitVec 6) (hi : Bool) (data : Word), HostUp s (aperDomains (ovlIdx slot.toNat entry.toNat (b2n hi))) →
    ∃ t, exec (.overlayWrite slot entry hi data) s = .next t ∧
      t.tblWord (ovlIdx slot.toNat entry.toNat (b2n hi)) = data &&& tblMask (ovlIdx slot.toNat entry.toNat (b2n hi)) ∧
      (∀ i, i ≠ ovlIdx slot.toNat entry.toNat (b2n hi) → t.tblWord i = s.tblWord i) ∧ t.chip.badOvl.contains slot.toNat = false ∧
      t.regs = s.regs) ∧
  (∀ (s : State) (off : BitVec 21) (data : Word), HostUp s (aperDomains (off.toNat / 8)) → s.isM = true → 0x32A00 ≤ off.toNat / 8 →
    tblMask (off.toNat / 8) ≠ 0 →
    ∃ t, exec (.mirrorBlockWrite off data) s = .next t ∧ t.tbl = s.tbl ∧ t.get (PAGE.REFUSED.REASON 13) = 1 ∧ t.get (PAGE.REFUSED.APER 13) = 1) ∧
  (∀ (s : State) (entry : BitVec 17) (data : Word), HostUp s (aperDomains entry.toNat) → s.isM = false →
    exec (.bindingWrite entry data) s = .next s)

/-- WINDOW_WORD_WRITE, WINDOW_ARM, WINDOW_FREE and WINDOW_ABORT (R341, R343, R460, R506): what a window descriptor accepts in which
STATE, and what arming, freeing and aborting do. The checks apply once BASIN.SCRUB_CTL.EN has been written 1. That a window is freed in
STATE FREE too, and that word 7 is stored there like any other, are the model's readings (log entry 56). -/
def Obligations.WindowDescriptorsAreArmedFreedAndAborted : Prop :=
  (∀ (s : State) (w : BitVec 10) (k : BitVec 3) (data : Word), HostUp s (aperDomains (winIdx w.toNat k.toNat)) → s.isM = true →
    s.eng.winChecks = true → k ≠ 0 → s.win w.toNat WIN.STATE = 0 →
    ∃ t, exec (.windowWordWrite w k data) s = .next t ∧ t.tblWord (winIdx w.toNat k.toNat) = data &&& tblMask (winIdx w.toNat k.toNat) ∧
      (∀ i, i ≠ winIdx w.toNat k.toNat → t.tblWord i = s.tblWord i)) ∧
  (∀ (s : State) (w : BitVec 10) (k : BitVec 3) (data : Word), HostUp s (aperDomains (winIdx w.toNat k.toNat)) → s.isM = true →
    s.eng.winChecks = true → k ≠ 0 → s.win w.toNat WIN.STATE ≠ 0 →
    ∃ t, exec (.windowWordWrite w k data) s = .next t ∧ t.tbl = s.tbl ∧ t.get (PAGE.REFUSED.REASON 11) = 0x4A) ∧
  (∀ (s : State) (w : BitVec 10) (k : BitVec 3) (data : Word), HostUp s (aperDomains (winIdx w.toNat k.toNat)) → s.isM = true →
    s.eng.winChecks = false → (k ≠ 0 ∨ bits data.toNat 0 3 = 0) →
    ∃ t, exec (.windowWordWrite w k data) s = .next t ∧ t.tblWord (winIdx w.toNat k.toNat) = data &&& tblMask (winIdx w.toNat k.toNat)) ∧
  (∀ (s : State) (w : BitVec 10) (data : Word), HostUp s (aperDomains (winIdx w.toNat 0)) → s.isM = true →
    (s.eng.winChecks = false ∨ s.win w.toNat WIN.STATE ≠ 0) →
    ∃ t, exec (.windowArm w data) s = .next t ∧ t.tbl = s.tbl ∧ t.get (PAGE.REFUSED.REASON 11) = 0x4A) ∧
  (∀ (s p : State) (w : BitVec 10) (data : Word) (code : Nat), HostUp s (aperDomains (winIdx w.toNat 0)) → s.isM = true →
    s.eng.winChecks = true → s.win w.toNat WIN.STATE = 0 →
    p = s.setTbl (winIdx w.toNat 0) (setBits data 0 3 1 &&& tblMask (winIdx w.toNat 0)) → p.armRefusal w.toNat = some code →
    ∃ t, exec (.windowArm w data) s = .next t ∧ t.tbl = s.tbl ∧ t.get (PAGE.REFUSED.REASON 11) = code) ∧
  (∀ (s p : State) (w : BitVec 10) (data : Word), HostUp s (aperDomains (winIdx w.toNat 0)) → s.isM = true →
    s.eng.winChecks = true → s.win w.toNat WIN.STATE = 0 →
    p = s.setTbl (winIdx w.toNat 0) (setBits data 0 3 1 &&& tblMask (winIdx w.toNat 0)) → p.armRefusal w.toNat = none →
    ∃ t, exec (.windowArm w data) s = .next t ∧ t.win w.toNat WIN.STATE = 1 ∧ t.win w.toNat WIN.EARLY_N = 0 ∧ t.win w.toNat WIN.LATE_N = 0 ∧
      t.win w.toNat WIN.COMMITS = 0 ∧ t.win w.toNat WIN.ARRIVED = 0 ∧ t.win w.toNat WIN.OUTCOME = 0 ∧
      t.win w.toNat WIN.XWIN_CAP = (p.ctxOf (p.win w.toNat WIN.CTX)).xwin % 2 ^ 8 ∧ t.eng.zeroing.contains w.toNat = true ∧
      (∀ l, linesMeet (l, 1) (p.winAcc w.toNat) = true ∨ linesMeet (l, 1) (p.winBmp w.toNat) = true → t.line l = 0)) ∧
  (∀ (s : State) (w : BitVec 10) (data : Word), HostUp s (aperDomains (winIdx w.toNat 0)) → s.isM = true →
    s.eng.winChecks = true → s.winIn w.toNat [0, 1, 4, 5] = true →
    ∃ t, exec (.windowFree w data) s = .next t ∧ t.win w.toNat WIN.STATE = 0 ∧ t.eng.zeroing.contains w.toNat = false ∧
      t.eng.closing.contains w.toNat = false) ∧
  (∀ (s : State) (w : BitVec 10) (data : Word), HostUp s (aperDomains (winIdx w.toNat 0)) → s.isM = true →
    s.eng.winChecks = true → s.winIn w.toNat [2, 3] = true →
    ∃ t, exec (.windowFree w data) s = .next t ∧ t.tbl = s.tbl ∧ t.get (PAGE.REFUSED.REASON 11) = 0x4A) ∧
  (∀ (s : State) (w : BitVec 10) (data : Word), HostUp s (aperDomains (winIdx w.toNat 0)) → s.isM = true →
    s.eng.winChecks = true → s.winIn w.toNat [1, 2] = true →
    ∃ t, exec (.windowAbort w data) s = .next t ∧ t.win w.toNat WIN.STATE = 5 ∧ bit (t.win w.toNat WIN.OUTCOME) 5 = true ∧
      Raised EV.BASIN.WIN_FAILED t) ∧
  (∀ (s : State) (w : BitVec 10) (data : Word), HostUp s (aperDomains (winIdx w.toNat 0)) → s.isM = true →
    s.winIn w.toNat [1, 2] = false →
    ∃ t, exec (.windowAbort w data) s = .next t ∧ t.tbl = s.tbl ∧ t.get (PAGE.REFUSED.REASON 11) = 0x4A)

/-- BASIN_INIT_GO, BASIN_INIT_DONE, WINDOW_ZEROING_DONE, WINDOW_OPEN_BEAT, WINDOW_CLOSE_BEAT and CLOSE_WRITES_ACCEPTED (R333, R343, R344,
R351, R352, R354): the Basin reads zero, a window opens and closes, and its completion record, the only memory written, holds the
descriptor of the closed window. -/
def Obligations.WindowsOpenAndCloseOnTime : Prop :=
  (∀ s : State, HostUp s (keyDomains BASIN.INIT_CMD.GO.key) → s.isM = true → s.on BASIN.INIT_STAT.RUNNING = false →
    s.windowsIn [1, 2, 3, 4, 5] = [] →
    ∃ t, exec .basinInitGo s = .next t ∧ t.get BASIN.INIT_STAT.RUNNING = 1 ∧ t.get BASIN.INIT_STAT.DONE = 0 ∧ t.basin = s.basin) ∧
  (∀ s : State, HostUp s (keyDomains BASIN.INIT_CMD.GO.key) → s.isM = true → s.on BASIN.INIT_STAT.RUNNING = false →
    s.windowsIn [1, 2, 3, 4, 5] ≠ [] →
    ∃ t, exec .basinInitGo s = .next t ∧ t.get BASIN.INIT_STAT.RUNNING = 0 ∧ t.get (PAGE.REFUSED.REASON 11) = 1) ∧
  (∀ (s : State) (cycles : Nat), s.engRuns = true → s.on BASIN.INIT_STAT.RUNNING = true → 16384 ≤ cycles →
    ∃ t, exec (.basinInitDone cycles) s = .next t ∧ (∀ n, t.line n = 0) ∧ t.get BASIN.INIT_STAT.RUNNING = 0 ∧ t.get BASIN.INIT_STAT.DONE = 1 ∧
      Raised EV.BASIN.INIT_DONE t) ∧
  (∀ (s : State) (w : BitVec 10) (cycles : Nat), s.engRuns = true → s.win w.toNat WIN.STATE = 1 → s.eng.zeroing.contains w.toNat = true →
    s.accLines w.toNat + s.bmpLines w.toNat ≤ 4 * cycles → s.reached (s.openBeat w.toNat) = false →
    ∃ t, exec (.windowZeroingDone w cycles) s = .next t ∧ t.win w.toNat WIN.STATE = 1 ∧ t.eng.zeroing.contains w.toNat = false) ∧
  (∀ (s : State) (w : BitVec 10) (cycles : Nat), s.engRuns = true → s.win w.toNat WIN.STATE = 1 → s.eng.zeroing.contains w.toNat = true →
    s.accLines w.toNat + s.bmpLines w.toNat ≤ 4 * cycles → s.openBeat w.toNat < s.beat → s.eng.lateArm.contains w.toNat = false →
    ∃ t, exec (.windowZeroingDone w cycles) s = .next t ∧ t.win w.toNat WIN.STATE = 2 ∧ t.eng.zeroing.contains w.toNat = false ∧
      Raised EV.BASIN.WIN_ARM_LATE t) ∧
  (∀ (s : State) (w : BitVec 10) (now : Beat), s.engRuns = true → s.win w.toNat WIN.STATE = 1 → s.eng.zeroing.contains w.toNat = false →
    (s.at now).reached (s.openBeat w.toNat) = true →
    ∃ t, exec (.windowOpenBeat w now) s = .next t ∧ t.win w.toNat WIN.STATE = 2 ∧ t.regs = s.regs ∧
      (∀ i, i ≠ winIdx w.toNat 0 → t.tblWord i = s.tblWord i)) ∧
  (∀ (s : State) (w : BitVec 10) (now : Beat), s.engRuns = true → s.win w.toNat WIN.STATE = 1 → s.eng.zeroing.contains w.toNat = true →
    (s.at now).reached (s.openBeat w.toNat) = true → s.eng.lateArm.contains w.toNat = false →
    ∃ t, exec (.windowOpenBeat w now) s = .next t ∧ t.win w.toNat WIN.STATE = 1 ∧ Raised EV.BASIN.WIN_ARM_LATE t) ∧
  (∀ (s : State) (w : BitVec 10) (now : Beat), s.engRuns = true → s.win w.toNat WIN.STATE = 2 →
    (s.closeBeat w.toNat).toNat + s.get BASIN.WIN_CTL.SLACK ≤ (s.at now).beat.toNat → (s.ctxOf (s.win w.toNat WIN.CTX)).lost = false →
    s.win w.toNat WIN.MODE = 0 → s.win w.toNat WIN.CL_WRITE = 0 →
    ∃ t, exec (.windowCloseBeat w now none) s = .next t ∧ t.win w.toNat WIN.STATE = 3 ∧ t.eng.closing.contains w.toNat = true ∧ t.mem = s.mem ∧
      bit (t.win w.toNat WIN.OUTCOME) (if s.win w.toNat WIN.ARRIVED = s.win w.toNat WIN.EXPECT then 0 else 1) = true) ∧
  (∀ (s : State) (w : BitVec 10) (now : Beat), s.engRuns = true → s.win w.toNat WIN.STATE = 2 →
    (s.closeBeat w.toNat).toNat + s.get BASIN.WIN_CTL.SLACK ≤ (s.at now).beat.toNat → (s.ctxOf (s.win w.toNat WIN.CTX)).lost = true →
    ∃ t, exec (.windowCloseBeat w now none) s = .next t ∧ t.win w.toNat WIN.STATE = 5 ∧ bit (t.win w.toNat WIN.OUTCOME) 4 = true ∧
      Raised EV.BASIN.WIN_FAILED t) ∧
  (∀ (s : State) (w : BitVec 10) (now : Beat) (i : BitVec 18), s.engRuns = true → s.win w.toNat WIN.STATE = 2 →
    (s.closeBeat w.toNat).toNat + s.get BASIN.WIN_CTL.SLACK ≤ (s.at now).beat.toNat → linesMeet (i.toNat / 4, 1) (s.winAcc w.toNat) = true →
    ∃ t, exec (.windowCloseBeat w now (some i)) s = .next t ∧ t.win w.toNat WIN.STATE = 5 ∧ bit (t.win w.toNat WIN.OUTCOME) 4 = true ∧
      Raised EV.BASIN.WIN_FAILED t) ∧
  (∀ (s : State) (w : BitVec 10), s.engRuns = true → s.win w.toNat WIN.STATE = 3 → s.eng.closing.contains w.toNat = true →
    s.eng.unissued.contains w.toNat = false → s.closeHeld w.toNat = false → s.win w.toNat WIN.CL_REC = 0 →
    ∃ t, exec (.closeWritesAccepted w) s = .next t ∧ t.win w.toNat WIN.STATE = 4 ∧ t.eng.closing.contains w.toNat = false ∧
      (∀ a, t.memByte a = s.memByte a) ∧ (s.win w.toNat WIN.CL_EVENT = 1 → Raised EV.BASIN.WIN_CLOSED t) ∧
      (bit (s.win w.toNat WIN.OUTCOME) 1 = true → Raised EV.BASIN.WIN_INCOMPLETE t)) ∧
  (∀ (s c : State) (w : BitVec 10) (a : Nat), s.engRuns = true → s.win w.toNat WIN.STATE = 3 → s.eng.closing.contains w.toNat = true →
    s.eng.unissued.contains w.toNat = false → s.closeHeld w.toNat = false → s.win w.toNat WIN.CL_REC = 1 → a = 64 * s.win w.toNat WIN.REC_ADDR → s.pageShut a = false →
    (s.ctxOf (s.win w.toNat WIN.CTX)).lost = false → c = s.setWin w.toNat WIN.STATE 4 →
    ∃ t, exec (.closeWritesAccepted w) s = .next t ∧ t.win w.toNat WIN.STATE = 4 ∧ t.memNat a 32 = c.winRecord w.toNat ∧
      (∀ b, b < a ∨ a + 32 ≤ b → t.memByte b = s.memByte b))

/-- SCRUB_ROW, ECC_WRITE_BACK and MERGE_FLUSH (R415 to R418, R420 to R422, R446), and MSCRUB_GO, MSV_REQ_ACK and MSV_SUM_VALID (R424, R49).
That a write-back of any word of an array counts in CE and raises ECC_CE, whether or not a read before it found the word, is the model's
choice (log entry 63). -/
def Obligations.ArraysAreScrubbedAndPoolMemoryIsRelayed : Prop :=
  (∀ (s : State) (a n : Nat), arrayOk a = true → s.scrubs a = true → s.get (PAGE.SCRUB_CTL.INTERVAL (arrayPage a)) ≤ n →
    ∃ t, exec (.scrubRow a [] n) s = .next t ∧ (t.sram a).row = (if arrayRows a ≤ (s.sram a).row + 1 then 0 else (s.sram a).row + 1) ∧
      (t.sram a).pending = (s.sram a).pending ∧ t.tbl = s.tbl ∧ t.basin = s.basin ∧
      (a = scrubShown (arrayPage a) → t.get (PAGE.SCRUB_STAT.ROW (arrayPage a)) =
        (if arrayRows a ≤ (s.sram a).row + 1 then 0 else (s.sram a).row + 1) % 2 ^ (PAGE.SCRUB_STAT.ROW (arrayPage a)).width)) ∧
  (∀ (s : State) (a n : Nat) (errs : List (Nat × EccError)), n < s.get (PAGE.SCRUB_CTL.INTERVAL (arrayPage a)) →
    exec (.scrubRow a errs n) s = .next s) ∧
  (∀ (s : State) (a n i : Nat), arrayOk a = true → s.scrubs a = true → s.get (PAGE.SCRUB_CTL.INTERVAL (arrayPage a)) ≤ n →
    ∃ t, exec (.scrubRow a [(i, .correctable)] n) s = .next t ∧
      (t.sram a).pending.contains ((s.sram a).row * rowWords a + i % rowWords a) = true ∧
      ((s.sram a).fixedPrev.contains ((s.sram a).row * rowWords a + i % rowWords a) = true → Raised (eccEvents (arrayPage a)).2.2 t)) ∧
  (∀ (s : State) (n i : Nat), s.scrubs 6 = true → s.get (PAGE.SCRUB_CTL.INTERVAL 8) ≤ n →
    ∃ t, exec (.scrubRow 6 [(i, .uncorrectable)] n) s = .next t ∧ t.txn.badBinds.contains ((s.sram 6).row * 8 + i % 8) = true ∧
      CountedOne (PAGE.ECC_STAT.UE 8) s t ∧ Raised EV.TXN.ECC_UE t) ∧
  (∀ (s : State) (n i c : Nat), s.scrubs 7 = true → s.get (PAGE.SCRUB_CTL.INTERVAL (arrayPage 7)) ≤ n → (s.sram 7).row < 8192 → c = ((s.sram 7).row * 8 + i % 8) / 4 →
    ∃ t, exec (.scrubRow 7 [(i, .uncorrectable)] n) s = .next t ∧ t.tblWord (ctxIdx c 1) = BitVec.ofNat 64 (2 ^ 55 + 2 ^ 59) ∧
      Raised EV.DEFILE.ECC_UE t ∧ Raised EV.TXN.CTX_LOST t) ∧
  (∀ (s : State) (a i : Nat) (written : Bool), arrayOk a = true → s.arrayHere a = true → i < arrayRows a * rowWords a →
    ∃ t, exec (.eccWriteBack a i written) s = .next t ∧ (t.sram a).pending.contains i = false ∧ CountedOne (PAGE.ECC_STAT.CE (arrayPage a)) s t ∧
      Raised (eccEvents (arrayPage a)).1 t ∧ t.tbl = s.tbl ∧ t.basin = s.basin) ∧
  (∀ (s : State) (a n : Nat), arrayOk a = true → s.arrayHere a = true → (s.sram a).merge ≠ [] → 4 ≤ n →
    ∃ t, exec (.mergeFlush a n) s = .next t ∧
      (t.sram a).merge = (s.sram a).merge.filter (· != (s.sram a).idle.headD ((s.sram a).merge.headD 0)) ∧ t.tbl = s.tbl ∧ t.basin = s.basin ∧ t.regs = s.regs) ∧
  (∀ (s : State) (n p : Nat), HostUp s (keyDomains TXN.MSCRUB_CMD.GO.key) → s.isM = true → s.get TXN.MSCRUB_STAT.STATE = 0 →
    n = s.get TXN.MSCRUB_CTL.COUNT → p = s.get TXN.MSCRUB_CTL.PAGE → 1 ≤ n → n ≤ 122880 → p + n ≤ 131072 →
    ∃ t, exec .mscrubGo s = .next t ∧ t.get TXN.MSCRUB_STAT.STATE = 1 ∧ t.out = .msvReq p n :: s.out) ∧
  (∀ (s : State) (n p : Nat), HostUp s (keyDomains TXN.MSCRUB_CMD.GO.key) → s.isM = true → s.get TXN.MSCRUB_STAT.STATE = 0 →
    n = s.get TXN.MSCRUB_CTL.COUNT → p = s.get TXN.MSCRUB_CTL.PAGE → (n = 0 ∨ 122880 < n ∨ 131072 < p + n) →
    ∃ t, exec .mscrubGo s = .next t ∧ t.get TXN.MSCRUB_STAT.STATE = 0 ∧ t.out = s.out ∧ t.get (PAGE.REFUSED.REASON 8) = 2) ∧
  (∀ s : State, s.dmaRuns = true → s.get TXN.MSCRUB_STAT.STATE = 1 →
    ∃ t, exec .msvReqAck s = .next t ∧ t.get TXN.MSCRUB_STAT.STATE = 2) ∧
  (∀ (s : State) (sum : BitVec 256), s.dmaRuns = true → s.get TXN.MSCRUB_STAT.STATE = 2 →
    ∃ t, exec (.msvSumValid sum) s = .next t ∧ t.get TXN.MSCRUB_STAT.STATE = 3 ∧ Raised EV.TXN.MSCRUB_DONE t ∧
      ∀ k < 4, t.get (TXN.MSCRUB_SUM.DATA k) = bits sum.toNat (64 * k) 64) ∧
  (∀ (s : State) (sum : BitVec 256), s.dmaRuns = true → s.get TXN.MSCRUB_STAT.STATE ≠ 2 →
    ∃ t, exec (.msvSumValid sum) s = .next t ∧ t.get TXN.MSCRUB_STAT.STATE = s.get TXN.MSCRUB_STAT.STATE ∧ Raised EV.TXN.MSCRUB_ORPHAN t)

/-! ### Test logic -/

/-- TEST_ENTER, TEST_GO, TEST_EXIT, TEST_PATTERN_START and TEST_PATTERN_END (R464, R491, R493 to R495, R497). -/
def Obligations.TestModeRunsPatterns : Prop :=
  (∀ s : State, HostUp s (keyDomains TEST.TEST_CMD.ENTER.key) → s.role ≠ 0 → s.enterRefusal = none →
    ∃ t, exec .testEnter s = .next t ∧ t.get TEST.TEST_STAT.IN_TEST = 1 ∧ t.chip.col = .resetHeld) ∧
  (∀ (s : State) (r : Reason), HostUp s (keyDomains TEST.TEST_CMD.ENTER.key) → s.role ≠ 0 → s.enterRefusal = some r →
    ∃ t, exec .testEnter s = .next t ∧ t.get TEST.TEST_STAT.IN_TEST = s.get TEST.TEST_STAT.IN_TEST ∧ t.get (PAGE.REFUSED.REASON 15) = r.code) ∧
  (∀ (s : State) (ctl : Nat), HostUp s (keyDomains TEST.TEST_CMD.ENTER.key) → s.role ≠ 0 → s.goRefusal = none →
    ctl = (s.reg TEST.TEST_CTL.MODE.key).toNat → (ctlMode ctl = 1 ∨ ctlMode ctl = 2) → ctlPattern ctl ≠ 3 →
    ∃ t, exec .testGo s = .next t ∧ t.get TEST.TEST_STAT.RUNNING = 1 ∧ t.get TEST.TEST_STAT.DONE = 0 ∧ t.test.ctl = ctl ∧
      t.test.byWrapper = false ∧
      t.test.startAt = some (if ctlMode ctl = 2 then s.beat else BitVec.ofNat 64 (alignedStart s.beat.toNat)) ∧
      t.test.begun = decide (ctlMode ctl = 2)) ∧
  (∀ n : Nat, alignedStart n % 2 ^ 20 = 0 ∧ n + 8192 ≤ alignedStart n ∧ alignedStart n < n + 8192 + 2 ^ 20) ∧
  (∀ s : State, HostUp s (keyDomains TEST.TEST_CMD.ENTER.key) → s.role ≠ 0 → s.exitRefusal = none → s.on TEST.TEST_STAT.IN_TEST = true →
    ∃ t, exec .testExit s = .next t ∧ t.get TEST.TEST_STAT.IN_TEST = 0 ∧ t.get TEST.TEST_STAT.RUNNING = 0 ∧ t.chip = s.chip ∧
      ∀ i < 145, t.reg (PHY.TX_DRIVE.CODE i).key = regReset (PHY.TX_DRIVE.CODE i).key ∧
        t.reg (CAL.TRIM_DESKEW.CODE i).key = regReset (CAL.TRIM_DESKEW.CODE i).key ∧
        t.reg (CAL.TRIM_OFFSET.CODE i).key = regReset (CAL.TRIM_OFFSET.CODE i).key) ∧
  (∀ (s : State) (now b : Beat), s.chip.dieRst = false → s.test.startAt = some b → b ≤ (s.at now).testTime now →
    s.test.begun = false → ctlMode s.test.ctl = 1 →
    ∃ t, exec (.testPatternStart now) s = .next t ∧ t.test.begun = true ∧ t.test.startAt = some b ∧ t.regs = s.regs ∧
      (s.role ≠ 0 → ctlPattern s.test.ctl ≠ 2 → t.out = .wires (walkDrive (ctlPattern s.test.ctl == 1) 0) :: s.out) ∧
      (s.role = 0 → t.out = s.out) ∧
      (s.test.byWrapper = true → ctlPattern s.test.ctl ≠ 2 →
        bits t.test.drive.toNat 166 166 = walkDrive (ctlPattern s.test.ctl == 1) 0 ∧ bits t.test.drive.toNat 0 166 = bits s.test.drive.toNat 0 166) ∧
      (s.role ≠ 0 → ctlPattern s.test.ctl = 2 →
        t.out = .streams (ctlRate s.test.ctl) (((List.range 166).filter carriesPrbs).map (fun w => (w, scramblerSeed (256 + w))))
          ((List.range 166).filter (fun w => !carriesPrbs w)) (decide (2 ≤ ctlRate s.test.ctl)) :: s.out)) ∧
  (∀ (zero : Bool) (st w : Nat), w < 166 → bit (walkDrive zero st) w = walkExpected zero st w) ∧
  (∀ (free : Nat) (ones : Nat → Nat → Nat) (st w : Nat), st < 167 → w < 166 → ones st w ≠ 32 →
    ((sampledSteps free ones).getD st 0).getLsbD w = decide (32 < ones st w)) ∧
  (∀ (s : State) (now b : Beat) (raw : List (List (Nat × BitVec 166))) (steps : List (BitVec 166)) (zero : Bool),
    (TestObs.walking raw).wf = true → s.chip.dieRst = false → s.test.startAt = some b → ctlMode s.test.ctl ≠ 2 →
    steps = sampledSteps (s.at now).draw.1 (fun st w => onesOf (raw.getD st []) w) →
    s.test.begun = true → b ≤ (s.at now).testTime now → 42752 ≤ ((s.at now).testTime now - b).toNat → ctlPattern s.test.ctl ≠ 2 →
    zero = decide (ctlPattern s.test.ctl = 1) →
    ∃ t, exec (.testPatternEnd now (.walking raw)) s = .next t ∧ t.get TEST.TEST_STAT.RUNNING = 0 ∧ t.get TEST.TEST_STAT.DONE = 1 ∧
      (∀ w < 166, t.reg (TEST.WIRE_RES.TESTED w).key = BitVec.ofNat 64 (walkResult zero steps w)) ∧
      t.get TEST.TEST_STAT.FAIL_N = ((List.range 166).filter (fun w => bits (walkResult zero steps w) 8 24 != 0)).length ∧
      Raised EV.TEST.TEST_DONE t ∧ ((∃ w < 166, bits (walkResult zero steps w) 8 24 ≠ 0) → Raised EV.TEST.TEST_WIRE_FAIL t)) ∧
  (∀ (s : State) (now b : Beat), s.chip.dieRst = false → s.test.startAt = some b → ctlMode s.test.ctl = 2 → s.test.begun = true →
    b ≤ (s.at now).testTime now → 42752 ≤ ((s.at now).testTime now - b).toNat → ctlPattern s.test.ctl ≠ 2 →
    ∃ t, exec (.testPatternEnd now (.joined [])) s = .next t ∧ t.get TEST.TEST_STAT.RUNNING = 0 ∧ t.get TEST.TEST_STAT.FAIL_N = 0 ∧
      (∀ w < 166, t.reg (TEST.WIRE_RES.TESTED w).key = 1) ∧ Raised EV.TEST.TEST_DONE t) ∧
  (∀ (s : State) (now b : Beat), s.chip.dieRst = false → s.test.startAt = some b → s.test.begun = true →
    b ≤ (s.at now).testTime now → patternBeats s.test.ctl ≤ ((s.at now).testTime now - b).toNat → ctlPattern s.test.ctl = 2 →
    ∃ t, exec (.testPatternEnd now (.prbs [])) s = .next t ∧ t.get TEST.TEST_STAT.RUNNING = 0 ∧ t.get TEST.TEST_STAT.FAIL_N = 0 ∧
      (∀ w < 166, t.reg (TEST.WIRE_RES.TESTED w).key = (if carriesPrbs w then 1 else 0)) ∧ Raised EV.TEST.TEST_DONE t) ∧
  (∀ (zero : Bool) (steps : List (BitVec 166)) (w : Nat), w < 166 → steps.length = 167 →
    (∀ st < 167, (steps.getD st 0).getLsbD w = walkExpected zero st w) → walkResult zero steps w = 1)

/-- WS_BYPASS, WS_EXTEST, WS_PRELOAD, WS_INTEST_SCAN, BX_WIRE, BX_RES, BX_LOOPBACK, BX_ARRAY_BIST, BIST_DONE and WRAPPER_RESET (R486 to R492).
That GO under the wrapper sets IN_TEST, when OWNER rises and falls, that BX_ARRAY_BIST shifts the former BX_BIST out, and that
WS_INTEST_SCAN changes WIR alone are the model's readings (log entry 49). -/
def Obligations.WrapperInstructionsAct : Prop :=
  (∀ (s : State) (wir : BitVec 8) (wsi : Bool), s.chip.dieRst = false → wrapperCodes.contains wir.toNat = false →
    ∃ t, exec (.wsBypass wir wsi) s = .next t ∧ t.get TEST.WRAP_STAT.WIR = wir.toNat ∧ t.get TEST.WRAP_STAT.OWNER = 0 ∧
      t.test = { s.test with bypass := wsi } ∧ t.out = .wso [s.test.bypass] :: s.out) ∧
  (∀ s : State, s.chip.dieRst = false →
    ∃ t, exec .wrapperReset s = .next t ∧ t.get TEST.WRAP_STAT.WIR = 0 ∧ t.get TEST.WRAP_STAT.OWNER = 0 ∧ t.test = s.test ∧ t.out = s.out) ∧
  (∀ (s : State) (drive : BitVec 332) (rx : BitVec 166), s.chip.dieRst = false → s.role ≠ 0 → s.wrapperActs = true →
    ∃ t, exec (.wsExtest drive rx) s = .next t ∧ t.get TEST.WRAP_STAT.WIR = 1 ∧ t.test.drive = drive ∧ t.test.capture = rx ∧
      t.out = .wires (bits drive.toNat 166 166) :: .wso (bitList 166 rx.toNat ++ bitList 166 (bits s.test.drive.toNat 166 166)) :: s.out) ∧
  (∀ (s : State) (drive : BitVec 332) (rx : BitVec 166), s.chip.dieRst = false → s.wrapperActs = false →
    ∃ t, exec (.wsExtest drive rx) s = .next t ∧ t.get TEST.WRAP_STAT.WIR = 1 ∧ t.test.drive = s.test.drive ∧
      t.test.bypass = drive.getLsbD 331 ∧ t.out = .wso (s.test.bypass :: bitList 331 drive.toNat) :: s.out) ∧
  (∀ (s : State) (drive : BitVec 332), s.chip.dieRst = false →
    ∃ t, exec (.wsPreload drive) s = .next t ∧ t.get TEST.WRAP_STAT.WIR = 2 ∧ t.test.drive = drive ∧
      t.out = .wso (bitList 332 s.test.drive.toNat) :: s.out) ∧
  (∀ s : State, s.chip.dieRst = false →
    ∃ t, exec .wsIntestScan s = .next t ∧ t.get TEST.WRAP_STAT.WIR = 3 ∧ t.test.drive = s.test.drive ∧ t.out = s.out) ∧
  (∀ (s : State) (ctl : BitVec 32), s.chip.dieRst = false → s.wrapperActs = true → s.on TEST.TEST_STAT.RUNNING = false →
    ctl.getLsbD 2 = true → ctl.getLsbD 3 = false → (ctlMode ctl.toNat = 1 ∨ ctlMode ctl.toNat = 2) → ctlPattern ctl.toNat ≠ 3 →
    ∃ t, exec (.bxWire ctl) s = .next t ∧ t.get TEST.WRAP_STAT.WIR = 0x20 ∧ t.get TEST.WRAP_STAT.OWNER = 1 ∧
      t.get TEST.TEST_STAT.IN_TEST = 1 ∧ t.get TEST.TEST_STAT.RUNNING = 1 ∧ t.test.byWrapper = true ∧ t.test.ctl = ctl.toNat ∧
      t.test.bxCtl = ctl ∧ t.out = .wso (bitList 32 s.test.bxCtl.toNat) :: s.out) ∧
  (∀ (s : State) (ctl : BitVec 32), s.chip.dieRst = false → s.wrapperActs = false →
    ∃ t, exec (.bxWire ctl) s = .next t ∧ t.get TEST.WRAP_STAT.WIR = 0x20 ∧ t.get TEST.WRAP_STAT.OWNER = 0 ∧
      t.get TEST.TEST_STAT.IN_TEST = s.get TEST.TEST_STAT.IN_TEST) ∧
  (∀ (s : State) (ctl : BitVec 32), s.chip.dieRst = false → s.wrapperActs = true → s.on TEST.TEST_STAT.RUNNING = false →
    ctl.getLsbD 2 = true → ctl.getLsbD 3 = false → ctlPattern ctl.toNat ≠ 3 →
    ∃ t, exec (.bxLoopback ctl) s = .next t ∧ t.get TEST.WRAP_STAT.WIR = 0x22 ∧ t.get TEST.WRAP_STAT.OWNER = 1 ∧
      t.get TEST.TEST_STAT.RUNNING = 1 ∧ t.test.startAt = some s.beat ∧ t.test.begun = true ∧ ctlMode t.test.ctl = 2) ∧
  (∀ s : State, s.chip.dieRst = false → s.on TEST.TEST_STAT.RUNNING = false →
    ∃ t, exec .bxRes s = .next t ∧ t.get TEST.WRAP_STAT.WIR = 0x21 ∧
      t.out = .wso (((List.range 166).map (fun w => bitList 4 (s.reg (TEST.WIRE_RES.TESTED w).key).toNat)).flatten) :: s.out) ∧
  (∀ s : State, s.chip.dieRst = false →
    ∃ t, exec .bxArrayBist s = .next t ∧ t.get TEST.WRAP_STAT.WIR = 0x23 ∧ t.test.bistRuns = true ∧ t.test.bist = 0 ∧
      t.out = .wso (bitList 16 s.test.bist.toNat) :: s.out) ∧
  (∀ (s : State) (pass : BitVec 12), s.chip.dieRst = false → s.test.bistRuns = true →
    ∃ t, exec (.bistDone pass) s = .next t ∧ t.test.bist = BitVec.ofNat 16 (2 ^ 15 + pass.toNat) ∧ t.test.bistRuns = false ∧
      (∀ i, t.tblWord i = 0) ∧ (∀ n, t.line n = 0) ∧ t.mem = s.mem ∧ t.regs = s.regs)

/-! ### Heartbeats, token and mirror -/

/-- HEARTBEAT_SB_RX, HEARTBEAT_MSG_RX, STRAP_HEARTBEAT_RX, HEARTBEAT_SEND and HB_PATH_TIMEOUT (R392 to R396, R401; the strap's FSEQ counts
its own frames as R87 says). That 128 SEQ values are remembered of each link, and that a word of this end's own is ignored, are the model's
readings (log entry 60). -/
def Obligations.HeartbeatsAreRecordedForwardedAndTimed : Prop :=
  (∀ (s : State) (c : SbCopies) (b : Nat) (r : State) (w o q : Nat), Heard s c b r → bodyType b = SbType.heartbeat.code → w = bodyPayload b →
    o = bits w 38 2 → q = bits w 28 8 → r.pairRuns = true → bits w 36 2 ≠ 3 → bits w 25 3 ≠ 7 → o ≠ r.orig →
    ((r.hbLink (2 * o)).getD {}).recent.contains q = false →
    ∃ t, exec (.heartbeatSbRx c) s = .next t ∧
      t.hbLink (2 * o) = some { recent := (q :: ((r.hbLink (2 * o)).getD {}).recent).take 128, at_ := r.beat, lost := false } ∧
      bit (t.get PAIR.LIVE_STAT.COL_PATH) o = true ∧ bit (t.get PAIR.LIVE_STAT.ALIVE) o = true ∧
      (bits w 36 2 < 2 → CountedOne PAIR.HB_STAT.FORWARDED r t) ∧
      (r.isS = true → t.out = if bits w 36 2 < 2 then .strap (sbFrame SbType.heartbeat.code r.pair.strapSeq (w + 2 ^ 36)) :: r.out else r.out)) ∧
  (∀ (s : State) (c : SbCopies) (b : Nat) (r : State) (w : Nat), Heard s c b r → bodyType b = SbType.heartbeat.code → w = bodyPayload b →
    r.pairRuns = true → (bits w 36 2 = 3 ∨ bits w 25 3 = 7) →
    ∃ t, exec (.heartbeatSbRx c) s = .next t ∧ t.pair = r.pair ∧ t.out = r.out ∧ CountedOne PAIR.HB_STAT.BAD r t) ∧
  (∀ (s : State) (c : SbCopies) (b : Nat) (r : State) (w o : Nat), Heard s c b r → bodyType b = SbType.heartbeat.code → w = bodyPayload b →
    o = bits w 38 2 → r.pairRuns = true → bits w 36 2 ≠ 3 → bits w 25 3 ≠ 7 →
    (o = r.orig ∨ ((r.hbLink (2 * o)).getD {}).recent.contains (bits w 28 8) = true) →
    exec (.heartbeatSbRx c) s = .next r) ∧
  (∀ (s : State) (m w o q : Nat) (l : List Nat), s.lnk.linkQ = m :: l → msgLtype m = 5 → w = bits m 8 40 → o = bits w 38 2 → q = bits w 28 8 →
    s.pairRuns = true → bits w 36 2 ≠ 3 → bits w 25 3 ≠ 7 → o ≠ s.orig → ((s.hbLink (2 * o)).getD {}).recent.contains q = false →
    ∃ t, exec .heartbeatMsgRx s = .next t ∧
      t.hbLink (2 * o) = some { recent := (q :: ((s.hbLink (2 * o)).getD {}).recent).take 128, at_ := s.beat, lost := false } ∧
      bit (t.get PAIR.LIVE_STAT.COL_PATH) o = true ∧ bit (t.get PAIR.LIVE_STAT.ALIVE) o = true) ∧
  (∀ (s : State) (f : Frame) (w o q : Nat), s.pairRuns = true → sbValid f = true → bodyType (sbBody f) = SbType.heartbeat.code →
    w = bodyPayload (sbBody f) → o = bits w 38 2 → q = bits w 28 8 → bits w 36 2 ≠ 3 → bits w 25 3 ≠ 7 → o ≠ s.orig →
    ((s.hbLink (2 * o + 1)).getD {}).recent.contains q = false →
    ∃ t, exec (.strapHeartbeatRx f) s = .next t ∧
      t.hbLink (2 * o + 1) = some { recent := (q :: ((s.hbLink (2 * o + 1)).getD {}).recent).take 128, at_ := s.beat, lost := false } ∧
      bit (t.get PAIR.LIVE_STAT.STRAP_PATH) o = true ∧ bit (t.get PAIR.LIVE_STAT.ALIVE) o = true) ∧
  (∀ (s : State) (f : Frame), s.pairRuns = true → (sbValid f = false ∨ bodyType (sbBody f) ≠ SbType.heartbeat.code) →
    ∃ t, exec (.strapHeartbeatRx f) s = .next t ∧ t.pair = s.pair ∧ t.out = s.out ∧ CountedOne PAIR.HB_STAT.BAD s t) ∧
  (∀ (s : State) (now : Beat) (w : Nat), s.pairRuns = true → (s.at now).beat.toNat % 1024 = 256 * s.orig →
    w = hbWord s.orig 0 s.pair.seq s.prole s.ownLease →
    ∃ t, exec (.heartbeatSend now) s = .next t ∧ t.pair.seq = (s.pair.seq + 1) % 256 ∧
      t.pair.strapSeq = (s.pair.strapSeq + 1) % 16 ∧
      t.out = .strap (sbFrame SbType.heartbeat.code s.pair.strapSeq w) :: s.out ∧ (s.ctrlRuns = true → linkMsg 5 w ∈ t.lnk.msgQ)) ∧
  (∀ (s : State) (now : Beat), s.pairRuns = true → (s.at now).beat.toNat % 1024 ≠ 256 * s.orig →
    exec (.heartbeatSend now) s = .next (s.at now)) ∧
  (∀ (s : State) (o : Fin 4) (now : Beat) (c l : HbLink), s.pairRuns = true → s.hbLink (2 * o.val) = some c → s.hbLink (2 * o.val + 1) = some l →
    (s.at now).past c.at_ 16384 = true → (s.at now).past l.at_ 16384 = true → bit (s.get PAIR.LIVE_STAT.ALIVE) o.val = true →
    ∃ t, exec (.hbPathTimeout o now) s = .next t ∧ bit (t.get PAIR.LIVE_STAT.ALIVE) o.val = false ∧
      bit (t.get PAIR.LIVE_STAT.COL_PATH) o.val = false ∧ bit (t.get PAIR.LIVE_STAT.STRAP_PATH) o.val = false ∧ Raised EV.PAIR.END_DEAD t ∧
      t.prole = (if s.prole = 2 ∧ o.val = s.partnerOrig then 3 else s.prole)) ∧
  (∀ (s : State) (o : Fin 4) (now : Beat) (c l : HbLink), s.pairRuns = true → s.hbLink (2 * o.val) = some c → s.hbLink (2 * o.val + 1) = some l →
    (s.at now).past c.at_ 16384 = true → (s.at now).past l.at_ 16384 = false → c.lost = false →
    ∃ t, exec (.hbPathTimeout o now) s = .next t ∧ bit (t.get PAIR.LIVE_STAT.COL_PATH) o.val = false ∧
      t.get PAIR.LIVE_STAT.ALIVE = s.get PAIR.LIVE_STAT.ALIVE ∧ t.get PAIR.LIVE_STAT.STRAP_PATH = s.get PAIR.LIVE_STAT.STRAP_PATH ∧
      Raised EV.PAIR.HB_PATH_LOST t)

/-- LEASE_RENEW, LEASE_CLAIM, MIRROR_LOAD_DONE, RESYNC_SEAL_READ, INIT_OWNER_TIMEOUT, TOKEN_RELEASE, MIR_BEGIN and MIR_SEALED (R398 to
R401, R405 to R408, R411; a mirror read waits while its stack is held, R432). That BEGUN and SEALED take the newest header's GEN when an end
becomes owner by INIT_OWNER or by a load is the model's reading (log entry 61). -/
def Obligations.TokenMovesWithLeaseAndMirror : Prop :=
  (∀ (s : State) (now : Beat), s.pairRuns = true → s.isOwner = true → (s.at now).reached s.pair.renewAt = true →
    ∃ t, exec (.leaseRenew now) s = .next t ∧ t.pair.expiry = (s.at now).ahead (s.get PAIR.LEASE_CTL.LEN) ∧
      t.pair.renewAt = s.pair.renewAt + BitVec.ofNat 64 (s.get PAIR.LEASE_CTL.RENEW) ∧ t.regs = s.regs) ∧
  (∀ (s : State) (now : Beat), s.pairRuns = true → s.prole = 3 → s.chip.beatLock = true → s.on TIME.LOCK_STAT.ALIGN_FAIL = false →
    s.pair.eLast.toNat + s.get PAIR.LEASE_CTL.GUARD ≤ (s.at now).beat.toNat →
    ∃ t, exec (.leaseClaim now) s = .next t ∧ t.prole = 4 ∧ t.pair.load = (if (s.at now).mirHeld then none else some s.mirRead)) ∧
  (∀ (s : State) (now : Beat), s.pairRuns = true → s.prole = 3 → s.chip.beatLock = true → s.on TIME.LOCK_STAT.ALIGN_FAIL = false →
    (s.at now).beat.toNat < s.pair.eLast.toNat + s.get PAIR.LEASE_CTL.GUARD →
    exec (.leaseClaim now) s = .next (s.at now)) ∧
  (∀ (s : State) (l : MirLoad), s.pairRuns = true → s.clkOn 2 = true → s.prole = 4 → s.mirHeld = false → s.pair.load = some l → l.gen = none →
    ∃ t, exec .mirrorLoadDone s = .next t ∧ t.prole = 5 ∧ t.pair.load = none ∧ t.tbl = s.tbl ∧ CountedOne PAIR.TOKEN_STAT.GAINED s t ∧
      t.pair.expiry = s.ahead (s.get PAIR.LEASE_CTL.LEN) ∧ Raised EV.PAIR.MIRROR_NONE t ∧ Raised EV.PAIR.TOKEN_GAINED t) ∧
  (∀ (s : State) (l : MirLoad) (g : Nat), s.pairRuns = true → s.clkOn 2 = true → s.prole = 4 → s.mirHeld = false → s.pair.load = some l → l.gen = some g →
    ∃ t, exec .mirrorLoadDone s = .next t ∧ t.prole = 5 ∧ t.pair.load = none ∧ t.get PAIR.MIR_STAT_HI.LOADED = g % 2 ^ 32 ∧
      t.get PAIR.MIR_STAT.BEGUN = l.newest % 2 ^ 32 ∧
      (bit (s.memNat (s.mirAddr (g % 2) + 4) 4) 3 = true →
        ∀ i < 131072, t.tblWord i = BitVec.ofNat 64 (s.memNat (s.mirAddr (g % 2) + 0x95000 + 8 * i) 8))) ∧
  (∀ s : State, s.mirHeld = true → exec .mirrorLoadDone s = .next s) ∧
  (∀ (s : State) (now : Beat), s.pairRuns = true → s.prole = 1 → (s.at now).reached s.pair.sealAt = true → s.chip.col = .active →
    (s.at now).mirHeld = false →
    (s.at now).past s.chip.entry 16384 = true → s.pair.ownerSeen = true →
    (s.mirGens.any (fun g => s.pair.heldGens.all (fun h => genNewer g h))) = true →
    ∃ t, exec (.resyncSealRead now) s = .next t ∧ t.prole = 2) ∧
  (∀ (s : State) (now : Beat), s.pairRuns = true → s.prole = 1 → (s.at now).reached s.pair.sealAt = true → (s.at now).mirHeld = false →
    (s.chip.col ≠ .active ∨ s.pair.ownerSeen = false ∨ s.mirGens = []) →
    ∃ t, exec (.resyncSealRead now) s = .next t ∧ t.prole = 1 ∧ t.pair.sealAt = s.pair.sealAt + 16384) ∧
  (∀ (s : State) (now : Beat), s.pairRuns = true → s.prole = 1 → s.on PAIR.PAIR_CTL.INIT_OWNER = true → s.pair.busyAt = none →
    (s.at now).past s.pair.since 16384 = true →
    ∃ t, exec (.initOwnerTimeout now) s = .next t ∧ t.prole = 5 ∧ t.get PAIR.MIR_STAT.BEGUN = s.mirNewest % 2 ^ 32 ∧
      t.get PAIR.MIR_STAT.SEALED = s.mirNewest % 2 ^ 32 ∧ Raised EV.PAIR.TOKEN_GAINED t) ∧
  (∀ s : State, HostUp s (keyDomains PAIR.TOKEN_CMD.RELEASE.key) → s.isM = true → s.isOwner = true → s.windowsIn [1, 2, 3] = [] → s.clkOn 2 = true →
    ∃ t, exec .tokenRelease s = .next t ∧ t.prole = 6 ∧ CountedOne PAIR.TOKEN_STAT.RELEASED s t ∧ Raised EV.PAIR.TOKEN_RELEASED t ∧
      t.txn.engQ = s.txn.engQ.filter (fun q => !q.tokenScope)) ∧
  (∀ s : State, HostUp s (keyDomains PAIR.TOKEN_CMD.RELEASE.key) → s.isM = true → s.windowsIn [1, 2, 3] ≠ [] →
    ∃ t, exec .tokenRelease s = .next t ∧ t.prole = s.prole ∧ t.get (PAGE.REFUSED.REASON 13) = 0x42) ∧
  (∀ (s : State) (g : Nat), HostUp s (keyDomains PAIR.MIR_CMD.BEGIN.key) → s.isM = true → s.isOwner = true →
    s.on PAIR.MIR_STAT_HI.OPEN = false → g = (s.get PAIR.MIR_STAT.BEGUN + 1) % 2 ^ 32 →
    ∃ t, exec .mirBegin s = .next t ∧ t.get PAIR.MIR_STAT.BEGUN = g ∧ t.get PAIR.MIR_STAT_HI.OPEN = 1 ∧ t.pair.dirty = [] ∧
      t.pair.openDirty = s.pair.dirty ∧ t.tblWord 0x32A00 = BitVec.ofNat 64 (g + s.get PAIR.MIR_CTL.PARTS * 2 ^ 32) ∧
      t.tblWord 0x32C00 = BitVec.ofNat 64 (g + (2 ^ 32 - 1 - g) * 2 ^ 32)) ∧
  (∀ s : State, HostUp s (keyDomains PAIR.MIR_CMD.BEGIN.key) → s.isM = true → s.isOwner = false →
    ∃ t, exec .mirBegin s = .next t ∧ t.tbl = s.tbl ∧ t.pair = s.pair ∧ t.get (PAGE.REFUSED.REASON 13) = 0x40) ∧
  (∀ s : State, HostUp s (keyDomains PAIR.MIR_CMD.BEGIN.key) → s.isM = true → s.on PAIR.MIR_STAT_HI.OPEN = true →
    ∃ t, exec .mirSealed s = .next t ∧ t.get PAIR.MIR_STAT.SEALED = s.get PAIR.MIR_STAT.BEGUN ∧ t.get PAIR.MIR_STAT_HI.OPEN = 0)


/-! ### The two streams -/

/-- BULK_FLIT_START, REPLAY_TIMEOUT, NAK_TIMEOUT, BULK_FLIT_ARRIVAL and BULK_CRC_RESULT (R160 to R165, R182, R185, R186, R188 to R193): a new
flit takes NEXT_TX, a replay sends what the buffer holds, a timeout replays from OLDEST, and a flit with a good CRC in sequence advances
NEXT_RX and hands its request to the engine. The FAULT for a word of the replay buffer that is marked uncorrectable rests on R422 (log
entries 63 and 80), the end of a burst on R158 (log entry 90), and the end of a stall on R371. -/
def Obligations.BulkFlitsLeaveAndArriveInSequence : Prop :=
  (∀ (s : State) (n m : Nat) (us : List Nat) (q : List TxItem) (ue : Option (BitVec 4)), s.bulkRuns false = true →
    n = s.get BULK.SEQ_STAT.NEXT_TX → s.lnk.ptr = n → s.flitReady = true → fillSlots (s.beat.toNat % 65536) 15 0 s.lnk.txQ = (us, m, q) →
    ∃ t h, exec (.bulkFlitStart ue) s = .next t ∧ t.out = .bulk (buildBulk h us) :: s.out ∧ h.seq = n ∧ h.ftype = 1 ∧ h.hdrMap = m ∧
      h.ack = s.get BULK.SEQ_STAT.NEXT_RX ∧ h.ackt = (if s.lnk.nakMark then 2 else 1) ∧ t.get BULK.SEQ_STAT.NEXT_TX = (n + 1) % 4096 ∧
      t.lnk.txQ = q ∧ t.lnk.rpl = s.lnk.rpl ++ [⟨n, m, us, s.openTx⟩] ∧ t.lnk.ptr = (n + 1) % 4096 ∧ t.lnk.nakMark = false) ∧
  (∀ (s : State) (f : RplFlit), s.bulkRuns false = true → s.lnk.ptr ≠ s.get BULK.SEQ_STAT.NEXT_TX →
    s.lnk.rpl.find? (fun x => x.seq == s.lnk.ptr) = some f → s.lnk.marked.contains f.seq = false →
    ∃ t h, exec (.bulkFlitStart none) s = .next t ∧ t.out = .bulk (buildBulk h f.slots) :: s.out ∧ h.seq = f.seq ∧ h.ftype = 1 ∧ h.hdrMap = f.hdrMap ∧
      h.ack = s.get BULK.SEQ_STAT.NEXT_RX ∧ t.lnk.rpl = s.lnk.rpl ∧ t.lnk.ptr = (f.seq + 1) % 4096 ∧
      t.get BULK.SEQ_STAT.NEXT_TX = s.get BULK.SEQ_STAT.NEXT_TX) ∧
  (∀ (s : State) (f : RplFlit) (ue : Option (BitVec 4)), s.bulkRuns false = true → s.lnk.ptr ≠ s.get BULK.SEQ_STAT.NEXT_TX →
    s.lnk.rpl.find? (fun x => x.seq == s.lnk.ptr) = some f → (s.lnk.marked.contains f.seq = true ∨ ue.isSome = true) →
    ∃ t, exec (.bulkFlitStart ue) s = .next t ∧ t.chip.col = .fault) ∧
  (∀ (s : State) (ue : Option (BitVec 4)), s.lnk.ptr = s.get BULK.SEQ_STAT.NEXT_TX → s.flitReady = false →
    exec (.bulkFlitStart ue) s = .next s.endBurst ∧ s.endBurst.regs = s.regs ∧ s.endBurst.lnk.burst = none ∧
    s.endBurst.lnk.txQ = s.lnk.txQ ∧ s.endBurst.lnk.rpl = s.lnk.rpl) ∧
  (∀ (s : State) (cycles : Nat), s.bulkRuns false = true → s.outB ≠ 0 → s.get BULK.RPL_CTL.TIMEOUT ≤ cycles →
    s.lnk.noProgress + 1 ≠ s.get BULK.RPL_CTL.LIMIT →
    ∃ t, exec (.replayTimeout cycles) s = .next t ∧ t.lnk.ptr = s.get BULK.SEQ_STAT.OLDEST ∧ t.lnk.noProgress = s.lnk.noProgress + 1 ∧
      CountedOne BULK.TX_STAT.TIMEOUTS s t ∧ CountedOne BULK.TX_STAT.REPLAYS s t ∧ t.lnk.rpl = s.lnk.rpl) ∧
  (∀ (s : State) (cycles : Nat), s.bulkRuns false = true → s.outB ≠ 0 → s.get BULK.RPL_CTL.TIMEOUT ≤ cycles →
    s.lnk.noProgress + 1 = s.get BULK.RPL_CTL.LIMIT →
    ∃ t, exec (.replayTimeout cycles) s = .next t ∧ t.chip.col = .fault) ∧
  (∀ (s : State) (cycles : Nat), s.bulkRuns true = true → s.on BULK.RPL_STAT.NAK_PENDING = true → s.get BULK.NAK_CTL.TIMEOUT ≤ cycles →
    ∃ t, exec (.nakTimeout cycles) s = .next t ∧ t.lnk.nakMark = true ∧ t.regs = s.regs ∧ t.out = s.out) ∧
  (∀ (s : State) (flit : BulkFlit) (pos : Nat), s.bulkComes = true →
    ¬ ((bulkHdr flit.toNat).ftype = 1 ∧ (bulkHdr flit.toNat).seq = s.get BULK.SEQ_STAT.EXP) →
    ∃ t, exec (.bulkFlitArrival flit pos) s = .next t ∧ t.lnk.rxQ = s.lnk.rxQ ++ [⟨flit, pos, none, []⟩] ∧ t.lnk.dpoQ = s.lnk.dpoQ ∧
      t.get BULK.SEQ_STAT.EXP = s.get BULK.SEQ_STAT.EXP) ∧
  (∀ (s : State) (flit : BulkFlit) (pos : Nat), s.bulkComes = true →
    (bulkHdr flit.toNat).ftype = 1 → (bulkHdr flit.toNat).seq = s.get BULK.SEQ_STAT.EXP →
    ∃ t shown, exec (.bulkFlitArrival flit pos) s = .next t ∧
      t.lnk.rxQ = s.lnk.rxQ ++ [⟨flit, pos, some (s.get BULK.SEQ_STAT.EXP), shown⟩] ∧
      t.get BULK.SEQ_STAT.EXP = (s.get BULK.SEQ_STAT.EXP + 1) % 4096 ∧ t.get BULK.SEQ_STAT.NEXT_RX = s.get BULK.SEQ_STAT.NEXT_RX) ∧
  (∀ (s : State) (f : RxFlit) (l : List RxFlit) (ue : Option (Nat × Nat)), s.lnk.rxQ = f :: l → s.colDead = false → s.clkOn 4 = true →
    bulkOk f.raw.toNat = false → f.presented = none →
    ∃ t, exec (.bulkCrcResult ue) s = .next t ∧ t.lnk.rxQ = l ∧ CountedOne BULK.RX_STAT.CRC_BAD s t ∧ t.get BULK.RPL_STAT.NAK_PENDING = 1 ∧
      t.get BULK.SEQ_STAT.EXP = s.get BULK.SEQ_STAT.NEXT_RX ∧ t.get BULK.SEQ_STAT.NEXT_RX = s.get BULK.SEQ_STAT.NEXT_RX ∧
      (s.on BULK.RPL_STAT.NAK_PENDING = false → t.lnk.nakMark = true)) ∧
  (∀ (s : State) (f : RxFlit) (l : List RxFlit) (b : BulkHdr) (o : Option OpenTxn), s.lnk.rxQ = f :: l → s.colDead = false → s.clkOn 4 = true →
    bulkOk f.raw.toNat = true → b = bulkHdr f.raw.toNat → bulkBad b (bulkSlots f.raw.toNat) = false → b.ftype = 1 →
    b.seq = s.get BULK.SEQ_STAT.NEXT_RX → b.ack = s.get BULK.SEQ_STAT.OLDEST → b.ackt = 1 → b.crv = false → s.rep.keptBulk = none →
    f.presented = none → walkSlots b.hdrMap (bulkSlots f.raw.toNat) 0 s.lnk.openC = some ([], o) →
    ∃ t, exec (.bulkCrcResult none) s = .next t ∧ t.get BULK.SEQ_STAT.NEXT_RX = (b.seq + 1) % 4096 ∧ t.get BULK.RPL_STAT.NAK_PENDING = 0 ∧
      t.lnk.openC = o ∧ t.lnk.rxQ = l ∧ t.lnk.stall = none) ∧
  (∀ (s : State) (f : RxFlit) (l : List RxFlit) (b : BulkHdr) (o : Option OpenTxn) (p : Piece) (h : Hdr) (c : Op), s.lnk.rxQ = f :: l →
    s.colDead = false → s.clkOn 4 = true → bulkOk f.raw.toNat = true → b = bulkHdr f.raw.toNat →
    bulkBad b (bulkSlots f.raw.toNat) = false → b.ftype = 1 → b.seq = s.get BULK.SEQ_STAT.NEXT_RX → b.ack = s.get BULK.SEQ_STAT.OLDEST →
    b.ackt = 1 → b.crv = false → s.rep.keptBulk = none → f.presented = none → f.shown = [] →
    walkSlots b.hdrMap (bulkSlots f.raw.toNat) 0 s.lnk.openC = some ([p], o) → p.first = true → p.last = true → h = presHdr p.hdr →
    p.hdr.isResponse = false → h.operation = some c → s.slotBad h c = false → s.plainRequest p.hdr c (s.bindFor p.hdr) = false →
    s.routeOf h c (s.bindFor p.hdr) = .engine →
    ∃ t q, exec (.bulkCrcResult none) s = .next t ∧ t.get BULK.SEQ_STAT.NEXT_RX = (b.seq + 1) % 4096 ∧ t.txn.engQ = s.txn.engQ ++ [q] ∧ q.hdr = h ∧
      q.units = p.units ∧ q.seq = b.seq)

/-- R187: a sender that has outstanding flits and no TXN flit ready to start sends a PROBE flit under R163 (FTYPE PROBE, SEQ NEXT_TX, which
it does not consume, HDR_MAP all ones, and slots of zeros) every RPL_CTL.PROBE_INTERVAL LCLK cycles, 32 by default and 8 to 255, a sender
that a full replay buffer stalls too; and none when nothing is outstanding. -/
def Obligations.ProbesAreSentWhileFlitsAreOutstanding : Prop :=
  (∀ (s : State) (cycles n : Nat), s.bulkRuns false = true → s.outB ≠ 0 → n = s.get BULK.SEQ_STAT.NEXT_TX → s.lnk.ptr = n →
    s.flitReady = false → s.get BULK.RPL_CTL.PROBE_INTERVAL ≤ cycles →
    ∃ t h, exec (.probeInterval cycles) s = .next t ∧ t.out = .bulk (buildBulk h (List.replicate 15 0)) :: s.out ∧ h.seq = n ∧ h.ftype = 2 ∧
      h.hdrMap = 0x7FFF ∧ t.get BULK.SEQ_STAT.NEXT_TX = n ∧ t.lnk.rpl = s.lnk.rpl) ∧
  (∀ (s : State) (cycles : Nat), s.outB = 0 ∨ cycles < s.get BULK.RPL_CTL.PROBE_INTERVAL → exec (.probeInterval cycles) s = .next s) ∧
  State.reset.get BULK.RPL_CTL.PROBE_INTERVAL = 32 ∧
  (∀ (s : State) (data : Word), s.role ≠ 0 → bits data.toNat 0 8 < 8 →
    (s.hostWrite BULK.RPL_CTL.PROBE_INTERVAL.key data).get BULK.RPL_CTL.PROBE_INTERVAL = s.get BULK.RPL_CTL.PROBE_INTERVAL) ∧
  (∀ (s : State) (data : Word), s.role ≠ 0 → 8 ≤ bits data.toNat 0 8 → 256 ≤ bits data.toNat 16 12 → 4 ≤ bits data.toNat 32 8 →
    (s.hostWrite BULK.RPL_CTL.PROBE_INTERVAL.key data).get BULK.RPL_CTL.PROBE_INTERVAL = bits data.toNat 0 8)

/-- CTRL_FLIT_START, ACK_ONLY_SEND, ACK_ONLY_KEEPALIVE, CTRL_REPLAY_TIMEOUT and CTRL_FLIT_RX (R174 to R176, R182, R185, R195, R196). The
FAULT for a marked word of the control replay buffer rests on R422 (log entries 63 and 80), and the one for a malformed control flit on
R180. -/
def Obligations.ControlFlitsCarryMessagesInSequence : Prop :=
  (∀ (s : State) (n : Nat) (ue : Option (BitVec 1)), s.ctrlFlows false = true → n = s.get CTRL.SEQ_STAT.NEXT_TX → s.lnk.cptr = n →
    s.lnk.msgQ ≠ [] → s.outC < 64 →
    ∃ t h, exec (.ctrlFlitStart ue) s = .next t ∧ t.out = .ctrl (buildCtrl h) :: s.out ∧ h.cseq = n ∧ h.cft = 1 ∧ h.msgs = s.lnk.msgQ.take 3 ∧
      h.cack = s.get CTRL.SEQ_STAT.NEXT_RX ∧ h.back = s.get BULK.SEQ_STAT.NEXT_RX ∧ h.backt = (if s.lnk.nakMark then 2 else 1) ∧
      t.get CTRL.SEQ_STAT.NEXT_TX = (n + 1) % 256 ∧ t.lnk.msgQ = s.lnk.msgQ.drop 3 ∧ t.lnk.crpl = s.lnk.crpl ++ [(n, s.lnk.msgQ.take 3)]) ∧
  (∀ (s : State) (f : Nat × List Nat), s.ctrlFlows false = true → s.lnk.cptr ≠ s.get CTRL.SEQ_STAT.NEXT_TX →
    s.lnk.crpl.find? (fun x => x.1 == s.lnk.cptr) = some f → s.lnk.cMarked.contains f.1 = false →
    ∃ t h, exec (.ctrlFlitStart none) s = .next t ∧ t.out = .ctrl (buildCtrl h) :: s.out ∧ h.cseq = f.1 ∧ h.cft = 1 ∧ h.msgs = f.2 ∧
      t.lnk.crpl = s.lnk.crpl ∧ t.lnk.cptr = (f.1 + 1) % 256 ∧ t.get CTRL.SEQ_STAT.NEXT_TX = s.get CTRL.SEQ_STAT.NEXT_TX) ∧
  (∀ (s : State) (f : Nat × List Nat) (ue : Option (BitVec 1)), s.ctrlFlows false = true → s.lnk.cptr ≠ s.get CTRL.SEQ_STAT.NEXT_TX →
    s.lnk.crpl.find? (fun x => x.1 == s.lnk.cptr) = some f → (s.lnk.cMarked.contains f.1 = true ∨ ue.isSome = true) →
    ∃ t, exec (.ctrlFlitStart ue) s = .next t ∧ t.chip.col = .fault) ∧
  (∀ s : State, s.ctrlFlows false = true → s.msgReady = false →
    (s.get BULK.SEQ_STAT.NEXT_RX ≠ s.lnk.carriedB ∨ s.get CTRL.SEQ_STAT.NEXT_RX ≠ s.lnk.carriedC) →
    ∃ t h, exec .ackOnlySend s = .next t ∧ t.out = .ctrl (buildCtrl h) :: s.out ∧ h.cft = 2 ∧ h.msgs = [] ∧ h.cseq = s.get CTRL.SEQ_STAT.NEXT_TX ∧
      h.back = s.get BULK.SEQ_STAT.NEXT_RX ∧ h.cack = s.get CTRL.SEQ_STAT.NEXT_RX ∧ CountedOne CTRL.TX_STAT.ACK_ONLY s t) ∧
  (∀ (s : State) (cycles : Nat), s.ctrlFlows false = true → 64 ≤ cycles →
    ∃ t h, exec (.ackOnlyKeepalive cycles) s = .next t ∧ t.out = .ctrl (buildCtrl h) :: s.out ∧ h.cft = 2 ∧ h.msgs = [] ∧
      CountedOne CTRL.TX_STAT.ACK_ONLY s t) ∧
  (∀ (s : State) (cycles : Nat), s.ctrlTimers = true → s.outC ≠ 0 → s.get CTRL.RPL_CTL.TIMEOUT ≤ cycles →
    s.lnk.cNoProgress + 1 ≠ s.get CTRL.RPL_CTL.LIMIT →
    ∃ t, exec (.ctrlReplayTimeout cycles) s = .next t ∧ t.lnk.cptr = s.get CTRL.SEQ_STAT.OLDEST ∧ CountedOne CTRL.TX_STAT.TIMEOUTS s t ∧
      t.lnk.cNoProgress = s.lnk.cNoProgress + 1) ∧
  (∀ (s : State) (cycles : Nat), s.ctrlTimers = true → s.outC ≠ 0 → s.get CTRL.RPL_CTL.TIMEOUT ≤ cycles →
    s.lnk.cNoProgress + 1 = s.get CTRL.RPL_CTL.LIMIT →
    ∃ t, exec (.ctrlReplayTimeout cycles) s = .next t ∧ t.chip.col = .fault) ∧
  (∀ (s : State) (flit : CtrlFlit), s.ctrlFlows true = true → ctrlOk flit.toNat = false →
    ∃ t, exec (.ctrlFlitRx flit) s = .next t ∧ CountedOne CTRL.RX_STAT.CRC_BAD s t ∧ t.lnk = s.lnk ∧
      t.get CTRL.SEQ_STAT.NEXT_RX = s.get CTRL.SEQ_STAT.NEXT_RX) ∧
  (∀ (s : State) (flit : CtrlFlit), s.ctrlFlows true = true → ctrlOk flit.toNat = true → ctrlBad (ctrlHdr flit.toNat) = true →
    ∃ t, exec (.ctrlFlitRx flit) s = .next t ∧ t.chip.col = .fault) ∧
  (∀ (s : State) (flit : CtrlFlit) (h : CtrlHdr) (m : Nat), s.ctrlFlows true = true → ctrlOk flit.toNat = true → h = ctrlHdr flit.toNat →
    h.cft = 1 → h.cack = s.get CTRL.SEQ_STAT.OLDEST → h.back = s.get BULK.SEQ_STAT.OLDEST → h.backt = 1 → s.rep.keptCtrl = none →
    s.chip.col ≠ .creditInit → h.cseq = s.get CTRL.SEQ_STAT.NEXT_RX → h.msgs = [m, emptyMsg, emptyMsg] → msgClass m ≠ 7 → msgBad m = false →
    ∃ t, exec (.ctrlFlitRx flit) s = .next t ∧ t.get CTRL.SEQ_STAT.NEXT_RX = (h.cseq + 1) % 256 ∧
      t.lnk.linkQ = (if msgClass m = 2 then s.lnk.linkQ ++ [m] else s.lnk.linkQ) ∧
      t.lnk.msgOut = (if msgClass m = 2 then s.lnk.msgOut else s.lnk.msgOut ++ [m])) ∧
  (∀ (s : State) (flit : CtrlFlit) (h : CtrlHdr), s.ctrlFlows true = true → ctrlOk flit.toNat = true → h = ctrlHdr flit.toNat →
    ctrlBad h = false → h.cack = s.get CTRL.SEQ_STAT.OLDEST → h.back = s.get BULK.SEQ_STAT.OLDEST → h.backt = 1 → s.chip.col ≠ .creditInit →
    (h.cft = 2 ∨ h.cseq ≠ s.get CTRL.SEQ_STAT.NEXT_RX) →
    ∃ t, exec (.ctrlFlitRx flit) s = .next t ∧ t.lnk = s.lnk ∧ t.out = s.out ∧ t.chip = s.chip ∧
      (∀ k, k ≠ CTRL.RX_STAT.RSVD_NONZERO.key → t.reg k = s.reg k) ∧
      t.get CTRL.RX_STAT.RSVD_NONZERO =
        min (s.get CTRL.RX_STAT.RSVD_NONZERO + if h.cft = 2 then (h.msgs.map msgRsvd).sum else 0) (2 ^ CTRL.RX_STAT.RSVD_NONZERO.width - 1))

/-- CREDIT_ADV_RX, CREDIT_RET_RX, ADV_DONE_RX and CREDIT_RETURN_SEND (R199 to R204): counts sent and received, impossible ones end in FAULT. -/
def Obligations.CreditsAreAdvertisedAndReturned : Prop :=
  (∀ (s : State) (m k n : Nat) (l : List Nat), s.lnk.linkQ = m :: l → msgLtype m = 1 → creditOf m = (some k, n) → n ≤ 32767 →
    ∃ t, exec .creditAdvRx s = .next t ∧ t.lnk.linkQ = l ∧ t.lnk.advSeen = s.lnk.advSeen + 1 ∧ t.get (CREDIT.TX_STAT.ADV k) = n ∧
      t.get (CREDIT.TX_STAT.CONS k) = s.get (CREDIT.TX_STAT.CONS k) ∧ t.get (CREDIT.TX_STAT.AVAIL k) = t.avail k) ∧
  (∀ (s : State) (m k n : Nat) (l : List Nat), s.lnk.linkQ = m :: l → msgLtype m = 1 → creditOf m = (some k, n) → 32767 < n →
    s.colIn [.off, .fault] = false → ∃ t, exec .creditAdvRx s = .next t ∧ t.chip.col = .fault) ∧
  (∀ (s : State) (m k n : Nat) (l : List Nat), s.lnk.linkQ = m :: l → msgLtype m = 2 → creditOf m = (some k, n) →
    (n + 2 ^ 16 - s.get (CREDIT.TX_STAT.RET k)) % 2 ^ 16 ≤ (s.get (CREDIT.TX_STAT.CONS k) + 2 ^ 16 - s.get (CREDIT.TX_STAT.RET k)) % 2 ^ 16 →
    ∃ t, exec .creditRetRx s = .next t ∧ t.lnk.linkQ = l ∧ t.get (CREDIT.TX_STAT.RET k) = n ∧
      t.get (CREDIT.TX_STAT.CONS k) = s.get (CREDIT.TX_STAT.CONS k) ∧ t.get (CREDIT.TX_STAT.AVAIL k) = t.avail k) ∧
  (∀ (s : State) (m k n : Nat) (l : List Nat), s.lnk.linkQ = m :: l → msgLtype m = 2 → creditOf m = (some k, n) →
    (s.get (CREDIT.TX_STAT.CONS k) + 2 ^ 16 - s.get (CREDIT.TX_STAT.RET k)) % 2 ^ 16 < (n + 2 ^ 16 - s.get (CREDIT.TX_STAT.RET k)) % 2 ^ 16 →
    s.get (CREDIT.TX_STAT.ADV k) < (s.get (CREDIT.TX_STAT.RET k) + 2 ^ 16 - n) % 2 ^ 16 → s.colIn [.off, .fault] = false →
    ∃ t, exec .creditRetRx s = .next t ∧ t.chip.col = .fault) ∧
  (∀ (s : State) (m k n : Nat) (l : List Nat), s.lnk.linkQ = m :: l → msgLtype m = 2 → creditOf m = (some k, n) →
    (s.get (CREDIT.TX_STAT.CONS k) + 2 ^ 16 - s.get (CREDIT.TX_STAT.RET k)) % 2 ^ 16 < (n + 2 ^ 16 - s.get (CREDIT.TX_STAT.RET k)) % 2 ^ 16 →
    (s.get (CREDIT.TX_STAT.RET k) + 2 ^ 16 - n) % 2 ^ 16 ≤ s.get (CREDIT.TX_STAT.ADV k) →
    exec .creditRetRx s = .next { s with lnk := { s.lnk with linkQ := l } }) ∧
  (∀ (s : State) (m : Nat) (l : List Nat), s.lnk.linkQ = m :: l → msgLtype m = 3 → bits m 8 8 = s.lnk.advSeen → s.chip.col = .creditInit →
    s.cal.mode ≠ .lowBringUp → s.lnk.msgQ = [] → s.lnk.crpl = [] →
    ∃ t, exec .advDoneRx s = .next t ∧ t.chip.col = .active ∧ t.lnk.farDone = true) ∧
  (∀ (s : State) (m : Nat) (l : List Nat), s.lnk.linkQ = m :: l → msgLtype m = 3 → bits m 8 8 ≠ s.lnk.advSeen → s.colIn [.off, .fault] = false →
    ∃ t, exec .advDoneRx s = .next t ∧ t.chip.col = .fault) ∧
  (∀ (s : State) (k : Nat), s.clkOn 4 = true → s.colDead = false → (s.chip.col = .creditInit ∨ s.colIn inService = true) →
    s.nextCount 11 = some k →
    ∃ t, exec .creditReturnSend s = .next t ∧ t.lnk.msgQ = s.lnk.msgQ ++ [creditMsg 2 k (s.get (CREDIT.RX_STAT.RETURNED k))] ∧
      t.sentCount k = s.get (CREDIT.RX_STAT.RETURNED k) ∧ t.lnk.crTurn = (k + 1) % 11 ∧ t.regs = s.regs)

/-- LEVEL_RELEASE and STALE_CUT (R203, R362, R363, R371). -/
def Obligations.LevelRequestsAreReleasedAtTheirBeat : Prop :=
  (∀ (s : State) (now : Beat) (l : LevelItem), s.clkOn 1 = true → s.txn.levelQ = [l] → l.release ≤ (s.at now).beat →
    ∃ t, exec (.levelRelease now) s = .next t ∧ t.txn.levelQ = [] ∧
      t.lnk.dpoQ = s.lnk.dpoQ ++ pieceItems { presHdr l.hdr with status := 0 } true l.units true false l.seq true 0) ∧
  (∀ (s : State) (now : Beat) (l : LevelItem), s.clkOn 1 = true → s.txn.levelQ = [l] → (s.at now).beat < l.release →
    exec (.levelRelease now) s = .next (s.at now)) ∧
  (∀ (s : State) (now t0 : Beat), s.lnk.stall = some t0 → (s.at now).past t0 16384 = true → s.cap 6 = true →
    ∃ t, exec (.staleCut now) s = .next t ∧ t.lnk.cut = some (s.get BULK.SEQ_STAT.NEXT_RX) ∧ t.lnk.stall = some (s.at now).beat ∧
      t.regs = s.regs) ∧
  (∀ (s : State) (now t0 : Beat), s.lnk.stall = some t0 → (s.at now).past t0 16384 = false → exec (.staleCut now) s = .next (s.at now))

/-! ### Encodings -/

/-- What is sent is what the receiver reads, with every field at every value that its width admits: sideband frames (R87, R88), bulk flits
with their CRC (R160, R164, R178), control flits (R174, R175, R178), transaction headers (R165), and credit messages (R177, R199). -/
def Obligations.FramesFlitsAndHeadersAreReadAsSent : Prop :=
  (∀ ty fseq pl : Nat, ty < 16 → fseq < 16 → pl < 2 ^ 40 → sbValid (sbFrame ty fseq pl) = true ∧ bodyType (sbBody (sbFrame ty fseq pl)) = ty ∧
    bodyFseq (sbBody (sbFrame ty fseq pl)) = fseq ∧ bodyPayload (sbBody (sbFrame ty fseq pl)) = pl) ∧
  (∀ (h : BulkHdr) (us : List Nat), h.seq < 4096 → h.ack < 4096 → h.ackt < 4 → h.ftype < 4 → h.crTc < 4 → h.crKind < 2 → h.crCount < 65536 →
    h.hdrMap < 2 ^ 15 → h.rsvd = false → us.length = 15 → (∀ u ∈ us, u < 2 ^ 128) →
    bulkHdr (buildBulk h us).toNat = h ∧ bulkSlots (buildBulk h us).toNat = us ∧ bulkOk (buildBulk h us).toNat = true) ∧
  (∀ h : CtrlHdr, h.cseq < 256 → h.cack < 256 → h.back < 4096 → h.backt < 4 → h.cft < 4 → h.msgs.length ≤ 3 → (∀ m ∈ h.msgs, m < 2 ^ 64) →
    ctrlHdr (buildCtrl h).toNat = { h with msgs := h.msgs ++ List.replicate (3 - h.msgs.length) emptyMsg } ∧ ctrlOk (buildCtrl h).toNat = true) ∧
  (∀ h : Hdr, h.op < 256 → h.tc < 4 → h.rsvd = false → h.tag < 4096 → h.len < 16 → h.status < 16 → h.addr < 2 ^ 46 → h.ctx < 2 ^ 14 →
    h.attr < 256 → h.opd < 4096 → h.dbeat < 65536 → hdrOf h.unit = h) ∧
  (∀ lt k n : Nat, lt = 1 ∨ lt = 2 → k < 11 → n < 65536 → creditOf (creditMsg lt k n) = (some k, n) ∧ msgLtype (creditMsg lt k n) = lt ∧
    msgClass (creditMsg lt k n) = 2)

/-! ### The engine's commits -/

/-- ENGINE_MEMORY_DATA, VIEW_READ and VIEW_WRITE (R172, R223, R225, R228, R302, R305, R306, R318 to R321, R325): data that returns shows
what memory holds, but that of a cancelled or stale read is not used; a read returns the decoded elements, and a write of one whole block
encodes it; a page or context record that turns a request away leaves memory alone. Blocks that leave a view whole go to the escape area
(R327). Data for which no read waits shows memory alike: the model's choice (log entry 36). -/
def Obligations.ViewsAreReadAndWrittenAtCommit : Prop :=
  (∀ (s : State) (a : BitVec 40) (d : BitVec 512) (ans : MemAnswer), s.isM = true → s.chip.dieRst = false → s.clkOn 2 = true →
    (∀ p, s.txn.prefetch.find? (fun p => p.granule == a.toNat / 64 && p.ans.isNone) = some p → p.dropped = false ∧ p.stale = false) →
    ∃ t, exec (.engineMemoryData a d ans) s = .next t ∧ t.regs = s.regs ∧
      MemoryKeptOutside s t (if ans = .ok then [(64 * (a.toNat / 64), 64)] else []) ∧
      (ans = .ok → ∀ i, i < 64 → t.memByte (64 * (a.toNat / 64) + i) = d.extractLsb' (8 * i) 8) ∧
      (∀ g, g ≠ a.toNat / 64 → (g ∈ t.poison ↔ g ∈ s.poison)) ∧ (ans = .poison → a.toNat / 64 ∈ t.poison) ∧
      (ans = .ok → a.toNat / 64 ∉ t.poison)) ∧
  (∀ (s : State) (a : BitVec 40) (d : BitVec 512) (ans : MemAnswer) (p : Prefetch), s.isM = true → s.chip.dieRst = false → s.clkOn 2 = true →
    s.txn.prefetch.find? (fun p => p.granule == a.toNat / 64 && p.ans.isNone) = some p →
    ∃ t, exec (.engineMemoryData a d ans) s = .next t ∧ t.regs = s.regs ∧
      t.txn.prefetch = s.txn.prefetch.erase p ++ (if p.dropped then [] else [{ p with ans := some ans }]) ∧
      (p.dropped = true ∨ p.stale = true → t.mem = s.mem ∧ t.poison = s.poison)) ∧
  (∀ (s : State) (q : EngReq) (b : Binding) (n : Nat) (tg : Target), Commits s EngReq.isRead noWait q → AnswerWanted s q.hdr → b = Binding.of q.bind →
    n = q.hdr.bytes / fmtBytes b.vfmt → tg = targetAt b (q.hdr.byteAddr / 2 ^ 23) (q.hdr.byteAddr % 2 ^ 23 / fmtBytes b.vfmt) b.vfmt →
    (∀ st ∈ (s.pageCheck q.hdr.ctx q.page q.bind).sts, st = .retry) → q.hdr.vfmt = 0 ∨ q.hdr.vfmt = b.vfmt →
    (s.ctxOf q.hdr.ctx).lost = false → tg.answer (s.asUsed q) (List.range n) = .ok → b.rcpEn = false →
    (∀ k, k < n → ((tg.read s n (List.range n) (s.ctxOf q.hdr.ctx).texp).1.getD k (0, false)).2 = false) →
    ∃ t, exec .viewRead s = .next t ∧ t.mem = s.mem ∧ t.txn.engQ = s.txn.engQ.erase q ∧
      AnsweredOk s t q.hdr b.vfmt (packUnits b.vfmt
        (retCodes (s.ctxOf q.hdr.ctx) tg b.vfmt .rne
          ((List.range n).map fun k => ((tg.read s n (List.range n) (s.ctxOf q.hdr.ctx).texp).1.getD k (0, false)).1)).1 q.hdr.bytes)) ∧
  (∀ (s : State) (q : EngReq) (st : Status), Commits s EngReq.isRead noWait q → AnswerWanted s q.hdr →
    st ∈ (s.pageCheck q.hdr.ctx q.page q.bind).sts → st ≠ .retry →
    ∃ t, exec .viewRead s = .next t ∧ t.mem = s.mem ∧ AnsweredWith s t q.hdr st) ∧
  (∀ (s : State) (q : EngReq) (b : Binding) (g : Nat) (xs : List Nat) (enc : Encoded), Commits s EngReq.isWrite noWait q → AnswerWanted s q.hdr →
    b = Binding.of q.bind → b.isView = true → b.rcpEn = false → (s.pageCheck q.hdr.ctx q.page q.bind).sts = [] →
    q.hdr.vfmt = 0 ∨ q.hdr.vfmt = b.vfmt → (s.ctxOf q.hdr.ctx).lost = false →
    q.hdr.poison = false → (s.ctxOf q.hdr.ctx).errThresh = 0 → q.hdr.bytes = blockSize b.sfmt * fmtBytes b.vfmt →
    b.elem (q.hdr.byteAddr % 2 ^ 23 / fmtBytes b.vfmt) = g * blockSize b.sfmt → q.hdr.byteAddr % 2 ^ 23 + q.hdr.bytes ≤ 2 ^ 23 →
    (∀ i, i < q.hdr.bytes → q.enabled i = true) →
    xs = (List.range (blockSize b.sfmt)).map (fun k => widen b.vfmt (bits q.data (8 * fmtBytes b.vfmt * k) (8 * fmtBytes b.vfmt))) →
    enc = encodeBlock b.sfmt .rne (s.ctxOf q.hdr.ctx).texp (s.ctxOf q.hdr.ctx).nfClamp (fun i => (s.ctxOf q.hdr.ctx).rnd (b.run.ident g i) 7) xs →
    ∃ t, exec .viewWrite s = .next t ∧ AnsweredOk s t q.hdr 0 [] ∧ t.mem = (s.putBlock b.run g enc.scale enc.zero enc.field).mem ∧
      t.txn.engQ = s.txn.engQ.erase q) ∧
  (∀ (s : State) (q : EngReq) (b : Binding), Commits s EngReq.isWrite noWait q → b = Binding.of q.bind → b.isView = true → b.rcpEn = false →
    ∃ t, exec .viewWrite s = .next t ∧ t.basin = s.basin ∧
      MemoryKeptOutside s t ((64 * s.get DEFILE.ESC_BASE.ADDR + 64 * s.get DEFILE.ESC_STAT.NEXT,
          64 * (s.get DEFILE.ESC_LIMIT.SLOTS - s.get DEFILE.ESC_STAT.NEXT)) ::
        (targetAt b q.page (q.off / fmtBytes b.vfmt) b.vfmt).ranges (s.writeJob q b).ks)) ∧
  (∀ (s : State) (q : EngReq) (st : Status), Commits s EngReq.isWrite noWait q → AnswerWanted s q.hdr → (Binding.of q.bind).rcpEn = false →
    st ∈ (s.pageCheck q.hdr.ctx q.page q.bind).sts → st ≠ .retry →
    ∃ t, exec .viewWrite s = .next t ∧ t.mem = s.mem ∧ AnsweredWith s t q.hdr st) ∧
  (∀ (s : State) (q : EngReq), Commits s EngReq.isWrite noWait q → AnswerWanted s q.hdr → PageDenies s q →
    ∃ t st, exec .viewWrite s = .next t ∧ t.mem = s.mem ∧ st ∈ [Status.denied, .drained] ∧ AnsweredWith s t q.hdr st)

/-- XF_APPLY, XF_APPLY_R and XF_ACC (R172, R228, R310 to R316): a transform whose checks pass writes y and z only and is answered OK,
with the RET values for XF_APPLY_R; a page or context record that turns it away leaves memory alone. -/
def Obligations.TransformsWriteYAndZ : Prop :=
  (∀ (s : State) (q : EngReq) (j : XfJob) (w : XfRows), Commits s (EngReq.isOp .xfApply) noWait q → AnswerWanted s q.hdr →
    TransformPasses s q .apply j w →
    ∃ t, exec .xfApply s = .next t ∧ AnsweredOk s t q.hdr 0 [] ∧
      t.basin = s.basin ∧ t.txn.engQ = s.txn.engQ.erase q ∧
      MemoryKeptOutside s t ((64 * s.get DEFILE.ESC_BASE.ADDR + 64 * s.get DEFILE.ESC_STAT.NEXT,
          64 * (s.get DEFILE.ESC_LIMIT.SLOTS - s.get DEFILE.ESC_STAT.NEXT)) ::
        ((if w.writesY then w.y.ranges j.ks else []) ++ if w.writesZ then w.z.ranges j.ks else []))) ∧
  (∀ (s : State) (q : EngReq) (j : XfJob) (w : XfRows), Commits s (EngReq.isOp .xfApply) noWait q → AnswerWanted s q.hdr →
    TransformPasses s q .apply j w → w.y.view = false → (s.recipe q.hdr.recipe).nstages = 0 → (s.recipe q.hdr.recipe).outY ≠ 0 →
    (s.recipe q.hdr.recipe).outZ = 0 →
    ∃ t, exec .xfApply s = .next t ∧ j.xFmt = (if q.hdr.vfmt = 0 then w.y.fmt else q.hdr.vfmt) ∧
      ∀ k, k < j.n → t.memNat (w.y.addr + k * fmtBytes w.y.fmt) (fmtBytes w.y.fmt) =
        ((scalarFmt w.y.fmt).convert (rndOf (s.recipe q.hdr.recipe).rndY)
          ((s.ctxOf q.hdr.ctx).rnd (scalarIdent (w.y.addr + k * fmtBytes w.y.fmt) (fmtBytes w.y.fmt)) 7)
          (f32 (widen j.xFmt (bits q.data (8 * fmtBytes j.xFmt * k) (8 * fmtBytes j.xFmt))))).1 % 2 ^ (8 * fmtBytes w.y.fmt)) ∧
  (∀ (s : State) (q : EngReq) (j : XfJob) (w : XfRows), Commits s (EngReq.isOp .xfApplyR) noWait q → AnswerWanted s q.hdr →
    TransformPasses s q .applyR j w →
    ∃ t rets, exec .xfApplyR s = .next t ∧ rets.length = j.n ∧ AnsweredOk s t q.hdr j.xFmt (packUnits j.xFmt rets q.hdr.bytes) ∧
      t.basin = s.basin ∧ t.txn.engQ = s.txn.engQ.erase q ∧
      MemoryKeptOutside s t ((64 * s.get DEFILE.ESC_BASE.ADDR + 64 * s.get DEFILE.ESC_STAT.NEXT,
          64 * (s.get DEFILE.ESC_LIMIT.SLOTS - s.get DEFILE.ESC_STAT.NEXT)) ::
        ((if w.writesY then w.y.ranges j.ks else []) ++ if w.writesZ then w.z.ranges j.ks else []))) ∧
  (∀ (s : State) (q : EngReq) (j : XfJob) (w : XfRows), Commits s (EngReq.isOp .xfAcc) noWait q → AnswerWanted s q.hdr →
    TransformPasses s q .acc j w →
    ∃ t, exec .xfAcc s = .next t ∧ AnsweredOk s t q.hdr 0 [] ∧
      t.basin = s.basin ∧ t.txn.engQ = s.txn.engQ.erase q ∧
      MemoryKeptOutside s t ((64 * s.get DEFILE.ESC_BASE.ADDR + 64 * s.get DEFILE.ESC_STAT.NEXT,
          64 * (s.get DEFILE.ESC_LIMIT.SLOTS - s.get DEFILE.ESC_STAT.NEXT)) ::
        ((if w.writesY then w.y.ranges j.ks else []) ++ if w.writesZ then w.z.ranges j.ks else []))) ∧
  (∀ (s : State) (q : EngReq), Commits s (EngReq.isOp .xfApply) noWait q → AnswerWanted s q.hdr → PageDenies s q →
    ∃ t st, exec .xfApply s = .next t ∧ t.mem = s.mem ∧ st ∈ [Status.denied, .drained] ∧ AnsweredWith s t q.hdr st) ∧
  (∀ (s : State) (q : EngReq), Commits s (EngReq.isOp .xfApplyR) noWait q → AnswerWanted s q.hdr → PageDenies s q →
    ∃ t st, exec .xfApplyR s = .next t ∧ t.mem = s.mem ∧ st ∈ [Status.denied, .drained] ∧ AnsweredWith s t q.hdr st) ∧
  (∀ (s : State) (q : EngReq), Commits s (EngReq.isOp .xfAcc) noWait q → AnswerWanted s q.hdr → PageDenies s q →
    ∃ t st, exec .xfAcc s = .next t ∧ t.mem = s.mem ∧ st ∈ [Status.denied, .drained] ∧ AnsweredWith s t q.hdr st)

/-- AT_FADD, AT_SWAP and AT_CAS (R170, R172, R324, R397): the word is added to modulo 2^64, replaced, or replaced where it equals A;
the old word is returned, and no other byte of memory changes. An end without the token answers RETRY, a view page FMT_REFUSED, and a page
or context record that turns the request away DENIED or DRAINED, and nothing is written. -/
def Obligations.AtomicsUpdateOneWordAndReturnTheOld : Prop :=
  (∀ (s : State) (q : EngReq) (a : Nat), Commits s (EngReq.isOp .atFadd) noWait q → AnswerWanted s q.hdr → a = q.hdr.byteAddr + 8 * q.hdr.atWord →
    (s.pageCheck q.hdr.ctx q.page q.bind).sts = [] → (Binding.of q.bind).kind ≠ some .view → s.isOwner = true →
    (s.ctxOf q.hdr.ctx).lost = false → q.hdr.poison = false → (s.asUsed q).memAnswer a 8 = .ok →
    ∃ t, exec .atFadd s = .next t ∧ AnsweredOk s t q.hdr 0 [s.memNat a 8] ∧
      t.memNat a 8 = (s.memNat a 8 + bits q.data 0 64) % 2 ^ 64 ∧
      MemoryKeptOutside s t [(a, 8)] ∧ t.basin = s.basin ∧ t.tbl = s.tbl) ∧
  (∀ (s : State) (q : EngReq) (a : Nat), Commits s (EngReq.isOp .atSwap) noWait q → AnswerWanted s q.hdr → a = q.hdr.byteAddr + 8 * q.hdr.atWord →
    (s.pageCheck q.hdr.ctx q.page q.bind).sts = [] → (Binding.of q.bind).kind ≠ some .view → s.isOwner = true →
    (s.ctxOf q.hdr.ctx).lost = false → q.hdr.poison = false → (s.asUsed q).memAnswer a 8 = .ok →
    ∃ t, exec .atSwap s = .next t ∧ AnsweredOk s t q.hdr 0 [s.memNat a 8] ∧
      t.memNat a 8 = bits q.data 0 64 ∧
      MemoryKeptOutside s t [(a, 8)] ∧ t.basin = s.basin ∧ t.tbl = s.tbl) ∧
  (∀ (s : State) (q : EngReq) (a : Nat), Commits s (EngReq.isOp .atCas) noWait q → AnswerWanted s q.hdr → a = q.hdr.byteAddr + 8 * q.hdr.atWord →
    (s.pageCheck q.hdr.ctx q.page q.bind).sts = [] → (Binding.of q.bind).kind ≠ some .view → s.isOwner = true →
    (s.ctxOf q.hdr.ctx).lost = false → q.hdr.poison = false → (s.asUsed q).memAnswer a 8 = .ok →
    ∃ t, exec .atCas s = .next t ∧ AnsweredOk s t q.hdr 0 [s.memNat a 8] ∧
      t.memNat a 8 = (if s.memNat a 8 = bits q.data 0 64 then bits q.data 64 64 else s.memNat a 8) ∧
      MemoryKeptOutside s t [(a, 8)] ∧ t.basin = s.basin ∧ t.tbl = s.tbl) ∧
  (∀ (s : State) (q : EngReq) (o : Op) (c : Instr), (o, c) ∈ [(Op.atFadd, Instr.atFadd), (.atSwap, .atSwap), (.atCas, .atCas)] →
    Commits s (EngReq.isOp o) noWait q → AnswerWanted s q.hdr →
    ((∀ st ∈ (s.pageCheck q.hdr.ctx q.page q.bind).sts, st = .retry) → (Binding.of q.bind).kind ≠ some .view → s.isOwner = false →
      ∃ t, exec c s = .next t ∧ AnsweredWith s t q.hdr .retry ∧ t.mem = s.mem ∧ CountedOne PAIR.TOKEN_STAT.RETRY s t) ∧
    ((s.pageCheck q.hdr.ctx q.page q.bind).sts = [] → (Binding.of q.bind).kind = some .view →
      ∃ t, exec c s = .next t ∧ AnsweredWith s t q.hdr .fmtRefused ∧ t.mem = s.mem) ∧
    (∀ st ∈ (s.pageCheck q.hdr.ctx q.page q.bind).sts, st ≠ .retry → ∃ t, exec c s = .next t ∧ AnsweredWith s t q.hdr st ∧ t.mem = s.mem))

/-- CONTRIB (R334, R336, R343, R345 to R349, R354, R357): each row of the judgment, and what an on-time contribution adds in each
accumulation mode; LAST sets the contributor's bit and counts it as arrived; a line whose read is uncorrectable (POISON, R481), and an
accumulator in a DRAINING page (DRAINED, R484), fail the window; a recipe that R314 refuses is FMT_REFUSED. That COMMITS stays at its
greatest value is the model's reading (log entry 57). -/
def Obligations.ContributionsAreJudgedAndAdded : Prop :=
  (∀ (s : State) (ue : Option (BitVec 18)) (q : EngReq), Commits s (EngReq.isOp .contrib) s.contribWaits q → AnswerWanted s q.hdr →
    s.isOwner = false →
    ∃ t, exec (.contrib ue) s = .next t ∧ AnsweredWith s t q.hdr .retry ∧ t.mem = s.mem ∧ t.basin = s.basin ∧ t.tbl = s.tbl ∧
      CountedOne BASIN.ADM_STAT_HI.RETRY s t) ∧
  (∀ (s : State) (ue : Option (BitVec 18)) (q : EngReq) (w k0 cnt : Nat), Commits s (EngReq.isOp .contrib) s.contribWaits q →
    AnswerWanted s q.hdr → s.isOwner = true → (s.ctxOf q.hdr.ctx).valid = true → w = q.hdr.window → (k0, cnt) = s.contribAt q.hdr →
    s.win w WIN.STATE = 0 ∨ s.win w WIN.CTX ≠ q.hdr.ctx ∨ s.win w WIN.EXPECT ≤ q.hdr.contributor ∨ s.win w WIN.NELEM < k0 + cnt →
    ∃ t, exec (.contrib ue) s = .next t ∧ AnsweredWith s t q.hdr .denied ∧ t.mem = s.mem ∧ t.basin = s.basin ∧ t.tbl = s.tbl ∧
      CountedOne BASIN.ADM_STAT.DENIED s t) ∧
  (∀ (s : State) (ue : Option (BitVec 18)) (q : EngReq) (w k0 cnt : Nat) (r : Beat), ContribSound s q w k0 cnt → s.win w WIN.STATE = 1 ∨ s.win w WIN.STATE = 2 →
    q.release = some r → r < s.openBeat w →
    ∃ t, exec (.contrib ue) s = .next t ∧ AnsweredWith s t q.hdr .early ∧ t.mem = s.mem ∧ t.basin = s.basin ∧
      t.win w WIN.EARLY_N = min (s.win w WIN.EARLY_N + 1) (2 ^ 16 - 1) ∧ CountedOne BASIN.ADM_STAT.EARLY s t) ∧
  (∀ (s : State) (ue : Option (BitVec 18)) (q : EngReq) (w k0 cnt : Nat) (r : Beat), ContribSound s q w k0 cnt →
    (s.win w WIN.STATE = 1 ∨ s.win w WIN.STATE = 2) ∧ q.release = some r ∧ s.openBeat w ≤ r ∧
        (s.closeBeat w ≤ r ∨ s.bmpBit w q.hdr.contributor = true) ∨ s.win w WIN.STATE = 3 ∨ s.win w WIN.STATE = 4 →
    ∃ t, exec (.contrib ue) s = .next t ∧ AnsweredWith s t q.hdr .late ∧ t.mem = s.mem ∧ t.basin = s.basin ∧
      t.win w WIN.LATE_N = min (s.win w WIN.LATE_N + 1) (2 ^ 16 - 1) ∧ CountedOne BASIN.ADM_STAT_HI.LATE s t) ∧
  (∀ (s : State) (ue : Option (BitVec 18)) (q : EngReq) (w k0 cnt cause : Nat), ContribNamed s q w k0 cnt →
    ((s.winRecipe w).bind (fun r => r.refusal .contrib false false)) = some cause → s.judgeTime q ≠ .waits → s.contribDrains q.hdr = false →
    ∃ t, exec (.contrib ue) s = .next t ∧ AnsweredWith s t q.hdr .fmtRefused ∧ t.mem = s.mem ∧ t.basin = s.basin ∧
      Raised EV.DEFILE.RECIPE_BAD t) ∧
  (∀ (s : State) (ue : Option (BitVec 18)) (q : EngReq) (w k0 cnt : Nat), ContribSound s q w k0 cnt → s.win w WIN.STATE = 5 →
    ∃ t, exec (.contrib ue) s = .next t ∧ AnsweredWith s t q.hdr .poison ∧ t.mem = s.mem ∧ t.basin = s.basin ∧ t.tbl = s.tbl) ∧
  (∀ (s : State) (ue : Option (BitVec 18)) (q : EngReq) (w k0 cnt : Nat), ContribOnTime s ue q w k0 cnt → q.hdr.last = false → s.win w WIN.MODE = 0 →
    ∃ t, exec (.contrib ue) s = .next t ∧ AnsweredOk s t q.hdr 0 [] ∧ t.mem = s.mem ∧
      t.win w WIN.COMMITS = min (s.win w WIN.COMMITS + 1) (2 ^ 32 - 1) ∧ t.win w WIN.ARRIVED = s.win w WIN.ARRIVED ∧
      (∀ i l j, i < cnt → l = s.win w WIN.BASE_LINE + (k0 + i) / 16 → j = (k0 + i) % 16 →
        bits (t.line l).toNat (32 * j) 32 = addF (bits (s.line l).toNat (32 * j) 32)
          (widen (s.win w WIN.IN_FMT) (bits q.data (8 * fmtBytes (s.win w WIN.IN_FMT) * i) (8 * fmtBytes (s.win w WIN.IN_FMT)))) % 2 ^ 32) ∧
      (∀ l, l < s.win w WIN.BASE_LINE + k0 / 16 ∨ s.win w WIN.BASE_LINE + (k0 + cnt + 15) / 16 ≤ l → t.line l = s.line l)) ∧
  (∀ (s : State) (ue : Option (BitVec 18)) (q : EngReq) (w k0 cnt : Nat), ContribOnTime s ue q w k0 cnt → q.hdr.last = false → s.win w WIN.MODE = 1 →
    ∃ t, exec (.contrib ue) s = .next t ∧ AnsweredOk s t q.hdr 0 [] ∧ t.mem = s.mem ∧
      t.win w WIN.COMMITS = min (s.win w WIN.COMMITS + 1) (2 ^ 32 - 1) ∧ t.win w WIN.ARRIVED = s.win w WIN.ARRIVED ∧
      (∀ i l j, i < cnt → l = s.win w WIN.BASE_LINE + (k0 + i) / 5 → j = (k0 + i) % 5 →
        bits (t.line l).toNat (96 * j) 96 = ofInt 96 (exactAcc (s.line l).toNat j + (exactQ (toInt 8 (s.win w WIN.XWIN_CAP))
          (widen (s.win w WIN.IN_FMT) (bits q.data (8 * fmtBytes (s.win w WIN.IN_FMT) * i) (8 * fmtBytes (s.win w WIN.IN_FMT))))).q)) ∧
      (∀ l, l < s.win w WIN.BASE_LINE + k0 / 5 ∨ s.win w WIN.BASE_LINE + (k0 + cnt + 4) / 5 ≤ l → t.line l = s.line l)) ∧
  (∀ (s : State) (ue : Option (BitVec 18)) (q : EngReq) (w k0 cnt a : Nat), ContribOnTime s ue q w k0 cnt → q.hdr.last = false → s.win w WIN.MODE = 2 →
    a = 64 * s.win w WIN.MEM_BASE + 4 * k0 → s.rangeDrained (a, 4 * cnt) = false → (s.asUsed q).memAnswer a (4 * cnt) = .ok →
    ∃ t, exec (.contrib ue) s = .next t ∧ AnsweredOk s t q.hdr 0 [] ∧ t.basin = s.basin ∧
      t.win w WIN.COMMITS = min (s.win w WIN.COMMITS + 1) (2 ^ 32 - 1) ∧ t.win w WIN.ARRIVED = s.win w WIN.ARRIVED ∧
      (∀ i, i < cnt → t.memNat (a + 4 * i) 4 = addF (s.memNat (a + 4 * i) 4)
        (widen (s.win w WIN.IN_FMT) (bits q.data (8 * fmtBytes (s.win w WIN.IN_FMT) * i) (8 * fmtBytes (s.win w WIN.IN_FMT)))) % 2 ^ 32) ∧
      MemoryKeptOutside s t [(a, 4 * cnt)]) ∧
  (∀ (s : State) (ue : Option (BitVec 18)) (q : EngReq) (w k0 cnt : Nat), ContribOnTime s ue q w k0 cnt → q.hdr.last = true → s.win w WIN.MODE = 0 → s.win w WIN.EAGER = 0 →
    s.win w WIN.ARRIVED < 2 ^ 16 - 1 →
    ∃ t, exec (.contrib ue) s = .next t ∧ AnsweredOk s t q.hdr 0 [] ∧ t.win w WIN.ARRIVED = s.win w WIN.ARRIVED + 1 ∧ t.win w WIN.STATE = 2 ∧
      t.bmpBit w q.hdr.contributor = true) ∧
  (∀ (s : State) (i : BitVec 18) (q : EngReq) (w k0 cnt : Nat), ContribOnTime s none q w k0 cnt → i.toNat / 4 ∈ s.contribLines q.hdr →
    ∃ t, exec (.contrib (some i)) s = .next t ∧ AnsweredWith s t q.hdr .poison ∧ t.win w WIN.STATE = 5 ∧
      bit (t.win w WIN.OUTCOME) 4 = true ∧ t.basin = s.basin ∧
      MemoryKeptOutside s t (if s.win w WIN.CL_REC = 1 then [(64 * s.win w WIN.REC_ADDR, 32)] else [])) ∧
  (∀ (s : State) (ue : Option (BitVec 18)) (q : EngReq) (w k0 cnt a : Nat), ContribOnTime s ue q w k0 cnt → s.win w WIN.MODE = 2 →
    a = 64 * s.win w WIN.MEM_BASE + 4 * k0 → s.rangeDrained (a, 4 * cnt) = true →
    ∃ t, exec (.contrib ue) s = .next t ∧ AnsweredWith s t q.hdr .drained ∧ t.win w WIN.STATE = 5 ∧
      bit (t.win w WIN.OUTCOME) 4 = true ∧ t.basin = s.basin ∧
      MemoryKeptOutside s t (if s.win w WIN.CL_REC = 1 then [(64 * s.win w WIN.REC_ADDR, 32)] else []))

/-! ### DMA channels -/

/-- MOVE, LOOP, WAIT, SIGNAL, DMA_WAIT_BEAT, DMA_PROGRAM_FETCH and DMA_READ_DATA (R376 to R383, R386, R387): each instruction of the
unit at PC, the end of a beat wait, a fetched group, and a piece that is read granule by granule and whose writes are then issued. ERR and
the halt rest on R388, R389 and R484. That a piece is read whole before it is written is the model's reading (log entry 59). -/
def Obligations.DmaInstructionsRun : Prop :=
  (∀ (s : State) (n : Fin 4) (u : Nat) (src dst : Nat), s.dma.length = 4 → s.chReady n = true → s.chUnit n (s.get (DMA.CH_STAT.PC n)) = some u →
    bits u 0 4 = 1 → mvMode u = 0 → (src : Int) = (mvSrc u : Int) + (s.chan n).loop0.adjS + (s.chan n).loop1.adjS →
    (dst : Int) = (mvDst u : Int) + (s.chan n).loop0.adjD + (s.chan n).loop1.adjD → pieceFault u src dst = none → Fetchable s n (s.get (DMA.CH_STAT.PC n) + 1) →
    (mvSrcTbl u = true ∨ ∀ x, src ≤ x → x < src + mvLen u → (s.dmaRoute n x false).err = none) →
    ∃ t m, exec (.move n) s = .next t ∧ (t.chan n).mov = some m ∧ m.word = u ∧ m.src = src ∧ m.dst = dst ∧ m.begun = true ∧ t.mem = s.mem ∧
      t.get (DMA.CH_STAT.STATE n) = DMA.running ∧ t.get (DMA.CH_STAT.PC n) = s.get (DMA.CH_STAT.PC n)) ∧
  (∀ (s : State) (n : Fin 4) (u off : Nat) (src dst : Nat), s.dma.length = 4 → s.chReady n = true → s.chUnit n (s.get (DMA.CH_STAT.PC n)) = some u →
    bits u 0 4 = 1 → mvMode u = 1 ∨ mvMode u = 2 → s.mvOff n 0 = some off →
    (src : Int) = (mvSrc u : Int) + (s.chan n).loop0.adjS + (s.chan n).loop1.adjS →
    (dst : Int) = (mvDst u : Int) + (s.chan n).loop0.adjD + (s.chan n).loop1.adjD →
    pieceFault u (if mvMode u = 1 then src + off * 2 ^ mvShift u else src) (if mvMode u = 1 then dst else dst + off * 2 ^ mvShift u) = none →
    (mvSrcTbl u = true ∨ ∀ x, (if mvMode u = 1 then src + off * 2 ^ mvShift u else src) ≤ x →
      x < (if mvMode u = 1 then src + off * 2 ^ mvShift u else src) + mvLen u → (s.dmaRoute n x false).err = none) →
    ∃ t m, exec (.move n) s = .next t ∧ (t.chan n).mov = some m ∧ m.word = u ∧ m.src = src ∧ m.dst = dst ∧ m.begun = true ∧ t.mem = s.mem ∧
      t.mvPiece n m 0 = some (if mvMode u = 1 then (src + off * 2 ^ mvShift u, dst) else (src, dst + off * 2 ^ mvShift u))) ∧
  (∀ (s : State) (n : Fin 4) (u : Nat), s.dma.length = 4 → s.chReady n = true → s.chUnit n (s.get (DMA.CH_STAT.PC n)) = some u → bits u 0 4 = 1 →
    mvMode u = 3 → (s.chan n).acc = [] →
    ∃ t, exec (.move n) s = .next t ∧ t.mem = s.mem ∧ t.get (DMA.CH_STAT.STATE n) = DMA.halted ∧ t.get (DMA.CH_STAT.ERR n) = 1 ∧
      t.get (DMA.CH_STAT.PC n) = s.get (DMA.CH_STAT.PC n)) ∧
  (∀ (s : State) (n : Fin 4) (u e : Nat) (src dst : Nat), s.dma.length = 4 → s.chReady n = true → s.chUnit n (s.get (DMA.CH_STAT.PC n)) = some u →
    bits u 0 4 = 1 → mvMode u = 0 → (src : Int) = (mvSrc u : Int) + (s.chan n).loop0.adjS + (s.chan n).loop1.adjS →
    (dst : Int) = (mvDst u : Int) + (s.chan n).loop0.adjD + (s.chan n).loop1.adjD → pieceFault u src dst = some e → (s.chan n).acc = [] →
    ∃ t, exec (.move n) s = .next t ∧ t.mem = s.mem ∧ t.get (DMA.CH_STAT.STATE n) = DMA.halted ∧ t.get (DMA.CH_STAT.ERR n) = e) ∧
  (∀ (s : State) (n : Fin 4) (u pc : Nat) (l : DmaLoop), s.dma.length = 4 → s.chReady n = true → pc = s.get (DMA.CH_STAT.PC n) → s.chUnit n pc = some u → bits u 0 4 = 2 → bits u 5 11 = 0 → bits u 16 16 ≠ 0 → bits u 32 16 ≠ 0 → bits u 32 16 ≤ pc →
    pc + 1 < 2 ^ 24 → (s.chan n).lowHalt = false → l = (if bit u 4 then (s.chan n).loop1 else (s.chan n).loop0) →
    l.active = false ∨ l.owner = pc →
    Fetchable s n (if (if l.active then l.done else 1) < bits u 16 16 then pc - bits u 32 16 else pc + 1) →
    ∃ t, exec (.loop n) s = .next t ∧ t.mem = s.mem ∧ t.get (DMA.CH_STAT.STATE n) = DMA.running ∧
      ((if l.active then l.done else 1) < bits u 16 16 → t.get (DMA.CH_STAT.PC n) = pc - bits u 32 16 ∧
        (if bit u 4 then (t.chan n).loop1 else (t.chan n).loop0) =
          { active := true, owner := pc, done := (if l.active then l.done else 1) + 1,
            adjS := (if l.active then l.adjS else 0) + toInt 40 (bits u 48 40), adjD := (if l.active then l.adjD else 0) + toInt 40 (bits u 88 40) }) ∧
      (bits u 16 16 ≤ (if l.active then l.done else 1) → t.get (DMA.CH_STAT.PC n) = pc + 1 ∧
        (if bit u 4 then (t.chan n).loop1 else (t.chan n).loop0).active = false) ∧
      (if bit u 4 then (t.chan n).loop0 else (t.chan n).loop1) = (if bit u 4 then (s.chan n).loop0 else (s.chan n).loop1)) ∧
  (∀ (s : State) (n : Fin 4) (u : Nat), s.dma.length = 4 → s.chReady n = true → s.chUnit n (s.get (DMA.CH_STAT.PC n)) = some u → bits u 0 4 = 3 →
    bits u 4 2 = 0 → bits u 7 9 = 0 → bits u 28 36 = 0 →
    ∃ t, exec (.wait n) s = .next t ∧ t.mem = s.mem ∧ t.get (DMA.CH_STAT.STATE n) = DMA.waiting ∧ t.get (DMA.CH_STAT.WAIT_ON n) = 0 ∧
      (t.chan n).waitBeat = some (BitVec.ofNat 64 (bits u 64 64) + (if bit u 6 then s.beat else 0))) ∧
  (∀ (s : State) (n : Fin 4) (u pc : Nat), s.dma.length = 4 → s.chReady n = true → pc = s.get (DMA.CH_STAT.PC n) → s.chUnit n pc = some u →
    bits u 0 4 = 3 → bits u 4 2 = 1 → bits u 7 9 = 0 → bits u 28 36 = 0 → s.paceByFill = false → pc + 1 < 2 ^ 24 → (s.chan n).lowHalt = false →
    Fetchable s n (pc + 1) →
    ∃ t, exec (.wait n) s = .next t ∧ t.mem = s.mem ∧
      (0 < s.get (DMA.CH_STAT.PENDING n) → t.get (DMA.CH_STAT.PENDING n) + 1 = s.get (DMA.CH_STAT.PENDING n) ∧ t.get (DMA.CH_STAT.PC n) = pc + 1 ∧
        t.get (DMA.CH_STAT.STATE n) = DMA.running) ∧
      (s.get (DMA.CH_STAT.PENDING n) = 0 → t.get (DMA.CH_STAT.STATE n) = DMA.waiting ∧ t.get (DMA.CH_STAT.WAIT_ON n) = 1 ∧
        t.get (DMA.CH_STAT.PC n) = pc)) ∧
  (∀ (s : State) (n : Fin 4) (u pc : Nat), s.dma.length = 4 → s.chReady n = true → pc = s.get (DMA.CH_STAT.PC n) → s.chUnit n pc = some u →
    bits u 0 4 = 3 → bits u 4 2 = 2 → bits u 7 9 = 0 → bits u 28 36 = 0 → s.paceByFill = true → pc + 1 < 2 ^ 24 → (s.chan n).lowHalt = false →
    Fetchable s n (pc + 1) →
    ∃ t, exec (.wait n) s = .next t ∧ t.mem = s.mem ∧
      (s.fillOf n ≤ bits u 16 12 → t.get (DMA.CH_STAT.PC n) = pc + 1 ∧ t.get (DMA.CH_STAT.STATE n) = DMA.running) ∧
      (bits u 16 12 < s.fillOf n → t.get (DMA.CH_STAT.STATE n) = DMA.waiting ∧ t.get (DMA.CH_STAT.WAIT_ON n) = 2)) ∧
  (∀ (s : State) (n : Fin 4) (now b : Beat), s.dma.length = 4 → s.dmaRuns = true → (s.chan n).waitBeat = some b → (s.at now).reached b = true →
    s.get (DMA.CH_STAT.STATE n) = DMA.waiting → (s.chan n).lowHalt = false → s.get (DMA.CH_STAT.PC n) + 1 < 2 ^ 24 →
    Fetchable s n (s.get (DMA.CH_STAT.PC n) + 1) →
    ∃ t, exec (.dmaWaitBeat n now) s = .next t ∧ (t.chan n).waitBeat = none ∧ t.get (DMA.CH_STAT.STATE n) = DMA.running ∧
      t.get (DMA.CH_STAT.PC n) = s.get (DMA.CH_STAT.PC n) + 1 ∧ t.mem = s.mem) ∧
  (∀ (s : State) (n : Fin 4) (u pc : Nat), s.dma.length = 4 → s.chReady n = true → pc = s.get (DMA.CH_STAT.PC n) → s.chUnit n pc = some u →
    bits u 0 4 = 4 → bits u 7 9 = 0 → bits u 48 80 = 0 → (s.chan n).acc.all (fun a => a.use.isRead) = true → pc + 1 < 2 ^ 24 →
    (s.chan n).lowHalt = false → (bit u 6 = true → s.cqFull n = false ∧ s.stkHeld (s.cqSlot n) = false ∧ s.rawRoute (s.cqSlot n) = .direct) →
    Fetchable s n (pc + 1) →
    ∃ t, exec (.signal n) s = .next t ∧ (t.chan n).signal = false ∧ t.mem = s.mem ∧
      t.get (DMA.CQ_TAIL.COUNT n) = (s.get (DMA.CQ_TAIL.COUNT n) + (if bit u 6 then 1 else 0)) % 2 ^ 17 ∧
      (t.chan n).acc.filter (fun a => a.use == .record) =
        (if bit u 6 then [{ use := .record, addr := s.cqSlot n, bytes := natBytes (s.cqRecord n 0 0 (bits u 16 32)) 32, sent := true }] else []) ∧
      (bit u 6 = true → .memWrite (s.cqSlot n) (natBytes (s.cqRecord n 0 0 (bits u 16 32)) 32) ∈ t.out) ∧
      (bit u 5 = true → Raised (EV.DMA.DMA_SIGNAL n) t) ∧
      (bit u 4 = true → t.get (DMA.CH_STAT.STATE n) = DMA.idle ∧ t.get (DMA.CH_STAT.PC n) = pc) ∧
      (bit u 4 = false → t.get (DMA.CH_STAT.STATE n) = DMA.running ∧ t.get (DMA.CH_STAT.PC n) = pc + 1)) ∧
  (∀ (s : State) (n : Fin 4) (u pc : Nat), s.dma.length = 4 → s.chReady n = true → pc = s.get (DMA.CH_STAT.PC n) → s.chUnit n pc = some u →
    bits u 0 4 = 4 → bits u 7 9 = 0 → bits u 48 80 = 0 → bit u 6 = true → (s.chan n).acc.all (fun a => a.use.isRead) = true → s.cqFull n = true →
    ∃ t, exec (.signal n) s = .next t ∧ t.mem = s.mem ∧ t.get (DMA.CH_STAT.STATE n) = DMA.waiting ∧ t.get (DMA.CH_STAT.WAIT_ON n) = 3 ∧
      Raised (EV.DMA.DMA_CQ_FULL n) t ∧ t.get (DMA.CQ_TAIL.COUNT n) = s.get (DMA.CQ_TAIL.COUNT n)) ∧
  (∀ (s : State) (n : Fin 4) (u pc : Nat) (e : Option Nat), s.dma.length = 4 → s.chReady n = true → pc = s.get (DMA.CH_STAT.PC n) → s.chUnit n pc = some u →
    bits u 0 4 = 4 → bits u 7 9 = 0 → bits u 48 80 = 0 → bit u 6 = true → (s.chan n).acc = [] → s.cqFull n = false →
    s.stkHeld (s.cqSlot n) = false → (s.rawRoute (s.cqSlot n)).err = some e →
    ∃ t, exec (.signal n) s = .next t ∧ t.mem = s.mem ∧ t.get (DMA.CH_STAT.STATE n) = DMA.halted ∧ t.get (DMA.CH_STAT.ERR n) = e.getD 4 ∧
      t.get (DMA.CQ_TAIL.COUNT n) = s.get (DMA.CQ_TAIL.COUNT n)) ∧
  (∀ (s : State) (n : Fin 4) (g : Nat) (x : DmaAccess) (d : BitVec 1024), s.dma.length = 4 → s.dmaRuns = true →
    (s.chan n).acc.find? (fun x => x.due.isNone && (match x.use with | .fetch _ => true | _ => false)) = some x → x.use = .fetch g → x.gone = false →
    (s.chan n).mov = none → (s.chan n).signal = false →
    ∃ t, exec (.dmaProgramFetch n d .ok) s = .next t ∧ t.mem = s.mem ∧ (t.chan n).acc = (s.chan n).acc.erase x ∧
      t.get (DMA.CH_CNT.RD_OUT n) = (((s.chan n).acc.erase x).filter (fun a => a.use.isRead && !a.got)).length % 1024 ∧
      ∀ k, k < 8 → t.chUnit n (8 * g + k) = some (bits d.toNat (128 * k) 128)) ∧
  (∀ (s : State) (n : Fin 4) (x : DmaAccess) (l : List DmaAccess) (m : DmaMove) (d : BitVec 512), s.dma.length = 4 → s.dmaRuns = true →
    (s.chan n).acc.filter (fun a => a.use == .read) = x :: l → (∀ y ∈ l, y.got = false) → x.due = none → x.got = false → x.gone = false →
    x.tbl = false → x.view = none → x.addr % 64 + x.len ≤ 64 → (s.chan n).mov = some m → m.asked = mvLen m.word →
    m.cut + m.data.length + x.len < mvLen m.word → (mvPace m.word = false ∨ l ≠ []) →
    ∃ t, exec (.dmaReadData n d .ok) s = .next t ∧
      (t.chan n).mov = some { m with data := m.data ++ ((natBytes d.toNat 64).drop (x.addr % 64)).take x.len } ∧
      (t.chan n).acc.filter (fun a => a.use == .read) = l ∧
      t.get (DMA.CH_CNT.BYTES_READ_LO n) + 2 ^ 36 * t.get (DMA.CH_CNT_HI.BYTES_READ_HI n) =
        (s.get (DMA.CH_CNT.BYTES_READ_LO n) + 2 ^ 36 * s.get (DMA.CH_CNT_HI.BYTES_READ_HI n) + x.len) % 2 ^ 48 ∧
      MemoryKeptOutside s t [(64 * (x.addr / 64), 64)]) ∧
  (∀ (s : State) (n : Fin 4) (x : DmaAccess) (m : DmaMove) (bs : List Byte) (d : BitVec 512), s.dma.length = 4 → s.chIssues n = true →
    s.dmaRuns = true → s.get (DMA.CH_STAT.STATE n) = DMA.running → (s.chan n).lowHalt = false → (s.chan n).acc = [x] → x.use = .read →
    x.due = none → x.got = false → x.gone = false → x.tbl = false → x.view = none → x.addr % 64 + x.len ≤ 64 → (s.chan n).mov = some m →
    mvMode m.word = 0 → mvSrcTbl m.word = false → mvDstTbl m.word = false → mvPace m.word = false → mvCount m.word = 0 → m.piece = 0 →
    m.part = [] → m.cut = 0 → m.buf = [] → bs = m.data ++ ((natBytes d.toNat 64).drop (x.addr % 64)).take x.len → bs.length = mvLen m.word →
    (∀ a, m.dst ≤ a → a < m.dst + mvLen m.word → s.dmaRoute n a true = .direct) →
    m.dst + mvLen m.word ≤ m.src ∨ m.src + mvLen m.word ≤ m.dst →
    s.stkApplies = false → (m.dst + mvLen m.word + 63) / 64 - m.dst / 64 ≤ 1023 → s.get (DMA.CH_STAT.PC n) + 1 < 2 ^ 24 →
    Fetchable s n (s.get (DMA.CH_STAT.PC n) + 1) →
    ∃ t, exec (.dmaReadData n d .ok) s = .next t ∧ (t.chan n).mov = none ∧
      (t.chan n).acc.filter (fun a => a.use == .write) =
        (splitGranules bs.length m.dst bs).map (fun w => { use := .write, addr := w.addr, bytes := w.bytes, sent := true }) ∧
      MemoryKeptOutside s t [(64 * (x.addr / 64), 64)] ∧
      t.get (DMA.CH_CNT.WR_OUT n) = (m.dst + mvLen m.word + 63) / 64 - m.dst / 64 ∧
      t.bytesWritten n = (s.bytesWritten n + mvLen m.word) % 2 ^ 48 ∧ t.get (DMA.CH_STAT.PC n) = s.get (DMA.CH_STAT.PC n) + 1)

/-- DMA_START, DMA_DISABLE, CQ_HEAD_WRITE, CQ_CONFIG_WRITE, DMA_WRITES_ACCEPTED, DMA_BUS_RETRY, DMQ_REQ_EDGE, DMQ_FILL_CHANGE and
MEMORY_WRITE_ERROR (R353, R375, R384, R386, R388 to R391, R484). START fetches the first five groups by R376 (the model's reading, log
entry 59). The refusals of CQ_HEAD and CQ_CTL and the return of TAIL and HEAD to zero rest on R461. What an error of an escape write does is
the model's choice (log entry 55). -/
def Obligations.DmaChannelsStartPaceRetryAndStop : Prop :=
  (∀ (s : State) (n : Fin 4), s.dma.length = 4 → HostUp s (keyDomains (DMA.CH_CMD.START n).key) → s.isM = true → s.chBusy n = false →
    s.eng.noStart = false → s.get (DMA.CH_CNT.RD_OUT n) = 0 → s.get (DMA.CH_CNT.WR_OUT n) = 0 → (s.chan n).haltPend = false →
    (s.chan n).halting = none → s.get (DMA.CH_PROG.ADDR n) % 16 = 0 → s.stkApplies = false →
    (∀ k, k < 5 → s.rawRouteN (s.get (DMA.CH_PROG.ADDR n) + 128 * k) 128 = .direct) →
    ∃ t, exec (.dmaStart n false) s = .next t ∧ t.mem = s.mem ∧ t.get (DMA.CH_STAT.STATE n) = DMA.running ∧ t.get (DMA.CH_STAT.PC n) = 0 ∧
      t.get (DMA.CH_STAT.ERR n) = 0 ∧ t.get (DMA.CH_STAT.PENDING n) = 0 ∧ t.get (DMA.CH_CNT.RETRIES n) = 0 ∧ t.bytesWritten n = 0 ∧
      (t.chan n).acc = (List.range 5).map (fun g => { use := .fetch g, addr := s.get (DMA.CH_PROG.ADDR n) + 128 * g, len := 128 }) ∧ t.get (DMA.CH_CNT.RD_OUT n) = 5 ∧ t.get (DMA.CQ_TAIL.COUNT n) = s.get (DMA.CQ_TAIL.COUNT n)) ∧
  (∀ (s : State) (n : Fin 4), HostUp s (keyDomains (DMA.CH_CMD.START n).key) → s.isM = true →
    s.chBusy n = true ∨ s.eng.noStart = true →
    ∃ t, exec (.dmaStart n false) s = .next t ∧ t.mem = s.mem ∧ t.dma = s.dma ∧ t.get (PAGE.REFUSED.REASON 12) = Reason.state.code ∧
      CountedOne (PAGE.REFUSED.COUNT 12) s t ∧ t.get (DMA.CH_STAT.STATE n) = s.get (DMA.CH_STAT.STATE n)) ∧
  (∀ (s : State) (n : Fin 4), HostUp s (keyDomains (DMA.CH_CMD.START n).key) → s.isM = true →
    ∃ t, exec (.dmaDisable n) s = .next t ∧ t.mem = s.mem ∧ t.out = s.out ∧ t.get (DMA.CH_STAT.STATE n) = DMA.disabled ∧
      t.get (DMA.CH_STAT.PC n) = s.get (DMA.CH_STAT.PC n) ∧ t.get (DMA.CH_STAT.ERR n) = s.get (DMA.CH_STAT.ERR n) ∧
      t.get (DMA.CQ_TAIL.COUNT n) = s.get (DMA.CQ_TAIL.COUNT n) ∧ t.get (DMA.CH_CNT.RETRIES n) = s.get (DMA.CH_CNT.RETRIES n) ∧
      (s.dma.length = 4 → (t.chan n).acc = giveUp (s.chan n).acc) ∧ ∀ k, k ≠ n.val → t.chan k = s.chan k) ∧
  (∀ (s : State) (n : Fin 4), HostUp s (keyDomains (DMA.CH_CMD.START n).key) → s.isM = true →
    ∃ t, exec (.dmaStart n true) s = .next t ∧ t.mem = s.mem ∧ t.get (DMA.CH_STAT.STATE n) = DMA.disabled ∧
      t.get (PAGE.REFUSED.REASON 12) = Reason.state.code) ∧
  (∀ (s : State) (n : Fin 4) (d : Word), HostUp s (keyDomains (DMA.CQ_HEAD.COUNT n).key) → s.isM = true → (s.chan n).haltPend = false →
    (s.chan n).signal = false → (s.get (DMA.CQ_TAIL.COUNT n) + 2 ^ 17 - d.toNat % 2 ^ 17) % 2 ^ 17 ≤ 2 ^ s.get (DMA.CQ_CTL.SIZE n) →
    ∃ t, exec (.cqHeadWrite n d) s = .next t ∧ t.get (DMA.CQ_HEAD.COUNT n) = d.toNat % 2 ^ 17 ∧ t.mem = s.mem ∧ t.dma = s.dma) ∧
  (∀ (s : State) (n : Fin 4) (d : Word), HostUp s (keyDomains (DMA.CQ_HEAD.COUNT n).key) → s.isM = true →
    2 ^ s.get (DMA.CQ_CTL.SIZE n) < (s.get (DMA.CQ_TAIL.COUNT n) + 2 ^ 17 - d.toNat % 2 ^ 17) % 2 ^ 17 →
    ∃ t, exec (.cqHeadWrite n d) s = .next t ∧ t.get (DMA.CQ_HEAD.COUNT n) = s.get (DMA.CQ_HEAD.COUNT n) ∧
      t.get (PAGE.REFUSED.REASON 12) = Reason.range.code) ∧
  (∀ (s : State) (n : Fin 4) (d : Word), HostUp s (keyDomains (DMA.CQ_CTL.SIZE n).key) → s.isM = true → s.chBusy n = false →
    (s.chan n).haltPend = false → (s.chan n).signal = false → 4 ≤ d.toNat % 32 → d.toNat % 32 ≤ 16 →
    ∃ t, exec (.cqConfigWrite n true d) s = .next t ∧ t.get (DMA.CQ_CTL.SIZE n) = d.toNat % 32 ∧ t.get (DMA.CQ_TAIL.COUNT n) = 0 ∧
      t.get (DMA.CQ_HEAD.COUNT n) = 0 ∧ t.mem = s.mem) ∧
  (∀ (s : State) (n : Fin 4) (ctl : Bool) (d : Word), HostUp s (keyDomains (if ctl then (DMA.CQ_CTL.SIZE n).key else (DMA.CQ_BASE.ADDR n).key)) →
    s.isM = true → s.chBusy n = true →
    ∃ t, exec (.cqConfigWrite n ctl d) s = .next t ∧ t.get (DMA.CQ_CTL.SIZE n) = s.get (DMA.CQ_CTL.SIZE n) ∧
      t.get (DMA.CQ_BASE.ADDR n) = s.get (DMA.CQ_BASE.ADDR n) ∧ t.get (PAGE.REFUSED.REASON 12) = Reason.state.code) ∧
  (∀ (s : State) (n : Fin 4), s.dma.length = 4 → s.dmaRuns = true → (s.chan n).mov = none → (s.chan n).signal = false → (s.chan n).halting = none →
    (s.chan n).haltPend = false → s.retrying n = false → s.chBusy n = false ∨ Fetchable s n (s.get (DMA.CH_STAT.PC n)) →
    ∃ t, exec (.dmaWritesAccepted n) s = .next t ∧ t.get (DMA.CH_CNT.WR_OUT n) = 0 ∧
      MemoryKeptOutside s t (((s.chan n).acc.filter (fun a => !a.use.isRead)).map (fun a => (a.addr, a.bytes.length))) ∧
      ∀ x ∈ (s.chan n).acc, x.use.isRead = false → ∀ i, i < x.bytes.length →
        (∀ y ∈ (s.chan n).acc, y.use.isRead = false → y = x ∨ y.addr + y.bytes.length ≤ x.addr + i ∨ x.addr + i < y.addr) →
        t.memByte (x.addr + i) = x.bytes.getD i 0) ∧
  (∀ (s : State) (n : Fin 4) (e : Nat), s.dma.length = 4 → s.dmaRuns = true → (s.chan n).mov = none → (s.chan n).signal = false →
    (s.chan n).halting = some e → e < 256 → (s.chan n).haltPend = false → (∀ a ∈ (s.chan n).acc, a.use.isRead = false ∧ a.due = none) →
    ∃ t, exec (.dmaWritesAccepted n) s = .next t ∧ t.get (DMA.CH_STAT.STATE n) = DMA.halted ∧
      t.get (DMA.CH_STAT.ERR n) = e ∧ (t.chan n).halting = none) ∧
  (∀ (s : State) (n : Fin 4) (now b : Beat) (x : DmaAccess) (g : Nat), s.dma.length = 4 → s.dmaRuns = true → (s.chan n).acc = [x] →
    x.use = .fetch g → x.tbl = false → x.due = some b → (s.at now).reached b = true → (s.at now).accHeld n x = false → (s.chan n).mov = none → (s.chan n).signal = false →
    s.rawRouteN x.addr 128 = .direct → s.chBusy n = false ∨ Fetchable s n (s.get (DMA.CH_STAT.PC n)) →
    ∃ t, exec (.dmaBusRetry n now .ok) s = .next t ∧ { x with due := none, retries := x.retries + 1, view := none } ∈ (t.chan n).acc ∧
      .memRead (64 * (x.addr / 64)) ∈ t.out ∧ CountedOne (DMA.CH_CNT.RETRIES n) s t ∧ t.mem = s.mem) ∧
  (∀ (s : State) (n : Fin 4) (now b : Beat) (x : DmaAccess), s.dma.length = 4 → s.dmaRuns = true → (s.chan n).acc = [x] → x.due = some b →
    (s.at now).reached b = true → (s.at now).accHeld n x = false → (s.chan n).halting = none → s.chBusy n = true → x.retries + 1 < s.get (DMA.CH_CTL.RETRIES n) →
    ∃ t, exec (.dmaBusRetry n now .error) s = .next t ∧
      (t.chan n).acc = [{ x with due := some ((s.at now).ahead 1024), retries := x.retries + 1 }] ∧ CountedOne (DMA.CH_CNT.RETRIES n) s t ∧
      t.mem = s.mem) ∧
  (∀ (s : State) (n : Fin 4) (now b : Beat) (x : DmaAccess), s.dma.length = 4 → s.dmaRuns = true → (s.chan n).acc = [x] → x.due = some b →
    (s.at now).reached b = true → (s.at now).accHeld n x = false → (s.chan n).halting = none → s.chBusy n = true → s.get (DMA.CH_CTL.RETRIES n) ≤ x.retries + 1 →
    ∃ t, exec (.dmaBusRetry n now .error) s = .next t ∧ t.get (DMA.CH_STAT.STATE n) = DMA.halted ∧ t.get (DMA.CH_STAT.ERR n) = 4 ∧ t.mem = s.mem) ∧
  (∀ (s : State) (n : Fin 4), s.dmaRuns = true → s.paceByFill = false → s.get (DMA.CH_STAT.PENDING n) < 15 →
    s.get (DMA.CH_STAT.STATE n) ≠ DMA.waiting ∨ s.get (DMA.CH_STAT.WAIT_ON n) ≠ 1 →
    ∃ t, exec (.dmqReqEdge n) s = .next t ∧ t.get (DMA.CH_STAT.PENDING n) = s.get (DMA.CH_STAT.PENDING n) + 1 ∧ t.mem = s.mem ∧ t.dma = s.dma) ∧
  (∀ (s : State) (n : Fin 4), s.dmaRuns = true → s.paceByFill = false → s.get (DMA.CH_STAT.PENDING n) = 15 →
    ∃ t, exec (.dmqReqEdge n) s = .next t ∧ t.get (DMA.CH_STAT.PENDING n) = 15 ∧ CountedOne (DMA.CH_STAT.REQ_OVERRUN n) s t ∧
      Raised (EV.DMA.DMA_REQ_OVERRUN n) t ∧ t.mem = s.mem) ∧
  (∀ (s : State) (n : Fin 4) (f : BitVec 12), s.dma.length = 4 → s.dmaRuns = true → s.paceByFill = true →
    s.get (DMA.CH_STAT.STATE n) ≠ DMA.waiting ∨ s.get (DMA.CH_STAT.WAIT_ON n) ≠ 2 →
    ∃ t, exec (.dmqFillChange n f) s = .next t ∧ t.fillOf n = f.toNat ∧ t.mem = s.mem ∧ t.regs = s.regs ∧
      (t.chan n).gateShut = (if s.get (DMA.CH_WM.HIGH n) ≤ f.toNat then true else if f.toNat ≤ s.get (DMA.CH_WM.LOW n) then false
        else (s.chan n).gateShut)) ∧
  (∀ (s : State) (n : Fin 4) (x : DmaAccess) (ans : MemAnswer) (e : Nat), s.dma.length = 4 →
    (ans, e) ∈ [(MemAnswer.denied, 5), (.drained, 7), (.poison, 8)] → s.engRuns = true → s.clkOn 1 = true → s.chBusy n = true →
    (s.chan n).halting = none → (s.chan n).acc = [x] → x.use.isRead = false → x.due = none →
    ∃ t, exec (.memoryWriteError (.dma n) ans) s = .next t ∧ t.get (DMA.CH_STAT.STATE n) = DMA.halted ∧ t.get (DMA.CH_STAT.ERR n) = e ∧
      t.mem = s.mem) ∧
  (∀ (s : State) (n : Fin 4) (x : DmaAccess) (ans : MemAnswer), s.dma.length = 4 → ans = .error ∨ ans = .retry → s.engRuns = true →
    s.clkOn 1 = true → s.chBusy n = true → (s.chan n).halting = none → (s.chan n).acc = [x] → x.use.isRead = false → x.due = none →
    x.retries < s.get (DMA.CH_CTL.RETRIES n) →
    ∃ t, exec (.memoryWriteError (.dma n) ans) s = .next t ∧ (t.chan n).acc = [{ x with due := some (s.ahead 1024) }] ∧ t.mem = s.mem ∧
      t.get (DMA.CH_CNT.WR_OUT n) = 1) ∧
  (∀ (s : State) (n : Fin 4) (x : DmaAccess) (d : BitVec 1024) (ans : MemAnswer) (e : Nat), s.dma.length = 4 →
    (ans, e) ∈ [(MemAnswer.denied, 5), (.drained, 7), (.poison, 8)] → s.dmaRuns = true → s.chBusy n = true → (s.chan n).halting = none →
    (s.chan n).acc = [x] → (∃ g, x.use = .fetch g) → x.gone = false → x.due = none →
    ∃ t, exec (.dmaProgramFetch n d ans) s = .next t ∧ t.get (DMA.CH_STAT.STATE n) = DMA.halted ∧ t.get (DMA.CH_STAT.ERR n) = e ∧
      t.mem = s.mem) ∧
  (∀ (s : State) (w : BitVec 10) (ans : MemAnswer), ans ≠ .ok → s.engRuns = true → s.win w.toNat WIN.STATE = 3 → w.toNat ∈ s.eng.closing →
    ∃ t, exec (.memoryWriteError (.close w) ans) s = .next t ∧ t.win w.toNat WIN.STATE = 5 ∧ bit (t.win w.toNat WIN.OUTCOME) 6 = true ∧
      bit (t.win w.toNat WIN.OUTCOME) 4 = true ∧ t.basin = s.basin) ∧
  (∀ (s : State) (w : BitVec 10) (ans : MemAnswer), ans ≠ .ok → s.engRuns = true → s.win w.toNat WIN.STATE = 3 → w.toNat ∈ s.eng.closing →
    s.win w.toNat WIN.CL_REC = 1 →
    ∃ t, exec (.memoryWriteError (.record w) ans) s = .next t ∧ t.win w.toNat WIN.STATE = 5 ∧ t.basin = s.basin ∧
      MemoryKeptOutside s t (if ans = .drained ∨ ans = .denied then [] else [(64 * s.win w.toNat WIN.REC_ADDR, 32)])) ∧
  (∀ (s : State) (ctx : BitVec 14) (ans : MemAnswer) (a len slot : Nat), ans ≠ .ok → s.engRuns = true →
    s.eng.escWrites.find? (fun e => e.1 == ctx.toNat) = some (ctx.toNat, a, len, slot) → s.lostQ.length < 64 →
    ∃ t, exec (.memoryWriteError (.escape ctx) ans) s = .next t ∧ (∀ i, i < len → t.memByte (a + i) = 0) ∧ MemoryKeptOutside s t [(a, len)] ∧
      (s.get DEFILE.ESC_STAT.NEXT = slot + 1 → t.get DEFILE.ESC_STAT.NEXT = slot) ∧
      t.lostQ = s.lostQ ++ [⟨ctx.toNat, 2, s.beat.toNat % 2 ^ 32⟩] ∧ Raised EV.TXN.CTX_LOST t)

/-! ### The whole machine -/

/-- What reset leaves (R53, R64, R67): the Col OFF and DIE_RST_N asserted, nothing queued, driven or reported, no table word, no Basin
line and no memory byte written, four idle DMA channels, and every register at the reset value of the register tables (18_register_pages_0_to_7.md
R443 to R452, 19_register_pages_8_to_15.md R453 to R464), some of which are written out. What unwritten tables and lines read as is free, and
memory reads as zero by choice (log entries 4 and 5); beat 0 and the empty bookkeeping are the model's choice too (log entry 73). -/
def Obligations.ResetLeavesTheRegisterTablesValues : Prop :=
  State.reset.pending = [] ∧ State.reset.chip.dieRst = true ∧ State.reset.chip.col = .off ∧ State.reset.out = [] ∧
  State.reset.lostQ = [] ∧ State.reset.beat = 0 ∧ State.reset.tbl = [] ∧ State.reset.basin = [] ∧ State.reset.mem = [] ∧
  State.reset.dma = List.replicate 4 {} ∧ InvariantHolds State.reset ∧ (∀ k, State.reset.reg k = regReset k) ∧
  (∀ i, i < 145 → State.reset.get (PHY.TX_DRIVE.CODE i) = 8) ∧
  (∀ n, n < 4 → State.reset.get (DMA.CH_CTL.BURST n) = 8 ∧ State.reset.get (DMA.CH_CTL.RETRIES n) = 3 ∧
    State.reset.get (DMA.CQ_CTL.SIZE n) = 4 ∧ State.reset.get (DMA.CH_STAT.STATE n) = DMA.idle) ∧
  State.reset.get PAIR.LEASE_CTL.LEN = 65536 ∧ State.reset.get PAIR.LEASE_CTL.RENEW = 16384 ∧ State.reset.get PAIR.LEASE_CTL.GUARD = 256 ∧
  State.reset.get RESET.COL_CTL.ENABLE = 0

/-- The invariant: memory keeps its canonical form and there are four DMA channels, whatever command a step takes, in every state. -/
def Obligations.EveryStepKeepsTheInvariant : Prop :=
  ∀ s t : State, InvariantHolds s → step s = .next t → InvariantHolds t

/-- What commands leave alone, for every command: the queue; die-local memory and its poison, the Basin, the sampled inputs, the test
unit and the DMA channels, except for the commands named in `Safety.lean`. -/
def Obligations.CommandsLeaveTheRestOfTheEndAlone : Prop :=
  (∀ (c : Instr) (s t : State), exec c s = .next t → t.pending = s.pending) ∧
  (∀ (c : Instr) (s t : State), c.mayStore = false → exec c s = .next t → (∀ a, t.memByte a = s.memByte a) ∧ t.poison = s.poison) ∧
  (∀ (c : Instr) (s t : State), c.mayChangeBasin = false → exec c s = .next t → ∀ l, t.line l = s.line l) ∧
  (∀ (c : Instr) (s t : State), c.mayMoveInputs = false → exec c s = .next t → t.inp = s.inp) ∧
  (∀ (c : Instr) (s t : State), c.mayChangeTest = false → exec c s = .next t → t.test = s.test) ∧
  (∀ (c : Instr) (s t : State), c.mayMoveChannels = false → exec c s = .next t → t.dma = s.dma)

/-- The commands that write few register pages leave every register of every other page as it was. -/
def Obligations.CommandsLeaveRegistersOfOtherPagesAlone : Prop :=
  ∀ (c : Instr) (pages : List Nat) (s t : State) (k : Nat), c.writesPages = some pages → exec c s = .next t → k / 4096 ∉ pages →
    t.reg k = s.reg k
end

