-- ==== Sys2Proof/Laws/State.lean ====
section
/-!
SUPPORT. What each plain update of the state leaves: one lemma a field, true by `rfl`, so that no later proof unfolds a record
update; and how the register map reads through updates of the other fields.
-/

namespace Sys2Proof.Machine

/-! ### setReg -/

@[simp] theorem State.setReg_pending (s : State) (k : Nat) (w : Word) : (s.setReg k w).pending = s.pending := rfl
@[simp] theorem State.setReg_out (s : State) (k : Nat) (w : Word) : (s.setReg k w).out = s.out := rfl
@[simp] theorem State.setReg_freeCtr (s : State) (k : Nat) (w : Word) : (s.setReg k w).freeCtr = s.freeCtr := rfl
@[simp] theorem State.setReg_epoch (s : State) (k : Nat) (w : Word) : (s.setReg k w).epoch = s.epoch := rfl
@[simp] theorem State.setReg_beat (s : State) (k : Nat) (w : Word) : (s.setReg k w).beat = s.beat := rfl
@[simp] theorem State.setReg_tbl (s : State) (k : Nat) (w : Word) : (s.setReg k w).tbl = s.tbl := rfl
@[simp] theorem State.setReg_tblZeroed (s : State) (k : Nat) (w : Word) : (s.setReg k w).tblZeroed = s.tblZeroed := rfl
@[simp] theorem State.setReg_basin (s : State) (k : Nat) (w : Word) : (s.setReg k w).basin = s.basin := rfl
@[simp] theorem State.setReg_basinZeroed (s : State) (k : Nat) (w : Word) : (s.setReg k w).basinZeroed = s.basinZeroed := rfl
@[simp] theorem State.setReg_mem (s : State) (k : Nat) (w : Word) : (s.setReg k w).mem = s.mem := rfl
@[simp] theorem State.setReg_poison (s : State) (k : Nat) (w : Word) : (s.setReg k w).poison = s.poison := rfl
@[simp] theorem State.setReg_chip (s : State) (k : Nat) (w : Word) : (s.setReg k w).chip = s.chip := rfl
@[simp] theorem State.setReg_sb (s : State) (k : Nat) (w : Word) : (s.setReg k w).sb = s.sb := rfl
@[simp] theorem State.setReg_inp (s : State) (k : Nat) (w : Word) : (s.setReg k w).inp = s.inp := rfl
@[simp] theorem State.setReg_lostQ (s : State) (k : Nat) (w : Word) : (s.setReg k w).lostQ = s.lostQ := rfl
@[simp] theorem State.setReg_lostOvf (s : State) (k : Nat) (w : Word) : (s.setReg k w).lostOvf = s.lostOvf := rfl
@[simp] theorem State.setReg_cal (s : State) (k : Nat) (w : Word) : (s.setReg k w).cal = s.cal := rfl
@[simp] theorem State.setReg_rep (s : State) (k : Nat) (w : Word) : (s.setReg k w).rep = s.rep := rfl
@[simp] theorem State.setReg_susp (s : State) (k : Nat) (w : Word) : (s.setReg k w).susp = s.susp := rfl
@[simp] theorem State.setReg_lnk (s : State) (k : Nat) (w : Word) : (s.setReg k w).lnk = s.lnk := rfl
@[simp] theorem State.setReg_txn (s : State) (k : Nat) (w : Word) : (s.setReg k w).txn = s.txn := rfl
@[simp] theorem State.setReg_pwr (s : State) (k : Nat) (w : Word) : (s.setReg k w).pwr = s.pwr := rfl
@[simp] theorem State.setReg_marks (s : State) (k : Nat) (w : Word) : (s.setReg k w).marks = s.marks := rfl
@[simp] theorem State.setReg_pair (s : State) (k : Nat) (w : Word) : (s.setReg k w).pair = s.pair := rfl
@[simp] theorem State.setReg_dma (s : State) (k : Nat) (w : Word) : (s.setReg k w).dma = s.dma := rfl
@[simp] theorem State.setReg_eng (s : State) (k : Nat) (w : Word) : (s.setReg k w).eng = s.eng := rfl
@[simp] theorem State.setReg_arrays (s : State) (k : Nat) (w : Word) : (s.setReg k w).arrays = s.arrays := rfl
@[simp] theorem State.setReg_test (s : State) (k : Nat) (w : Word) : (s.setReg k w).test = s.test := rfl

/-! ### put -/

@[simp] theorem State.put_pending (s : State) (f : Field) (v : Nat) : (s.put f v).pending = s.pending := rfl
@[simp] theorem State.put_out (s : State) (f : Field) (v : Nat) : (s.put f v).out = s.out := rfl
@[simp] theorem State.put_freeCtr (s : State) (f : Field) (v : Nat) : (s.put f v).freeCtr = s.freeCtr := rfl
@[simp] theorem State.put_epoch (s : State) (f : Field) (v : Nat) : (s.put f v).epoch = s.epoch := rfl
@[simp] theorem State.put_beat (s : State) (f : Field) (v : Nat) : (s.put f v).beat = s.beat := rfl
@[simp] theorem State.put_tbl (s : State) (f : Field) (v : Nat) : (s.put f v).tbl = s.tbl := rfl
@[simp] theorem State.put_tblZeroed (s : State) (f : Field) (v : Nat) : (s.put f v).tblZeroed = s.tblZeroed := rfl
@[simp] theorem State.put_basin (s : State) (f : Field) (v : Nat) : (s.put f v).basin = s.basin := rfl
@[simp] theorem State.put_basinZeroed (s : State) (f : Field) (v : Nat) : (s.put f v).basinZeroed = s.basinZeroed := rfl
@[simp] theorem State.put_mem (s : State) (f : Field) (v : Nat) : (s.put f v).mem = s.mem := rfl
@[simp] theorem State.put_poison (s : State) (f : Field) (v : Nat) : (s.put f v).poison = s.poison := rfl
@[simp] theorem State.put_chip (s : State) (f : Field) (v : Nat) : (s.put f v).chip = s.chip := rfl
@[simp] theorem State.put_sb (s : State) (f : Field) (v : Nat) : (s.put f v).sb = s.sb := rfl
@[simp] theorem State.put_inp (s : State) (f : Field) (v : Nat) : (s.put f v).inp = s.inp := rfl
@[simp] theorem State.put_lostQ (s : State) (f : Field) (v : Nat) : (s.put f v).lostQ = s.lostQ := rfl
@[simp] theorem State.put_lostOvf (s : State) (f : Field) (v : Nat) : (s.put f v).lostOvf = s.lostOvf := rfl
@[simp] theorem State.put_cal (s : State) (f : Field) (v : Nat) : (s.put f v).cal = s.cal := rfl
@[simp] theorem State.put_rep (s : State) (f : Field) (v : Nat) : (s.put f v).rep = s.rep := rfl
@[simp] theorem State.put_susp (s : State) (f : Field) (v : Nat) : (s.put f v).susp = s.susp := rfl
@[simp] theorem State.put_lnk (s : State) (f : Field) (v : Nat) : (s.put f v).lnk = s.lnk := rfl
@[simp] theorem State.put_txn (s : State) (f : Field) (v : Nat) : (s.put f v).txn = s.txn := rfl
@[simp] theorem State.put_pwr (s : State) (f : Field) (v : Nat) : (s.put f v).pwr = s.pwr := rfl
@[simp] theorem State.put_marks (s : State) (f : Field) (v : Nat) : (s.put f v).marks = s.marks := rfl
@[simp] theorem State.put_pair (s : State) (f : Field) (v : Nat) : (s.put f v).pair = s.pair := rfl
@[simp] theorem State.put_dma (s : State) (f : Field) (v : Nat) : (s.put f v).dma = s.dma := rfl
@[simp] theorem State.put_eng (s : State) (f : Field) (v : Nat) : (s.put f v).eng = s.eng := rfl
@[simp] theorem State.put_arrays (s : State) (f : Field) (v : Nat) : (s.put f v).arrays = s.arrays := rfl
@[simp] theorem State.put_test (s : State) (f : Field) (v : Nat) : (s.put f v).test = s.test := rfl

/-! ### bumpBy -/

@[simp] theorem State.bumpBy_pending (s : State) (f : Field) (n : Nat) : (s.bumpBy f n).pending = s.pending := rfl
@[simp] theorem State.bumpBy_out (s : State) (f : Field) (n : Nat) : (s.bumpBy f n).out = s.out := rfl
@[simp] theorem State.bumpBy_freeCtr (s : State) (f : Field) (n : Nat) : (s.bumpBy f n).freeCtr = s.freeCtr := rfl
@[simp] theorem State.bumpBy_epoch (s : State) (f : Field) (n : Nat) : (s.bumpBy f n).epoch = s.epoch := rfl
@[simp] theorem State.bumpBy_beat (s : State) (f : Field) (n : Nat) : (s.bumpBy f n).beat = s.beat := rfl
@[simp] theorem State.bumpBy_tbl (s : State) (f : Field) (n : Nat) : (s.bumpBy f n).tbl = s.tbl := rfl
@[simp] theorem State.bumpBy_tblZeroed (s : State) (f : Field) (n : Nat) : (s.bumpBy f n).tblZeroed = s.tblZeroed := rfl
@[simp] theorem State.bumpBy_basin (s : State) (f : Field) (n : Nat) : (s.bumpBy f n).basin = s.basin := rfl
@[simp] theorem State.bumpBy_basinZeroed (s : State) (f : Field) (n : Nat) : (s.bumpBy f n).basinZeroed = s.basinZeroed := rfl
@[simp] theorem State.bumpBy_mem (s : State) (f : Field) (n : Nat) : (s.bumpBy f n).mem = s.mem := rfl
@[simp] theorem State.bumpBy_poison (s : State) (f : Field) (n : Nat) : (s.bumpBy f n).poison = s.poison := rfl
@[simp] theorem State.bumpBy_chip (s : State) (f : Field) (n : Nat) : (s.bumpBy f n).chip = s.chip := rfl
@[simp] theorem State.bumpBy_sb (s : State) (f : Field) (n : Nat) : (s.bumpBy f n).sb = s.sb := rfl
@[simp] theorem State.bumpBy_inp (s : State) (f : Field) (n : Nat) : (s.bumpBy f n).inp = s.inp := rfl
@[simp] theorem State.bumpBy_lostQ (s : State) (f : Field) (n : Nat) : (s.bumpBy f n).lostQ = s.lostQ := rfl
@[simp] theorem State.bumpBy_lostOvf (s : State) (f : Field) (n : Nat) : (s.bumpBy f n).lostOvf = s.lostOvf := rfl
@[simp] theorem State.bumpBy_cal (s : State) (f : Field) (n : Nat) : (s.bumpBy f n).cal = s.cal := rfl
@[simp] theorem State.bumpBy_rep (s : State) (f : Field) (n : Nat) : (s.bumpBy f n).rep = s.rep := rfl
@[simp] theorem State.bumpBy_susp (s : State) (f : Field) (n : Nat) : (s.bumpBy f n).susp = s.susp := rfl
@[simp] theorem State.bumpBy_lnk (s : State) (f : Field) (n : Nat) : (s.bumpBy f n).lnk = s.lnk := rfl
@[simp] theorem State.bumpBy_txn (s : State) (f : Field) (n : Nat) : (s.bumpBy f n).txn = s.txn := rfl
@[simp] theorem State.bumpBy_pwr (s : State) (f : Field) (n : Nat) : (s.bumpBy f n).pwr = s.pwr := rfl
@[simp] theorem State.bumpBy_marks (s : State) (f : Field) (n : Nat) : (s.bumpBy f n).marks = s.marks := rfl
@[simp] theorem State.bumpBy_pair (s : State) (f : Field) (n : Nat) : (s.bumpBy f n).pair = s.pair := rfl
@[simp] theorem State.bumpBy_dma (s : State) (f : Field) (n : Nat) : (s.bumpBy f n).dma = s.dma := rfl
@[simp] theorem State.bumpBy_eng (s : State) (f : Field) (n : Nat) : (s.bumpBy f n).eng = s.eng := rfl
@[simp] theorem State.bumpBy_arrays (s : State) (f : Field) (n : Nat) : (s.bumpBy f n).arrays = s.arrays := rfl
@[simp] theorem State.bumpBy_test (s : State) (f : Field) (n : Nat) : (s.bumpBy f n).test = s.test := rfl

/-! ### bump -/

@[simp] theorem State.bump_pending (s : State) (f : Field) : (s.bump f).pending = s.pending := rfl
@[simp] theorem State.bump_out (s : State) (f : Field) : (s.bump f).out = s.out := rfl
@[simp] theorem State.bump_freeCtr (s : State) (f : Field) : (s.bump f).freeCtr = s.freeCtr := rfl
@[simp] theorem State.bump_epoch (s : State) (f : Field) : (s.bump f).epoch = s.epoch := rfl
@[simp] theorem State.bump_beat (s : State) (f : Field) : (s.bump f).beat = s.beat := rfl
@[simp] theorem State.bump_tbl (s : State) (f : Field) : (s.bump f).tbl = s.tbl := rfl
@[simp] theorem State.bump_tblZeroed (s : State) (f : Field) : (s.bump f).tblZeroed = s.tblZeroed := rfl
@[simp] theorem State.bump_basin (s : State) (f : Field) : (s.bump f).basin = s.basin := rfl
@[simp] theorem State.bump_basinZeroed (s : State) (f : Field) : (s.bump f).basinZeroed = s.basinZeroed := rfl
@[simp] theorem State.bump_mem (s : State) (f : Field) : (s.bump f).mem = s.mem := rfl
@[simp] theorem State.bump_poison (s : State) (f : Field) : (s.bump f).poison = s.poison := rfl
@[simp] theorem State.bump_chip (s : State) (f : Field) : (s.bump f).chip = s.chip := rfl
@[simp] theorem State.bump_sb (s : State) (f : Field) : (s.bump f).sb = s.sb := rfl
@[simp] theorem State.bump_inp (s : State) (f : Field) : (s.bump f).inp = s.inp := rfl
@[simp] theorem State.bump_lostQ (s : State) (f : Field) : (s.bump f).lostQ = s.lostQ := rfl
@[simp] theorem State.bump_lostOvf (s : State) (f : Field) : (s.bump f).lostOvf = s.lostOvf := rfl
@[simp] theorem State.bump_cal (s : State) (f : Field) : (s.bump f).cal = s.cal := rfl
@[simp] theorem State.bump_rep (s : State) (f : Field) : (s.bump f).rep = s.rep := rfl
@[simp] theorem State.bump_susp (s : State) (f : Field) : (s.bump f).susp = s.susp := rfl
@[simp] theorem State.bump_lnk (s : State) (f : Field) : (s.bump f).lnk = s.lnk := rfl
@[simp] theorem State.bump_txn (s : State) (f : Field) : (s.bump f).txn = s.txn := rfl
@[simp] theorem State.bump_pwr (s : State) (f : Field) : (s.bump f).pwr = s.pwr := rfl
@[simp] theorem State.bump_marks (s : State) (f : Field) : (s.bump f).marks = s.marks := rfl
@[simp] theorem State.bump_pair (s : State) (f : Field) : (s.bump f).pair = s.pair := rfl
@[simp] theorem State.bump_dma (s : State) (f : Field) : (s.bump f).dma = s.dma := rfl
@[simp] theorem State.bump_eng (s : State) (f : Field) : (s.bump f).eng = s.eng := rfl
@[simp] theorem State.bump_arrays (s : State) (f : Field) : (s.bump f).arrays = s.arrays := rfl
@[simp] theorem State.bump_test (s : State) (f : Field) : (s.bump f).test = s.test := rfl

/-! ### emit -/

@[simp] theorem State.emit_pending (s : State) (o : Out) : (s.emit o).pending = s.pending := rfl
@[simp] theorem State.emit_freeCtr (s : State) (o : Out) : (s.emit o).freeCtr = s.freeCtr := rfl
@[simp] theorem State.emit_epoch (s : State) (o : Out) : (s.emit o).epoch = s.epoch := rfl
@[simp] theorem State.emit_beat (s : State) (o : Out) : (s.emit o).beat = s.beat := rfl
@[simp] theorem State.emit_regs (s : State) (o : Out) : (s.emit o).regs = s.regs := rfl
@[simp] theorem State.emit_tbl (s : State) (o : Out) : (s.emit o).tbl = s.tbl := rfl
@[simp] theorem State.emit_tblZeroed (s : State) (o : Out) : (s.emit o).tblZeroed = s.tblZeroed := rfl
@[simp] theorem State.emit_basin (s : State) (o : Out) : (s.emit o).basin = s.basin := rfl
@[simp] theorem State.emit_basinZeroed (s : State) (o : Out) : (s.emit o).basinZeroed = s.basinZeroed := rfl
@[simp] theorem State.emit_mem (s : State) (o : Out) : (s.emit o).mem = s.mem := rfl
@[simp] theorem State.emit_poison (s : State) (o : Out) : (s.emit o).poison = s.poison := rfl
@[simp] theorem State.emit_chip (s : State) (o : Out) : (s.emit o).chip = s.chip := rfl
@[simp] theorem State.emit_sb (s : State) (o : Out) : (s.emit o).sb = s.sb := rfl
@[simp] theorem State.emit_inp (s : State) (o : Out) : (s.emit o).inp = s.inp := rfl
@[simp] theorem State.emit_lostQ (s : State) (o : Out) : (s.emit o).lostQ = s.lostQ := rfl
@[simp] theorem State.emit_lostOvf (s : State) (o : Out) : (s.emit o).lostOvf = s.lostOvf := rfl
@[simp] theorem State.emit_cal (s : State) (o : Out) : (s.emit o).cal = s.cal := rfl
@[simp] theorem State.emit_rep (s : State) (o : Out) : (s.emit o).rep = s.rep := rfl
@[simp] theorem State.emit_susp (s : State) (o : Out) : (s.emit o).susp = s.susp := rfl
@[simp] theorem State.emit_lnk (s : State) (o : Out) : (s.emit o).lnk = s.lnk := rfl
@[simp] theorem State.emit_txn (s : State) (o : Out) : (s.emit o).txn = s.txn := rfl
@[simp] theorem State.emit_pwr (s : State) (o : Out) : (s.emit o).pwr = s.pwr := rfl
@[simp] theorem State.emit_marks (s : State) (o : Out) : (s.emit o).marks = s.marks := rfl
@[simp] theorem State.emit_pair (s : State) (o : Out) : (s.emit o).pair = s.pair := rfl
@[simp] theorem State.emit_dma (s : State) (o : Out) : (s.emit o).dma = s.dma := rfl
@[simp] theorem State.emit_eng (s : State) (o : Out) : (s.emit o).eng = s.eng := rfl
@[simp] theorem State.emit_arrays (s : State) (o : Out) : (s.emit o).arrays = s.arrays := rfl
@[simp] theorem State.emit_test (s : State) (o : Out) : (s.emit o).test = s.test := rfl
@[simp] theorem State.emit_out (s : State) (o : Out) : (s.emit o).out = o :: s.out := rfl

/-! ### mbRead -/

@[simp] theorem State.mbRead_pending (s : State) (d : Word) : (s.mbRead d).pending = s.pending := rfl
@[simp] theorem State.mbRead_freeCtr (s : State) (d : Word) : (s.mbRead d).freeCtr = s.freeCtr := rfl
@[simp] theorem State.mbRead_epoch (s : State) (d : Word) : (s.mbRead d).epoch = s.epoch := rfl
@[simp] theorem State.mbRead_beat (s : State) (d : Word) : (s.mbRead d).beat = s.beat := rfl
@[simp] theorem State.mbRead_regs (s : State) (d : Word) : (s.mbRead d).regs = s.regs := rfl
@[simp] theorem State.mbRead_tbl (s : State) (d : Word) : (s.mbRead d).tbl = s.tbl := rfl
@[simp] theorem State.mbRead_tblZeroed (s : State) (d : Word) : (s.mbRead d).tblZeroed = s.tblZeroed := rfl
@[simp] theorem State.mbRead_basin (s : State) (d : Word) : (s.mbRead d).basin = s.basin := rfl
@[simp] theorem State.mbRead_basinZeroed (s : State) (d : Word) : (s.mbRead d).basinZeroed = s.basinZeroed := rfl
@[simp] theorem State.mbRead_mem (s : State) (d : Word) : (s.mbRead d).mem = s.mem := rfl
@[simp] theorem State.mbRead_poison (s : State) (d : Word) : (s.mbRead d).poison = s.poison := rfl
@[simp] theorem State.mbRead_chip (s : State) (d : Word) : (s.mbRead d).chip = s.chip := rfl
@[simp] theorem State.mbRead_sb (s : State) (d : Word) : (s.mbRead d).sb = s.sb := rfl
@[simp] theorem State.mbRead_inp (s : State) (d : Word) : (s.mbRead d).inp = s.inp := rfl
@[simp] theorem State.mbRead_lostQ (s : State) (d : Word) : (s.mbRead d).lostQ = s.lostQ := rfl
@[simp] theorem State.mbRead_lostOvf (s : State) (d : Word) : (s.mbRead d).lostOvf = s.lostOvf := rfl
@[simp] theorem State.mbRead_cal (s : State) (d : Word) : (s.mbRead d).cal = s.cal := rfl
@[simp] theorem State.mbRead_rep (s : State) (d : Word) : (s.mbRead d).rep = s.rep := rfl
@[simp] theorem State.mbRead_susp (s : State) (d : Word) : (s.mbRead d).susp = s.susp := rfl
@[simp] theorem State.mbRead_lnk (s : State) (d : Word) : (s.mbRead d).lnk = s.lnk := rfl
@[simp] theorem State.mbRead_txn (s : State) (d : Word) : (s.mbRead d).txn = s.txn := rfl
@[simp] theorem State.mbRead_pwr (s : State) (d : Word) : (s.mbRead d).pwr = s.pwr := rfl
@[simp] theorem State.mbRead_marks (s : State) (d : Word) : (s.mbRead d).marks = s.marks := rfl
@[simp] theorem State.mbRead_pair (s : State) (d : Word) : (s.mbRead d).pair = s.pair := rfl
@[simp] theorem State.mbRead_dma (s : State) (d : Word) : (s.mbRead d).dma = s.dma := rfl
@[simp] theorem State.mbRead_eng (s : State) (d : Word) : (s.mbRead d).eng = s.eng := rfl
@[simp] theorem State.mbRead_arrays (s : State) (d : Word) : (s.mbRead d).arrays = s.arrays := rfl
@[simp] theorem State.mbRead_test (s : State) (d : Word) : (s.mbRead d).test = s.test := rfl
@[simp] theorem State.mbRead_out (s : State) (d : Word) : (s.mbRead d).out = .mb d false :: s.out := rfl

/-! ### setMem -/

@[simp] theorem State.setMem_pending (s : State) (a : Nat) (b : Byte) : (s.setMem a b).pending = s.pending := rfl
@[simp] theorem State.setMem_out (s : State) (a : Nat) (b : Byte) : (s.setMem a b).out = s.out := rfl
@[simp] theorem State.setMem_freeCtr (s : State) (a : Nat) (b : Byte) : (s.setMem a b).freeCtr = s.freeCtr := rfl
@[simp] theorem State.setMem_epoch (s : State) (a : Nat) (b : Byte) : (s.setMem a b).epoch = s.epoch := rfl
@[simp] theorem State.setMem_beat (s : State) (a : Nat) (b : Byte) : (s.setMem a b).beat = s.beat := rfl
@[simp] theorem State.setMem_regs (s : State) (a : Nat) (b : Byte) : (s.setMem a b).regs = s.regs := rfl
@[simp] theorem State.setMem_tbl (s : State) (a : Nat) (b : Byte) : (s.setMem a b).tbl = s.tbl := rfl
@[simp] theorem State.setMem_tblZeroed (s : State) (a : Nat) (b : Byte) : (s.setMem a b).tblZeroed = s.tblZeroed := rfl
@[simp] theorem State.setMem_basin (s : State) (a : Nat) (b : Byte) : (s.setMem a b).basin = s.basin := rfl
@[simp] theorem State.setMem_basinZeroed (s : State) (a : Nat) (b : Byte) : (s.setMem a b).basinZeroed = s.basinZeroed := rfl
@[simp] theorem State.setMem_poison (s : State) (a : Nat) (b : Byte) : (s.setMem a b).poison = s.poison := rfl
@[simp] theorem State.setMem_chip (s : State) (a : Nat) (b : Byte) : (s.setMem a b).chip = s.chip := rfl
@[simp] theorem State.setMem_sb (s : State) (a : Nat) (b : Byte) : (s.setMem a b).sb = s.sb := rfl
@[simp] theorem State.setMem_inp (s : State) (a : Nat) (b : Byte) : (s.setMem a b).inp = s.inp := rfl
@[simp] theorem State.setMem_lostQ (s : State) (a : Nat) (b : Byte) : (s.setMem a b).lostQ = s.lostQ := rfl
@[simp] theorem State.setMem_lostOvf (s : State) (a : Nat) (b : Byte) : (s.setMem a b).lostOvf = s.lostOvf := rfl
@[simp] theorem State.setMem_cal (s : State) (a : Nat) (b : Byte) : (s.setMem a b).cal = s.cal := rfl
@[simp] theorem State.setMem_rep (s : State) (a : Nat) (b : Byte) : (s.setMem a b).rep = s.rep := rfl
@[simp] theorem State.setMem_susp (s : State) (a : Nat) (b : Byte) : (s.setMem a b).susp = s.susp := rfl
@[simp] theorem State.setMem_lnk (s : State) (a : Nat) (b : Byte) : (s.setMem a b).lnk = s.lnk := rfl
@[simp] theorem State.setMem_txn (s : State) (a : Nat) (b : Byte) : (s.setMem a b).txn = s.txn := rfl
@[simp] theorem State.setMem_pwr (s : State) (a : Nat) (b : Byte) : (s.setMem a b).pwr = s.pwr := rfl
@[simp] theorem State.setMem_marks (s : State) (a : Nat) (b : Byte) : (s.setMem a b).marks = s.marks := rfl
@[simp] theorem State.setMem_pair (s : State) (a : Nat) (b : Byte) : (s.setMem a b).pair = s.pair := rfl
@[simp] theorem State.setMem_dma (s : State) (a : Nat) (b : Byte) : (s.setMem a b).dma = s.dma := rfl
@[simp] theorem State.setMem_eng (s : State) (a : Nat) (b : Byte) : (s.setMem a b).eng = s.eng := rfl
@[simp] theorem State.setMem_arrays (s : State) (a : Nat) (b : Byte) : (s.setMem a b).arrays = s.arrays := rfl
@[simp] theorem State.setMem_test (s : State) (a : Nat) (b : Byte) : (s.setMem a b).test = s.test := rfl

/-! ### lineIs, wordsWritten and setLine -/

@[simp] theorem State.lineIs_pending (s : State) (n : Nat) (l : Line) : (s.lineIs n l).pending = s.pending := rfl
@[simp] theorem State.lineIs_out (s : State) (n : Nat) (l : Line) : (s.lineIs n l).out = s.out := rfl
@[simp] theorem State.lineIs_freeCtr (s : State) (n : Nat) (l : Line) : (s.lineIs n l).freeCtr = s.freeCtr := rfl
@[simp] theorem State.lineIs_epoch (s : State) (n : Nat) (l : Line) : (s.lineIs n l).epoch = s.epoch := rfl
@[simp] theorem State.lineIs_beat (s : State) (n : Nat) (l : Line) : (s.lineIs n l).beat = s.beat := rfl
@[simp] theorem State.lineIs_regs (s : State) (n : Nat) (l : Line) : (s.lineIs n l).regs = s.regs := rfl
@[simp] theorem State.lineIs_tbl (s : State) (n : Nat) (l : Line) : (s.lineIs n l).tbl = s.tbl := rfl
@[simp] theorem State.lineIs_tblZeroed (s : State) (n : Nat) (l : Line) : (s.lineIs n l).tblZeroed = s.tblZeroed := rfl
@[simp] theorem State.lineIs_basinZeroed (s : State) (n : Nat) (l : Line) : (s.lineIs n l).basinZeroed = s.basinZeroed := rfl
@[simp] theorem State.lineIs_mem (s : State) (n : Nat) (l : Line) : (s.lineIs n l).mem = s.mem := rfl
@[simp] theorem State.lineIs_poison (s : State) (n : Nat) (l : Line) : (s.lineIs n l).poison = s.poison := rfl
@[simp] theorem State.lineIs_chip (s : State) (n : Nat) (l : Line) : (s.lineIs n l).chip = s.chip := rfl
@[simp] theorem State.lineIs_sb (s : State) (n : Nat) (l : Line) : (s.lineIs n l).sb = s.sb := rfl
@[simp] theorem State.lineIs_inp (s : State) (n : Nat) (l : Line) : (s.lineIs n l).inp = s.inp := rfl
@[simp] theorem State.lineIs_lostQ (s : State) (n : Nat) (l : Line) : (s.lineIs n l).lostQ = s.lostQ := rfl
@[simp] theorem State.lineIs_lostOvf (s : State) (n : Nat) (l : Line) : (s.lineIs n l).lostOvf = s.lostOvf := rfl
@[simp] theorem State.lineIs_cal (s : State) (n : Nat) (l : Line) : (s.lineIs n l).cal = s.cal := rfl
@[simp] theorem State.lineIs_rep (s : State) (n : Nat) (l : Line) : (s.lineIs n l).rep = s.rep := rfl
@[simp] theorem State.lineIs_susp (s : State) (n : Nat) (l : Line) : (s.lineIs n l).susp = s.susp := rfl
@[simp] theorem State.lineIs_lnk (s : State) (n : Nat) (l : Line) : (s.lineIs n l).lnk = s.lnk := rfl
@[simp] theorem State.lineIs_txn (s : State) (n : Nat) (l : Line) : (s.lineIs n l).txn = s.txn := rfl
@[simp] theorem State.lineIs_pwr (s : State) (n : Nat) (l : Line) : (s.lineIs n l).pwr = s.pwr := rfl
@[simp] theorem State.lineIs_marks (s : State) (n : Nat) (l : Line) : (s.lineIs n l).marks = s.marks := rfl
@[simp] theorem State.lineIs_pair (s : State) (n : Nat) (l : Line) : (s.lineIs n l).pair = s.pair := rfl
@[simp] theorem State.lineIs_dma (s : State) (n : Nat) (l : Line) : (s.lineIs n l).dma = s.dma := rfl
@[simp] theorem State.lineIs_eng (s : State) (n : Nat) (l : Line) : (s.lineIs n l).eng = s.eng := rfl
@[simp] theorem State.lineIs_arrays (s : State) (n : Nat) (l : Line) : (s.lineIs n l).arrays = s.arrays := rfl
@[simp] theorem State.lineIs_test (s : State) (n : Nat) (l : Line) : (s.lineIs n l).test = s.test := rfl

/-- A word that is written changes the arrays' correction state alone. -/
theorem State.wordWritten_eq (s : State) (w : Nat × Nat) : ∃ l, s.wordWritten w = { s with arrays := l } := by
  unfold State.wordWritten
  split
  · simp only []
    split
    · exact ⟨_, rfl⟩
    · exact ⟨s.arrays, rfl⟩
  · exact ⟨s.arrays, rfl⟩

/-- Words that are written change the arrays' correction state alone. -/
theorem State.wordsWritten_eq (s : State) (a first n : Nat) : ∃ l, s.wordsWritten a first n = { s with arrays := l } := by
  have fold : ∀ (ws : List Nat) (t : State), ∃ l, ws.foldl (fun t i => t.wordWritten (a, i)) t = { t with arrays := l } := by
    intro ws
    induction ws with
    | nil => exact fun t => ⟨t.arrays, rfl⟩
    | cons w ws ih =>
      intro t
      obtain ⟨l1, h1⟩ := State.wordWritten_eq t (a, w)
      obtain ⟨l2, h2⟩ := ih (t.wordWritten (a, w))
      exact ⟨l2, h2.trans (by rw [h1])⟩
  unfold State.wordsWritten
  split
  · exact ⟨s.arrays, rfl⟩
  · exact fold _ s

/-- A line that is written changes the Basin and the arrays' correction state. -/
theorem State.setLine_eq (s : State) (n : Nat) (v : Line) : ∃ l, s.setLine n v = { s.lineIs n v with arrays := l } :=
  State.wordsWritten_eq (s.lineIs n v) 11 (4 * n) 4

@[simp] theorem State.setLine_pending (s : State) (n : Nat) (l : Line) : (s.setLine n l).pending = s.pending := by
  obtain ⟨_, h⟩ := State.setLine_eq s n l; rw [h]; rfl
@[simp] theorem State.setLine_out (s : State) (n : Nat) (l : Line) : (s.setLine n l).out = s.out := by
  obtain ⟨_, h⟩ := State.setLine_eq s n l; rw [h]; rfl
@[simp] theorem State.setLine_freeCtr (s : State) (n : Nat) (l : Line) : (s.setLine n l).freeCtr = s.freeCtr := by
  obtain ⟨_, h⟩ := State.setLine_eq s n l; rw [h]; rfl
@[simp] theorem State.setLine_epoch (s : State) (n : Nat) (l : Line) : (s.setLine n l).epoch = s.epoch := by
  obtain ⟨_, h⟩ := State.setLine_eq s n l; rw [h]; rfl
@[simp] theorem State.setLine_beat (s : State) (n : Nat) (l : Line) : (s.setLine n l).beat = s.beat := by
  obtain ⟨_, h⟩ := State.setLine_eq s n l; rw [h]; rfl
@[simp] theorem State.setLine_regs (s : State) (n : Nat) (l : Line) : (s.setLine n l).regs = s.regs := by
  obtain ⟨_, h⟩ := State.setLine_eq s n l; rw [h]; rfl
@[simp] theorem State.setLine_tbl (s : State) (n : Nat) (l : Line) : (s.setLine n l).tbl = s.tbl := by
  obtain ⟨_, h⟩ := State.setLine_eq s n l; rw [h]; rfl
@[simp] theorem State.setLine_tblZeroed (s : State) (n : Nat) (l : Line) : (s.setLine n l).tblZeroed = s.tblZeroed := by
  obtain ⟨_, h⟩ := State.setLine_eq s n l; rw [h]; rfl
@[simp] theorem State.setLine_basinZeroed (s : State) (n : Nat) (l : Line) : (s.setLine n l).basinZeroed = s.basinZeroed := by
  obtain ⟨_, h⟩ := State.setLine_eq s n l; rw [h]; rfl
@[simp] theorem State.setLine_mem (s : State) (n : Nat) (l : Line) : (s.setLine n l).mem = s.mem := by
  obtain ⟨_, h⟩ := State.setLine_eq s n l; rw [h]; rfl
@[simp] theorem State.setLine_poison (s : State) (n : Nat) (l : Line) : (s.setLine n l).poison = s.poison := by
  obtain ⟨_, h⟩ := State.setLine_eq s n l; rw [h]; rfl
@[simp] theorem State.setLine_chip (s : State) (n : Nat) (l : Line) : (s.setLine n l).chip = s.chip := by
  obtain ⟨_, h⟩ := State.setLine_eq s n l; rw [h]; rfl
@[simp] theorem State.setLine_sb (s : State) (n : Nat) (l : Line) : (s.setLine n l).sb = s.sb := by
  obtain ⟨_, h⟩ := State.setLine_eq s n l; rw [h]; rfl
@[simp] theorem State.setLine_inp (s : State) (n : Nat) (l : Line) : (s.setLine n l).inp = s.inp := by
  obtain ⟨_, h⟩ := State.setLine_eq s n l; rw [h]; rfl
@[simp] theorem State.setLine_lostQ (s : State) (n : Nat) (l : Line) : (s.setLine n l).lostQ = s.lostQ := by
  obtain ⟨_, h⟩ := State.setLine_eq s n l; rw [h]; rfl
@[simp] theorem State.setLine_lostOvf (s : State) (n : Nat) (l : Line) : (s.setLine n l).lostOvf = s.lostOvf := by
  obtain ⟨_, h⟩ := State.setLine_eq s n l; rw [h]; rfl
@[simp] theorem State.setLine_cal (s : State) (n : Nat) (l : Line) : (s.setLine n l).cal = s.cal := by
  obtain ⟨_, h⟩ := State.setLine_eq s n l; rw [h]; rfl
@[simp] theorem State.setLine_rep (s : State) (n : Nat) (l : Line) : (s.setLine n l).rep = s.rep := by
  obtain ⟨_, h⟩ := State.setLine_eq s n l; rw [h]; rfl
@[simp] theorem State.setLine_susp (s : State) (n : Nat) (l : Line) : (s.setLine n l).susp = s.susp := by
  obtain ⟨_, h⟩ := State.setLine_eq s n l; rw [h]; rfl
@[simp] theorem State.setLine_lnk (s : State) (n : Nat) (l : Line) : (s.setLine n l).lnk = s.lnk := by
  obtain ⟨_, h⟩ := State.setLine_eq s n l; rw [h]; rfl
@[simp] theorem State.setLine_txn (s : State) (n : Nat) (l : Line) : (s.setLine n l).txn = s.txn := by
  obtain ⟨_, h⟩ := State.setLine_eq s n l; rw [h]; rfl
@[simp] theorem State.setLine_pwr (s : State) (n : Nat) (l : Line) : (s.setLine n l).pwr = s.pwr := by
  obtain ⟨_, h⟩ := State.setLine_eq s n l; rw [h]; rfl
@[simp] theorem State.setLine_marks (s : State) (n : Nat) (l : Line) : (s.setLine n l).marks = s.marks := by
  obtain ⟨_, h⟩ := State.setLine_eq s n l; rw [h]; rfl
@[simp] theorem State.setLine_pair (s : State) (n : Nat) (l : Line) : (s.setLine n l).pair = s.pair := by
  obtain ⟨_, h⟩ := State.setLine_eq s n l; rw [h]; rfl
@[simp] theorem State.setLine_dma (s : State) (n : Nat) (l : Line) : (s.setLine n l).dma = s.dma := by
  obtain ⟨_, h⟩ := State.setLine_eq s n l; rw [h]; rfl
@[simp] theorem State.setLine_eng (s : State) (n : Nat) (l : Line) : (s.setLine n l).eng = s.eng := by
  obtain ⟨_, h⟩ := State.setLine_eq s n l; rw [h]; rfl
@[simp] theorem State.setLine_test (s : State) (n : Nat) (l : Line) : (s.setLine n l).test = s.test := by
  obtain ⟨_, h⟩ := State.setLine_eq s n l; rw [h]; rfl

/-! ### setCal -/

@[simp] theorem State.setCal_pending (s : State) (f : Cal → Cal) : (s.setCal f).pending = s.pending := rfl
@[simp] theorem State.setCal_out (s : State) (f : Cal → Cal) : (s.setCal f).out = s.out := rfl
@[simp] theorem State.setCal_freeCtr (s : State) (f : Cal → Cal) : (s.setCal f).freeCtr = s.freeCtr := rfl
@[simp] theorem State.setCal_epoch (s : State) (f : Cal → Cal) : (s.setCal f).epoch = s.epoch := rfl
@[simp] theorem State.setCal_beat (s : State) (f : Cal → Cal) : (s.setCal f).beat = s.beat := rfl
@[simp] theorem State.setCal_regs (s : State) (f : Cal → Cal) : (s.setCal f).regs = s.regs := rfl
@[simp] theorem State.setCal_tbl (s : State) (f : Cal → Cal) : (s.setCal f).tbl = s.tbl := rfl
@[simp] theorem State.setCal_tblZeroed (s : State) (f : Cal → Cal) : (s.setCal f).tblZeroed = s.tblZeroed := rfl
@[simp] theorem State.setCal_basin (s : State) (f : Cal → Cal) : (s.setCal f).basin = s.basin := rfl
@[simp] theorem State.setCal_basinZeroed (s : State) (f : Cal → Cal) : (s.setCal f).basinZeroed = s.basinZeroed := rfl
@[simp] theorem State.setCal_mem (s : State) (f : Cal → Cal) : (s.setCal f).mem = s.mem := rfl
@[simp] theorem State.setCal_poison (s : State) (f : Cal → Cal) : (s.setCal f).poison = s.poison := rfl
@[simp] theorem State.setCal_chip (s : State) (f : Cal → Cal) : (s.setCal f).chip = s.chip := rfl
@[simp] theorem State.setCal_sb (s : State) (f : Cal → Cal) : (s.setCal f).sb = s.sb := rfl
@[simp] theorem State.setCal_inp (s : State) (f : Cal → Cal) : (s.setCal f).inp = s.inp := rfl
@[simp] theorem State.setCal_lostQ (s : State) (f : Cal → Cal) : (s.setCal f).lostQ = s.lostQ := rfl
@[simp] theorem State.setCal_lostOvf (s : State) (f : Cal → Cal) : (s.setCal f).lostOvf = s.lostOvf := rfl
@[simp] theorem State.setCal_rep (s : State) (f : Cal → Cal) : (s.setCal f).rep = s.rep := rfl
@[simp] theorem State.setCal_susp (s : State) (f : Cal → Cal) : (s.setCal f).susp = s.susp := rfl
@[simp] theorem State.setCal_lnk (s : State) (f : Cal → Cal) : (s.setCal f).lnk = s.lnk := rfl
@[simp] theorem State.setCal_txn (s : State) (f : Cal → Cal) : (s.setCal f).txn = s.txn := rfl
@[simp] theorem State.setCal_pwr (s : State) (f : Cal → Cal) : (s.setCal f).pwr = s.pwr := rfl
@[simp] theorem State.setCal_marks (s : State) (f : Cal → Cal) : (s.setCal f).marks = s.marks := rfl
@[simp] theorem State.setCal_pair (s : State) (f : Cal → Cal) : (s.setCal f).pair = s.pair := rfl
@[simp] theorem State.setCal_dma (s : State) (f : Cal → Cal) : (s.setCal f).dma = s.dma := rfl
@[simp] theorem State.setCal_eng (s : State) (f : Cal → Cal) : (s.setCal f).eng = s.eng := rfl
@[simp] theorem State.setCal_arrays (s : State) (f : Cal → Cal) : (s.setCal f).arrays = s.arrays := rfl
@[simp] theorem State.setCal_test (s : State) (f : Cal → Cal) : (s.setCal f).test = s.test := rfl
@[simp] theorem State.setCal_cal (s : State) (f : Cal → Cal) : (s.setCal f).cal = f s.cal := rfl

/-! ### setProps -/

@[simp] theorem State.setProps_pending (s : State) (l : List Proposal) : (s.setProps l).pending = s.pending := rfl
@[simp] theorem State.setProps_out (s : State) (l : List Proposal) : (s.setProps l).out = s.out := rfl
@[simp] theorem State.setProps_freeCtr (s : State) (l : List Proposal) : (s.setProps l).freeCtr = s.freeCtr := rfl
@[simp] theorem State.setProps_epoch (s : State) (l : List Proposal) : (s.setProps l).epoch = s.epoch := rfl
@[simp] theorem State.setProps_beat (s : State) (l : List Proposal) : (s.setProps l).beat = s.beat := rfl
@[simp] theorem State.setProps_regs (s : State) (l : List Proposal) : (s.setProps l).regs = s.regs := rfl
@[simp] theorem State.setProps_tbl (s : State) (l : List Proposal) : (s.setProps l).tbl = s.tbl := rfl
@[simp] theorem State.setProps_tblZeroed (s : State) (l : List Proposal) : (s.setProps l).tblZeroed = s.tblZeroed := rfl
@[simp] theorem State.setProps_basin (s : State) (l : List Proposal) : (s.setProps l).basin = s.basin := rfl
@[simp] theorem State.setProps_basinZeroed (s : State) (l : List Proposal) : (s.setProps l).basinZeroed = s.basinZeroed := rfl
@[simp] theorem State.setProps_mem (s : State) (l : List Proposal) : (s.setProps l).mem = s.mem := rfl
@[simp] theorem State.setProps_poison (s : State) (l : List Proposal) : (s.setProps l).poison = s.poison := rfl
@[simp] theorem State.setProps_chip (s : State) (l : List Proposal) : (s.setProps l).chip = s.chip := rfl
@[simp] theorem State.setProps_sb (s : State) (l : List Proposal) : (s.setProps l).sb = s.sb := rfl
@[simp] theorem State.setProps_inp (s : State) (l : List Proposal) : (s.setProps l).inp = s.inp := rfl
@[simp] theorem State.setProps_lostQ (s : State) (l : List Proposal) : (s.setProps l).lostQ = s.lostQ := rfl
@[simp] theorem State.setProps_lostOvf (s : State) (l : List Proposal) : (s.setProps l).lostOvf = s.lostOvf := rfl
@[simp] theorem State.setProps_cal (s : State) (l : List Proposal) : (s.setProps l).cal = s.cal := rfl
@[simp] theorem State.setProps_susp (s : State) (l : List Proposal) : (s.setProps l).susp = s.susp := rfl
@[simp] theorem State.setProps_lnk (s : State) (l : List Proposal) : (s.setProps l).lnk = s.lnk := rfl
@[simp] theorem State.setProps_txn (s : State) (l : List Proposal) : (s.setProps l).txn = s.txn := rfl
@[simp] theorem State.setProps_pwr (s : State) (l : List Proposal) : (s.setProps l).pwr = s.pwr := rfl
@[simp] theorem State.setProps_marks (s : State) (l : List Proposal) : (s.setProps l).marks = s.marks := rfl
@[simp] theorem State.setProps_pair (s : State) (l : List Proposal) : (s.setProps l).pair = s.pair := rfl
@[simp] theorem State.setProps_dma (s : State) (l : List Proposal) : (s.setProps l).dma = s.dma := rfl
@[simp] theorem State.setProps_eng (s : State) (l : List Proposal) : (s.setProps l).eng = s.eng := rfl
@[simp] theorem State.setProps_arrays (s : State) (l : List Proposal) : (s.setProps l).arrays = s.arrays := rfl
@[simp] theorem State.setProps_test (s : State) (l : List Proposal) : (s.setProps l).test = s.test := rfl
@[simp] theorem State.setProps_rep (s : State) (l : List Proposal) : (s.setProps l).rep = { s.rep with props := l } := rfl

/-! ### setLnk -/

@[simp] theorem State.setLnk_pending (s : State) (f : Link → Link) : (s.setLnk f).pending = s.pending := rfl
@[simp] theorem State.setLnk_out (s : State) (f : Link → Link) : (s.setLnk f).out = s.out := rfl
@[simp] theorem State.setLnk_freeCtr (s : State) (f : Link → Link) : (s.setLnk f).freeCtr = s.freeCtr := rfl
@[simp] theorem State.setLnk_epoch (s : State) (f : Link → Link) : (s.setLnk f).epoch = s.epoch := rfl
@[simp] theorem State.setLnk_beat (s : State) (f : Link → Link) : (s.setLnk f).beat = s.beat := rfl
@[simp] theorem State.setLnk_regs (s : State) (f : Link → Link) : (s.setLnk f).regs = s.regs := rfl
@[simp] theorem State.setLnk_tbl (s : State) (f : Link → Link) : (s.setLnk f).tbl = s.tbl := rfl
@[simp] theorem State.setLnk_tblZeroed (s : State) (f : Link → Link) : (s.setLnk f).tblZeroed = s.tblZeroed := rfl
@[simp] theorem State.setLnk_basin (s : State) (f : Link → Link) : (s.setLnk f).basin = s.basin := rfl
@[simp] theorem State.setLnk_basinZeroed (s : State) (f : Link → Link) : (s.setLnk f).basinZeroed = s.basinZeroed := rfl
@[simp] theorem State.setLnk_mem (s : State) (f : Link → Link) : (s.setLnk f).mem = s.mem := rfl
@[simp] theorem State.setLnk_poison (s : State) (f : Link → Link) : (s.setLnk f).poison = s.poison := rfl
@[simp] theorem State.setLnk_chip (s : State) (f : Link → Link) : (s.setLnk f).chip = s.chip := rfl
@[simp] theorem State.setLnk_sb (s : State) (f : Link → Link) : (s.setLnk f).sb = s.sb := rfl
@[simp] theorem State.setLnk_inp (s : State) (f : Link → Link) : (s.setLnk f).inp = s.inp := rfl
@[simp] theorem State.setLnk_lostQ (s : State) (f : Link → Link) : (s.setLnk f).lostQ = s.lostQ := rfl
@[simp] theorem State.setLnk_lostOvf (s : State) (f : Link → Link) : (s.setLnk f).lostOvf = s.lostOvf := rfl
@[simp] theorem State.setLnk_cal (s : State) (f : Link → Link) : (s.setLnk f).cal = s.cal := rfl
@[simp] theorem State.setLnk_rep (s : State) (f : Link → Link) : (s.setLnk f).rep = s.rep := rfl
@[simp] theorem State.setLnk_susp (s : State) (f : Link → Link) : (s.setLnk f).susp = s.susp := rfl
@[simp] theorem State.setLnk_txn (s : State) (f : Link → Link) : (s.setLnk f).txn = s.txn := rfl
@[simp] theorem State.setLnk_pwr (s : State) (f : Link → Link) : (s.setLnk f).pwr = s.pwr := rfl
@[simp] theorem State.setLnk_marks (s : State) (f : Link → Link) : (s.setLnk f).marks = s.marks := rfl
@[simp] theorem State.setLnk_pair (s : State) (f : Link → Link) : (s.setLnk f).pair = s.pair := rfl
@[simp] theorem State.setLnk_dma (s : State) (f : Link → Link) : (s.setLnk f).dma = s.dma := rfl
@[simp] theorem State.setLnk_eng (s : State) (f : Link → Link) : (s.setLnk f).eng = s.eng := rfl
@[simp] theorem State.setLnk_arrays (s : State) (f : Link → Link) : (s.setLnk f).arrays = s.arrays := rfl
@[simp] theorem State.setLnk_test (s : State) (f : Link → Link) : (s.setLnk f).test = s.test := rfl
@[simp] theorem State.setLnk_lnk (s : State) (f : Link → Link) : (s.setLnk f).lnk = f s.lnk := rfl

/-! ### setTxn -/

@[simp] theorem State.setTxn_pending (s : State) (f : Txns → Txns) : (s.setTxn f).pending = s.pending := rfl
@[simp] theorem State.setTxn_out (s : State) (f : Txns → Txns) : (s.setTxn f).out = s.out := rfl
@[simp] theorem State.setTxn_freeCtr (s : State) (f : Txns → Txns) : (s.setTxn f).freeCtr = s.freeCtr := rfl
@[simp] theorem State.setTxn_epoch (s : State) (f : Txns → Txns) : (s.setTxn f).epoch = s.epoch := rfl
@[simp] theorem State.setTxn_beat (s : State) (f : Txns → Txns) : (s.setTxn f).beat = s.beat := rfl
@[simp] theorem State.setTxn_regs (s : State) (f : Txns → Txns) : (s.setTxn f).regs = s.regs := rfl
@[simp] theorem State.setTxn_tbl (s : State) (f : Txns → Txns) : (s.setTxn f).tbl = s.tbl := rfl
@[simp] theorem State.setTxn_tblZeroed (s : State) (f : Txns → Txns) : (s.setTxn f).tblZeroed = s.tblZeroed := rfl
@[simp] theorem State.setTxn_basin (s : State) (f : Txns → Txns) : (s.setTxn f).basin = s.basin := rfl
@[simp] theorem State.setTxn_basinZeroed (s : State) (f : Txns → Txns) : (s.setTxn f).basinZeroed = s.basinZeroed := rfl
@[simp] theorem State.setTxn_mem (s : State) (f : Txns → Txns) : (s.setTxn f).mem = s.mem := rfl
@[simp] theorem State.setTxn_poison (s : State) (f : Txns → Txns) : (s.setTxn f).poison = s.poison := rfl
@[simp] theorem State.setTxn_chip (s : State) (f : Txns → Txns) : (s.setTxn f).chip = s.chip := rfl
@[simp] theorem State.setTxn_sb (s : State) (f : Txns → Txns) : (s.setTxn f).sb = s.sb := rfl
@[simp] theorem State.setTxn_inp (s : State) (f : Txns → Txns) : (s.setTxn f).inp = s.inp := rfl
@[simp] theorem State.setTxn_lostQ (s : State) (f : Txns → Txns) : (s.setTxn f).lostQ = s.lostQ := rfl
@[simp] theorem State.setTxn_lostOvf (s : State) (f : Txns → Txns) : (s.setTxn f).lostOvf = s.lostOvf := rfl
@[simp] theorem State.setTxn_cal (s : State) (f : Txns → Txns) : (s.setTxn f).cal = s.cal := rfl
@[simp] theorem State.setTxn_rep (s : State) (f : Txns → Txns) : (s.setTxn f).rep = s.rep := rfl
@[simp] theorem State.setTxn_susp (s : State) (f : Txns → Txns) : (s.setTxn f).susp = s.susp := rfl
@[simp] theorem State.setTxn_lnk (s : State) (f : Txns → Txns) : (s.setTxn f).lnk = s.lnk := rfl
@[simp] theorem State.setTxn_pwr (s : State) (f : Txns → Txns) : (s.setTxn f).pwr = s.pwr := rfl
@[simp] theorem State.setTxn_marks (s : State) (f : Txns → Txns) : (s.setTxn f).marks = s.marks := rfl
@[simp] theorem State.setTxn_pair (s : State) (f : Txns → Txns) : (s.setTxn f).pair = s.pair := rfl
@[simp] theorem State.setTxn_dma (s : State) (f : Txns → Txns) : (s.setTxn f).dma = s.dma := rfl
@[simp] theorem State.setTxn_eng (s : State) (f : Txns → Txns) : (s.setTxn f).eng = s.eng := rfl
@[simp] theorem State.setTxn_arrays (s : State) (f : Txns → Txns) : (s.setTxn f).arrays = s.arrays := rfl
@[simp] theorem State.setTxn_test (s : State) (f : Txns → Txns) : (s.setTxn f).test = s.test := rfl
@[simp] theorem State.setTxn_txn (s : State) (f : Txns → Txns) : (s.setTxn f).txn = f s.txn := rfl

/-! ### setPwr -/

@[simp] theorem State.setPwr_pending (s : State) (f : Power → Power) : (s.setPwr f).pending = s.pending := rfl
@[simp] theorem State.setPwr_out (s : State) (f : Power → Power) : (s.setPwr f).out = s.out := rfl
@[simp] theorem State.setPwr_freeCtr (s : State) (f : Power → Power) : (s.setPwr f).freeCtr = s.freeCtr := rfl
@[simp] theorem State.setPwr_epoch (s : State) (f : Power → Power) : (s.setPwr f).epoch = s.epoch := rfl
@[simp] theorem State.setPwr_beat (s : State) (f : Power → Power) : (s.setPwr f).beat = s.beat := rfl
@[simp] theorem State.setPwr_regs (s : State) (f : Power → Power) : (s.setPwr f).regs = s.regs := rfl
@[simp] theorem State.setPwr_tbl (s : State) (f : Power → Power) : (s.setPwr f).tbl = s.tbl := rfl
@[simp] theorem State.setPwr_tblZeroed (s : State) (f : Power → Power) : (s.setPwr f).tblZeroed = s.tblZeroed := rfl
@[simp] theorem State.setPwr_basin (s : State) (f : Power → Power) : (s.setPwr f).basin = s.basin := rfl
@[simp] theorem State.setPwr_basinZeroed (s : State) (f : Power → Power) : (s.setPwr f).basinZeroed = s.basinZeroed := rfl
@[simp] theorem State.setPwr_mem (s : State) (f : Power → Power) : (s.setPwr f).mem = s.mem := rfl
@[simp] theorem State.setPwr_poison (s : State) (f : Power → Power) : (s.setPwr f).poison = s.poison := rfl
@[simp] theorem State.setPwr_chip (s : State) (f : Power → Power) : (s.setPwr f).chip = s.chip := rfl
@[simp] theorem State.setPwr_sb (s : State) (f : Power → Power) : (s.setPwr f).sb = s.sb := rfl
@[simp] theorem State.setPwr_inp (s : State) (f : Power → Power) : (s.setPwr f).inp = s.inp := rfl
@[simp] theorem State.setPwr_lostQ (s : State) (f : Power → Power) : (s.setPwr f).lostQ = s.lostQ := rfl
@[simp] theorem State.setPwr_lostOvf (s : State) (f : Power → Power) : (s.setPwr f).lostOvf = s.lostOvf := rfl
@[simp] theorem State.setPwr_cal (s : State) (f : Power → Power) : (s.setPwr f).cal = s.cal := rfl
@[simp] theorem State.setPwr_rep (s : State) (f : Power → Power) : (s.setPwr f).rep = s.rep := rfl
@[simp] theorem State.setPwr_susp (s : State) (f : Power → Power) : (s.setPwr f).susp = s.susp := rfl
@[simp] theorem State.setPwr_lnk (s : State) (f : Power → Power) : (s.setPwr f).lnk = s.lnk := rfl
@[simp] theorem State.setPwr_txn (s : State) (f : Power → Power) : (s.setPwr f).txn = s.txn := rfl
@[simp] theorem State.setPwr_marks (s : State) (f : Power → Power) : (s.setPwr f).marks = s.marks := rfl
@[simp] theorem State.setPwr_pair (s : State) (f : Power → Power) : (s.setPwr f).pair = s.pair := rfl
@[simp] theorem State.setPwr_dma (s : State) (f : Power → Power) : (s.setPwr f).dma = s.dma := rfl
@[simp] theorem State.setPwr_eng (s : State) (f : Power → Power) : (s.setPwr f).eng = s.eng := rfl
@[simp] theorem State.setPwr_arrays (s : State) (f : Power → Power) : (s.setPwr f).arrays = s.arrays := rfl
@[simp] theorem State.setPwr_test (s : State) (f : Power → Power) : (s.setPwr f).test = s.test := rfl
@[simp] theorem State.setPwr_pwr (s : State) (f : Power → Power) : (s.setPwr f).pwr = f s.pwr := rfl

/-! ### setPair -/

@[simp] theorem State.setPair_pending (s : State) (f : Pair → Pair) : (s.setPair f).pending = s.pending := rfl
@[simp] theorem State.setPair_out (s : State) (f : Pair → Pair) : (s.setPair f).out = s.out := rfl
@[simp] theorem State.setPair_freeCtr (s : State) (f : Pair → Pair) : (s.setPair f).freeCtr = s.freeCtr := rfl
@[simp] theorem State.setPair_epoch (s : State) (f : Pair → Pair) : (s.setPair f).epoch = s.epoch := rfl
@[simp] theorem State.setPair_beat (s : State) (f : Pair → Pair) : (s.setPair f).beat = s.beat := rfl
@[simp] theorem State.setPair_regs (s : State) (f : Pair → Pair) : (s.setPair f).regs = s.regs := rfl
@[simp] theorem State.setPair_tbl (s : State) (f : Pair → Pair) : (s.setPair f).tbl = s.tbl := rfl
@[simp] theorem State.setPair_tblZeroed (s : State) (f : Pair → Pair) : (s.setPair f).tblZeroed = s.tblZeroed := rfl
@[simp] theorem State.setPair_basin (s : State) (f : Pair → Pair) : (s.setPair f).basin = s.basin := rfl
@[simp] theorem State.setPair_basinZeroed (s : State) (f : Pair → Pair) : (s.setPair f).basinZeroed = s.basinZeroed := rfl
@[simp] theorem State.setPair_mem (s : State) (f : Pair → Pair) : (s.setPair f).mem = s.mem := rfl
@[simp] theorem State.setPair_poison (s : State) (f : Pair → Pair) : (s.setPair f).poison = s.poison := rfl
@[simp] theorem State.setPair_chip (s : State) (f : Pair → Pair) : (s.setPair f).chip = s.chip := rfl
@[simp] theorem State.setPair_sb (s : State) (f : Pair → Pair) : (s.setPair f).sb = s.sb := rfl
@[simp] theorem State.setPair_inp (s : State) (f : Pair → Pair) : (s.setPair f).inp = s.inp := rfl
@[simp] theorem State.setPair_lostQ (s : State) (f : Pair → Pair) : (s.setPair f).lostQ = s.lostQ := rfl
@[simp] theorem State.setPair_lostOvf (s : State) (f : Pair → Pair) : (s.setPair f).lostOvf = s.lostOvf := rfl
@[simp] theorem State.setPair_cal (s : State) (f : Pair → Pair) : (s.setPair f).cal = s.cal := rfl
@[simp] theorem State.setPair_rep (s : State) (f : Pair → Pair) : (s.setPair f).rep = s.rep := rfl
@[simp] theorem State.setPair_susp (s : State) (f : Pair → Pair) : (s.setPair f).susp = s.susp := rfl
@[simp] theorem State.setPair_lnk (s : State) (f : Pair → Pair) : (s.setPair f).lnk = s.lnk := rfl
@[simp] theorem State.setPair_txn (s : State) (f : Pair → Pair) : (s.setPair f).txn = s.txn := rfl
@[simp] theorem State.setPair_pwr (s : State) (f : Pair → Pair) : (s.setPair f).pwr = s.pwr := rfl
@[simp] theorem State.setPair_marks (s : State) (f : Pair → Pair) : (s.setPair f).marks = s.marks := rfl
@[simp] theorem State.setPair_dma (s : State) (f : Pair → Pair) : (s.setPair f).dma = s.dma := rfl
@[simp] theorem State.setPair_eng (s : State) (f : Pair → Pair) : (s.setPair f).eng = s.eng := rfl
@[simp] theorem State.setPair_arrays (s : State) (f : Pair → Pair) : (s.setPair f).arrays = s.arrays := rfl
@[simp] theorem State.setPair_test (s : State) (f : Pair → Pair) : (s.setPair f).test = s.test := rfl
@[simp] theorem State.setPair_pair (s : State) (f : Pair → Pair) : (s.setPair f).pair = f s.pair := rfl

/-! ### setChan -/

@[simp] theorem State.setChan_pending (s : State) (n : Nat) (f : DmaChan → DmaChan) : (s.setChan n f).pending = s.pending := rfl
@[simp] theorem State.setChan_out (s : State) (n : Nat) (f : DmaChan → DmaChan) : (s.setChan n f).out = s.out := rfl
@[simp] theorem State.setChan_freeCtr (s : State) (n : Nat) (f : DmaChan → DmaChan) : (s.setChan n f).freeCtr = s.freeCtr := rfl
@[simp] theorem State.setChan_epoch (s : State) (n : Nat) (f : DmaChan → DmaChan) : (s.setChan n f).epoch = s.epoch := rfl
@[simp] theorem State.setChan_beat (s : State) (n : Nat) (f : DmaChan → DmaChan) : (s.setChan n f).beat = s.beat := rfl
@[simp] theorem State.setChan_regs (s : State) (n : Nat) (f : DmaChan → DmaChan) : (s.setChan n f).regs = s.regs := rfl
@[simp] theorem State.setChan_tbl (s : State) (n : Nat) (f : DmaChan → DmaChan) : (s.setChan n f).tbl = s.tbl := rfl
@[simp] theorem State.setChan_tblZeroed (s : State) (n : Nat) (f : DmaChan → DmaChan) : (s.setChan n f).tblZeroed = s.tblZeroed := rfl
@[simp] theorem State.setChan_basin (s : State) (n : Nat) (f : DmaChan → DmaChan) : (s.setChan n f).basin = s.basin := rfl
@[simp] theorem State.setChan_basinZeroed (s : State) (n : Nat) (f : DmaChan → DmaChan) : (s.setChan n f).basinZeroed = s.basinZeroed := rfl
@[simp] theorem State.setChan_mem (s : State) (n : Nat) (f : DmaChan → DmaChan) : (s.setChan n f).mem = s.mem := rfl
@[simp] theorem State.setChan_poison (s : State) (n : Nat) (f : DmaChan → DmaChan) : (s.setChan n f).poison = s.poison := rfl
@[simp] theorem State.setChan_chip (s : State) (n : Nat) (f : DmaChan → DmaChan) : (s.setChan n f).chip = s.chip := rfl
@[simp] theorem State.setChan_sb (s : State) (n : Nat) (f : DmaChan → DmaChan) : (s.setChan n f).sb = s.sb := rfl
@[simp] theorem State.setChan_inp (s : State) (n : Nat) (f : DmaChan → DmaChan) : (s.setChan n f).inp = s.inp := rfl
@[simp] theorem State.setChan_lostQ (s : State) (n : Nat) (f : DmaChan → DmaChan) : (s.setChan n f).lostQ = s.lostQ := rfl
@[simp] theorem State.setChan_lostOvf (s : State) (n : Nat) (f : DmaChan → DmaChan) : (s.setChan n f).lostOvf = s.lostOvf := rfl
@[simp] theorem State.setChan_cal (s : State) (n : Nat) (f : DmaChan → DmaChan) : (s.setChan n f).cal = s.cal := rfl
@[simp] theorem State.setChan_rep (s : State) (n : Nat) (f : DmaChan → DmaChan) : (s.setChan n f).rep = s.rep := rfl
@[simp] theorem State.setChan_susp (s : State) (n : Nat) (f : DmaChan → DmaChan) : (s.setChan n f).susp = s.susp := rfl
@[simp] theorem State.setChan_lnk (s : State) (n : Nat) (f : DmaChan → DmaChan) : (s.setChan n f).lnk = s.lnk := rfl
@[simp] theorem State.setChan_txn (s : State) (n : Nat) (f : DmaChan → DmaChan) : (s.setChan n f).txn = s.txn := rfl
@[simp] theorem State.setChan_pwr (s : State) (n : Nat) (f : DmaChan → DmaChan) : (s.setChan n f).pwr = s.pwr := rfl
@[simp] theorem State.setChan_marks (s : State) (n : Nat) (f : DmaChan → DmaChan) : (s.setChan n f).marks = s.marks := rfl
@[simp] theorem State.setChan_pair (s : State) (n : Nat) (f : DmaChan → DmaChan) : (s.setChan n f).pair = s.pair := rfl
@[simp] theorem State.setChan_eng (s : State) (n : Nat) (f : DmaChan → DmaChan) : (s.setChan n f).eng = s.eng := rfl
@[simp] theorem State.setChan_arrays (s : State) (n : Nat) (f : DmaChan → DmaChan) : (s.setChan n f).arrays = s.arrays := rfl
@[simp] theorem State.setChan_test (s : State) (n : Nat) (f : DmaChan → DmaChan) : (s.setChan n f).test = s.test := rfl
@[simp] theorem State.setChan_dma (s : State) (n : Nat) (f : DmaChan → DmaChan) : (s.setChan n f).dma = s.dma.modify n f := rfl

/-! ### setTest -/

@[simp] theorem State.setTest_pending (s : State) (f : TestLogic → TestLogic) : (s.setTest f).pending = s.pending := rfl
@[simp] theorem State.setTest_out (s : State) (f : TestLogic → TestLogic) : (s.setTest f).out = s.out := rfl
@[simp] theorem State.setTest_freeCtr (s : State) (f : TestLogic → TestLogic) : (s.setTest f).freeCtr = s.freeCtr := rfl
@[simp] theorem State.setTest_epoch (s : State) (f : TestLogic → TestLogic) : (s.setTest f).epoch = s.epoch := rfl
@[simp] theorem State.setTest_beat (s : State) (f : TestLogic → TestLogic) : (s.setTest f).beat = s.beat := rfl
@[simp] theorem State.setTest_regs (s : State) (f : TestLogic → TestLogic) : (s.setTest f).regs = s.regs := rfl
@[simp] theorem State.setTest_tbl (s : State) (f : TestLogic → TestLogic) : (s.setTest f).tbl = s.tbl := rfl
@[simp] theorem State.setTest_tblZeroed (s : State) (f : TestLogic → TestLogic) : (s.setTest f).tblZeroed = s.tblZeroed := rfl
@[simp] theorem State.setTest_basin (s : State) (f : TestLogic → TestLogic) : (s.setTest f).basin = s.basin := rfl
@[simp] theorem State.setTest_basinZeroed (s : State) (f : TestLogic → TestLogic) : (s.setTest f).basinZeroed = s.basinZeroed := rfl
@[simp] theorem State.setTest_mem (s : State) (f : TestLogic → TestLogic) : (s.setTest f).mem = s.mem := rfl
@[simp] theorem State.setTest_poison (s : State) (f : TestLogic → TestLogic) : (s.setTest f).poison = s.poison := rfl
@[simp] theorem State.setTest_chip (s : State) (f : TestLogic → TestLogic) : (s.setTest f).chip = s.chip := rfl
@[simp] theorem State.setTest_sb (s : State) (f : TestLogic → TestLogic) : (s.setTest f).sb = s.sb := rfl
@[simp] theorem State.setTest_inp (s : State) (f : TestLogic → TestLogic) : (s.setTest f).inp = s.inp := rfl
@[simp] theorem State.setTest_lostQ (s : State) (f : TestLogic → TestLogic) : (s.setTest f).lostQ = s.lostQ := rfl
@[simp] theorem State.setTest_lostOvf (s : State) (f : TestLogic → TestLogic) : (s.setTest f).lostOvf = s.lostOvf := rfl
@[simp] theorem State.setTest_cal (s : State) (f : TestLogic → TestLogic) : (s.setTest f).cal = s.cal := rfl
@[simp] theorem State.setTest_rep (s : State) (f : TestLogic → TestLogic) : (s.setTest f).rep = s.rep := rfl
@[simp] theorem State.setTest_susp (s : State) (f : TestLogic → TestLogic) : (s.setTest f).susp = s.susp := rfl
@[simp] theorem State.setTest_lnk (s : State) (f : TestLogic → TestLogic) : (s.setTest f).lnk = s.lnk := rfl
@[simp] theorem State.setTest_txn (s : State) (f : TestLogic → TestLogic) : (s.setTest f).txn = s.txn := rfl
@[simp] theorem State.setTest_pwr (s : State) (f : TestLogic → TestLogic) : (s.setTest f).pwr = s.pwr := rfl
@[simp] theorem State.setTest_marks (s : State) (f : TestLogic → TestLogic) : (s.setTest f).marks = s.marks := rfl
@[simp] theorem State.setTest_pair (s : State) (f : TestLogic → TestLogic) : (s.setTest f).pair = s.pair := rfl
@[simp] theorem State.setTest_dma (s : State) (f : TestLogic → TestLogic) : (s.setTest f).dma = s.dma := rfl
@[simp] theorem State.setTest_eng (s : State) (f : TestLogic → TestLogic) : (s.setTest f).eng = s.eng := rfl
@[simp] theorem State.setTest_arrays (s : State) (f : TestLogic → TestLogic) : (s.setTest f).arrays = s.arrays := rfl
@[simp] theorem State.setTest_test (s : State) (f : TestLogic → TestLogic) : (s.setTest f).test = f s.test := rfl

end Sys2Proof.Machine
end

