-- ==== Sys2Proof/Laws/Registers.lean ====
section
/-!
SUPPORT. The laws of the sparse maps and of register fields: a read after a write of the same field gives the value, modulo its
width, and a write leaves every other register and every disjoint field alone.
-/

namespace Sys2Proof.Machine

/-! ### Sparse maps -/

theorem Sparse.find_insert {α : Type} (k : Nat) (v : α) (k' : Nat) (m : List (Nat × α)) :
    Sparse.find (Sparse.insert k v m) k' = if k = k' then some v else Sparse.find m k' := by
  induction m with
  | nil => simp [Sparse.insert, Sparse.find]
  | cons e m ih =>
    obtain ⟨a, x⟩ := e
    simp only [Sparse.insert]
    split
    · simp [Sparse.find]
    · split
      · subst_vars; simp only [Sparse.find]; split <;> simp_all
      · simp only [Sparse.find, ih]; split <;> split <;> simp_all

theorem Sparse.find_filter {α : Type} (k k' : Nat) (m : List (Nat × α)) :
    Sparse.find (m.filter (fun e => e.1 != k)) k' = if k = k' then none else Sparse.find m k' := by
  induction m with
  | nil => simp [Sparse.find]
  | cons e m ih =>
    obtain ⟨a, x⟩ := e
    by_cases h : a = k
    · subst h; simp only [List.filter_cons, bne_self_eq_false, Bool.false_eq_true, if_false, ih, Sparse.find]; split <;> simp_all
    · have : (a != k) = true := by simpa using h
      simp only [List.filter_cons, this, if_true, Sparse.find, ih]; split <;> split <;> simp_all

/-- A read of any key after a key is set. -/
@[simp] theorem Sparse.find_set {α : Type} (k : Nat) (v : Option α) (m : List (Nat × α)) (k' : Nat) :
    Sparse.find (Sparse.set k v m) k' = if k = k' then v else Sparse.find m k' := by
  cases v with
  | none => exact Sparse.find_filter k k' m
  | some x => exact Sparse.find_insert k x k' m

/-! ### Bit fields -/

theorem bits_lt (n lo w : Nat) : bits n lo w < 2 ^ w := Nat.mod_lt _ (Nat.two_pow_pos w)

/-- What `setBits` computes, bit by bit. -/
theorem setBits_getLsbD (w : Word) (lo wd v i : Nat) (hi : i < 64) :
    (setBits w lo wd v).getLsbD i = if lo ≤ i ∧ i < lo + wd then v.testBit (i - lo) else w.getLsbD i := by
  have h1 : w.toNat = (w.toNat / 2 ^ (lo + wd)) * 2 ^ (lo + wd) + (bits w.toNat lo wd <<< lo) + w.toNat % 2 ^ lo := by
    have e1 := Nat.div_add_mod w.toNat (2 ^ lo)
    have e2 := Nat.div_add_mod (w.toNat / 2 ^ lo) (2 ^ wd)
    rw [Nat.div_div_eq_div_mul, ← Nat.pow_add] at e2
    simp only [bits, Nat.shiftRight_eq_div_pow, Nat.shiftLeft_eq]
    conv_lhs => rw [← e1, ← e2, Nat.pow_add]
    rw [Nat.pow_add]; ring
  have hsub : w.toNat - (bits w.toNat lo wd <<< lo) = (w.toNat / 2 ^ (lo + wd)) * 2 ^ (lo + wd) + w.toNat % 2 ^ lo := by omega
  simp only [setBits, BitVec.getLsbD_ofNat, hi, decide_true, Bool.true_and]
  rw [hsub]
  have hb : v % 2 ^ wd < 2 ^ wd := Nat.mod_lt _ (Nat.two_pow_pos _)
  have hl : w.toNat % 2 ^ lo < 2 ^ lo := Nat.mod_lt _ (Nat.two_pow_pos _)
  have e : w.toNat / 2 ^ (lo + wd) * 2 ^ (lo + wd) + w.toNat % 2 ^ lo + (v % 2 ^ wd) <<< lo
      = 2 ^ lo * (2 ^ wd * (w.toNat / 2 ^ (lo + wd)) + v % 2 ^ wd) + w.toNat % 2 ^ lo := by
    rw [Nat.shiftLeft_eq, Nat.pow_add]; ring
  rw [e, Nat.testBit_two_pow_mul_add _ hl, Nat.testBit_two_pow_mul_add _ hb]
  by_cases c1 : i < lo
  · have : ¬ (lo ≤ i) := by omega
    simp [c1, this, Nat.testBit_mod_two_pow, BitVec.getLsbD]
  · by_cases c2 : i < lo + wd
    · have : i - lo < wd := by omega
      simp [c1, c2, this, Nat.testBit_mod_two_pow, show lo ≤ i by omega]
    · have : ¬ (i - lo < wd) := by omega
      simp only [c1, c2, this, if_false, and_false]
      rw [← Nat.shiftRight_eq_div_pow, Nat.testBit_shiftRight, BitVec.getLsbD]
      congr 1; omega

theorem bits_testBit (n lo w i : Nat) : (bits n lo w).testBit i = (decide (i < w) && n.testBit (lo + i)) := by
  simp [bits, Nat.testBit_mod_two_pow, Nat.testBit_shiftRight]

/-- A field just set reads as its value modulo its width. -/
theorem bits_setBits_same (w : Word) (lo wd v : Nat) (h : lo + wd ≤ 64) : bits (setBits w lo wd v).toNat lo wd = v % 2 ^ wd := by
  apply Nat.eq_of_testBit_eq; intro i
  rw [bits_testBit, Nat.testBit_mod_two_pow]
  by_cases c : i < wd
  · have := setBits_getLsbD w lo wd v (lo + i) (by omega)
    rw [BitVec.getLsbD] at this
    simp [c, this]
  · simp [c]

/-- A field apart from the one set keeps its value. -/
theorem bits_setBits_apart (w : Word) (lo wd v lo' wd' : Nat) (h' : lo' + wd' ≤ 64)
    (ha : lo + wd ≤ lo' ∨ lo' + wd' ≤ lo) : bits (setBits w lo wd v).toNat lo' wd' = bits w.toNat lo' wd' := by
  apply Nat.eq_of_testBit_eq; intro i
  rw [bits_testBit, bits_testBit]
  by_cases c : i < wd'
  · have := setBits_getLsbD w lo wd v (lo' + i) (by omega)
    rw [BitVec.getLsbD, BitVec.getLsbD] at this
    rw [this, if_neg (by omega)]
  · simp [c]

/-! ### Registers -/

theorem State.setReg_reg (s : State) (k : Nat) (w : Word) (k' : Nat) : (s.setReg k w).reg k' = if k = k' then w else s.reg k' := by
  simp only [State.setReg, State.reg, Sparse.find_set]
  by_cases h : k = k'
  · subst h
    by_cases h2 : w = regReset k <;> simp [h2]
  · simp [h]

@[simp] theorem State.setReg_reg_same (s : State) (k : Nat) (w : Word) : (s.setReg k w).reg k = w := by simp [State.setReg_reg]

theorem State.setReg_reg_ne (s : State) {k k' : Nat} (w : Word) (h : k ≠ k') : (s.setReg k w).reg k' = s.reg k' := by simp [State.setReg_reg, h]

theorem State.put_reg_ne (s : State) {f : Field} {k : Nat} (v : Nat) (h : f.key ≠ k) : (s.put f v).reg k = s.reg k :=
  State.setReg_reg_ne s _ h

/-- A field is read after it was written. -/
theorem State.get_put_same (s : State) (f : Field) (v : Nat) (h : f.lo + f.width ≤ 64) : (s.put f v).get f = v % 2 ^ f.width := by
  simp only [State.put, State.get, State.setReg_reg_same]; exact bits_setBits_same _ _ _ _ h

/-- A field of another register is read after a write. -/
theorem State.get_put_ne (s : State) {f g : Field} (v : Nat) (h : f.key ≠ g.key) : (s.put f v).get g = s.get g := by
  simp only [State.get, State.put_reg_ne s v h]

/-- A field apart from the one written, of the same register or another. -/
theorem State.get_put_apart (s : State) {f g : Field} (v : Nat)
    (h : g.lo + g.width ≤ 64 ∧ (f.key ≠ g.key ∨ f.lo + f.width ≤ g.lo ∨ g.lo + g.width ≤ f.lo)) :
    (s.put f v).get g = s.get g := by
  by_cases hk : f.key = g.key
  · simp only [State.get, State.put, State.setReg_reg, hk, if_true]
    have := h.2
    exact bits_setBits_apart _ _ _ _ _ _ h.1 (by omega)
  · exact State.get_put_ne s v hk

/-- A counter just counted. -/
theorem State.get_bump_same (s : State) (f : Field) (h : f.lo + f.width ≤ 64) : (s.bump f).get f = min (s.get f + 1) (2 ^ f.width - 1) := by
  rw [State.bump, State.bumpBy, State.get_put_same _ _ _ h]
  exact Nat.mod_eq_of_lt (by have := Nat.two_pow_pos f.width; omega)

theorem State.get_bump_apart (s : State) {f g : Field}
    (h : g.lo + g.width ≤ 64 ∧ (f.key ≠ g.key ∨ f.lo + f.width ≤ g.lo ∨ g.lo + g.width ≤ f.lo)) :
    (s.bump f).get g = s.get g := State.get_put_apart s _ h

theorem State.bump_reg_ne (s : State) {f : Field} {k : Nat} (h : f.key ≠ k) : (s.bump f).reg k = s.reg k := State.put_reg_ne s _ h

end Sys2Proof.Machine
end

