-- ==== Sys2Proof/Laws/Ops.lean ====
section
/-!
SUPPORT. What the shared operations can do, said once each: host-port accesses and commands, sideband frames received and sent,
events raised, and registers read through updates of the other fields of the state.
-/

namespace Sys2Proof.Machine

/-! ### The register map of a state -/

/-- The word at a key of a register map. -/
def regsWord (m : List (Nat × Word)) (k : Nat) : Word := (Sparse.find m k).getD (regReset k)

@[simp] theorem regsWord_regs (s : State) (k : Nat) : regsWord s.regs k = s.reg k := rfl

/-- Registers are read from the register map alone, whatever the other fields of the state are. -/
theorem State.reg_eq (s : State) (k : Nat) : s.reg k = regsWord s.regs k := rfl

theorem State.reg_congr {s t : State} (h : t.regs = s.regs) (k : Nat) : t.reg k = s.reg k := by simp only [State.reg, h]

theorem State.get_congr {s t : State} (h : t.regs = s.regs) (f : Field) : t.get f = s.get f := by simp only [State.get, State.reg_congr h]

@[simp] theorem State.get_chip (s : State) (c : Chip) (f : Field) : ({ s with chip := c } : State).get f = s.get f := rfl
@[simp] theorem State.get_sb (s : State) (c : Sideband) (f : Field) : ({ s with sb := c } : State).get f = s.get f := rfl
@[simp] theorem State.get_out (s : State) (o : List Out) (f : Field) : ({ s with out := o } : State).get f = s.get f := rfl
@[simp] theorem State.reg_chip (s : State) (c : Chip) (k : Nat) : ({ s with chip := c } : State).reg k = s.reg k := rfl
@[simp] theorem State.reg_sb (s : State) (c : Sideband) (k : Nat) : ({ s with sb := c } : State).reg k = s.reg k := rfl
@[simp] theorem State.reg_out (s : State) (o : List Out) (k : Nat) : ({ s with out := o } : State).reg k = s.reg k := rfl
@[simp] theorem State.get_emit (s : State) (o : Out) (f : Field) : (s.emit o).get f = s.get f := rfl
@[simp] theorem State.get_mbRead (s : State) (d : Word) (f : Field) : (s.mbRead d).get f = s.get f := rfl

/-! ### Host-port accesses and commands -/

theorem State.and_or_one (a m : Nat) : a &&& (m ||| 1) = 0 → a &&& m = 0 ∧ a &&& 1 = 0 := by
  intro h
  rw [Nat.and_or_distrib_left, Nat.or_eq_zero_iff] at h
  exact h

/-- What completes with every clock of a mask completes with MCLK alone. -/
theorem HostUp.mclk {s : State} {mask : Nat} (h : HostUp s mask) : HostUp s 1 := by
  obtain ⟨h1, h2, h3, h4⟩ := h
  refine ⟨h1, h2, ?_, ?_⟩
  · simp only [State.clocksOn, beq_iff_eq] at h3 ⊢
    have : s.chip.clk.toNat &&& (mask ||| 1) &&& 1 = (mask ||| 1) &&& 1 := by rw [h3]
    rw [Nat.and_assoc] at this
    have e : (mask ||| 1) &&& 1 = 1 := by simp
    rw [e] at this
    exact this
  · simp only [State.tornAt, bne_eq_false_iff_eq] at h4 ⊢
    exact (State.and_or_one _ _ h4).2

/-- An access that completes is its effect. -/
theorem State.access_eq (s : State) {mask : Nat} (h : HostUp s mask) (go : State → State) : s.access mask go = go s := by
  obtain ⟨h1, h2, h3, h4⟩ := h
  have h5 : s.tornAt mask = false := by
    simp only [State.tornAt, bne_eq_false_iff_eq] at h4 ⊢
    exact (State.and_or_one _ _ h4).1
  simp [State.access, h1, h2, h3, h5]

/-- Everything an access can do: nothing, hang, or its effect (R52, R258). -/
theorem State.access_cases (s : State) (mask : Nat) (go : State → State) :
    ((s.chip.dieRst = true ∨ s.chip.mbHung = true ∨ s.chip.released = 0 ∨ s.tornAt mask = true) ∧ s.access mask go = s) ∨
    (s.chip.dieRst = false ∧ s.chip.mbHung = false ∧ s.clocksOn mask = false ∧
      s.access mask go = { s with chip := { s.chip with mbHung := true } }) ∨
    (s.chip.dieRst = false ∧ s.chip.mbHung = false ∧ s.clocksOn mask = true ∧ s.access mask go = go s) := by
  by_cases h1 : s.chip.dieRst = true <;> by_cases h2 : s.chip.mbHung = true <;> by_cases h3 : s.clocksOn mask = true <;>
    by_cases h4 : s.tornAt mask = true <;> by_cases h5 : s.chip.released = 0 <;> simp_all [State.access]

/-- The clocks that an access to a register needs are at most those of the register. -/
theorem HostUp.needs {s : State} {key : Nat} (h : HostUp s (keyDomains key)) : HostUp s (s.needs key) := by
  unfold State.needs
  split
  · exact h
  · exact h.mclk

/-- The clocks that an access to an aperture word needs are at most those of the word. -/
theorem HostUp.aperNeeds {s : State} {idx : Nat} (h : HostUp s (aperDomains idx)) : HostUp s (s.aperNeeds idx) := by
  unfold State.aperNeeds
  split
  · exact h
  · exact h.mclk

/-- A command that completes: refused for the page's role or its own reason, or its effect (R440, R453). -/
theorem State.command_eq (s : State) {key : Nat} (h : HostUp s (keyDomains key)) (data : Word) (check : State → Option Reason)
    (act : State → State) :
    s.command key data check act =
      if s.present (key / 4096) = false then s.refuse key .role data
      else match check s with
        | some r => s.refuse key r data
        | none => act s := by
  simp only [State.command, State.access_eq s h.needs]
  cases s.present (key / 4096)
  · simp
  · cases check s <;> simp

/-! ### Sideband frames -/

/-- A frame accepted of the type that the command expects takes the command's effect. -/
theorem State.receive_eq {s : State} {c : SbCopies} {b : Nat} {r : State} (h : Heard s c b r) {t : Nat} (ht : bodyType b = t)
    (act : Nat → Nat → State → State) : s.receive c t act = act (bodyFseq b) (bodyPayload b) r := by
  obtain ⟨h1, s1, h2, rfl⟩ := h
  simp [State.receive, h1, h2, ht]

/-- Everything receiving can do: nothing, the vote's own effect, acceptance alone, or the command's effect. -/
theorem State.receive_cases (s : State) (c : SbCopies) (t : Nat) (act : Nat → Nat → State → State) :
    (s.sbRuns = false ∧ s.receive c t act = s) ∨
    (∃ s1, s.vote c = (none, s1) ∧ s.receive c t act = s1) ∨
    (∃ b r, Heard s c b r ∧ s.receive c t act = if bodyType b = t then act (bodyFseq b) (bodyPayload b) r else r) := by
  by_cases h : s.sbRuns = true
  · right
    rcases hv : s.vote c with ⟨o, s1⟩
    cases o with
    | none => left; exact ⟨s1, rfl, by simp [State.receive, h, hv]⟩
    | some b => right; exact ⟨b, _, ⟨h, s1, hv, rfl⟩, by simp [State.receive, h, hv]⟩
  · left; simp_all [State.receive]

/-- A frame sent on a sideband whose transmitter's clock runs (R87, R90, R258). -/
theorem State.sbSend_eq (s : State) (h : s.sbSends = true) (t : SbType) (payload : Nat) :
    s.sbSend t payload =
      { s with
        sb := { s.sb with fseq := (s.sb.fseq + 1) % 16, lastTx := s.beat }
        out := .sb (sbFrame t.code s.sb.fseq payload) (if s.oneChannel then 1 else 7) :: s.out } := by
  simp [State.sbSend, h, State.nextFrame]

theorem State.sbSend_off (s : State) (h : s.sbRuns = false) (t : SbType) (payload : Nat) : s.sbSend t payload = s := by
  simp [State.sbSend, State.sbSends, h]

/-- Sending a frame changes the sideband's own state, the trace and what waits in the crossings alone. -/
theorem State.sbSend_frame (s : State) (t : SbType) (payload : Nat) :
    ∃ sb out fill, s.sbSend t payload = { s with sb := sb, out := out, chip := { s.chip with fill := fill } } := by
  unfold State.sbSend
  split
  · exact ⟨_, _, s.chip.fill, rfl⟩
  · split
    · unfold State.crossIn; split
      · exact ⟨_, _, s.chip.fill, rfl⟩
      · exact ⟨_, _, _, rfl⟩
    · exact ⟨s.sb, s.out, s.chip.fill, rfl⟩

@[simp] theorem State.sbSend_regs (s : State) (t : SbType) (pl : Nat) : (s.sbSend t pl).regs = s.regs := by
  obtain ⟨_, _, _, h⟩ := s.sbSend_frame t pl; rw [h]
@[simp] theorem State.sbSend_beat (s : State) (t : SbType) (pl : Nat) : (s.sbSend t pl).beat = s.beat := by
  obtain ⟨_, _, _, h⟩ := s.sbSend_frame t pl; rw [h]
@[simp] theorem State.sbSend_rep (s : State) (t : SbType) (pl : Nat) : (s.sbSend t pl).rep = s.rep := by
  obtain ⟨_, _, _, h⟩ := s.sbSend_frame t pl; rw [h]
@[simp] theorem State.sbSend_cal (s : State) (t : SbType) (pl : Nat) : (s.sbSend t pl).cal = s.cal := by
  obtain ⟨_, _, _, h⟩ := s.sbSend_frame t pl; rw [h]
@[simp] theorem State.sbSend_pwr (s : State) (t : SbType) (pl : Nat) : (s.sbSend t pl).pwr = s.pwr := by
  obtain ⟨_, _, _, h⟩ := s.sbSend_frame t pl; rw [h]
@[simp] theorem State.sbSend_lnk (s : State) (t : SbType) (pl : Nat) : (s.sbSend t pl).lnk = s.lnk := by
  obtain ⟨_, _, _, h⟩ := s.sbSend_frame t pl; rw [h]
@[simp] theorem State.sbSend_txn (s : State) (t : SbType) (pl : Nat) : (s.sbSend t pl).txn = s.txn := by
  obtain ⟨_, _, _, h⟩ := s.sbSend_frame t pl; rw [h]
@[simp] theorem State.sbSend_col (s : State) (t : SbType) (pl : Nat) : (s.sbSend t pl).chip.col = s.chip.col := by
  obtain ⟨_, _, _, h⟩ := s.sbSend_frame t pl; rw [h]
@[simp] theorem State.sbSend_entry (s : State) (t : SbType) (pl : Nat) : (s.sbSend t pl).chip.entry = s.chip.entry := by
  obtain ⟨_, _, _, h⟩ := s.sbSend_frame t pl; rw [h]
@[simp] theorem State.sbSend_dieRst (s : State) (t : SbType) (pl : Nat) : (s.sbSend t pl).chip.dieRst = s.chip.dieRst := by
  obtain ⟨_, _, _, h⟩ := s.sbSend_frame t pl; rw [h]
@[simp] theorem State.sbSend_clk (s : State) (t : SbType) (pl : Nat) : (s.sbSend t pl).chip.clk = s.chip.clk := by
  obtain ⟨_, _, _, h⟩ := s.sbSend_frame t pl; rw [h]
@[simp] theorem State.sbSend_rpa (s : State) (t : SbType) (pl : Nat) : (s.sbSend t pl).sb.rpa = s.sb.rpa := by
  unfold State.sbSend; split
  · rfl
  · split
    · unfold State.crossIn; split <;> rfl
    · rfl
@[simp] theorem State.sbSend_get (s : State) (t : SbType) (pl : Nat) (f : Field) : (s.sbSend t pl).get f = s.get f :=
  State.get_congr (by simp) f

@[simp] theorem State.train_col (s : State) : s.train.chip.col = s.chip.col := by simp [State.train]
@[simp] theorem State.train_entry (s : State) : s.train.chip.entry = s.chip.entry := by simp [State.train]
@[simp] theorem State.train_beat (s : State) : s.train.beat = s.beat := by simp [State.train]
@[simp] theorem State.setCol_col (s : State) (c : ColState) : (s.setCol c).chip.col = c := by simp [State.setCol, State.setColStep]
@[simp] theorem State.setCol_entry (s : State) (c : ColState) : (s.setCol c).chip.entry = s.beat := by simp [State.setCol, State.setColStep]

/-! ### Events -/

theorem bit_eq (n i : Nat) : bit n i = n.testBit i := by
  simp only [bit, Nat.testBit, Nat.shiftRight_eq_div_pow, Nat.and_comm 1, Nat.and_one_is_mod]
  rcases Nat.mod_two_eq_zero_or_one (n / 2 ^ i) with h | h <;> simp [h]

theorem bit_setBit (n i : Nat) : bit (setBit n i) i = true := by
  unfold setBit; split
  · assumption
  · rename_i h; rw [bit_eq] at h ⊢
    rw [Nat.add_comm, Nat.testBit_two_pow_add_eq]; simpa using h

@[simp] theorem State.deliver_chip (s : State) (p b v : Nat) (fo : Bool) : (s.deliver p b v fo).chip = s.chip := by
  unfold State.deliver; dsimp only; split <;> simp only [State.put_chip, State.bump_chip]
@[simp] theorem State.deliver_out (s : State) (p b v : Nat) (fo : Bool) : (s.deliver p b v fo).out = s.out := by
  unfold State.deliver; dsimp only; split <;> simp only [State.put_out, State.bump_out]
@[simp] theorem State.deliver_beat (s : State) (p b v : Nat) (fo : Bool) : (s.deliver p b v fo).beat = s.beat := by
  unfold State.deliver; dsimp only; split <;> simp only [State.put_beat, State.bump_beat]

/-- Delivering an event touches the event registers of its page alone. -/
theorem State.deliver_reg (s : State) (p b v : Nat) (fo : Bool) (k : Nat) (h1 : k ≠ 4096 * p + 0x018) (h2 : k ≠ 4096 * p + 0x020)
    (h3 : k ≠ 4096 * p + 0x038) : (s.deliver p b v fo).reg k = s.reg k := by
  have e1 : ∀ (t : State) (w : Nat), (t.put (PAGE.EVT_STAT p) w).reg k = t.reg k := fun t w => t.put_reg_ne w (fun h => h2 h.symm)
  have e2 : ∀ t : State, (t.bump (PAGE.PAGE_STAT.EVT_COUNT p)).reg k = t.reg k := fun t => t.bump_reg_ne (fun h => h1 h.symm)
  have e3 : ∀ (t : State) (f : Field) (w : Nat), f.key = 4096 * p + 0x038 → (t.put f w).reg k = t.reg k :=
    fun t f w h => t.put_reg_ne w (fun h' => h3 (h' ▸ h))
  simp only [State.deliver]
  split
  · rw [e2, e1]
  · rw [e3 _ _ _ (by rfl), e3 _ _ _ (by rfl), e3 _ _ _ (by rfl), e3 _ _ _ (by rfl), e2, e1]

/-- A delivered event has its status bit set (R444). -/
theorem State.deliver_stat (s : State) (p b v : Nat) (fo : Bool) (h : b < 64) :
    bit ((s.deliver p b v fo).get (PAGE.EVT_STAT p)) b = true := by
  have e3 : ∀ (t : State) (f : Field) (w : Nat), f.key = 4096 * p + 0x038 → (t.put f w).get (PAGE.EVT_STAT p) = t.get (PAGE.EVT_STAT p) :=
    fun t f w h => t.get_put_ne w (by rw [h]; simp [PAGE.EVT_STAT])
  have e : bit ((s.put (PAGE.EVT_STAT p) (setBit (s.get (PAGE.EVT_STAT p)) b)).get (PAGE.EVT_STAT p)) b = true := by
    rw [State.get_put_same _ _ _ (by simp [PAGE.EVT_STAT])]
    have := bit_setBit (s.get (PAGE.EVT_STAT p)) b
    rw [bit_eq] at this ⊢
    rw [Nat.testBit_mod_two_pow, this]; simp [PAGE.EVT_STAT, h]
  simp only [State.deliver]
  split
  · rw [State.bump, State.bumpBy, State.get_put_ne _ _ (by simp [PAGE.EVT_STAT, PAGE.PAGE_STAT.EVT_COUNT])]; exact e
  · rw [e3 _ _ _ (by rfl), e3 _ _ _ (by rfl), e3 _ _ _ (by rfl), e3 _ _ _ (by rfl), State.bump, State.bumpBy,
      State.get_put_ne _ _ (by simp [PAGE.EVT_STAT, PAGE.PAGE_STAT.EVT_COUNT])]
    exact e

/-- Raising an event touches the event registers of its page, those of page 1, and the overruns of page 1 alone. -/
theorem State.raise_reg (s : State) (e : Event) (v k : Nat) (h1 : k % 4096 ≠ 0x018) (h2 : k % 4096 ≠ 0x020) (h3 : k % 4096 ≠ 0x038)
    (h4 : k ≠ RESET.XING_STAT.OVERRUN.key) : (s.raise e v).reg k = s.reg k := by
  have d : ∀ (t : State) p b w fo, (t.deliver p b w fo).reg k = t.reg k := fun t p b w fo =>
    t.deliver_reg p b w fo k (by omega) (by omega) (by omega)
  unfold State.raise State.overrun
  repeat' split
  all_goals first
    | rfl
    | rw [d, State.put_reg_ne _ _ (fun h => h4 h.symm)]
    | exact d ..

theorem State.raise_get (s : State) (e : Event) (v : Nat) (f : Field) (h : f.key % 4096 ≠ 0x018 ∧ f.key % 4096 ≠ 0x020 ∧
    f.key % 4096 ≠ 0x038 ∧ f.key ≠ RESET.XING_STAT.OVERRUN.key) : (s.raise e v).get f = s.get f := by
  simp only [State.get, State.raise_reg s e v f.key h.1 h.2.1 h.2.2.1 h.2.2.2]

/-- A raised event leaves its mark (R248, R249). -/
theorem State.raise_raised (s : State) (e : Event) (v : Nat) (h : e.bit < 64 ∧ e.dom < 12) : Raised e (s.raise e v) := by
  unfold State.raise State.overrun Raised
  split
  · exact .inl (State.deliver_stat _ _ _ _ _ h.1)
  · rename_i hd
    split
    · rename_i ht; exact .inr (.inr (.inr ⟨hd, ht⟩))
    split
    · split
      · refine .inr (.inr (.inl ?_))
        rw [State.get, State.deliver_reg _ _ _ _ _ _ (by decide) (by decide) (by decide), ← State.get,
          State.get_put_same _ _ _ (by decide)]
        have := bit_setBit (s.get RESET.XING_STAT.OVERRUN) e.dom
        rw [bit_eq] at this ⊢
        rw [Nat.testBit_mod_two_pow, this]
        simp [RESET.XING_STAT.OVERRUN, h.2]
      · exact .inr (.inl ⟨⟨e.page, e.bit, v⟩, by simp, rfl, rfl⟩)
    · exact .inl (State.deliver_stat _ _ _ _ _ h.1)

/-- Raising an event leaves the Col state, the resets and the host port alone. -/
theorem State.raise_chip (s : State) (e : Event) (v : Nat) :
    ∃ busy pend, (s.raise e v).chip = { s.chip with evtBusy := busy, evtPend := pend } := by
  unfold State.raise State.overrun
  split
  · exact ⟨_, _, by rw [State.deliver_chip]⟩
  · split
    · exact ⟨_, _, rfl⟩
    split
    · split
      · exact ⟨_, _, by rw [State.deliver_chip, State.put_chip]⟩
      · exact ⟨_, _, rfl⟩
    · exact ⟨_, _, by rw [State.deliver_chip]⟩

/-! ### The beat count, crossings and pins -/

@[simp] theorem State.count_setCount (s : State) (b : Beat) : (s.setCount b).count = b := by
  unfold State.setCount State.count
  cases h : s.chip.counter <;> simp [h]

/-- A new count leaves every register as it was. -/
@[simp] theorem State.setCount_regs (s : State) (b : Beat) : (s.setCount b).regs = s.regs := by
  unfold State.setCount
  split <;> rfl

@[simp] theorem State.setCount_pending (s : State) (b : Beat) : (s.setCount b).pending = s.pending := by
  unfold State.setCount
  split <;> rfl

/-- A row's time moves a running count forward or leaves the state alone (R59). -/
theorem State.at_cases (s : State) (now : Beat) :
    (s.beatRuns = true ∧ s.count < now ∧ s.at now = s.setCount now) ∨ ((s.beatRuns = false ∨ now ≤ s.count) ∧ s.at now = s) := by
  unfold State.at
  by_cases h : s.beatRuns = true <;> by_cases h2 : s.count < now <;> simp_all

/-- An entry stays in a crossing only where its destination clock stands (R244, R246). -/
theorem State.crossIn_cases (s : State) (k : Nat) :
    (s.clkOn (crossDest k) = true ∧ s.crossIn k = s) ∨
    (s.clkOn (crossDest k) = false ∧
      s.crossIn k = { s with chip := { s.chip with fill := Sparse.set k (some ((Sparse.find s.chip.fill k).getD 0 + 1)) s.chip.fill } }) := by
  unfold State.crossIn
  by_cases h : s.clkOn (crossDest k) = true <;> simp [h]

@[simp] theorem State.crossOut_regs (s : State) (c : Nat) : (s.crossOut c).regs = s.regs := rfl
@[simp] theorem State.crossOut_pending (s : State) (c : Nat) : (s.crossOut c).pending = s.pending := rfl
@[simp] theorem State.latchPins_regs (s : State) : s.latchPins.regs = s.regs := rfl
@[simp] theorem State.latchPins_pending (s : State) : s.latchPins.pending = s.pending := rfl
@[simp] theorem State.latchPins_pin (s : State) : s.latchPins.inp.pin = s.inp.pin := rfl
@[simp] theorem State.uiFrom_regs (s : State) (b : Beat) (n : Nat) : (s.uiFrom b n).regs = s.regs := rfl
@[simp] theorem State.uiFrom_beat (s : State) (b : Beat) (n : Nat) : (s.uiFrom b n).beat = s.beat := rfl
@[simp] theorem State.uiFrom_pending (s : State) (b : Beat) (n : Nat) : (s.uiFrom b n).pending = s.pending := rfl

end Sys2Proof.Machine
end

