-- ==== Sys2Proof/Laws/Agents.lean ====
section
/-!
SUPPORT. What the shared operations of the engine, the port and the DMA channels can do, said once each: which request a commit takes,
what a note of a write, a discarded run-ahead result and the end of a burst change, and how the accesses of a channel are counted.
-/

namespace Sys2Proof.Machine

/-! ### Commits (R228) -/

theorem leastRelease_mem (l : List EngReq) (q : EngReq) (h : leastRelease l = some q) : q ∈ l := by
  induction l generalizing q with
  | nil => simp [leastRelease] at h
  | cons a l ih =>
    simp only [leastRelease] at h
    split at h
    · rename_i p hp
      split at h
      · exact List.mem_cons_of_mem _ (ih q (hp.trans h))
      · exact (Option.some.inj h) ▸ List.mem_cons_self
    · exact (Option.some.inj h) ▸ List.mem_cons_self

@[simp] theorem State.busy_txn (s : State) : s.busy.txn = s.txn := by
  unfold State.busy
  split <;> rfl

/-- A request that may be committed next is held by the engine, is due, and does not wait for something else. -/
theorem State.nextCommits_mem (s : State) (waits : EngReq → Bool) (q : EngReq) (h : q ∈ s.nextCommits waits) :
    q ∈ s.txn.engQ ∧ s.mayCommit q = true ∧ waits q = false := by
  have key : ∀ l : List EngReq, l = s.txn.engQ.filter (fun q => s.mayCommit q && !waits q) → q ∈ l →
      q ∈ s.txn.engQ ∧ s.mayCommit q = true ∧ waits q = false := by
    intro l hl hq
    subst hl
    simpa [List.mem_filter, and_assoc] using hq
  simp only [State.nextCommits, List.mem_append, Option.mem_toList] at h
  rcases h with h | h
  · exact key _ rfl (List.mem_of_find?_eq_some h)
  · exact key _ rfl (List.mem_filter.1 (leastRelease_mem _ _ h)).1

/-- A commit changes nothing, or takes a request that its row handles, which is due and not held by the throttle, and performs it. -/
theorem State.commit_cases (s : State) (mine waits : EngReq → Bool) (act : EngReq → State → State) :
    s.commit mine waits act = s ∨
    ∃ q, q ∈ s.txn.engQ ∧ mine q = true ∧ waits q = false ∧ s.mayCommit q = true ∧ s.reqHeld q = false ∧
      ∃ s1 : State, s.commit mine waits act = ((s1.withReads q act).fillAhead).leaveDone ∧ s1.txn.engQ = s.txn.engQ.erase q := by
  unfold State.commit
  split
  · exact .inl rfl
  · split
    · exact .inl rfl
    · rename_i hh
      split
      · exact .inl rfl
      · rename_i q hq
        have hm := List.mem_of_find?_eq_some hq
        obtain ⟨h1, h2, h3⟩ := s.nextCommits_mem waits q hm
        refine .inr ⟨q, h1, by simpa using List.find?_some hq, h3, h2, ?_, _, rfl, ?_⟩
        · simp only [List.any_eq_true, not_exists, not_and, Bool.not_eq_true] at hh
          exact hh q hm
        · have hb : s.busy.txn = s.txn := s.busy_txn
          split
          · rw [State.bump, State.bumpBy, State.put_txn]
            exact congrArg (fun t : Txns => t.engQ.erase q) hb
          · exact congrArg (fun t : Txns => t.engQ.erase q) hb

/-- What a commit command answers: nothing happens where an escape write is held, and otherwise it is the commit (R432). -/
theorem State.commitNext_cases (s : State) (mine waits : EngReq → Bool) (act : EngReq → State → State) :
    s.commitNext mine waits act = .next s ∨ s.commitNext mine waits act = .next (s.commit mine waits act) := by
  unfold State.commitNext
  split
  · exact .inl rfl
  · exact .inr rfl

/-! ### Notes of writes and reads of operands (R325) -/

/-- A note of a write changes the reads' record and at most one counter. -/
theorem State.noteWrite_cases (s : State) (g : Nat) :
    ∃ f : Txns → Txns, s.noteWrite g = s.setTxn f ∨ s.noteWrite g = (s.setTxn f).bump DEFILE.RA_STAT.OVERFLOWS := by
  unfold State.noteWrite
  split
  · exact ⟨id, .inl rfl⟩
  · dsimp only
    split
    · exact ⟨_, .inl rfl⟩
    · split
      · exact ⟨fun t =>
          { t with prefetch := t.prefetch.map (fun p => if p.granule = g then { p with stale := true } else p), written := g :: t.written }, .inl rfl⟩
      · exact ⟨fun t =>
          { t with written := [], prefetch := (t.prefetch.map (fun p => if p.granule = g then { p with stale := true } else p)).map (fun p => { p with stale := true }) }, .inr rfl⟩

/-- Discarding run-ahead results changes the record of reads and one counter, and leaves what stays in order. -/
theorem State.discardAhead_reg (s : State) (gone : Ahead → Bool) (k : Nat) (h : k ≠ TXN.SPEC_STAT.RUNAHEAD_DISCARDED.key) :
    (s.discardAhead gone).reg k = s.reg k := by
  unfold State.discardAhead
  rw [State.bumpBy, State.put_reg_ne _ _ (Ne.symm h)]
  rfl

@[simp] theorem State.discardAhead_runAhead (s : State) (gone : Ahead → Bool) :
    (s.discardAhead gone).txn.runAhead = s.txn.runAhead.filter (fun a => !gone a) := by
  simp only [State.discardAhead, State.bumpBy, State.put_txn]; rfl

@[simp] theorem State.discardAhead_lnk (s : State) (gone : Ahead → Bool) : (s.discardAhead gone).lnk = s.lnk := by
  simp only [State.discardAhead, State.bumpBy, State.put_lnk]; rfl

/-! ### Bursts (R158) -/

/-- The end of a burst changes nothing where none is open, and otherwise closes it and drives its pad bits. -/
theorem State.endBurst_cases (s : State) :
    s.endBurst = s ∨ ∃ n, s.endBurst = (s.setLnk fun k => { k with burst := none }).emit (.burstEnd n) := by
  unfold State.endBurst
  split
  · exact .inl rfl
  · exact .inr ⟨_, rfl⟩

@[simp] theorem State.endBurst_regs (s : State) : s.endBurst.regs = s.regs := by
  rcases s.endBurst_cases with h | ⟨n, h⟩ <;> simp only [h, State.emit_regs, State.setLnk_regs]

/-! ### Accesses of a DMA channel (R388, R461) -/

/-- The accesses of one channel are set; every other channel keeps its own. -/
theorem State.setAcc_chan (s : State) (n m : Nat) (l : List DmaAccess) (h : n < s.dma.length) :
    (s.setAcc n l).chan m = if n = m then { s.chan n with acc := l } else s.chan m := by
  simp only [State.setAcc, State.chan, State.put_dma, State.setChan, List.getD_eq_getElem?_getD, List.getElem?_modify]
  split
  · rename_i e
    subst e
    simp [List.getElem?_eq_getElem h]
  · simp

/-- Setting the accesses of a channel writes its two counts and no other register. -/
theorem State.setAcc_reg (s : State) (n k : Nat) (l : List DmaAccess) (h1 : k ≠ (DMA.CH_CNT.RD_OUT n).key) (h2 : k ≠ (DMA.CH_CNT.WR_OUT n).key) :
    (s.setAcc n l).reg k = s.reg k := by
  unfold State.setAcc
  rw [State.put_reg_ne _ _ (Ne.symm h2), State.put_reg_ne _ _ (Ne.symm h1)]
  rfl

end Sys2Proof.Machine
end

