-- ==== Sys2Proof/Laws/Memory.lean ====
section
/-!
SUPPORT. The laws of die-local memory: every operation that changes it keeps its canonical form, a read after a write gives the byte
written, and a write leaves every other address alone.
-/

namespace Sys2Proof.Machine

/-! ### The canonical form of sparse maps -/

/-- The canonical form, said at once for all entries. -/
theorem Sparse.wf_iff {α : Type} [DecidableEq α] (dflt : Nat → Option α) (m : List (Nat × α)) :
    Sparse.wf dflt m = true ↔ m.Pairwise (fun a b => a.1 < b.1) ∧ ∀ e ∈ m, some e.2 ≠ dflt e.1 := by
  induction m with
  | nil => simp [Sparse.wf]
  | cons e m ih =>
    obtain ⟨k, v⟩ := e
    cases m with
    | nil => simp [Sparse.wf]
    | cons e' m =>
      obtain ⟨k', v'⟩ := e'
      have hw : Sparse.wf dflt ((k, v) :: (k', v') :: m) = true ↔
          some v ≠ dflt k ∧ k < k' ∧ Sparse.wf dflt ((k', v') :: m) = true := by
        simp [Sparse.wf, and_assoc]
      rw [hw, ih]
      constructor
      · rintro ⟨h1, h2, h3, h4⟩
        refine ⟨List.pairwise_cons.mpr ⟨fun x hx => ?_, h3⟩, fun x hx => ?_⟩
        · rcases List.mem_cons.mp hx with rfl | hx
          · exact h2
          · exact Nat.lt_trans h2 ((List.pairwise_cons.mp h3).1 x hx)
        · rcases List.mem_cons.mp hx with rfl | hx
          · exact h1
          · exact h4 x hx
      · rintro ⟨h1, h2⟩
        obtain ⟨ha, hb⟩ := List.pairwise_cons.mp h1
        exact ⟨h2 _ List.mem_cons_self, ha _ List.mem_cons_self, hb, fun x hx => h2 x (List.mem_cons_of_mem _ hx)⟩

/-- The keys and values of a map into which an entry is inserted. -/
theorem Sparse.mem_insert {α : Type} {k : Nat} {v : α} {m : List (Nat × α)} {e : Nat × α} (h : e ∈ Sparse.insert k v m) :
    e = (k, v) ∨ e ∈ m := by
  induction m with
  | nil => simpa [Sparse.insert] using h
  | cons a m ih =>
    simp only [Sparse.insert] at h
    split at h
    · simpa using h
    · split at h
      · rcases List.mem_cons.mp h with h | h
        · exact Or.inl h
        · exact Or.inr (List.mem_cons_of_mem _ h)
      · rcases List.mem_cons.mp h with h | h
        · exact Or.inr (h ▸ List.mem_cons_self)
        · exact (ih h).imp id (List.mem_cons_of_mem _)

theorem Sparse.pairwise_insert {α : Type} (k : Nat) (v : α) {m : List (Nat × α)} (h : m.Pairwise (fun a b => a.1 < b.1)) :
    (Sparse.insert k v m).Pairwise (fun a b => a.1 < b.1) := by
  induction m with
  | nil => simp [Sparse.insert]
  | cons a m ih =>
    obtain ⟨ha, hm⟩ := List.pairwise_cons.mp h
    simp only [Sparse.insert]
    split
    · rename_i hk
      refine List.pairwise_cons.mpr ⟨fun x hx => ?_, h⟩
      rcases List.mem_cons.mp hx with rfl | hx
      · exact hk
      · exact Nat.lt_trans hk (ha x hx)
    · split
      · rename_i hk
        exact List.pairwise_cons.mpr ⟨fun x hx => by simpa [hk] using ha x hx, hm⟩
      · rename_i hk hk'
        refine List.pairwise_cons.mpr ⟨fun x hx => ?_, ih hm⟩
        rcases Sparse.mem_insert hx with rfl | hx
        · simp only; omega
        · exact ha x hx

/-- Setting a key keeps the canonical form, where a value listed is not what the key reads as unlisted. -/
theorem Sparse.wf_set {α : Type} [DecidableEq α] {dflt : Nat → Option α} {m : List (Nat × α)} (h : Sparse.wf dflt m = true)
    (k : Nat) (v : Option α) (hv : ∀ x, v = some x → some x ≠ dflt k) : Sparse.wf dflt (Sparse.set k v m) = true := by
  rw [Sparse.wf_iff] at h ⊢
  cases v with
  | none => exact ⟨h.1.filter _, fun e he => h.2 e (List.mem_of_mem_filter he)⟩
  | some x =>
    refine ⟨Sparse.pairwise_insert k x h.1, fun e he => ?_⟩
    rcases Sparse.mem_insert he with rfl | he
    · exact hv x rfl
    · exact h.2 e he

/-! ### Memory keeps its canonical form -/

theorem State.setMem_wf (s : State) (a : Nat) (b : Byte) (h : MemoryCanonical s) : MemoryCanonical (s.setMem a b) := by
  refine Sparse.wf_set h a _ (fun x hx => ?_)
  by_cases hb : b = memDefault
  · simp [hb] at hx
  · simp only [hb, if_false, Option.some.injEq] at hx
    subst hx
    simpa using hb

theorem State.setMemBytes_wf (s : State) (a : Nat) (bs : List Byte) (h : MemoryCanonical s) : MemoryCanonical (s.setMemBytes a bs) := by
  induction bs generalizing s a with
  | nil => exact h
  | cons b bs ih => exact ih _ _ (State.setMem_wf s a b h)

theorem State.noteWrite_mem (s : State) (g : Nat) : (s.noteWrite g).mem = s.mem := by
  unfold State.noteWrite
  split
  · rfl
  · dsimp only
    split
    · rw [State.setTxn_mem]
    · split
      · rw [State.setTxn_mem, State.setTxn_mem]
      · rw [State.bump_mem, State.setTxn_mem, State.setTxn_mem]

theorem State.foldl_noteWrite_mem (gs : List Nat) (s : State) : (gs.foldl State.noteWrite s).mem = s.mem := by
  induction gs generalizing s with
  | nil => rfl
  | cons g gs ih => simp only [List.foldl_cons, ih, State.noteWrite_mem]

/-- A write of the engine or of a DMA channel changes memory as the bytes alone do. -/
theorem State.memTake_mem (s : State) (a : Nat) (bs : List Byte) : (s.memTake a bs).mem = (s.setMemBytes a bs).mem := by
  simp only [State.memTake, State.noteWrites, State.foldl_noteWrite_mem]

theorem State.emit_setMemBytes (s : State) (o : Out) (a : Nat) (bs : List Byte) :
    ((s.emit o).setMemBytes a bs).mem = (s.setMemBytes a bs).mem := by
  induction bs generalizing s a with
  | nil => rfl
  | cons b bs ih => exact ih (s.setMem a b) (a + 1)

theorem State.engWrite_mem (s : State) (a : Nat) (bs : List Byte) : (s.engWrite a bs).mem = (s.setMemBytes a bs).mem := by
  rw [State.engWrite, State.memTake_mem, State.emit_setMemBytes]

theorem State.memTake_wf (s : State) (a : Nat) (bs : List Byte) (h : MemoryCanonical s) : MemoryCanonical (s.memTake a bs) := by
  have := State.setMemBytes_wf s a bs h
  unfold MemoryCanonical at this ⊢
  rw [State.memTake_mem]
  exact this

theorem State.engWrite_wf (s : State) (a : Nat) (bs : List Byte) (h : MemoryCanonical s) : MemoryCanonical (s.engWrite a bs) := by
  have := State.setMemBytes_wf s a bs h
  unfold MemoryCanonical at this ⊢
  rw [State.engWrite_mem]
  exact this

/-- Writes performed or lost at a reset keep the form of memory. -/
theorem State.loseWrites_wf (s : State) (h : MemoryCanonical s) : MemoryCanonical s.loseWrites := by
  unfold State.loseWrites
  generalize List.filter _ _ = l
  induction l generalizing s with
  | nil => exact h
  | cons a l ih =>
    refine ih _ ?_
    dsimp only
    split
    · exact State.memTake_wf _ _ _ h
    · exact h

/-- Resets keep memory, but for the writes that are under way. -/
theorem State.outside_wf (s : State) (h : MemoryCanonical s) : MemoryCanonical s.outside := s.loseWrites_wf h

/-- The memory of the reset state is canonical: nothing is listed. -/
theorem State.reset_memory_wf : Memory.wf State.reset.mem = true := rfl

/-! ### Reads after writes -/

/-- A byte read after a byte is written: the byte at its address, and what was there elsewhere. -/
theorem State.memByte_setMem (s : State) (a : Nat) (b : Byte) (a' : Nat) :
    (s.setMem a b).memByte a' = if a = a' then b else s.memByte a' := by
  simp only [State.memByte, State.setMem, Sparse.find_set]
  by_cases h : a = a'
  · by_cases hb : b = memDefault <;> simp [h, hb]
  · simp [h]

/-- A byte read after bytes are written from `a` on. -/
theorem State.memByte_setMemBytes (s : State) (a : Nat) (bs : List Byte) (a' : Nat) :
    (s.setMemBytes a bs).memByte a' = if a ≤ a' then bs.getD (a' - a) (s.memByte a') else s.memByte a' := by
  induction bs generalizing s a with
  | nil => simp [State.setMemBytes]
  | cons b bs ih =>
    simp only [State.setMemBytes, ih, State.memByte_setMem]
    by_cases h : a = a'
    · subst h
      simp
    · by_cases h2 : a ≤ a'
      · obtain ⟨d, rfl⟩ : ∃ d, a' = a + 1 + d := ⟨a' - (a + 1), by omega⟩
        have h3 : a + 1 + d - a = d + 1 := by omega
        have h4 : a + 1 + d - (a + 1) = d := by omega
        simp only [Nat.le_add_right, if_true, if_neg h, if_pos h2, h3, h4, List.getD_cons_succ]
      · have : ¬ a + 1 ≤ a' := by omega
        simp [h, h2, this]

/-- A write of the engine leaves every byte outside it alone, and puts its bytes in place. -/
theorem State.memByte_engWrite (s : State) (a : Nat) (bs : List Byte) (a' : Nat) :
    (s.engWrite a bs).memByte a' = if a ≤ a' then bs.getD (a' - a) (s.memByte a') else s.memByte a' := by
  rw [← State.memByte_setMemBytes]
  simp only [State.memByte, State.engWrite_mem]

end Sys2Proof.Machine
end

