-- ==== Sys2Proof/Tests/Slice0.lean ====
section
/-!
SUPPORT. Tests: for every obligation with hypotheses, a named theorem that exhibits a state and operands meeting the hypotheses of
each of its clauses (hyps_<Name>, one conjunct per clause that has hypotheses); then the smoke test of well-formedness, the worked
examples of the specification, and two single steps.
-/

set_option linter.unusedVariables false
set_option maxRecDepth 100000
set_option Elab.async false
namespace Sys2Proof.Tests
open Sys2Proof Sys2Proof.Machine

/-- An end out of reset, of a role and in a Col state, with every clock alive. -/
def up (role : Nat) (col : ColState) : State :=
  { State.reset.put IDENT.FUSE_STAT.ROLE role with
    beat := 2 ^ 28
    chip := { dieRst := false, col := col, clk := 0xFFF, released := 5, rxReleased := 0x1F, drivers := true } }

/-- Three equal copies of a frame. -/
def cp (t : SbType) (payload : Nat) : SbCopies :=
  ⟨some (sbFrame t.code 3 payload), some (sbFrame t.code 3 payload), some (sbFrame t.code 3 payload), 0, 0, 0, 8, 8, 8⟩

/-- The body that the vote accepts, and the state it leaves. -/
def heardBody (s : State) (c : SbCopies) : Nat := (s.vote c).1.getD 0
def heardState (s : State) (c : SbCopies) : State := { (s.vote c).2 with sb := { (s.vote c).2.sb with lastRx := (s.vote c).2.beat } }

theorem heard {s : State} {c : SbCopies} (h : (s.sbRuns && (s.vote c).1.isSome) = true) :
    Heard s c (heardBody s c) (heardState s c) := by
  rw [Bool.and_eq_true] at h
  refine ⟨h.1, (s.vote c).2, ?_, rfl⟩
  obtain ⟨b, hb⟩ := Option.isSome_iff_exists.mp h.2
  exact Prod.ext (by simp [heardBody, hb]) rfl

theorem hostUp {s : State} {mask : Nat} (h : (!s.chip.dieRst && !s.chip.mbHung && s.clocksOn mask && !s.tornAt (mask ||| 1)) = true) : HostUp s mask := by
  simp only [Bool.and_eq_true, Bool.not_eq_true'] at h
  exact ⟨h.1.1.1, h.1.1.2, h.1.2, h.2⟩

/-- A request to page 0. -/
def rq (o : Op) : Hdr := { op := o.code, tc := o.tc, tag := 3, ctx := 5, len := if o.isAtomic then 1 else if o.lenOk 0 then 0 else 2 }

/-- A calibration window that finds offsets and a working set of groups. -/
def calWin (offset : List (Nat × BitVec 6)) (working : BitVec 5 := 0x1F) : CalWindow := ⟨[], [], [], offset, [], [], [], working⟩

/-- An M-end with a binding entry for page 0. -/
def bound (w : Word) : State := (up 1 .active).setTbl 0 w

/-- A die-port cycle with a header and data units. -/
def dc (cls : BitVec 2) (h : Hdr) (units : List Nat) (last : Bool) : DieCycle := ⟨cls, (h.unit :: units).map (BitVec.ofNat 128), last⟩

/-- Every transmit credit advertised, and the response buffer free. -/
def credits (s : State) : State :=
  ((List.range 11).foldl (fun s k => s.put (CREDIT.TX_STAT.ADV k) 100) s).put CREDIT.RSP_STAT.FREE 100

/-- A transfer presented on the die port. -/
def item (h : Hdr) (tent : Bool) : DpoItem := ⟨h, true, [], true, tent, 7, !h.isResponse, b2n h.isResponse, false, []⟩

/-- Capabilities agreed. -/
def agree (s : State) (caps : Nat) : State := (s.put IDENT.CAP_AGREED.VALID 1).put IDENT.CAP_AGREED.CAP caps

/-- Every lane group in use in both directions. -/
def wide (s : State) : State := (s.put REPAIR.WIDTH_STAT.RX_GROUPS 0xF).put REPAIR.WIDTH_STAT.TX_GROUPS 0xF

/-- A proposal for beat 2^28 + 0x4000, last sent 1,024 beats ago. -/
def prop (k : PropKind) (own accepted : Bool) (stage : Nat := 0) : Proposal := ⟨k, 0x10004000, own, accepted, 0x0FFFFC00, 0, stage⟩

/-- The same at its beat, which is now. -/
def propDue (k : PropKind) (own accepted : Bool) (cancels stage : Nat) : Proposal := ⟨k, 0x10000000, own, accepted, 0x0FFFFC00, cancels, stage⟩

/-- An M-end that owns the token, with its tables and its Basin zeroed, and context 5 valid. -/
def eng : State :=
  { ((up 1 .active).put PAIR.ROLE_STAT.PROLE 5).setTbl (ctxIdx 5 1) (BitVec.ofNat 64 (2 ^ 55)) with
    tblZeroed := true, basinZeroed := true, eng.winChecks := true }

/-- Window 1023 of it: state, mode 0, FP32 inputs, context 5, four contributors, 20 elements at line 0 and a bitmap at line 2. -/
def window (state : Nat) : State :=
  (eng.setTbl (winIdx 1023 0) (BitVec.ofNat 64 (packLow [(state, 3), (0, 2), (1, 6), (0, 7), (5, 14), (4, 16)]))).setTbl (winIdx 1023 3)
    (BitVec.ofNat 64 (packLow [(20, 21), (0, 16), (2, 16)])) |>.setTbl (winIdx 1023 1) 0x10000000 |>.setTbl (winIdx 1023 2) 0x10001000

/-- A TXN flit for sequence 0 that acknowledges sequence 0, and its place in its burst. -/
def txnFlit (hdrMap : Nat) (slots : List Nat) : BulkFlit := buildBulk ⟨0, 0, 1, 1, false, 0, 0, 0, hdrMap, false⟩ slots

/-- A received flit whose CRC is checked next. -/
def arrived (f : BulkFlit) : RxFlit := ⟨f, 0, none, []⟩

/-- A queued transaction. -/
def queued (o : Op) : TxItem := ⟨rq o, if o.hasData then [1, 2, 3, 4] else [], true, false⟩

/-- A request at the engine, without a release beat. -/
def er (h : Hdr) (units : List Nat) (bind : Word) : EngReq := ⟨h, units, none, false, some bind, 0, false, []⟩

/-- The engine with one request, and its page bound as the request says. -/
def engWith (q : EngReq) : State := { eng.setTbl 0 (q.bind.getD 0) with txn.engQ := [q] }

/-- A binding entry of a view of FP32 values stored as MXFP8 E4M3. -/
def viewWord : Word := BitVec.ofNat 64 (packLow [(2, 3), (0, 8), (0x10, 6), (1, 6)])

/-- The engine with recipe 0, which writes x to y and returns it, and recipe 1, which accumulates x. -/
def rcpWith (q : EngReq) : State :=
  (((engWith q).setTbl (rcpIdx 0 0) (BitVec.ofNat 64 (packLow [(1, 1), (0, 3), (3, 6), (0, 2), (1, 4), (0, 4), (1, 4), (0, 6), (1, 6)]))).setTbl
    (rcpIdx 1 0) (BitVec.ofNat 64 (packLow [(1, 1), (1, 3), (4, 6), (0, 20), (1, 6)]))).setTbl (rcpIdx 1 8) 0x104

/-- A contribution to window 1023, released at a beat. -/
def cr (last : Bool) (release : Beat) : EngReq :=
  ⟨{ rq .contrib with opd := 1023, attr := 4 * b2n last, lvl := true }, [1, 2, 3, 4], some release, false, some 1, 0, false, []⟩

/-- Window 1023 in a state and a mode with one contribution at the engine. -/
def winWith (state mode : Nat) (q : EngReq) : State := { (window state).setWin 1023 WIN.MODE mode |>.setTbl 0 1 with txn.engQ := [q] }

/-- DMA channel 3 running on a program, in a page bound as STORAGE. -/
def dmaAt (us : List Nat) (c : DmaChan := {}) : State :=
  { ((up 1 .active).put (DMA.CH_STAT.STATE 3) DMA.running).setTbl 0 1 with
    tblZeroed := true, dma := [{}, {}, {}, { c with groups := [(0, packLow (us.map fun u => (u, 128)))] }] }

/-- A MOVE of 64 bytes in a mode, from byte 0 to byte 4096. -/
def mv (mode : Nat) : Nat := packLow [(1, 4), (mode, 2), (0, 7), (63, 19), (0, 16), (0, 40), (4096, 40)]

/-- The same in progress: every byte asked for, `n` of them here. -/
def mvAt (n : Nat) : DmaMove := { word := mv 0, src := 0, dst := 4096, data := List.replicate n 7, asked := 64, begun := true }

/-- A fetch of group 1 of a program at 0, and a read of 32 bytes. -/
def fetch1 : DmaAccess := { use := .fetch 1, addr := 128, len := 128 }
def readAt (a : Nat) : DmaAccess := { use := .read, addr := a, len := 32 }

theorem hyps_StepRunsTheFrontCommand :
    (∃ (s : State), s.pending = [] ∧ (s.chip.dieRst = true ∨ s.role = 0 ∨ s.chip.stopped.getLsbD 3 = true)) ∧
    (∃ (s : State), s.pending = [] ∧ s.chip.dieRst = false ∧ s.role ≠ 0 ∧ s.chip.stopped.getLsbD 3 = false ∧ s.chip.counter = none) ∧
    (∃ (s : State) (b : Beat), s.pending = [] ∧ s.chip.dieRst = false ∧ s.role ≠ 0 ∧ s.chip.stopped.getLsbD 3 = false ∧ s.chip.counter = some b) :=
  ⟨⟨State.reset, by decide +kernel⟩,
   ⟨up 1 .off, by decide +kernel⟩,
   ⟨{ up 2 .active with chip.counter := some 7 }, 7, by decide +kernel⟩⟩

theorem hyps_DieResetClearsAndFusesSetTheRole :
    (∃ (s : State) (f : Fuses), s.chip.dieRst = true ∧ fusesBad f = false) ∧
    (∃ (s : State) (f : Fuses), s.chip.dieRst = true ∧ fusesBad f = true) :=
  ⟨⟨State.reset, ⟨true, 1, 2, 1, 0, 0, 0⟩, by decide +kernel⟩,
   ⟨State.reset, ⟨false, 1, 2, 1, 0, 0, 0⟩, by decide +kernel⟩⟩

theorem hyps_ClocksStopAndRunAndCrossingsDeliver :
    (∃ (s : State) (k : Clock), s.chip.dieRst = false ∧ s.clkOn (clockBit k) = true ∧ s.stopExpected (clockBit k) = true) ∧
    (∃ (s : State), s.chip.dieRst = false ∧ s.clkOn 0 = true) ∧
    (∃ (s : State) (k : Clock), s.chip.dieRst = false ∧ s.clkOn (clockBit k) = false ∧ clockBit k ≠ 0 ∧ s.domainUp (clockBit k) = true ∧ s.restartTears (clockBit k) = false ∧ s.chip.lockFell = false) ∧
    (∃ (s : State), s.chip.dieRst = false ∧ s.role ≠ 0 ∧ s.clkOn 3 = false ∧ s.domainUp 3 = true ∧ s.restartTears 3 = false ∧ s.chip.lockFell = true) ∧
    (∃ (s : State) (k : Clock), s.chip.dieRst = false ∧ s.clkOn (clockBit k) = false ∧ clockBit k ≠ 0 ∧ s.domainUp (clockBit k) = true ∧ s.restartTears (clockBit k) = true ∧ s.get RESET.XING_STAT.TORN = 0 ∧ s.chip.col ≠ .off) ∧
    (∃ (s : State), s.isM = true ∧ s.chip.dieRst = false ∧ s.clkOn 2 = true ∧ s.stopExpected 2 = true) ∧
    (∃ (s : State) (n : Nat), s.isM = true ∧ s.chip.dieRst = false ∧ s.clkOn 2 = false ∧ 3 ≤ s.chip.released ∧ s.chip.lostRun.getLsbD 2 = false ∧ s.pwr.waitEclk = some n ∧ s.parked = true ∧ s.pwr.waking = false) ∧
    (∃ (s : State) (k : Clock), s.chip.dieRst = false ∧ s.chip.evtBusy.getLsbD (clockBit k) = true ∧ s.chip.torn.getLsbD (clockBit k) = false ∧ Sparse.find s.chip.evtPend (clockBit k) = none) ∧
    (∃ (s : State) (k : Clock) (p : EvtPulse), s.chip.dieRst = false ∧ s.chip.evtBusy.getLsbD (clockBit k) = true ∧ s.chip.torn.getLsbD (clockBit k) = false ∧ Sparse.find s.chip.evtPend (clockBit k) = some p ∧ p.bit < 64) ∧
    (∃ (s : State) (k : Clock), s.chip.torn.getLsbD (clockBit k) = true) :=
  ⟨⟨up 2 .off, .lclk, by decide +kernel⟩,
   ⟨up 2 .off, by decide +kernel⟩,
   ⟨{ up 1 .off with chip.clk := 0xFEF }, .lclk, by decide +kernel⟩,
   ⟨{ up 2 .active with chip.clk := 0xFF7, chip.lockFell := true }, by decide +kernel⟩,
   ⟨{ up 1 .active with chip.clk := 0xFEF, chip.lostRun := 0x10 }, .lclk, by decide +kernel⟩,
   ⟨{ (up 1 .active).put POWER.PWR_STAT.STATE 2 with tblZeroed := true }, by decide +kernel⟩,
   ⟨{ (up 1 .active).put POWER.PWR_STAT.STATE 2 with chip.clk := 0xFFB, pwr.waitEclk := some 3 }, 3, by decide +kernel⟩,
   ⟨{ up 1 .active with chip.evtBusy := 0x10 }, .lclk, by decide +kernel⟩,
   ⟨{ up 1 .active with chip.evtBusy := 0x10, chip.evtPend := [(4, ⟨2, 63, 0⟩)] }, .lclk, ⟨2, 63, 0⟩, by decide +kernel⟩,
   ⟨{ up 1 .fault with chip.torn := 0x800 }, .sbTx, by decide +kernel⟩⟩

theorem hyps_PhyClockFaultsActOnTheCol :
    (∃ (s : State), s.chip.dieRst = false ∧ s.chip.col = .resetHeld ∧ s.chip.colReset = false ∧ s.on PHY.PLL_STAT.LOCKED = false) ∧
    (∃ (s : State) (now : Beat), (s.at now).chip.col = .resetHeld ∧ (s.at now).chip.colReset = false ∧ (s.at now).on PHY.PLL_STAT.LOCKED = false ∧ (s.at now).past (s.at now).chip.entry 50000 = true) ∧
    (∃ (s : State), s.chip.dieRst = false ∧ s.on PHY.PLL_STAT.LOCKED = true ∧ s.colIn [.off, .fault] = false) ∧
    (∃ (s : State) (g : Fin 5), s.chip.dieRst = false ∧ s.role ≠ 0 ∧ s.clkOn 4 = true ∧ s.chip.evtBusy.getLsbD 4 = false ∧ s.chip.torn.getLsbD 4 = false ∧ s.colIn [.off, .resetHeld, .sbUp, .ident, .down, .fault] = true) ∧
    (∃ (s : State) (g : Fin 5), s.chip.dieRst = false ∧ s.role ≠ 0 ∧ s.clkOn 4 = true ∧ g.val < 4 ∧ s.colIn [.cal, .retrain] = true) :=
  ⟨⟨up 1 .resetHeld, by decide +kernel⟩,
   ⟨up 1 .resetHeld, 0, by decide +kernel⟩,
   ⟨(up 1 .sbUp).put PHY.PLL_STAT.LOCKED 1, by decide +kernel⟩,
   ⟨up 1 .ident, 4, by decide +kernel⟩,
   ⟨up 1 .cal, 3, by decide +kernel⟩⟩

theorem hyps_ColEnablingMovesTheCol :
    (∃ (s : State), HostUp s (keyDomains RESET.COL_CTL.ENABLE.key) ∧ s.role ≠ 0 ∧ 3 ≤ s.chip.released ∧ s.chip.col = .off) ∧
    (∃ (s : State), HostUp s (keyDomains RESET.COL_CTL.ENABLE.key) ∧ s.role ≠ 0 ∧ (s.colIn [.down, .fault] = true ∨ (s.chip.col = .resetHeld ∧ s.chip.colReset = false))) ∧
    (∃ (s : State), HostUp s (keyDomains RESET.COL_CTL.ENABLE.key) ∧ s.role ≠ 0 ∧ s.chip.col = .lowland) ∧
    (∃ (s : State), HostUp s (keyDomains RESET.COL_CTL.RELEASE.key) ∧ s.role ≠ 0 ∧ s.chip.col = .resetHeld ∧ s.chip.colReset = false ∧ s.on PHY.PLL_STAT.LOCKED = true ∧ s.on TEST.TEST_STAT.IN_TEST = false) :=
  ⟨⟨up 3 .off, hostUp (by decide +kernel), by decide +kernel⟩,
   ⟨up 3 .resetHeld, hostUp (by decide +kernel), by decide +kernel⟩,
   ⟨up 2 .lowland, hostUp (by decide +kernel), by decide +kernel⟩,
   ⟨(up 3 .resetHeld).put PHY.PLL_STAT.LOCKED 1, hostUp (by decide +kernel), by decide +kernel⟩⟩

theorem hyps_ColResetIsAgreedAppliedAndReleased :
    (∃ (s : State), HostUp s (keyDomains RESET.COL_RST_CMD.GO.key) ∧ s.role ≠ 0 ∧ s.colIn [.off, .resetHeld] = false ∧ s.chip.plan = none) ∧
    (∃ (s : State), HostUp s (keyDomains RESET.COL_RST_CMD.GO.key) ∧ s.role ≠ 0 ∧ s.chip.col ≠ .off) ∧
    (∃ (s : State) (now : Beat) (p : ResetPlan), (s.at now).chip.plan = some p ∧ p.settled = false ∧ (s.at now).reached (p.beat - 4096) = true) ∧
    (∃ (s : State) (now : Beat) (p : ResetPlan), (s.at now).chip.plan = some p ∧ (s.at now).reached p.beat = true ∧ s.clkOn 0 = true) ∧
    (∃ (s : State) (now : Beat) (b : Beat) (n : Nat), s.chip.dieRst = false ∧ s.chip.releaseAt = some b ∧ (s.at now).reached b = true ∧ s.chip.released = 0) ∧
    (∃ (s : State) (now : Beat) (n : Nat), s.chip.dieRst = false ∧ s.chip.releaseAt = none ∧ 8 ≤ n ∧ s.chip.released = 1 ∧ s.role ≠ 0) ∧
    (∃ (s : State) (now : Beat) (n : Nat), s.chip.dieRst = false ∧ s.chip.releaseAt = none ∧ s.chip.colReset = true ∧ 8 ≤ n ∧ s.chip.released = 2 ∧ (s.isM = true → s.chip.stopped.getLsbD 2 = false)) :=
  ⟨⟨up 2 .active, hostUp (by decide +kernel), by decide +kernel⟩,
   ⟨up 2 .down, hostUp (by decide +kernel), by decide +kernel⟩,
   ⟨{ up 2 .active with chip.plan := some ⟨0x10001000, true, true, 0x0FFFF000, false⟩ }, 0, ⟨0x10001000, true, true, 0x0FFFF000, false⟩, by decide +kernel⟩,
   ⟨{ up 2 .active with chip.plan := some ⟨0x10000000, true, true, 0x0FFFF000, true⟩ }, 0, ⟨0x10000000, true, true, 0x0FFFF000, true⟩, by decide +kernel⟩,
   ⟨{ up 2 .resetHeld with chip.colReset := true, chip.releaseAt := some 0x10000000, chip.released := 0 }, 0, 0x10000000, 0, by decide +kernel⟩,
   ⟨{ up 2 .resetHeld with chip.released := 1 }, 0, 8, by decide +kernel⟩,
   ⟨{ up 2 .resetHeld with chip.colReset := true, chip.released := 2 }, 0, 8, by decide +kernel⟩⟩

theorem hyps_ResetRequestsAreAnsweredAndCountersClear :
    (∃ (s : State) (c : SbCopies) (b : Nat) (r : State), Heard s c b r ∧ bodyType b = SbType.reset.code ∧ bits (bodyPayload b) 36 4 = 1 ∧ r.chip.plan = none) ∧
    (∃ (s : State) (c : SbCopies) (b : Nat) (r : State) (p : ResetPlan), Heard s c b r ∧ bodyType b = SbType.reset.code ∧ bits (bodyPayload b) 36 4 = 2 ∧ r.chip.plan = some p ∧ p.initiator = true ∧ p.beat.toNat % 2 ^ 22 = bits (bodyPayload b) 0 22) ∧
    (∃ (s : State) (now : Beat) (p : ResetPlan), (s.at now).chip.plan = some p ∧ p.initiator = true ∧ p.acked = false ∧ (s.at now).past p.lastReq 1024 = true ∧ (s.at now).beat < p.beat - 1024 ∧ (s.at now).sbSends = true) ∧
    (∃ (s : State), HostUp s (keyDomains RESET.SOFT_CLR.GO.key)) :=
  ⟨⟨up 2 .active, cp .reset (resetPayload 1 0x10004000), heardBody (up 2 .active) (cp .reset (resetPayload 1 0x10004000)), heardState (up 2 .active) (cp .reset (resetPayload 1 0x10004000)), heard (by decide +kernel), by decide +kernel⟩,
   ⟨{ up 2 .active with chip.plan := some ⟨0x10004000, true, false, 0x0FFFF000, false⟩ }, cp .reset (resetPayload 2 0x10004000), heardBody { up 2 .active with chip.plan := some ⟨0x10004000, true, false, 0x0FFFF000, false⟩ } (cp .reset (resetPayload 2 0x10004000)), heardState { up 2 .active with chip.plan := some ⟨0x10004000, true, false, 0x0FFFF000, false⟩ } (cp .reset (resetPayload 2 0x10004000)), ⟨0x10004000, true, false, 0x0FFFF000, false⟩, heard (by decide +kernel), by decide +kernel⟩,
   ⟨{ up 2 .active with chip.plan := some ⟨0x10004000, true, false, 0x0FFFFC00, false⟩ }, 0, ⟨0x10004000, true, false, 0x0FFFFC00, false⟩, by decide +kernel⟩,
   ⟨up 2 .active, hostUp (by decide +kernel)⟩⟩

theorem hyps_TrainAndIdentFramesMoveBringUp :
    (∃ (s : State) (c : SbCopies) (b : Nat) (r : State), Heard s c b r ∧ bodyType b = SbType.train.code ∧ r.chip.col = .sbUp ∧ bits (bodyPayload b) 28 4 < 11 ∧ 2 ≤ bits (bodyPayload b) 36 4 ∧ r.sb.trains < 3) ∧
    (∃ (s : State) (c : SbCopies) (b : Nat) (r : State), Heard s c b r ∧ bodyType b = SbType.train.code ∧ r.chip.col = .sbUp ∧ bits (bodyPayload b) 28 4 < 11 ∧ 2 ≤ bits (bodyPayload b) 36 4 ∧ r.sb.trains = 3) ∧
    (∃ (s : State) (c : SbCopies) (b : Nat) (r : State), Heard s c b r ∧ bodyType b = SbType.ident.code ∧ r.chip.col = .ident ∧ r.on IDENT.REC_STAT.FAR_HELD = false ∧ (Sparse.set (bits (bodyPayload b) 36 4) (some (BitVec.ofNat 32 (bodyPayload b))) r.sb.chunks).length ≠ 16) ∧
    (∃ (s : State) (c : SbCopies) (b : Nat) (r : State), Heard s c b r ∧ bodyType b ∈ [0, 13, 14, 15]) ∧
    (∃ (s : State) (now : Beat), (s.at now).chip.col = .ident ∧ (s.at now).sb.rejected = false ∧ (s.at now).past (s.at now).chip.stepEntry 200000 = true ∧ (s.at now).get IDENT.IDENT_STAT.ATTEMPTS < 3) ∧
    (∃ (s : State) (now : Beat), (s.at now).chip.col = .ident ∧ (s.at now).sb.rejected = false ∧ (s.at now).past (s.at now).chip.stepEntry 200000 = true ∧ 3 ≤ (s.at now).get IDENT.IDENT_STAT.ATTEMPTS) :=
  ⟨⟨{ up 2 .sbUp with sb.trains := 2 }, cp .train (2 * 2 ^ 36), heardBody { up 2 .sbUp with sb.trains := 2 } (cp .train (2 * 2 ^ 36)), heardState { up 2 .sbUp with sb.trains := 2 } (cp .train (2 * 2 ^ 36)), heard (by decide +kernel), by decide +kernel⟩,
   ⟨{ up 2 .sbUp with sb.trains := 3 }, cp .train (2 * 2 ^ 36), heardBody { up 2 .sbUp with sb.trains := 3 } (cp .train (2 * 2 ^ 36)), heardState { up 2 .sbUp with sb.trains := 3 } (cp .train (2 * 2 ^ 36)), heard (by decide +kernel), by decide +kernel⟩,
   ⟨up 2 .ident, cp .ident (15 * 2 ^ 36 + 0xABCD), heardBody (up 2 .ident) (cp .ident (15 * 2 ^ 36 + 0xABCD)), heardState (up 2 .ident) (cp .ident (15 * 2 ^ 36 + 0xABCD)), heard (by decide +kernel), by decide +kernel⟩,
   ⟨up 2 .sbUp, ⟨some (sbFrame 15 3 0), some (sbFrame 15 3 0), none, 0, 0, 0, 8, 8, 8⟩, heardBody (up 2 .sbUp) ⟨some (sbFrame 15 3 0), some (sbFrame 15 3 0), none, 0, 0, 0, 8, 8, 8⟩, heardState (up 2 .sbUp) ⟨some (sbFrame 15 3 0), some (sbFrame 15 3 0), none, 0, 0, 0, 8, 8, 8⟩, heard (by decide +kernel), by decide +kernel⟩,
   ⟨(up 2 .ident).put IDENT.IDENT_STAT.ATTEMPTS 2, 0, by decide +kernel⟩,
   ⟨(up 2 .ident).put IDENT.IDENT_STAT.ATTEMPTS 3, 0, by decide +kernel⟩⟩

theorem hyps_PeriodicFramesAreSent :
    (∃ (s : State) (now : Beat), (s.at now).trainsOn = true ∧ (s.at now).past (s.at now).sb.lastTrain 1000 = true ∧ (s.at now).sbSends = true ∧ (s.chip.col ≠ .ident ∨ s.sb.recOk = true) ∧ (s.chip.col ≠ .cal ∨ s.cal.ownRep = none ∨ s.cal.shown = true)) ∧
    (∃ (s : State) (now : Beat), (s.at now).colIn inService = true ∧ (s.at now).past (s.at now).sb.lastTx 1000 = true ∧ (s.at now).sbSends = true) :=
  ⟨⟨up 2 .cal, 0, by decide +kernel⟩,
   ⟨up 2 .active, 0, by decide +kernel⟩⟩

theorem hyps_TimeLimitsEndInDownOrFault :
    (∃ (s : State) (now : Beat), (s.at now).chip.col = .sbUp ∧ (s.at now).past (s.at now).chip.entry 5000000 = true) ∧
    (∃ (s : State) (now : Beat), (s.at now).chip.col = .creditInit ∧ (s.at now).past (s.at now).chip.entry 200000 = true) ∧
    (∃ (s : State) (now : Beat), (s.at now).chip.col = .repair ∧ (s.at now).past (s.at now).chip.entry 1000000 = true) ∧
    (∃ (s : State) (now : Beat), (s.at now).chip.col = .cal ∧ (s.at now).chip.step = 0 ∧ (s.at now).past (s.at now).chip.stepEntry 1000000 = true) ∧
    (∃ (s : State) (now : Beat), (s.at now).colIn [.ident, .cal, .repair, .creditInit, .active, .retrain, .quietRepair, .widthChange, .lowland, .drain] = true ∧ (s.at now).past (s.at now).sb.lastRx 8192 = true) ∧
    (∃ (s : State) (cycles : Nat), s.colIn inService = true ∧ 1024 ≤ cycles ∧ s.ctrlPaused true = false) :=
  ⟨⟨up 2 .sbUp, 0, by decide +kernel⟩,
   ⟨up 2 .creditInit, 0, by decide +kernel⟩,
   ⟨up 2 .repair, 0, by decide +kernel⟩,
   ⟨up 2 .cal, 0, by decide +kernel⟩,
   ⟨up 2 .lowland, 0, by decide +kernel⟩,
   ⟨up 2 .active, 1024, by decide +kernel⟩⟩

theorem hyps_BeatCounterLoadsSlewsAndLevelIsWritten :
    (∃ (s : State) (seed : Beat), s.beatRuns = true ∧ s.colIn [.off, .resetHeld] = true) ∧
    (∃ (s : State) (seed : Beat), s.beatRuns = false) ∧
    (∃ (s : State) (seed : Beat), s.beatRuns = true ∧ s.colIn [.off, .resetHeld] = false) ∧
    (∃ (s : State), s.chip.dieRst = false ∧ s.role ≠ 0) ∧
    (∃ (s : State) (v : BitVec 8), HostUp s (keyDomains TIME.LEVEL_CTL.L_LEVEL.key) ∧ s.role ≠ 0 ∧ s.colIn [.off, .resetHeld, .sbUp, .ident, .cal, .repair, .creditInit] = true ∧ 32 ≤ v.toNat) ∧
    (∃ (s : State) (now : Beat), s.beatRuns = true ∧ s.chip.counter = none ∧ s.on TIME.SLEW_STAT.PENDING = true ∧ (s.at now).reached s.marks.nextSlew = true) :=
  ⟨⟨up 2 .resetHeld, 5, by decide +kernel⟩,
   ⟨{ up 2 .active with chip.stopped := 8 }, 0xFFFFFFFFFFFFFFFF, by decide +kernel⟩,
   ⟨up 2 .active, 5, by decide +kernel⟩,
   ⟨up 2 .active, by decide +kernel⟩,
   ⟨up 2 .creditInit, 32, hostUp (by decide +kernel), by decide +kernel⟩,
   ⟨(up 2 .active).put TIME.SLEW_STAT.PENDING 1, 0, by decide +kernel⟩⟩

theorem hyps_BeatMarksAreSentMeasuredAndMissed :
    (∃ (s : State) (now : Beat), (s.at now).marking = true ∧ (s.at now).sbSends = true ∧ s.marks.lastTx = none) ∧
    (∃ (s : State) (c : SbCopies) (stamp : Beat) (b : Nat) (r : State), Heard s c b r ∧ bodyType b = SbType.beatMark.code ∧ r.marking = true) ∧
    (∃ (s : State) (now : Beat), (s.at now).marking = true ∧ s.marks.missing = false ∧ (s.at now).past s.marks.lastRx (3 * 2 ^ 20) = true) :=
  ⟨⟨up 2 .cal, 0, by decide +kernel⟩,
   ⟨up 2 .cal, cp .beatMark 0x0FFFFFF0, 0x10000000, heardBody (up 2 .cal) (cp .beatMark 0x0FFFFFF0), heardState (up 2 .cal) (cp .beatMark 0x0FFFFFF0), heard (by decide +kernel), by decide +kernel⟩,
   ⟨up 2 .cal, 0, by decide +kernel⟩⟩

theorem hyps_ColDrainsInPhases :
    (∃ (s : State), HostUp s (keyDomains TXN.DRAIN_CMD.GO.key) ∧ s.role ≠ 0 ∧ s.get TXN.DRAIN_STAT.PHASE ∉ [1, 2] ∧ s.colIn [.active, .quietRepair, .widthChange, .lowland] = true ∧ s.isOwner = false) ∧
    (∃ (s : State), HostUp s (keyDomains TXN.DRAIN_CMD.GO.key) ∧ s.isM = true ∧ s.get TXN.DRAIN_STAT.PHASE ∉ [1, 2] ∧ s.colIn [.active, .quietRepair, .widthChange, .lowland] = true ∧ s.isOwner = true) ∧
    (∃ (s : State), s.turningAway = true ∧ s.txn.outT = [] ∧ s.txn.served = [] ∧ s.bothAcked = true) ∧
    (∃ (s : State) (now : Beat), (s.at now).past s.txn.drainAt (s.get TXN.DRAIN_CTL.BOUND) = true ∧ s.turningAway = true) ∧
    (∃ (s : State) (now : Beat), (s.at now).past s.txn.drainAt (s.get TXN.DRAIN_CTL.BOUND) = true ∧ s.chip.col = .drain) ∧
    (∃ (s : State), s.chip.col = .drain ∧ s.bothAcked = true ∧ s.get IDENT.IDENT_STAT.FAR_STATE ∈ [12, 13, 14]) :=
  ⟨⟨up 2 .lowland, hostUp (by decide +kernel), by decide +kernel⟩,
   ⟨(up 1 .lowland).put PAIR.ROLE_STAT.PROLE 5, hostUp (by decide +kernel), by decide +kernel⟩,
   ⟨(up 2 .active).put TXN.DRAIN_STAT.PHASE 1, by decide +kernel⟩,
   ⟨(up 2 .active).put TXN.DRAIN_STAT.PHASE 1, 0, by decide +kernel⟩,
   ⟨up 2 .drain, 0, by decide +kernel⟩,
   ⟨(up 2 .drain).put IDENT.IDENT_STAT.FAR_STATE 14, by decide +kernel⟩⟩

theorem hyps_MemoryDrainsAndLostContextsAreRead :
    (∃ (s : State), HostUp s (keyDomains TXN.MDRAIN_CMD.GO.key) ∧ s.isM = true ∧ s.on TXN.MDRAIN_STAT.RUNNING = false ∧ s.drainWaits = true) ∧
    (∃ (s : State), HostUp s (keyDomains TXN.MDRAIN_CMD.GO.key) ∧ s.isM = true ∧ s.on TXN.MDRAIN_STAT.RUNNING = false ∧ s.drainWaits = false) ∧
    (∃ (s : State) (now : Beat), (s.at now).on TXN.MDRAIN_STAT.RUNNING = true ∧ ((s.at now).drainWaits = false ∨ (s.at now).past s.txn.mdrainAt (s.get TXN.DRAIN_CTL.BOUND) = true)) ∧
    (∃ (s : State) (e : LostEntry) (l : List LostEntry), HostUp s (keyDomains TXN.LOST_FIFO.CTX.key) ∧ s.role ≠ 0 ∧ s.lostQ = e :: l) :=
  ⟨⟨{ bound 4 with txn.served := [(3, rq .rd)] }, hostUp (by decide +kernel), by decide +kernel⟩,
   ⟨up 1 .active, hostUp (by decide +kernel), by decide +kernel⟩,
   ⟨(up 1 .active).put TXN.MDRAIN_STAT.RUNNING 1, 0, by decide +kernel⟩,
   ⟨{ up 1 .active with lostQ := [⟨7, 2, 100⟩] }, ⟨7, 2, 100⟩, [], hostUp (by decide +kernel), by decide +kernel⟩⟩

theorem hyps_ScramblerStartsAreProposedAndTaken :
    (∃ (s : State) (now : Beat) (b : Beat), s.cal.startAt = some b ∧ s.cal.starter = true ∧ s.cal.ready = false ∧ (s.at now).reached (b - 2000) = true ∧ s.wins = true) ∧
    (∃ (s : State) (now : Beat) (b : Beat), s.cal.startAt = some b ∧ s.cal.ready = true ∧ s.cal.seeded = false ∧ (s.at now).reached b = true ∧ s.colIn [.cal, .retrain, .lowland] = true ∧ ¬ (s.chip.col = .cal ∧ s.chip.step = 3)) ∧
    (∃ (s : State) (g : Fin 5), s.cal.seeded = true ∧ s.cal.candRx.getLsbD g.val = true ∧ s.cal.risen.getLsbD g.val = false ∧ s.cal.noRise.getLsbD g.val = false) ∧
    (∃ (s : State) (g : Fin 5), s.cal.noRise.getLsbD g.val = true) ∧
    (∃ (s : State) (now : Beat) (b : Beat) (g : Fin 5), s.cal.startAt = some b ∧ s.cal.seeded = true ∧ (s.at now).reached (b + 4096) = true ∧ s.chip.col ≠ .repair ∧ s.cal.candRx.getLsbD g.val = true ∧ s.cal.risen.getLsbD g.val = false) :=
  ⟨⟨{ up 2 .cal with cal.startAt := some 0x100007D0, cal.starter := true }, 0, 0x100007D0, by decide +kernel⟩,
   ⟨{ up 2 .cal with cal.startAt := some 0x10000000, cal.ready := true }, 0, 0x10000000, by decide +kernel⟩,
   ⟨{ up 2 .cal with cal.seeded := true, cal.candRx := 0x1F }, 4, by decide +kernel⟩,
   ⟨{ up 1 .cal with cal.noRise := 8 }, 3, by decide +kernel⟩,
   ⟨{ up 2 .cal with cal.startAt := some 0x0FFFF000, cal.seeded := true, cal.candRx := 0x1F }, 0, 0x0FFFF000, 4, by decide +kernel⟩⟩

theorem hyps_CalibrationStepsProceed :
    (∃ (s : State), s.chip.step = 1 ∧ s.colIn [.cal, .retrain, .lowland] = true) ∧
    (∃ (s : State) (r : CalWindow), r.wf = true ∧ s.cal.seeded = true ∧ s.cal.ownRep = none ∧ s.chip.col = .cal ∧ s.chip.step = 0 ∧ s.cal.window < 5) ∧
    (∃ (s : State) (r : CalWindow) (i : Nat) (c : BitVec 6), r.wf = true ∧ s.cal.seeded = true ∧ s.cal.ownRep = none ∧ s.chip.col = .cal ∧ s.chip.step = 0 ∧ s.cal.window = 2 ∧ r.offset = [(i, c)]) ∧
    (∃ (s : State), HostUp s (keyDomains PHY.RETRAIN_CMD.GO.key) ∧ s.role ≠ 0 ∧ s.chip.col = .active ∧ s.anyPause = false ∧ s.parked = false) ∧
    (∃ (s : State) (now : Beat) (b : Beat), s.rep.verify = some b ∧ s.chip.col = .repair ∧ (s.at now).past b 1024 = true ∧ s.rep.farReady = false) :=
  ⟨⟨{ up 2 .cal with chip.step := 1 }, by decide +kernel⟩,
   ⟨{ up 2 .cal with cal.seeded := true, cal.window := 4 }, calWin [], by decide +kernel⟩,
   ⟨{ up 2 .cal with cal.seeded := true, cal.window := 2 }, calWin [(144, 63)], 144, 63, by decide +kernel⟩,
   ⟨up 2 .active, hostUp (by decide +kernel), by decide +kernel⟩,
   ⟨{ up 2 .repair with rep.verify := some 0x0FFFFC00 }, 0, 0x0FFFFC00, by decide +kernel⟩⟩

theorem hyps_BackgroundCalibrationRuns :
    (∃ (s : State), HostUp s (keyDomains CAL.RUN_CMD.GO.key) ∧ s.role ≠ 0 ∧ s.cal.run = none ∧ s.colIn [.active, .lowland] = true ∧ s.parked = false) ∧
    (∃ (s : State), HostUp s (keyDomains CAL.RUN_CMD.GO.key) ∧ s.role ≠ 0 ∧ s.cal.run = none ∧ s.colIn [.active, .lowland] = true ∧ s.parked = true) ∧
    (∃ (s : State) (r : CalRun) (counts : List EdgeCounts), (counts.all fun c => siteOk c.site) = true ∧ s.cal.run = some r ∧ r.stage = .correct) ∧
    (∃ (s : State) (r : CalRun) (eyes : List EyeMeas), (eyes.all fun e => siteOk e.site) = true ∧ s.cal.run = some r ∧ r.stage = .measure ∧ eyes.any s.worse = false) ∧
    (∃ (s : State) (r : CalRun) (eyes : List EyeMeas), (eyes.all fun e => siteOk e.site) = true ∧ s.cal.run = some r ∧ r.stage = .measure ∧ eyes.any s.worse = true ∧ (eyes.all fun e => decide (16 ≤ e.width)) = true) ∧
    (∃ (s : State) (c : SbCopies) (b : Nat) (r : State), Heard s c b r ∧ bodyType b = SbType.calApply.code ∧ bits (bodyPayload b) 36 4 = 1) ∧
    (∃ (s : State) (c : SbCopies) (b : Nat) (r : State) (a : ApplyPlan), Heard s c b r ∧ bodyType b = SbType.calApply.code ∧ bits (bodyPayload b) 36 4 = 2 ∧ r.cal.own = some a ∧ a.run = bits (bodyPayload b) 32 4 ∧ a.beat.toNat % 2 ^ 32 = bits (bodyPayload b) 0 32 ∧ a.declined = false) ∧
    (∃ (s : State) (c : SbCopies) (b : Nat) (r : State) (a : ApplyPlan), Heard s c b r ∧ bodyType b = SbType.calApply.code ∧ bits (bodyPayload b) 36 4 = 3 ∧ r.cal.far = some a ∧ r.cal.own = none ∧ a.run = bits (bodyPayload b) 32 4 ∧ a.beat.toNat % 2 ^ 32 = bits (bodyPayload b) 0 32) ∧
    (∃ (s : State) (c : SbCopies) (b : Nat) (r : State) (a : ApplyPlan) (u : CalRun), Heard s c b r ∧ bodyType b = SbType.calApply.code ∧ bits (bodyPayload b) 36 4 = 3 ∧ r.cal.own = some a ∧ r.cal.run = some u ∧ a.run = bits (bodyPayload b) 32 4 ∧ a.beat.toNat % 2 ^ 32 = bits (bodyPayload b) 0 32) ∧
    (∃ (s : State) (now : Beat) (a : ApplyPlan), s.cal.own = some a ∧ a.accepted = false ∧ (s.at now).reached (a.beat - 1024) = false ∧ (s.at now).past a.lastSent 1024 = true) ∧
    (∃ (s : State) (now : Beat) (a : ApplyPlan), s.cal.own = some a ∧ a.accepted = true ∧ (s.at now).reached a.beat = true ∧ s.cal.far = none ∧ s.colIn [.active, .lowland] = false) ∧
    (∃ (s : State) (now : Beat) (a : ApplyPlan) (r : CalRun), s.cal.own = some a ∧ a.accepted = true ∧ (s.at now).reached a.beat = true ∧ s.cal.far = none ∧ s.colIn [.active, .lowland] = true ∧ s.rep.props = [] ∧ s.cal.run = some r ∧ r.stage = .agree) :=
  ⟨⟨up 1 .active, hostUp (by decide +kernel), by decide +kernel⟩,
   ⟨(up 1 .active).put POWER.PWR_STAT.STATE 2, hostUp (by decide +kernel), by decide +kernel⟩,
   ⟨{ up 1 .active with cal.run := some ⟨.correct, [], [], [], false, false, []⟩ }, ⟨.correct, [], [], [], false, false, []⟩, [⟨144, 0, 0, 0, 0, 0, 0, 0, 0⟩], by decide +kernel⟩,
   ⟨{ up 1 .active with cal.run := some ⟨.measure, [], [], [], false, false, []⟩ }, ⟨.measure, [], [], [], false, false, []⟩, [⟨144, 0xFFFFFFFFFFFFFFFF, 0⟩], by decide +kernel⟩,
   ⟨{ ((up 1 .active).put (CAL.EYE.VALID 144) 1).put (CAL.EYE.WIDTH 144) 63 with cal.run := some ⟨.measure, [], [], [], false, false, []⟩ }, ⟨.measure, [], [], [], false, false, []⟩, [⟨144, 0x0000FFFFFFFF0000, 0⟩], by decide +kernel⟩,
   ⟨up 1 .active, cp .calApply (1 * 2 ^ 36 + 5 * 2 ^ 32 + 0x10004000), heardBody (up 1 .active) (cp .calApply (1 * 2 ^ 36 + 5 * 2 ^ 32 + 0x10004000)), heardState (up 1 .active) (cp .calApply (1 * 2 ^ 36 + 5 * 2 ^ 32 + 0x10004000)), heard (by decide +kernel), by decide +kernel⟩,
   ⟨{ up 1 .active with cal.own := some ⟨0x10004000, 5, false, 0x0FFFF000, false⟩ }, cp .calApply (2 * 2 ^ 36 + 5 * 2 ^ 32 + 0x10004000), heardBody { up 1 .active with cal.own := some ⟨0x10004000, 5, false, 0x0FFFF000, false⟩ } (cp .calApply (2 * 2 ^ 36 + 5 * 2 ^ 32 + 0x10004000)), heardState { up 1 .active with cal.own := some ⟨0x10004000, 5, false, 0x0FFFF000, false⟩ } (cp .calApply (2 * 2 ^ 36 + 5 * 2 ^ 32 + 0x10004000)), ⟨0x10004000, 5, false, 0x0FFFF000, false⟩, heard (by decide +kernel), by decide +kernel⟩,
   ⟨{ up 1 .active with cal.far := some ⟨0x10004000, 5, true, 0x0FFFF000, false⟩ }, cp .calApply (3 * 2 ^ 36 + 5 * 2 ^ 32 + 0x10004000), heardBody { up 1 .active with cal.far := some ⟨0x10004000, 5, true, 0x0FFFF000, false⟩ } (cp .calApply (3 * 2 ^ 36 + 5 * 2 ^ 32 + 0x10004000)), heardState { up 1 .active with cal.far := some ⟨0x10004000, 5, true, 0x0FFFF000, false⟩ } (cp .calApply (3 * 2 ^ 36 + 5 * 2 ^ 32 + 0x10004000)), ⟨0x10004000, 5, true, 0x0FFFF000, false⟩, heard (by decide +kernel), by decide +kernel⟩,
   ⟨{ up 1 .active with cal.own := some ⟨0x10004000, 5, false, 0x0FFFF000, false⟩, cal.run := some ⟨.agree, [], [], [], false, false, []⟩ }, cp .calApply (3 * 2 ^ 36 + 5 * 2 ^ 32 + 0x10004000), heardBody { up 1 .active with cal.own := some ⟨0x10004000, 5, false, 0x0FFFF000, false⟩, cal.run := some ⟨.agree, [], [], [], false, false, []⟩ } (cp .calApply (3 * 2 ^ 36 + 5 * 2 ^ 32 + 0x10004000)), heardState { up 1 .active with cal.own := some ⟨0x10004000, 5, false, 0x0FFFF000, false⟩, cal.run := some ⟨.agree, [], [], [], false, false, []⟩ } (cp .calApply (3 * 2 ^ 36 + 5 * 2 ^ 32 + 0x10004000)), ⟨0x10004000, 5, false, 0x0FFFF000, false⟩, ⟨.agree, [], [], [], false, false, []⟩, heard (by decide +kernel), by decide +kernel⟩,
   ⟨{ up 1 .active with cal.own := some ⟨0x10000401, 5, false, 0x0FFFFC00, false⟩ }, 0, ⟨0x10000401, 5, false, 0x0FFFFC00, false⟩, by decide +kernel⟩,
   ⟨{ up 1 .retrain with cal.own := some ⟨0x10000000, 5, true, 0x0FFFFC00, false⟩ }, 0, ⟨0x10000000, 5, true, 0x0FFFFC00, false⟩, by decide +kernel⟩,
   ⟨{ up 1 .active with cal.own := some ⟨0x10000000, 5, true, 0x0FFFFC00, false⟩, cal.run := some ⟨.agree, [], [], [], false, false, []⟩ }, 0, ⟨0x10000000, 5, true, 0x0FFFFC00, false⟩, ⟨.agree, [], [], [], false, false, []⟩, by decide +kernel⟩⟩

theorem hyps_DieOffersAreTakenSentOrTurnedAway :
    (∃ (s : State) (c : DieCycle) (h : Hdr) (q : Hdr), c.wf = true ∧ s.portOpen = true ∧ h = hdrOf ((cycleUnits c).headD 0) ∧ h.isResponse = false ∧ h.isPosted = false ∧ h.operation ≠ some .nop ∧ Sparse.find s.txn.outT h.tag = some q) ∧
    (∃ (s : State) (c : DieCycle) (h : Hdr) (o : Op), c.wf = true ∧ s.portOpen = true ∧ h = hdrOf ((cycleUnits c).headD 0) ∧ h.isResponse = false ∧ (h.isPosted = true ∨ Sparse.find s.txn.outT h.tag = none) ∧ offerMalformed c.cls.toNat h = false ∧ h.operation = some o ∧ s.hasCredits h o = true ∧ s.chip.col = .lowland ∧ 2 ≤ h.tc) ∧
    (∃ (s : State) (c : DieCycle) (h : Hdr) (o : Op), c.wf = true ∧ s.portOpen = true ∧ h = hdrOf ((cycleUnits c).headD 0) ∧ h.isResponse = false ∧ (h.isPosted = true ∨ Sparse.find s.txn.outT h.tag = none) ∧ offerMalformed c.cls.toNat h = false ∧ h.operation = some o ∧ o ≠ .nop ∧ s.fmtRefused h o = false ∧ s.hasCredits h o = true ∧ ¬ (s.chip.col = .lowland ∧ 2 ≤ h.tc) ∧ s.get TXN.DRAIN_STAT.PHASE ≠ 1 ∧ (o.isPosted = true ∨ respEntries o h.len ≤ s.get CREDIT.RSP_STAT.FREE) ∧ h.early = false ∧ c.last = true ∧ slotsAfter (some o) h.len = some ((cycleUnits c).length - 1)) ∧
    (∃ (s : State) (c : DieCycle) (h : Hdr), c.wf = true ∧ s.portOpen = true ∧ h = hdrOf ((cycleUnits c).headD 0) ∧ Sparse.find s.txn.outT h.tag = none ∧ offerMalformed c.cls.toNat h = false ∧ h.operation = some .rd ∧ h.early = true ∧ s.isH = true ∧ s.fmtRefused h .rd = false ∧ s.hasCredits h .rd = true ∧ s.get TXN.DRAIN_STAT.PHASE ≠ 1 ∧ respEntries .rd h.len ≤ s.get CREDIT.RSP_STAT.FREE ∧ c.last = true) ∧
    (∃ (s : State) (c : DieCycle) (m : TakeMode) (i : TxItem), c.wf = true ∧ s.chip.dieRst = false ∧ s.clkOn 1 = true ∧ s.lnk.txCur = some (m, i) ∧ c.last = false) ∧
    (∃ (s : State) (c : DieCycle) (i : TxItem), c.wf = true ∧ s.chip.dieRst = false ∧ s.clkOn 1 = true ∧ s.lnk.txCur = some (.send, i) ∧ c.last = true ∧ slotsAfter i.hdr.operation i.hdr.len = some (i.slots ++ cycleUnits c).length) ∧
    (∃ (s : State) (c : DieCycle) (h : Hdr) (q : Hdr), c.wf = true ∧ s.portOpen = true ∧ h = hdrOf ((cycleUnits c).headD 0) ∧ h.isResponse = true ∧ s.txn.gone.contains h.tag = false ∧ Sparse.find s.txn.served h.tag = some q ∧ s.txn.squashed.contains h.tag = false ∧ rspFits q h = true ∧ c.last = true) ∧
    (∃ (s : State) (c : DieCycle) (h : Hdr), c.wf = true ∧ s.portOpen = true ∧ h = hdrOf ((cycleUnits c).headD 0) ∧ h.isResponse = true ∧ s.txn.gone.contains h.tag = false ∧ Sparse.find s.txn.served h.tag = none) :=
  ⟨⟨{ up 2 .active with txn.outT := [(3, rq .rd)] }, dc 0 (rq .rd) [] true, hdrOf ((cycleUnits (dc 0 (rq .rd) [] true)).headD 0), rq .rd, by decide +kernel⟩,
   ⟨credits (up 2 .lowland), dc 2 (rq .atSwap) [1] true, hdrOf ((cycleUnits (dc 2 (rq .atSwap) [1] true)).headD 0), .atSwap, by decide +kernel⟩,
   ⟨credits (up 2 .active), dc 0 (rq .rd) [] true, hdrOf ((cycleUnits (dc 0 (rq .rd) [] true)).headD 0), .rd, by decide +kernel⟩,
   ⟨credits (up 2 .active), dc 0 { rq .rd with attr := 1 } [] true, hdrOf ((cycleUnits (dc 0 { rq .rd with attr := 1 } [] true)).headD 0), by decide +kernel⟩,
   ⟨{ up 2 .active with lnk.txCur := some (.send, ⟨rq .wr, [1], true, false⟩) }, ⟨1, [2], false⟩, .send, ⟨rq .wr, [1], true, false⟩, by decide +kernel⟩,
   ⟨{ up 2 .active with lnk.txCur := some (.send, ⟨rq .wr, [1], true, false⟩) }, ⟨1, [2, 3, 4], true⟩, ⟨rq .wr, [1], true, false⟩, by decide +kernel⟩,
   ⟨{ up 2 .active with txn.served := [(3, rq .wr)] }, dc 1 (rq .cpl) [] true, hdrOf ((cycleUnits (dc 1 (rq .cpl) [] true)).headD 0), rq .wr, by decide +kernel⟩,
   ⟨up 2 .active, dc 1 (rq .cpl) [] true, hdrOf ((cycleUnits (dc 1 (rq .cpl) [] true)).headD 0), by decide +kernel⟩⟩

theorem hyps_TransfersAndMessagesPassTheDiePort :
    (∃ (s : State) (cls : BitVec 2) (i : DpoItem) (q : List DpoItem), s.chip.dieRst = false ∧ s.clkOn 1 = true ∧ s.pickItem cls.toNat [] s.lnk.dpoQ = some (i, q) ∧ i.tent = true ∧ i.cnf = false) ∧
    (∃ (s : State) (cls : BitVec 2) (i : DpoItem) (q : List DpoItem), s.chip.dieRst = false ∧ s.clkOn 1 = true ∧ s.pickItem cls.toNat [] s.lnk.dpoQ = some (i, q) ∧ i.tent = false ∧ i.hdr.isResponse = true ∧ i.first = true ∧ i.last = true) ∧
    (∃ (s : State) (cls : BitVec 2) (i : DpoItem) (q : List DpoItem), s.chip.dieRst = false ∧ s.clkOn 1 = true ∧ s.pickItem cls.toNat [] s.lnk.dpoQ = some (i, q) ∧ i.tent = false ∧ i.hdr.isResponse = false ∧ i.hdr.isPosted = false ∧ i.first = true ∧ s.colDead = false) ∧
    (∃ (s : State) (cls : BitVec 3) (data : Word), s.chip.dieRst = false ∧ s.role ≠ 0 ∧ s.clkOn 1 = true ∧ s.colIn inService = true ∧ s.preReset = false ∧ (cls.toNat = 2 ∨ 5 ≤ cls.toNat)) ∧
    (∃ (s : State) (cls : BitVec 3) (data : Word), s.chip.dieRst = false ∧ s.role ≠ 0 ∧ s.clkOn 1 = true ∧ s.colIn inService = true ∧ s.preReset = false ∧ cls.toNat ∈ [0, 1, 3, 4] ∧ s.get (CREDIT.TX_STAT.ADV (msgIdx cls.toNat)) = 0) ∧
    (∃ (s : State) (cls : BitVec 3) (data : Word), s.chip.dieRst = false ∧ s.role ≠ 0 ∧ s.clkOn 1 = true ∧ s.colIn inService = true ∧ s.preReset = false ∧ cls.toNat ∈ [0, 1, 3, 4] ∧ 0 < s.avail (msgIdx cls.toNat)) ∧
    (∃ (s : State) (cls : BitVec 3) (m : Nat), s.chip.dieRst = false ∧ s.clkOn 1 = true ∧ s.lnk.msgOut.find? (fun m => msgClass m == cls.toNat) = some m) :=
  ⟨⟨{ up 2 .active with lnk.dpoQ := [item (rq .rd) true] }, 0, item (rq .rd) true, [], by decide +kernel⟩,
   ⟨{ up 2 .active with lnk.dpoQ := [item (rq .cpl) false], txn.outT := [(3, rq .rd)] }, 0, item (rq .cpl) false, [], by decide +kernel⟩,
   ⟨{ up 2 .active with lnk.dpoQ := [item (rq .wr) false] }, 1, item (rq .wr) false, [], by decide +kernel⟩,
   ⟨up 2 .active, 7, 0, by decide +kernel⟩,
   ⟨up 2 .active, 4, 0, by decide +kernel⟩,
   ⟨(up 2 .active).put (CREDIT.TX_STAT.ADV 10) 1, 4, 0xFFFFFFFFFFFFFFFF, by decide +kernel⟩,
   ⟨{ up 2 .active with lnk.msgOut := [8, 12] }, 4, 12, by decide +kernel⟩⟩

theorem hyps_VerdictsAndSquashesDecideEarlyReads :
    (∃ (s : State) (tag : BitVec 12) (dirty : Bool), s.chip.dieRst = false ∧ s.isH = true ∧ s.clkOn 1 = true ∧ (∀ e, Sparse.find s.txn.early tag.toNat = some e → e.verdict ≠ none)) ∧
    (∃ (s : State) (tag : BitVec 12) (e : EarlyRead), s.chip.dieRst = false ∧ s.isH = true ∧ s.clkOn 1 = true ∧ Sparse.find s.txn.early tag.toNat = some e ∧ e.verdict = none ∧ e.hdr.tag = tag.toNat ∧ e.held = true) ∧
    (∃ (s : State) (tag : BitVec 12) (e : EarlyRead), s.chip.dieRst = false ∧ s.isH = true ∧ s.clkOn 1 = true ∧ Sparse.find s.txn.early tag.toNat = some e ∧ e.verdict = none ∧ e.hdr.tag = tag.toNat ∧ e.held = true) ∧
    (∃ (s : State) (tag : BitVec 12) (e : EarlyRead), s.chip.dieRst = false ∧ s.isH = true ∧ s.clkOn 1 = true ∧ Sparse.find s.txn.early tag.toNat = some e ∧ e.verdict = none ∧ e.hdr.tag = tag.toNat ∧ e.held = false ∧ e.resp = none) ∧
    (∃ (s : State) (tag : BitVec 12) (e : EarlyRead), s.chip.dieRst = false ∧ s.isH = true ∧ s.clkOn 1 = true ∧ Sparse.find s.txn.early tag.toNat = some e ∧ e.verdict = none ∧ e.hdr.tag = tag.toNat ∧ e.held = false ∧ e.resp = none) ∧
    (∃ (s : State) (m : Nat) (i : TxItem), s.linkHead 4 = some m ∧ s.lnk.txQ = [i] ∧ i.fresh = true ∧ i.hdr.isResponse = true ∧ i.hdr.tag = bits m 8 12) ∧
    (∃ (s : State) (m : Nat) (i : TxItem), s.linkHead 4 = some m ∧ s.lnk.txQ = [] ∧ s.lnk.txCur = some (.send, i) ∧ i.fresh = true ∧ i.hdr.isResponse = true ∧ i.hdr.tag = bits m 8 12) ∧
    (∃ (s : State) (m : Nat), s.linkHead 4 = some m ∧ s.lnk.txQ = [] ∧ s.lnk.txCur = none ∧ s.holdsRead (bits m 8 12) = true) ∧
    (∃ (s : State) (m : Nat), s.linkHead 4 = some m ∧ s.lnk.txQ = [] ∧ s.lnk.txCur = none ∧ s.holdsRead (bits m 8 12) = false) :=
  ⟨⟨up 2 .active, 5, true, (by decide +kernel), (by decide +kernel), (by decide +kernel), (by
      intro e h
      have h0 : Sparse.find (up 2 .active).txn.early (5 : BitVec 12).toNat = none := by decide +kernel
      rw [h0] at h
      cases h)⟩,
   ⟨{ up 2 .active with txn.early := [(3, ⟨rq .rd, 0, none, true, 1048576, none⟩)] }, 3, ⟨rq .rd, 0, none, true, 1048576, none⟩, by decide +kernel⟩,
   ⟨{ up 2 .active with txn.early := [(3, ⟨rq .rd, 0, none, true, 1048576, none⟩)] }, 3, ⟨rq .rd, 0, none, true, 1048576, none⟩, by decide +kernel⟩,
   ⟨{ up 2 .active with txn.early := [(3, ⟨rq .rd, 0, none, false, 1048576, none⟩)] }, 3, ⟨rq .rd, 0, none, false, 1048576, none⟩, by decide +kernel⟩,
   ⟨{ up 2 .active with txn.early := [(3, ⟨rq .rd, 0, none, false, 1048576, none⟩)] }, 3, ⟨rq .rd, 0, none, false, 1048576, none⟩, by decide +kernel⟩,
   ⟨{ up 2 .active with lnk.linkQ := [linkMsg 4 3], lnk.txQ := [⟨rq .cplD, [1, 2, 3, 4], true, false⟩] }, linkMsg 4 3, ⟨rq .cplD, [1, 2, 3, 4], true, false⟩, by decide +kernel⟩,
   ⟨{ up 1 .active with lnk.linkQ := [linkMsg 4 0x7E], lnk.txCur := some (.send, ⟨{ respHdr (rq .rd) .ok with tag := 0x7E }, [], true, false⟩) }, linkMsg 4 0x7E, ⟨{ respHdr (rq .rd) .ok with tag := 0x7E }, [], true, false⟩, by decide +kernel⟩,
   ⟨{ up 1 .active with lnk.linkQ := [linkMsg 4 3], txn.served := [(3, rq .rd)] }, linkMsg 4 3, by decide +kernel⟩,
   ⟨{ up 1 .active with lnk.linkQ := [linkMsg 4 3] }, linkMsg 4 3, by decide +kernel⟩⟩

theorem hyps_AnEarlyReadWithoutVerdictTimesOut :
    (∃ (s : State) (tag : BitVec 12) (now : Beat) (e : EarlyRead), s.chip.dieRst = false ∧ s.isH = true ∧ s.clkOn 1 = true ∧ Sparse.find s.txn.early tag.toNat = some e ∧ e.verdict = none ∧ (s.at now).past e.since e.limit = true) ∧
    (∃ (s : State) (tag : BitVec 12) (now : Beat) (e : EarlyRead), Sparse.find s.txn.early tag.toNat = some e ∧ (s.at now).past e.since e.limit = false) ∧
    (∃ (s : State) (tag : BitVec 12) (now : Beat) (e : EarlyRead) (dirty : Bool), s.chip.dieRst = false ∧ s.isH = true ∧ s.clkOn 1 = true ∧ Sparse.find s.txn.early tag.toNat = some e ∧ e.verdict = none ∧ e.hdr.tag = tag.toNat ∧ (s.at now).past e.since e.limit = true) ∧
    (∃ (s : State) (data : Word), HostUp s (keyDomains TXN.SPEC_CTL.VERDICT_TIMEOUT.key) ∧ (bits data.toNat 32 20 < 1000 ∨ 1000000 < bits data.toNat 32 20)) :=
  ⟨⟨{ up 2 .active with txn.early := [(3, ⟨rq .rd, 0, none, false, 1048576, none⟩)] }, 3, 0, ⟨rq .rd, 0, none, false, 1048576, none⟩, by decide +kernel⟩,
   ⟨{ up 2 .active with txn.early := [(3, ⟨rq .rd, 0x10000000, none, false, 1048576, none⟩)] }, 3, 0, ⟨rq .rd, 0x10000000, none, false, 1048576, none⟩, by decide +kernel⟩,
   ⟨{ up 2 .active with txn.early := [(3, ⟨rq .rd, 0, none, false, 1048576, none⟩)] }, 3, 0, ⟨rq .rd, 0, none, false, 1048576, none⟩, false, by decide +kernel⟩,
   ⟨up 2 .active, BitVec.ofNat 64 (999 * 2 ^ 32), hostUp (by decide +kernel), by decide +kernel⟩⟩

theorem hyps_InputsAreSampledAndHeatLimitsTheEngine :
    (∃ (s : State) (temp : BitVec 10), s.clkOn 0 = true ∧ s.role ≠ 0 ∧ s.pwr.tempLow = false) ∧
    (∃ (s : State) (temp : BitVec 10), s.clkOn 0 = true ∧ s.role ≠ 0 ∧ s.pwr.tempLow = true) ∧
    (∃ (s : State) (temp : BitVec 10) (valid : Bool), s.clkOn 0 = false) ∧
    (∃ (s : State) (temp : BitVec 10), s.clkOn 0 = true ∧ s.role ≠ 0 ∧ s.pwr.hot = false ∧ toInt 10 (s.get POWER.TEMP_CTL.HOT) ≤ toInt 10 temp.toNat ∧ s.colIn [.active, .lowland] = false) ∧
    (∃ (s : State) (temp : BitVec 10), s.clkOn 0 = true ∧ s.role ≠ 0 ∧ s.pwr.hot = true ∧ toInt 10 temp.toNat ≤ toInt 10 (s.get POWER.TEMP_CTL.HOT) - 20) ∧
    (∃ (s : State) (temp : BitVec 10), s.clkOn 0 = true ∧ s.role ≠ 0 ∧ s.colIn [.active, .lowland] = true ∧ s.clkOn 4 = true ∧ s.cal.run = none ∧ s.parked = false ∧ 4 * s.get CAL.DT_CTL.DELTA_T ≤ (toInt 10 temp.toNat - toInt 10 (s.get CAL.RUN_STAT.T_LAST)).natAbs) ∧
    (∃ (s : State) (budget : BitVec 8) (valid : Bool), s.clkOn 0 = true) ∧
    (∃ (s : State) (budget : BitVec 8) (valid : Bool), s.clkOn 0 = false) ∧
    (∃ (s : State) (thr : BitVec 8), s.clkOn 0 = true) ∧
    (∃ (s : State) (thr : BitVec 8), s.clkOn 0 = false) :=
  ⟨⟨up 2 .active, 0, by decide +kernel⟩,
   ⟨{ up 2 .active with pwr.tempLow := true }, 1023, by decide +kernel⟩,
   ⟨{ up 2 .active with chip.clk := 0xFFE }, 511, true, by decide +kernel⟩,
   ⟨up 1 .cal, 511, by decide +kernel⟩,
   ⟨{ up 1 .cal with pwr.hot := true }, 512, by decide +kernel⟩,
   ⟨up 1 .active, 511, by decide +kernel⟩,
   ⟨up 2 .off, 255, true, by decide +kernel⟩,
   ⟨{ up 2 .active with chip.clk := 0xFFE }, 255, false, by decide +kernel⟩,
   ⟨up 1 .active, 255, by decide +kernel⟩,
   ⟨{ up 1 .active with chip.clk := 0xFFE }, 255, by decide +kernel⟩⟩

theorem hyps_DemandIsRoundedUpToTheNextStep :
    (∃ (s : State) (now : Beat) (ready : Nat) (period : Nat), s.powered = true ∧ s.isM = true ∧ 0 < period) ∧
    (∃ (s : State) (now : Beat) (ready : Nat) (period : Nat), s.powered = true ∧ s.isM = false) ∧
    (∃ (s : State) (now : Beat) (ready : Nat) (period : Nat), s.powered = true ∧ s.isM = true ∧ s.inp.budgetValid = false ∧ s.pwr.hot = false) :=
  ⟨⟨up 1 .active, 0, 10, 7, by decide +kernel⟩,
   ⟨up 2 .active, 0, 10, 7, by decide +kernel⟩,
   ⟨up 1 .active, 0, 10, 7, by decide +kernel⟩⟩

theorem hyps_BudgetsCapTheEngineAndStepTheRate :
    (∃ (s : State) (now : Beat) (ready : Nat) (period : Nat), s.powered = true ∧ s.isM = true ∧ s.inp.budgetValid = true) ∧
    (∃ (s : State) (now : Beat) (ready : Nat) (period : Nat), s.powered = true ∧ s.budgetShort = true) ∧
    (∃ (s : State) (now : Beat) (ready : Nat) (period : Nat), s.powered = true ∧ s.budgetShort = false) ∧
    (∃ (s : State) (now : Beat) (b : Beat) (r : Nat), s.powered = true ∧ s.pwr.shortSince = some b ∧ s.lowerRate = some r ∧ s.on POWER.THR_CTL.RATE_AUTO = true ∧ (s.at now).past b (s.get POWER.THR_CTL.HOLD) = true ∧ s.retrainRefusal = none ∧ s.parked = false) ∧
    (∃ (s : State) (cycles : Nat), s.chip.dieRst = false ∧ s.get POWER.PWR_STAT.STATE = 0 ∧ s.idleNow = true ∧ 1024 ≤ cycles) :=
  ⟨⟨{ up 1 .active with inp.budgetValid := true, inp.budget := 255 }, 0, 10, 7, by decide +kernel⟩,
   ⟨{ up 1 .active with inp.budgetValid := true, inp.budget := 0 }, 0, 10, 7, by decide +kernel⟩,
   ⟨up 1 .active, 0, 10, 7, by decide +kernel⟩,
   ⟨{ (((agree (up 1 .active) 7).put PHY.RATE_CTL.RATE 3).put PHY.RATE_STAT.RATE 3).put POWER.THR_CTL.RATE_AUTO 1 with pwr.shortSince := some 0 }, 0, 0, 2, by decide +kernel⟩,
   ⟨(up 1 .active).put POWER.PWR_STAT.STATE 0, 1024, by decide +kernel⟩⟩

theorem hyps_LanesParkAndWake :
    (∃ (s : State), HostUp s (keyDomains POWER.PARK_CMD.GO.key) ∧ s.parkRefusal = none ∧ s.parked = false ∧ s.pwr.stopping = false ∧ s.rep.props.any Proposal.isPark = false) ∧
    (∃ (s : State) (now : Beat), s.chip.dieRst = false ∧ s.on POWER.PARK_CTL.AUTO = true ∧ (s.at now).past s.pwr.lastContent (s.get POWER.PARK_CTL.IDLE) = true ∧ s.parkRefusal = none ∧ s.parked = false ∧ s.pwr.stopping = false ∧ s.rep.props.any Proposal.isPark = false) ∧
    (∃ (s : State), HostUp s (keyDomains POWER.PARK_CMD.GO.key) ∧ s.parked = true ∧ s.pwr.waking = false ∧ (s.isM = true → s.clkOn 2 = true)) ∧
    (∃ (s : State), s.chip.dieRst = false ∧ s.role ≠ 0 ∧ s.parked = true ∧ s.pwr.waking = false ∧ (s.isM = true → s.clkOn 2 = true)) ∧
    (∃ (s : State) (now : Beat) (p : Proposal), s.rep.props = [p] ∧ p.kind = .park ∧ p.accepted = true ∧ (s.at now).reached p.beat = true ∧ s.chip.col = .active ∧ s.parked = false) ∧
    (∃ (s : State), s.pwr.stopping = true ∧ s.colIn [.active, .drain] = true ∧ s.outB = 0 ∧ s.on BULK.RPL_STAT.NAK_PENDING = false ∧ s.lnk.txQ = []) ∧
    (∃ (s : State), s.parked = true ∧ s.pwr.waking = true ∧ s.pwr.afterWake = [] ∧ s.pwr.runAfterWake = false ∧ s.cal.run = none) :=
  ⟨⟨{ agree (up 1 .active) 0x200 with tblZeroed := true }, hostUp (by decide +kernel), by decide +kernel⟩,
   ⟨{ (agree (up 1 .active) 0x200).put POWER.PARK_CTL.AUTO 1 with tblZeroed := true }, 0, by decide +kernel⟩,
   ⟨(up 1 .active).put POWER.PWR_STAT.STATE 2, hostUp (by decide +kernel), by decide +kernel⟩,
   ⟨(up 2 .active).put POWER.PWR_STAT.STATE 2, by decide +kernel⟩,
   ⟨{ up 2 .active with rep.props := [⟨.park, 0x10000000, true, true, 0, 0, 0⟩] }, 0, ⟨.park, 0x10000000, true, true, 0, 0, 0⟩, by decide +kernel⟩,
   ⟨{ up 2 .active with pwr.stopping := true }, by decide +kernel⟩,
   ⟨{ (up 2 .active).put POWER.PWR_STAT.STATE 2 with pwr.waking := true }, by decide +kernel⟩⟩

theorem hyps_TheHostPortReadsAndWritesRegisters :
    (∃ (s : State) (data : Word), HostUp s 1 ∧ s.on IDENT.CHAIN_ADDR.ASSIGNED = false ∧ bits data.toNat 0 12 < 0xFFE) ∧
    (∃ (s : State) (data : Word), HostUp s 1 ∧ s.on IDENT.CHAIN_ADDR.ASSIGNED = false ∧ 0xFFE ≤ bits data.toNat 0 12) ∧
    (∃ (s : State) (ti : Bool) (data : Word), HostUp s 1 ∧ (ti = false ∨ s.on IDENT.CHAIN_ADDR.ASSIGNED = true)) ∧
    (∃ (s : State) (wr : Bool) (aper : Bool) (addr : BitVec 18) (data : Word), s.isM = false) ∧
    (∃ (s : State) (addr : BitVec 18) (data : Word), s.isM = true) ∧
    (∃ (s : State) (m : State) (p : State) (data : Word), s.isM = true ∧ HostUp s 1 ∧ m.isM = true ∧ HostUp m 1 ∧ p.isM = false) ∧
    (∃ (s : State) (aper : Bool) (addr : BitVec 18) (data : Word), s.isM = true ∧ HostUp s 1) ∧
    (∃ (s : State) (data : Word), HostUp s 1) ∧
    (∃ (s : State) (data : Word), HostUp s (keyDomains BULK.RPL_CTL.TIMEOUT.key) ∧ s.role ≠ 0 ∧ 8 ≤ bits data.toNat 0 8 ∧ 256 ≤ bits data.toNat 16 12 ∧ 4 ≤ bits data.toNat 32 8) ∧
    (∃ (s : State) (data : Word), HostUp s (keyDomains BULK.RPL_CTL.TIMEOUT.key) ∧ s.role ≠ 0 ∧ (bits data.toNat 0 8 < 8 ∨ bits data.toNat 16 12 < 256 ∨ bits data.toNat 32 8 < 4)) ∧
    (∃ (s : State) (addr : BitVec 18) (data : Word), HostUp s 1 ∧ 2 ^ 13 ≤ addr.toNat) ∧
    (∃ (s : State), HostUp s 1) ∧
    (∃ (s : State) (addr : BitVec 18) (key : Nat), HostUp s (keyDomains key) ∧ regKey addr.toNat = some key ∧ wideLow key = true ∧ s.present (key / 4096) = true) ∧
    (∃ (s : State) (addr : BitVec 18), HostUp s 1 ∧ 2 ^ 13 ≤ addr.toNat) ∧
    (∃ (s : State) (addr : BitVec 18), HostUp s (keyDomains IDENT.BEAT_LO.COUNT.key) ∧ regKey addr.toNat = some IDENT.BEAT_LO.COUNT.key) ∧
    (∃ (s : State) (addr : BitVec 18) (e : LostEntry) (rest : List LostEntry), HostUp s (keyDomains TXN.LOST_FIFO.CTX.key) ∧ s.isM = true ∧ regKey addr.toNat = some TXN.LOST_FIFO.CTX.key ∧ s.lostQ = e :: rest) ∧
    (∃ (s : State) (addr : BitVec 18), HostUp s (s.aperNeeds addr.toNat) ∧ s.isM = true) :=
  ⟨⟨up 0 .off, 0xFFD, hostUp (by decide +kernel), by decide +kernel⟩,
   ⟨up 0 .off, 0xFFE, hostUp (by decide +kernel), by decide +kernel⟩,
   ⟨up 0 .off, false, 1, hostUp (by decide +kernel), by decide +kernel⟩,
   ⟨up 2 .active, true, true, 0, 0, by decide +kernel⟩,
   ⟨up 1 .active, 0, 0, by decide +kernel⟩,
   ⟨up 1 .active, up 1 .off, up 2 .active, 0xFFFFFFFFFFFFFFFF, (by decide +kernel), hostUp (by decide +kernel), (by decide +kernel), hostUp (by decide +kernel), by decide +kernel⟩,
   ⟨up 1 .active, false, 0, 0, (by decide +kernel), hostUp (by decide +kernel)⟩,
   ⟨up 0 .off, 0xFFFFFFFFFFFFFFFF, hostUp (by decide +kernel)⟩,
   ⟨up 1 .active, 0x0000000401000008, hostUp (by decide +kernel), by decide +kernel⟩,
   ⟨up 1 .active, 0x0000000401000007, hostUp (by decide +kernel), by decide +kernel⟩,
   ⟨up 1 .active, 0x2000, 0, hostUp (by decide +kernel), by decide +kernel⟩,
   ⟨up 0 .off, hostUp (by decide +kernel)⟩,
   ⟨up 1 .active, BitVec.ofNat 18 (TXN.SPEC_STAT.RUNAHEAD_COMMITTED.key / 8), TXN.SPEC_STAT.RUNAHEAD_COMMITTED.key, hostUp (by decide +kernel), by decide +kernel⟩,
   ⟨up 0 .off, 0x2000, hostUp (by decide +kernel), by decide +kernel⟩,
   ⟨up 2 .active, BitVec.ofNat 18 (IDENT.BEAT_LO.COUNT.key / 8), hostUp (by decide +kernel), by decide +kernel⟩,
   ⟨{ up 1 .active with lostQ := [⟨16383, 2, 5⟩], lostOvf := true }, BitVec.ofNat 18 (TXN.LOST_FIFO.CTX.key / 8), ⟨16383, 2, 5⟩, [], hostUp (by decide +kernel), by decide +kernel⟩,
   ⟨up 1 .active, 0x3FFFF, hostUp (by decide +kernel), by decide +kernel⟩⟩

theorem hyps_CommonRegistersClearForceAndCount :
    (∃ (s : State) (page : Fin 16) (mask : Word), HostUp s 1 ∧ s.present page.val = true) ∧
    (∃ (s : State) (page : Fin 16) (mask : Word) (b : Nat) (v : BitVec 48), HostUp s 1 ∧ s.present page.val = true ∧ b < eventCount page.val) ∧
    (∃ (s : State) (page : Fin 16) (b : Nat), HostUp s 1 ∧ s.present page.val = true ∧ b < eventCount page.val) ∧
    (∃ (s : State) (page : Fin 16), HostUp s 1 ∧ s.present page.val = true) ∧
    (∃ (s : State) (page : Fin 16), HostUp s (keyDomains (PAGE.PAGE_CTL.CNT_CLR page.val).key) ∧ s.present page.val = true) ∧
    (∃ (s : State), HostUp s (keyDomains RESET.OVL_CMD.APPLY_O3.key) ∧ s.chip.badOvl.contains 3 = false ∧ (s.tblWord (ovlIdx 3 0 0)).getLsbD 0 = false) ∧
    (∃ (s : State) (w0 : Word) (w1 : Word) (data : Word), HostUp s (keyDomains RESET.OVL_CMD.APPLY_O3.key) ∧ HostUp s (keyDomains BULK.RPL_CTL.TIMEOUT.key) ∧ s.role ≠ 0 ∧ s.chip.badOvl.contains 3 = false ∧ w0 = s.tblWord (ovlIdx 3 0 0) ∧ w0.getLsbD 0 = true ∧ bits w0.toNat 4 4 = 0 ∧ w1 = s.tblWord (ovlIdx 3 1 0) ∧ w1.getLsbD 0 = true ∧ 4096 * bits w1.toNat 4 4 + bits w1.toNat 8 12 = BULK.RPL_CTL.TIMEOUT.key ∧ data = s.tblWord (ovlIdx 3 1 1) ∧ 8 ≤ bits data.toNat 0 8 ∧ 256 ≤ bits data.toNat 16 12 ∧ 4 ≤ bits data.toNat 32 8 ∧ (s.tblWord (ovlIdx 3 2 0)).getLsbD 0 = false) ∧
    (∃ (s : State) (slot : Nat) (j : Nat) (n : Nat), (s.tblWord (ovlIdx slot j 0)).getLsbD 0 = true) ∧
    (∃ (s : State), HostUp s (keyDomains RESET.OVL_CMD.APPLY_O3.key) ∧ s.chip.badOvl.contains 3 = true) :=
  ⟨⟨up 1 .active, 15, 0xFFFFFFFFFFFFFFFF, hostUp (by decide +kernel), by decide +kernel⟩,
   ⟨up 1 .active, 15, 3, 1, 9, hostUp (by decide +kernel), by decide +kernel⟩,
   ⟨up 1 .active, 15, 1, hostUp (by decide +kernel), by decide +kernel⟩,
   ⟨up 1 .active, 15, hostUp (by decide +kernel), by decide +kernel⟩,
   ⟨up 1 .active, 12, hostUp (by decide +kernel), by decide +kernel⟩,
   ⟨{ up 1 .active with tblZeroed := true }, hostUp (by decide +kernel), by decide +kernel⟩,
   ⟨(((((up 2 .active).setTbl (ovlIdx 3 0 0) 1).setTbl (ovlIdx 3 1 0) (BitVec.ofNat 64 (packLow [(1, 4), (BULK.RPL_CTL.TIMEOUT.key / 4096, 4), (BULK.RPL_CTL.TIMEOUT.key % 4096, 12)]))).setTbl (ovlIdx 3 1 1) 0x04010008).setTbl (ovlIdx 3 1 1) (BitVec.ofNat 64 (packLow [(8, 16), (256, 16), (4, 8)]))).setTbl (ovlIdx 3 2 0) 0, (((((((up 2 .active).setTbl (ovlIdx 3 0 0) 1).setTbl (ovlIdx 3 1 0) (BitVec.ofNat 64 (packLow [(1, 4), (BULK.RPL_CTL.TIMEOUT.key / 4096, 4), (BULK.RPL_CTL.TIMEOUT.key % 4096, 12)]))).setTbl (ovlIdx 3 1 1) 0x04010008).setTbl (ovlIdx 3 1 1) (BitVec.ofNat 64 (packLow [(8, 16), (256, 16), (4, 8)]))).setTbl (ovlIdx 3 2 0) 0)).tblWord (ovlIdx 3 0 0), (((((((up 2 .active).setTbl (ovlIdx 3 0 0) 1).setTbl (ovlIdx 3 1 0) (BitVec.ofNat 64 (packLow [(1, 4), (BULK.RPL_CTL.TIMEOUT.key / 4096, 4), (BULK.RPL_CTL.TIMEOUT.key % 4096, 12)]))).setTbl (ovlIdx 3 1 1) 0x04010008).setTbl (ovlIdx 3 1 1) (BitVec.ofNat 64 (packLow [(8, 16), (256, 16), (4, 8)]))).setTbl (ovlIdx 3 2 0) 0)).tblWord (ovlIdx 3 1 0), (((((((up 2 .active).setTbl (ovlIdx 3 0 0) 1).setTbl (ovlIdx 3 1 0) (BitVec.ofNat 64 (packLow [(1, 4), (BULK.RPL_CTL.TIMEOUT.key / 4096, 4), (BULK.RPL_CTL.TIMEOUT.key % 4096, 12)]))).setTbl (ovlIdx 3 1 1) 0x04010008).setTbl (ovlIdx 3 1 1) (BitVec.ofNat 64 (packLow [(8, 16), (256, 16), (4, 8)]))).setTbl (ovlIdx 3 2 0) 0)).tblWord (ovlIdx 3 1 1), hostUp (by decide +kernel), hostUp (by decide +kernel), by decide +kernel⟩,
   ⟨(up 2 .active).setTbl (ovlIdx 3 63 0) 1, 3, 63, 0, by decide +kernel⟩,
   ⟨{ up 1 .active with chip.badOvl := [3] }, hostUp (by decide +kernel), by decide +kernel⟩⟩

theorem hyps_RemotePageAccessIsSentRepeatedAndAnswered :
    (∃ (s : State) (page : BitVec 4) (word : BitVec 9) (lsb : BitVec 6) (width : BitVec 4), HostUp s (keyDomains PHY.RPA_CMD.GO.key) ∧ s.role ≠ 0 ∧ s.sb.rpa = none ∧ s.sbSends = true) ∧
    (∃ (s : State) (page : BitVec 4) (word : BitVec 9) (lsb : BitVec 6) (width : BitVec 4) (data : BitVec 16), HostUp s (keyDomains PHY.RPA_CMD.GO.key) ∧ s.role ≠ 0 ∧ s.sb.rpa = none ∧ s.sbSends = true) ∧
    (∃ (s : State) (now : Beat) (a : RpaSlot), s.sb.rpa = some a ∧ a.seqs.length < 4 ∧ (s.at now).past a.lastSent 1024 = true) ∧
    (∃ (s : State) (now : Beat) (a : RpaSlot), s.sb.rpa = some a ∧ 4 ≤ a.seqs.length ∧ (s.at now).past a.lastSent 1024 = true ∧ a.firmware = true ∧ s.sb.rpaQueue = [] ∧ s.cal.run = none) ∧
    (∃ (s : State) (c : SbCopies) (b : Nat) (r : State), Heard s c b r ∧ bodyType b = SbType.pageRd.code ∧ r.pageStatus (bodyPayload b) = none) ∧
    (∃ (s : State) (c : SbCopies) (b : Nat) (r : State), Heard s c b r ∧ bodyType b = SbType.pageWr.code ∧ r.pageStatus (bodyPayload b) = none ∧ writesDrive (bodyPayload b) = true ∧ r.role ≠ 0 ∧ r.colIn [.active, .lowland] = true) ∧
    (∃ (s : State) (c : SbCopies) (b : Nat) (r : State) (a : RpaSlot), Heard s c b r ∧ bodyType b = SbType.pageRsp.code ∧ r.sb.rpa = some a ∧ bits (bodyPayload b) 36 4 ∈ a.seqs ∧ a.firmware = true ∧ r.sb.rpaQueue = [] ∧ r.cal.run = none) :=
  ⟨⟨up 1 .active, 15, 511, 63, 15, hostUp (by decide +kernel), by decide +kernel⟩,
   ⟨up 1 .active, 2, 511, 63, 15, 0xFFFF, hostUp (by decide +kernel), by decide +kernel⟩,
   ⟨{ up 1 .active with sb.rpa := some ⟨false, 0, [1, 2, 3], 0x0FFFFC00, true⟩ }, 0, ⟨false, 0, [1, 2, 3], 0x0FFFFC00, true⟩, by decide +kernel⟩,
   ⟨{ up 1 .active with sb.rpa := some ⟨false, 0, [1, 2, 3, 4], 0x0FFFFC00, true⟩ }, 0, ⟨false, 0, [1, 2, 3, 4], 0x0FFFFC00, true⟩, by decide +kernel⟩,
   ⟨up 1 .active, cp .pageRd (pagePayload 15 8 48 15 0), heardBody (up 1 .active) (cp .pageRd (pagePayload 15 8 48 15 0)), heardState (up 1 .active) (cp .pageRd (pagePayload 15 8 48 15 0)), heard (by decide +kernel), by decide +kernel⟩,
   ⟨up 1 .active, cp .pageWr (pagePayload 2 0xD0 0 3 13), heardBody (up 1 .active) (cp .pageWr (pagePayload 2 0xD0 0 3 13)), heardState (up 1 .active) (cp .pageWr (pagePayload 2 0xD0 0 3 13)), heard (by decide +kernel), by decide +kernel⟩,
   ⟨{ up 1 .active with sb.rpa := some ⟨false, 0, [5], 0x0FFFFC00, true⟩ }, cp .pageRsp (5 * 2 ^ 36 + 0x1234), heardBody { up 1 .active with sb.rpa := some ⟨false, 0, [5], 0x0FFFFC00, true⟩ } (cp .pageRsp (5 * 2 ^ 36 + 0x1234)), heardState { up 1 .active with sb.rpa := some ⟨false, 0, [5], 0x0FFFFC00, true⟩ } (cp .pageRsp (5 * 2 ^ 36 + 0x1234)), ⟨false, 0, [5], 0x0FFFFC00, true⟩, heard (by decide +kernel), by decide +kernel⟩⟩

theorem hyps_DriveTrimRatePeekAndEscapeWrites :
    (∃ (s : State) (site : Nat) (code : BitVec 4), siteOk site = true ∧ HostUp s (keyDomains (PHY.TX_DRIVE.CODE site).key) ∧ s.role ≠ 0 ∧ s.colIn [.active, .lowland] = true) ∧
    (∃ (s : State) (site : Nat) (code : BitVec 4), siteOk site = true ∧ HostUp s (keyDomains (PHY.TX_DRIVE.CODE site).key) ∧ s.role ≠ 0 ∧ s.chip.col = .cal) ∧
    (∃ (s : State) (k : TrimKind) (i : Nat) (code : BitVec 7), trimOk k i = true ∧ HostUp s (keyDomains (trimCode k i).key) ∧ s.role ≠ 0 ∧ s.colIn [.active, .lowland] = true ∧ s.cal.run = none ∧ code.toNat < 2 ^ (trimCode k i).width ∧ (k = .offset → offsetExcluded code.toNat = false)) ∧
    (∃ (s : State) (rate : BitVec 2), HostUp s (keyDomains PHY.RATE_CTL.RATE.key) ∧ s.role ≠ 0 ∧ (s.on IDENT.CAP_AGREED.VALID = false ∨ bit (s.get IDENT.CAP_AGREED.CAP) rate.toNat = true)) ∧
    (∃ (s : State) (rate : BitVec 2), HostUp s (keyDomains PHY.RATE_CTL.RATE.key) ∧ s.role ≠ 0 ∧ s.on IDENT.CAP_AGREED.VALID = true ∧ bit (s.get IDENT.CAP_AGREED.CAP) rate.toNat = false) ∧
    (∃ (s : State) (data : Word), HostUp s (keyDomains BASIN.PEEK_CTL.LINE.key) ∧ s.isM = true ∧ s.on BASIN.INIT_STAT.RUNNING = false) ∧
    (∃ (s : State) (data : Word), HostUp s (keyDomains DEFILE.ESC_STAT.NEXT.key) ∧ s.isM = true ∧ bits data.toNat 0 24 ≤ s.get DEFILE.ESC_LIMIT.SLOTS) :=
  ⟨⟨up 1 .active, 144, 15, (by decide +kernel), hostUp (by decide +kernel), by decide +kernel⟩,
   ⟨up 1 .cal, 144, 15, (by decide +kernel), hostUp (by decide +kernel), by decide +kernel⟩,
   ⟨up 1 .active, .offset, 144, 0x1E, (by decide +kernel), hostUp (by decide +kernel), by decide +kernel⟩,
   ⟨agree (up 1 .active) 8, 3, hostUp (by decide +kernel), by decide +kernel⟩,
   ⟨agree (up 1 .active) 8, 2, hostUp (by decide +kernel), by decide +kernel⟩,
   ⟨{ up 1 .active with basinZeroed := true, tblZeroed := true }, 0x1FFFF, hostUp (by decide +kernel), by decide +kernel⟩,
   ⟨(up 1 .active).put DEFILE.ESC_LIMIT.SLOTS 100, 100, hostUp (by decide +kernel), by decide +kernel⟩⟩

theorem hyps_RepairCommandsPropose :
    (∃ (s : State) (site : BitVec 8) (g : Nat) (k : Nat), HostUp s (keyDomains REPAIR.MARK_CMD.GO.key) ∧ s.role ≠ 0 ∧ s.colIn [.active, .lowland] = true ∧ site.toNat ≤ 144 ∧ g = siteGroup site.toNat ∧ k = sitePlace site.toNat ∧ s.isBad true g k = false ∧ s.parked = false ∧ s.dirBusy true = false ∧ s.freeSite true g = true ∧ s.cap 8 = true ∧ (∀ p ∈ s.rep.props, p.own = false)) ∧
    (∃ (s : State) (site : BitVec 8) (g : Nat), HostUp s (keyDomains REPAIR.MARK_CMD.GO.key) ∧ s.role ≠ 0 ∧ s.chip.col = .active ∧ site.toNat ≤ 135 ∧ g = siteGroup site.toNat ∧ s.isBad true g (sitePlace site.toNat) = false ∧ s.parked = false ∧ s.dirBusy true = false ∧ s.wideAsked = false ∧ s.freeSite true g = false ∧ clearBit (s.groups true) g ≠ 0 ∧ s.cap 7 = true ∧ s.levelAgreed = false) ∧
    (∃ (s : State) (site : BitVec 8), HostUp s (keyDomains REPAIR.MARK_CMD.GO.key) ∧ s.role ≠ 0 ∧ s.colIn [.active, .lowland] = false) ∧
    (∃ (s : State) (site : BitVec 8), HostUp s (keyDomains REPAIR.MARK_CMD.GO.key) ∧ s.role ≠ 0 ∧ s.colIn [.active, .lowland] = true ∧ (144 < site.toNat ∨ s.isBad true (siteGroup site.toNat) (sitePlace site.toNat) = true)) ∧
    (∃ (s : State) (dir : Bool) (force : Bool) (gs : BitVec 4), HostUp s (keyDomains REPAIR.WIDTH_CMD.GO.key) ∧ s.role ≠ 0 ∧ s.chip.col = .active ∧ s.parked = false ∧ s.anyPause = false ∧ gs ≠ 0 ∧ gs.toNat &&& s.groups dir = gs.toNat ∧ gs.toNat ≠ s.groups dir ∧ s.cap 7 = true ∧ (s.levelAgreed = false ∨ force = true ∨ (if dir then s.lMinFor gs.toNat (s.groups false) else s.lMinFor (s.groups true) gs.toNat) ≤ s.get TIME.LEVEL_CTL.L_LEVEL)) ∧
    (∃ (s : State) (dir : Bool) (force : Bool) (gs : BitVec 4), HostUp s (keyDomains REPAIR.WIDTH_CMD.GO.key) ∧ s.role ≠ 0 ∧ s.chip.col = .active ∧ s.parked = true ∧ s.anyPause = false ∧ gs ≠ 0 ∧ gs.toNat &&& s.groups dir = gs.toNat ∧ gs.toNat ≠ s.groups dir ∧ s.cap 7 = true ∧ (s.levelAgreed = false ∨ force = true)) ∧
    (∃ (s : State) (dir : Bool) (gs : BitVec 4), HostUp s (keyDomains REPAIR.WIDTH_CMD.GO.key) ∧ s.role ≠ 0 ∧ s.chip.col = .active ∧ s.anyPause = false ∧ gs ≠ 0 ∧ gs.toNat &&& s.groups dir = gs.toNat ∧ gs.toNat ≠ s.groups dir ∧ s.levelAgreed = true ∧ s.get TIME.LEVEL_CTL.L_LEVEL < (if dir then s.lMinFor gs.toNat (s.groups false) else s.lMinFor (s.groups true) gs.toNat)) ∧
    (∃ (s : State), HostUp s (keyDomains REPAIR.LOWLAND_CMD.GO.key) ∧ s.role ≠ 0 ∧ s.chip.col = .active ∧ s.parked = false ∧ s.cap 1 = true ∧ s.rep.props = []) ∧
    (∃ (s : State), HostUp s (keyDomains REPAIR.LOWLAND_CMD.GO.key) ∧ s.role ≠ 0 ∧ s.chip.col = .active ∧ s.parked = true) ∧
    (∃ (s : State), HostUp s (keyDomains REPAIR.LOWLAND_CMD.GO.key) ∧ s.role ≠ 0 ∧ s.chip.col ≠ .active) :=
  ⟨⟨agree (wide (up 2 .lowland)) 0x100, 144, siteGroup 144, sitePlace 144, hostUp (by decide +kernel), by decide +kernel⟩,
   ⟨(agree (wide (up 2 .active)) 0x80).put (REPAIR.BAD_SITES_LG.MASK 3) 3, 135, siteGroup 135, hostUp (by decide +kernel), by decide +kernel⟩,
   ⟨up 2 .cal, 0, hostUp (by decide +kernel), by decide +kernel⟩,
   ⟨up 2 .active, 145, hostUp (by decide +kernel), by decide +kernel⟩,
   ⟨agree (wide (up 2 .active)) 0x80, true, false, 7, hostUp (by decide +kernel), by decide +kernel⟩,
   ⟨agree ((wide (up 2 .active)).put POWER.PWR_STAT.STATE 2) 0x80, false, true, 1, hostUp (by decide +kernel), by decide +kernel⟩,
   ⟨(agree (wide (up 2 .active)) 0x40).put TIME.LEVEL_CTL.L_LEVEL 0, false, 1, hostUp (by decide +kernel), by decide +kernel⟩,
   ⟨agree (wide (up 2 .active)) 2, hostUp (by decide +kernel), by decide +kernel⟩,
   ⟨(wide (up 2 .active)).put POWER.PWR_STAT.STATE 2, hostUp (by decide +kernel), by decide +kernel⟩,
   ⟨up 2 .lowland, hostUp (by decide +kernel), by decide +kernel⟩⟩

theorem hyps_RepairFramesAreAnswered :
    (∃ (s : State) (c : SbCopies) (b : Nat) (r : State) (pl : Nat) (g : Nat) (k : Nat) (n : Nat), Heard s c b r ∧ bodyType b = SbType.repair.code ∧ pl = bodyPayload b ∧ bits pl 36 4 = 1 ∧ g = bits pl 33 3 ∧ k = bits pl 27 6 ∧ n = bits pl 22 5 ∧ r.colIn [.active, .quietRepair, .lowland, .repair] = true ∧ g ≤ 4 ∧ k < groupSites g ∧ (n = 0 ∨ (20 ≤ n ∧ n ≤ 31)) ∧ r.isBad false g k = false ∧ r.rep.props = []) ∧
    (∃ (s : State) (c : SbCopies) (b : Nat) (r : State) (pl : Nat) (g : Nat) (k : Nat) (n : Nat), Heard s c b r ∧ bodyType b = SbType.repair.code ∧ pl = bodyPayload b ∧ bits pl 36 4 = 1 ∧ g = bits pl 33 3 ∧ k = bits pl 27 6 ∧ n = bits pl 22 5 ∧ r.rep.props = [] ∧ (r.colIn [.active, .quietRepair, .lowland, .repair] = false ∨ 4 < g ∨ groupSites g ≤ k ∨ (n ≠ 0 ∧ n < 20) ∨ r.isBad false g k = true)) ∧
    (∃ (s : State) (c : SbCopies) (b : Nat) (r : State) (pl : Nat) (p : Proposal), Heard s c b r ∧ bodyType b = SbType.repair.code ∧ pl = bodyPayload b ∧ bits pl 36 4 = 2 ∧ r.rep.props = [p] ∧ p.own = true ∧ quietIs pl p = true) ∧
    (∃ (s : State) (c : SbCopies) (b : Nat) (r : State) (pl : Nat) (g : Nat) (k : Nat) (n : Nat) (p : Proposal), Heard s c b r ∧ bodyType b = SbType.repair.code ∧ pl = bodyPayload b ∧ bits pl 36 4 = 3 ∧ r.rep.props = [p] ∧ p.own = true ∧ p.stage = 0 ∧ p.kind = .quiet g k n ∧ quietIs pl p = true) ∧
    (∃ (s : State) (c : SbCopies) (b : Nat) (r : State) (pl : Nat) (p : Proposal), Heard s c b r ∧ bodyType b = SbType.repair.code ∧ pl = bodyPayload b ∧ bits pl 36 4 = 4 ∧ r.rep.props = [p] ∧ p.own = false ∧ p.stage = 0 ∧ quietIs pl p = true) :=
  ⟨⟨wide (up 2 .repair), cp .repair (repairPayload 1 4 8 31 0x10004000), heardBody (wide (up 2 .repair)) (cp .repair (repairPayload 1 4 8 31 0x10004000)), heardState (wide (up 2 .repair)) (cp .repair (repairPayload 1 4 8 31 0x10004000)), bodyPayload (heardBody (wide (up 2 .repair)) (cp .repair (repairPayload 1 4 8 31 0x10004000))), bits (bodyPayload (heardBody (wide (up 2 .repair)) (cp .repair (repairPayload 1 4 8 31 0x10004000)))) 33 3, bits (bodyPayload (heardBody (wide (up 2 .repair)) (cp .repair (repairPayload 1 4 8 31 0x10004000)))) 27 6, bits (bodyPayload (heardBody (wide (up 2 .repair)) (cp .repair (repairPayload 1 4 8 31 0x10004000)))) 22 5, heard (by decide +kernel), by decide +kernel⟩,
   ⟨wide (up 2 .active), cp .repair (repairPayload 1 4 9 31 0x10004000), heardBody (wide (up 2 .active)) (cp .repair (repairPayload 1 4 9 31 0x10004000)), heardState (wide (up 2 .active)) (cp .repair (repairPayload 1 4 9 31 0x10004000)), bodyPayload (heardBody (wide (up 2 .active)) (cp .repair (repairPayload 1 4 9 31 0x10004000))), bits (bodyPayload (heardBody (wide (up 2 .active)) (cp .repair (repairPayload 1 4 9 31 0x10004000)))) 33 3, bits (bodyPayload (heardBody (wide (up 2 .active)) (cp .repair (repairPayload 1 4 9 31 0x10004000)))) 27 6, bits (bodyPayload (heardBody (wide (up 2 .active)) (cp .repair (repairPayload 1 4 9 31 0x10004000)))) 22 5, heard (by decide +kernel), by decide +kernel⟩,
   ⟨{ up 2 .active with rep.props := [prop (.quiet 0 33 20) true false] }, cp .repair (repairPayload 2 0 33 20 0x10004000), heardBody { up 2 .active with rep.props := [prop (.quiet 0 33 20) true false] } (cp .repair (repairPayload 2 0 33 20 0x10004000)), heardState { up 2 .active with rep.props := [prop (.quiet 0 33 20) true false] } (cp .repair (repairPayload 2 0 33 20 0x10004000)), bodyPayload (heardBody { up 2 .active with rep.props := [prop (.quiet 0 33 20) true false] } (cp .repair (repairPayload 2 0 33 20 0x10004000))), prop (.quiet 0 33 20) true false, heard (by decide +kernel), by decide +kernel⟩,
   ⟨{ up 2 .active with rep.props := [prop (.quiet 0 33 20) true false] }, cp .repair (repairPayload 3 0 33 20 0x10004000), heardBody { up 2 .active with rep.props := [prop (.quiet 0 33 20) true false] } (cp .repair (repairPayload 3 0 33 20 0x10004000)), heardState { up 2 .active with rep.props := [prop (.quiet 0 33 20) true false] } (cp .repair (repairPayload 3 0 33 20 0x10004000)), bodyPayload (heardBody { up 2 .active with rep.props := [prop (.quiet 0 33 20) true false] } (cp .repair (repairPayload 3 0 33 20 0x10004000))), 0, 33, 20, prop (.quiet 0 33 20) true false, heard (by decide +kernel), by decide +kernel⟩,
   ⟨{ up 2 .active with rep.props := [prop (.quiet 0 33 20) false true] }, cp .repair (repairPayload 4 0 33 20 0x10004000), heardBody { up 2 .active with rep.props := [prop (.quiet 0 33 20) false true] } (cp .repair (repairPayload 4 0 33 20 0x10004000)), heardState { up 2 .active with rep.props := [prop (.quiet 0 33 20) false true] } (cp .repair (repairPayload 4 0 33 20 0x10004000)), bodyPayload (heardBody { up 2 .active with rep.props := [prop (.quiet 0 33 20) false true] } (cp .repair (repairPayload 4 0 33 20 0x10004000))), prop (.quiet 0 33 20) false true, heard (by decide +kernel), by decide +kernel⟩⟩

theorem hyps_WidthFramesAreAnswered :
    (∃ (s : State) (c : SbCopies) (b : Nat) (r : State) (pl : Nat) (gs : Nat) (rx : Bool), Heard s c b r ∧ bodyType b = SbType.width.code ∧ pl = bodyPayload b ∧ bits pl 36 4 = 1 ∧ rx = !bit pl 35 ∧ gs = bits pl 31 4 ∧ r.colIn [.active, .quietRepair, .widthChange, .repair] = true ∧ gs ≠ 0 ∧ gs &&& r.groups rx = gs ∧ r.cap 7 = true ∧ (r.levelAgreed = false ∨ bit pl 30 = true) ∧ r.rep.props = []) ∧
    (∃ (s : State) (c : SbCopies) (b : Nat) (r : State) (pl : Nat), Heard s c b r ∧ bodyType b = SbType.width.code ∧ pl = bodyPayload b ∧ bits pl 36 4 = 1 ∧ r.ownWide ≠ [] ∧ r.wins = true ∧ (∀ p ∈ r.rep.props, p.own = true)) ∧
    (∃ (s : State) (c : SbCopies) (b : Nat) (r : State) (pl : Nat) (p : Proposal), Heard s c b r ∧ bodyType b = SbType.width.code ∧ pl = bodyPayload b ∧ bits pl 36 4 = 2 ∧ r.rep.props = [p] ∧ p.own = true ∧ widthIs pl p = true) ∧
    (∃ (s : State) (c : SbCopies) (b : Nat) (r : State) (pl : Nat) (p : Proposal) (rx : Bool) (f : Bool) (gs : BitVec 4), Heard s c b r ∧ bodyType b = SbType.width.code ∧ pl = bodyPayload b ∧ bits pl 36 4 = 3 ∧ r.rep.props = [p] ∧ p.own = true ∧ p.stage = 0 ∧ p.kind = .width rx gs f 0 ∧ widthIs pl p = true) ∧
    (∃ (s : State) (c : SbCopies) (b : Nat) (r : State) (pl : Nat), Heard s c b r ∧ bodyType b = SbType.width.code ∧ pl = bodyPayload b ∧ bits pl 36 4 = 4 ∧ r.colIn [.active, .quietRepair, .widthChange] = true ∧ r.cap 1 = true ∧ r.rep.props = []) ∧
    (∃ (s : State) (c : SbCopies) (b : Nat) (r : State) (pl : Nat), Heard s c b r ∧ bodyType b = SbType.width.code ∧ pl = bodyPayload b ∧ bits pl 36 4 = 4 ∧ r.colIn [.active, .quietRepair, .widthChange] = false ∧ r.rep.props = []) ∧
    (∃ (s : State) (c : SbCopies) (b : Nat) (r : State) (pl : Nat) (p : Proposal), Heard s c b r ∧ bodyType b = SbType.width.code ∧ pl = bodyPayload b ∧ bits pl 36 4 = 5 ∧ r.rep.props = [p] ∧ p.own = false ∧ p.stage = 0 ∧ widthIs pl p = true) :=
  ⟨⟨agree (wide (up 2 .active)) 0x80, cp .width (widthPayload 1 true 0xF false 1 0x10004000), heardBody (agree (wide (up 2 .active)) 0x80) (cp .width (widthPayload 1 true 0xF false 1 0x10004000)), heardState (agree (wide (up 2 .active)) 0x80) (cp .width (widthPayload 1 true 0xF false 1 0x10004000)), bodyPayload (heardBody (agree (wide (up 2 .active)) 0x80) (cp .width (widthPayload 1 true 0xF false 1 0x10004000))), bits (bodyPayload (heardBody (agree (wide (up 2 .active)) 0x80) (cp .width (widthPayload 1 true 0xF false 1 0x10004000)))) 31 4, !bit (bodyPayload (heardBody (agree (wide (up 2 .active)) 0x80) (cp .width (widthPayload 1 true 0xF false 1 0x10004000)))) 35, heard (by decide +kernel), by decide +kernel⟩,
   ⟨{ up 2 .active with rep.props := [prop (.width true 7 false 1) true false] }, cp .width (widthPayload 1 true 0xF false 1 0x10004000), heardBody { up 2 .active with rep.props := [prop (.width true 7 false 1) true false] } (cp .width (widthPayload 1 true 0xF false 1 0x10004000)), heardState { up 2 .active with rep.props := [prop (.width true 7 false 1) true false] } (cp .width (widthPayload 1 true 0xF false 1 0x10004000)), bodyPayload (heardBody { up 2 .active with rep.props := [prop (.width true 7 false 1) true false] } (cp .width (widthPayload 1 true 0xF false 1 0x10004000))), heard (by decide +kernel), by decide +kernel⟩,
   ⟨{ up 2 .active with rep.props := [prop (.width true 7 false 1) true false] }, cp .width (widthPayload 2 true 7 false 1 0x10004000), heardBody { up 2 .active with rep.props := [prop (.width true 7 false 1) true false] } (cp .width (widthPayload 2 true 7 false 1 0x10004000)), heardState { up 2 .active with rep.props := [prop (.width true 7 false 1) true false] } (cp .width (widthPayload 2 true 7 false 1 0x10004000)), bodyPayload (heardBody { up 2 .active with rep.props := [prop (.width true 7 false 1) true false] } (cp .width (widthPayload 2 true 7 false 1 0x10004000))), prop (.width true 7 false 1) true false, heard (by decide +kernel), by decide +kernel⟩,
   ⟨{ up 2 .active with rep.props := [prop (.width true 7 false 0) true false] }, cp .width (widthPayload 3 true 7 false 0 0x10004000), heardBody { up 2 .active with rep.props := [prop (.width true 7 false 0) true false] } (cp .width (widthPayload 3 true 7 false 0 0x10004000)), heardState { up 2 .active with rep.props := [prop (.width true 7 false 0) true false] } (cp .width (widthPayload 3 true 7 false 0 0x10004000)), bodyPayload (heardBody { up 2 .active with rep.props := [prop (.width true 7 false 0) true false] } (cp .width (widthPayload 3 true 7 false 0 0x10004000))), prop (.width true 7 false 0) true false, true, false, 7, heard (by decide +kernel), by decide +kernel⟩,
   ⟨agree (wide (up 2 .active)) 2, cp .width (widthPayload 4 false 0xF false 6 0x10004000), heardBody (agree (wide (up 2 .active)) 2) (cp .width (widthPayload 4 false 0xF false 6 0x10004000)), heardState (agree (wide (up 2 .active)) 2) (cp .width (widthPayload 4 false 0xF false 6 0x10004000)), bodyPayload (heardBody (agree (wide (up 2 .active)) 2) (cp .width (widthPayload 4 false 0xF false 6 0x10004000))), heard (by decide +kernel), by decide +kernel⟩,
   ⟨agree (wide (up 2 .cal)) 2, cp .width (widthPayload 4 false 0xF false 6 0x10004000), heardBody (agree (wide (up 2 .cal)) 2) (cp .width (widthPayload 4 false 0xF false 6 0x10004000)), heardState (agree (wide (up 2 .cal)) 2) (cp .width (widthPayload 4 false 0xF false 6 0x10004000)), bodyPayload (heardBody (agree (wide (up 2 .cal)) 2) (cp .width (widthPayload 4 false 0xF false 6 0x10004000))), heard (by decide +kernel), by decide +kernel⟩,
   ⟨{ up 2 .active with rep.props := [prop (.width true 7 false 1) false true] }, cp .width (widthPayload 5 true 7 false 1 0x10004000), heardBody { up 2 .active with rep.props := [prop (.width true 7 false 1) false true] } (cp .width (widthPayload 5 true 7 false 1 0x10004000)), heardState { up 2 .active with rep.props := [prop (.width true 7 false 1) false true] } (cp .width (widthPayload 5 true 7 false 1 0x10004000)), bodyPayload (heardBody { up 2 .active with rep.props := [prop (.width true 7 false 1) false true] } (cp .width (widthPayload 5 true 7 false 1 0x10004000))), prop (.width true 7 false 1) false true, heard (by decide +kernel), by decide +kernel⟩⟩

theorem hyps_ParkFramesAreAnswered :
    (∃ (s : State) (c : SbCopies) (b : Nat) (r : State) (pl : Nat), Heard s c b r ∧ bodyType b = SbType.park.code ∧ pl = bodyPayload b ∧ bits pl 36 4 = 1 ∧ r.parkRefusal = none ∧ r.rep.props = []) ∧
    (∃ (s : State) (c : SbCopies) (b : Nat) (r : State) (pl : Nat), Heard s c b r ∧ bodyType b = SbType.park.code ∧ pl = bodyPayload b ∧ bits pl 36 4 = 1 ∧ r.parkRefusal ≠ none ∧ r.rep.props = []) ∧
    (∃ (s : State) (c : SbCopies) (b : Nat) (r : State) (pl : Nat) (p : Proposal), Heard s c b r ∧ bodyType b = SbType.park.code ∧ pl = bodyPayload b ∧ bits pl 36 4 = 1 ∧ r.rep.props = [p] ∧ p.own = true ∧ p.kind = .park ∧ p.accepted = false ∧ r.wins = true) ∧
    (∃ (s : State) (c : SbCopies) (b : Nat) (r : State) (pl : Nat) (p : Proposal), Heard s c b r ∧ bodyType b = SbType.park.code ∧ pl = bodyPayload b ∧ bits pl 36 4 = 1 ∧ r.parkRefusal = none ∧ r.rep.props = [p] ∧ p.own = true ∧ p.kind = .park ∧ p.accepted = false ∧ r.wins = false) ∧
    (∃ (s : State) (c : SbCopies) (b : Nat) (r : State) (pl : Nat) (p : Proposal), Heard s c b r ∧ bodyType b = SbType.park.code ∧ pl = bodyPayload b ∧ bits pl 36 4 = 2 ∧ r.rep.props = [p] ∧ parkIs true pl p = true) ∧
    (∃ (s : State) (c : SbCopies) (b : Nat) (r : State) (pl : Nat) (p : Proposal), Heard s c b r ∧ bodyType b = SbType.park.code ∧ pl = bodyPayload b ∧ bits pl 36 4 = 3 ∧ r.rep.props = [p] ∧ parkIs true pl p = true) ∧
    (∃ (s : State) (c : SbCopies) (b : Nat) (r : State) (pl : Nat) (p : Proposal), Heard s c b r ∧ bodyType b = SbType.park.code ∧ pl = bodyPayload b ∧ bits pl 36 4 = 4 ∧ r.rep.props = [p] ∧ parkIs false pl p = true) :=
  ⟨⟨agree (up 2 .active) 0x200, cp .park (parkPayload 1 0x10004000), heardBody (agree (up 2 .active) 0x200) (cp .park (parkPayload 1 0x10004000)), heardState (agree (up 2 .active) 0x200) (cp .park (parkPayload 1 0x10004000)), bodyPayload (heardBody (agree (up 2 .active) 0x200) (cp .park (parkPayload 1 0x10004000))), heard (by decide +kernel), by decide +kernel⟩,
   ⟨up 2 .active, cp .park (parkPayload 1 0x10004000), heardBody (up 2 .active) (cp .park (parkPayload 1 0x10004000)), heardState (up 2 .active) (cp .park (parkPayload 1 0x10004000)), bodyPayload (heardBody (up 2 .active) (cp .park (parkPayload 1 0x10004000))), heard (by decide +kernel), by decide +kernel⟩,
   ⟨{ up 2 .active with rep.props := [prop .park true false] }, cp .park (parkPayload 1 0x10004000), heardBody { up 2 .active with rep.props := [prop .park true false] } (cp .park (parkPayload 1 0x10004000)), heardState { up 2 .active with rep.props := [prop .park true false] } (cp .park (parkPayload 1 0x10004000)), bodyPayload (heardBody { up 2 .active with rep.props := [prop .park true false] } (cp .park (parkPayload 1 0x10004000))), prop .park true false, heard (by decide +kernel), by decide +kernel⟩,
   ⟨{ agree (up 1 .active) 0x200 with rep.props := [prop .park true false] }, cp .park (parkPayload 1 0x10004000), heardBody { agree (up 1 .active) 0x200 with rep.props := [prop .park true false] } (cp .park (parkPayload 1 0x10004000)), heardState { agree (up 1 .active) 0x200 with rep.props := [prop .park true false] } (cp .park (parkPayload 1 0x10004000)), bodyPayload (heardBody { agree (up 1 .active) 0x200 with rep.props := [prop .park true false] } (cp .park (parkPayload 1 0x10004000))), prop .park true false, heard (by decide +kernel), by decide +kernel⟩,
   ⟨{ up 2 .active with rep.props := [prop .park true false] }, cp .park (parkPayload 2 0x10004000), heardBody { up 2 .active with rep.props := [prop .park true false] } (cp .park (parkPayload 2 0x10004000)), heardState { up 2 .active with rep.props := [prop .park true false] } (cp .park (parkPayload 2 0x10004000)), bodyPayload (heardBody { up 2 .active with rep.props := [prop .park true false] } (cp .park (parkPayload 2 0x10004000))), prop .park true false, heard (by decide +kernel), by decide +kernel⟩,
   ⟨{ up 2 .active with rep.props := [prop .park true false] }, cp .park (parkPayload 3 0x10004000), heardBody { up 2 .active with rep.props := [prop .park true false] } (cp .park (parkPayload 3 0x10004000)), heardState { up 2 .active with rep.props := [prop .park true false] } (cp .park (parkPayload 3 0x10004000)), bodyPayload (heardBody { up 2 .active with rep.props := [prop .park true false] } (cp .park (parkPayload 3 0x10004000))), prop .park true false, heard (by decide +kernel), by decide +kernel⟩,
   ⟨{ up 2 .active with rep.props := [prop .park false true] }, cp .park (parkPayload 4 0x10004000), heardBody { up 2 .active with rep.props := [prop .park false true] } (cp .park (parkPayload 4 0x10004000)), heardState { up 2 .active with rep.props := [prop .park false true] } (cp .park (parkPayload 4 0x10004000)), bodyPayload (heardBody { up 2 .active with rep.props := [prop .park false true] } (cp .park (parkPayload 4 0x10004000))), prop .park false true, heard (by decide +kernel), by decide +kernel⟩⟩

theorem hyps_ProposalsAreRepeatedAndCancelled :
    (∃ (s : State) (now : Beat) (p : Proposal), s.rep.props = [p] ∧ s.rep.waiting = [] ∧ s.rep.yielded = [] ∧ s.rep.declined = [] ∧ p.own = true ∧ p.accepted = false ∧ p.cancels = 0 ∧ (s.at now).past p.lastSent 1024 = true ∧ (s.at now).beat.toNat + 1024 < p.beat.toNat) ∧
    (∃ (s : State) (now : Beat) (p : Proposal), s.rep.props = [p] ∧ s.rep.waiting = [] ∧ s.rep.yielded = [] ∧ (p.own = false ∨ p.accepted = true) ∧ s.rep.declined = []) ∧
    (∃ (s : State) (now : Beat) (i : Nat) (b : Beat), s.rep.props = [] ∧ s.rep.waiting = [] ∧ s.rep.yielded = [] ∧ s.rep.declined = [(.site i, b)] ∧ (s.at now).past b 1024 = false) ∧
    (∃ (s : State) (now : Beat) (p : Proposal), s.rep.props = [p] ∧ s.rep.waiting = [] ∧ s.rep.yielded = [] ∧ s.rep.declined = [] ∧ p.own = true ∧ p.accepted = false ∧ p.stage = 0 ∧ p.cancels < 3 ∧ p.beat.toNat ≤ (s.at now).beat.toNat + (1024 - 256 * p.cancels)) ∧
    (∃ (s : State) (now : Beat) (p : Proposal), s.rep.props = [p] ∧ s.rep.waiting = [] ∧ s.rep.yielded = [] ∧ s.rep.declined = [] ∧ p.own = true ∧ p.accepted = false ∧ p.stage = 0 ∧ p.cancels = 3 ∧ p.beat.toNat ≤ (s.at now).beat.toNat + 256 ∧ p.kind = .park ∧ s.chip.col ≠ .active ∧ s.parked = false ∧ s.pwr.stopping = false) ∧
    (∃ (s : State) (now : Beat) (p : Proposal), s.rep.props = [p] ∧ s.rep.waiting = [] ∧ s.rep.yielded = [] ∧ s.rep.declined = [] ∧ p.own = true ∧ p.accepted = false ∧ p.stage = 0 ∧ p.cancels = 3 ∧ p.beat.toNat ≤ (s.at now).beat.toNat + 256 ∧ p.kind = .park ∧ s.parked = false ∧ s.pwr.stopping = false ∧ (s.setProps []).parkRefusal = none) ∧
    (∃ (s : State) (now : Beat) (p : Proposal) (rx : Bool) (f : Bool) (gs : BitVec 4) (re : Nat), s.rep.props = [p] ∧ s.rep.waiting = [] ∧ s.rep.yielded = [] ∧ s.rep.declined = [] ∧ p.own = true ∧ p.accepted = false ∧ p.stage = 0 ∧ p.cancels = 3 ∧ p.beat.toNat ≤ (s.at now).beat.toNat + 256 ∧ p.kind = .width rx gs f re) ∧
    (∃ (s : State) (now : Beat) (site : Nat), siteOk site = true ∧ s.get (REPAIR.SITE_ERR.COUNT site) ≠ 0 ∧ s.get REPAIR.ATTR_CTL.WINDOW ≤ (s.at now).beat.toNat - (s.at now).firstBeat site) ∧
    (∃ (s : State) (now : Beat) (b : Beat) (g : Nat), g < 5 ∧ s.get (REPAIR.GROUP_ERR.COUNT g) ≠ 0 ∧ Sparse.find s.rep.grpFirst g = some b ∧ (s.at now).past b (s.get REPAIR.ATTR_CTL.WINDOW) = true) :=
  ⟨⟨{ up 2 .active with rep.props := [prop (.quiet 0 33 20) true false] }, 0, prop (.quiet 0 33 20) true false, by decide +kernel⟩,
   ⟨{ up 2 .active with rep.props := [prop (.quiet 0 33 20) true true] }, 0, prop (.quiet 0 33 20) true true, by decide +kernel⟩,
   ⟨{ up 2 .active with rep.declined := [(.site 5, 0x10000000)] }, 0, 5, 0x10000000, by decide +kernel⟩,
   ⟨{ up 2 .active with rep.props := [propDue (.quiet 0 33 20) true false 2 0] }, 0, propDue (.quiet 0 33 20) true false 2 0, by decide +kernel⟩,
   ⟨{ up 2 .lowland with rep.props := [propDue .park true false 3 0] }, 0, propDue .park true false 3 0, by decide +kernel⟩,
   ⟨{ agree (up 2 .active) 0x200 with rep.props := [propDue .park true false 3 0] }, 0, propDue .park true false 3 0, by decide +kernel⟩,
   ⟨{ agree (wide (up 2 .active)) 0x80 with rep.props := [propDue (.width true 7 false 1) true false 3 0] }, 0, propDue (.width true 7 false 1) true false 3 0, true, false, 7, 1, by decide +kernel⟩,
   ⟨((up 2 .active).put (REPAIR.SITE_ERR.COUNT 144) 1).put (REPAIR.SITE_ERR.FIRST 144) 1, 0, 144, by decide +kernel⟩,
   ⟨{ (up 2 .active).put (REPAIR.GROUP_ERR.COUNT 4) 7 with rep.grpFirst := [(4, 0)] }, 0, 0, 4, by decide +kernel⟩⟩

theorem hyps_RepairsRunAtTheirBeats :
    (∃ (s : State) (now : Beat) (p : Proposal) (g : Nat) (k : Nat) (n : Nat), s.rep.props = [p] ∧ p.kind = .quiet g k n ∧ n ≠ 0 ∧ p.stage = 0 ∧ p.accepted = true ∧ (s.at now).reached p.beat = true ∧ s.chip.col = .active) ∧
    (∃ (s : State) (now : Beat) (p : Proposal) (g : Nat) (k : Nat) (n : Nat), s.rep.props = [p] ∧ p.kind = .quiet g k n ∧ p.stage = 0 ∧ p.accepted = false ∧ (s.at now).reached p.beat = true ∧ s.chip.col = .active) ∧
    (∃ (s : State) (now : Beat) (p : Proposal) (g : Nat) (k : Nat) (n : Nat), s.rep.props = [p] ∧ s.rep.waiting = [] ∧ s.rep.yielded = [] ∧ p.kind = .quiet g k n ∧ n ≠ 0 ∧ g ≤ 4 ∧ k < groupSites g ∧ p.stage = 1 ∧ (s.at now).reached (p.beat + 64) = true ∧ s.rep.declined = [] ∧ s.colIn [.quietRepair, .lowland, .repair] = true) ∧
    (∃ (s : State) (now : Beat), s.colIn [.drain, .down, .fault] = true) ∧
    (∃ (s : State) (now : Beat) (p : Proposal) (g : Nat) (k : Nat), s.rep.props = [p] ∧ s.rep.waiting = [] ∧ s.rep.yielded = [] ∧ p.kind = .quiet g k 0 ∧ g ≤ 4 ∧ k < groupSites g ∧ p.stage = 1 ∧ (s.at now).reached (p.beat + 64) = true ∧ s.chip.col = .repair ∧ s.rep.declined = []) ∧
    (∃ (s : State) (now : Beat) (p : Proposal) (g : Nat) (k : Nat) (n : Nat) (mismatch : Bool), s.rep.props = [p] ∧ s.rep.waiting = [] ∧ s.rep.yielded = [] ∧ p.kind = .quiet g k n ∧ p.stage = 2 ∧ (s.at now).reached (p.beat + BitVec.ofNat 64 (64 * n)) = true ∧ (p.own = false ∨ mismatch = false) ∧ s.chip.col = .quietRepair ∧ s.cal.again = false ∧ s.sparesSpent = false ∧ s.rep.declined = [] ∧ s.get CAL.RUN_STAT.FAILS ≠ 3) ∧
    (∃ (s : State) (now : Beat) (p : Proposal) (g : Nat) (k : Nat) (n : Nat), s.rep.props = [p] ∧ s.rep.waiting = [] ∧ s.rep.yielded = [] ∧ p.kind = .quiet g k n ∧ p.stage = 2 ∧ (s.at now).reached (p.beat + BitVec.ofNat 64 (64 * n)) = true ∧ p.own = true ∧ g < 4 ∧ bit (s.groups true) g = true ∧ clearBit (s.groups true) g ≠ 0 ∧ s.cap 7 = true ∧ s.levelAgreed = false ∧ s.parked = false ∧ s.chip.col = .quietRepair ∧ s.cal.again = false ∧ s.sparesSpent = false ∧ s.rep.declined = [] ∧ s.get CAL.RUN_STAT.FAILS ≠ 3) ∧
    (∃ (s : State) (now : Beat) (p : Proposal) (rx : Bool) (f : Bool) (gs : BitVec 4) (re : Nat), s.rep.props = [p] ∧ p.kind = .width rx gs f re ∧ p.stage = 0 ∧ p.accepted = true ∧ (s.at now).reached p.beat = true ∧ s.chip.col = .active) ∧
    (∃ (s : State) (now : Beat) (p : Proposal) (rx : Bool) (f : Bool) (gs : BitVec 4) (re : Nat), s.rep.props = [p] ∧ p.kind = .width rx gs f re ∧ p.stage = 1 ∧ (s.at now).reached (p.beat + 64) = true ∧ s.groups rx &&& gs.toNat ≠ 0 ∧ s.groups (!rx) ≠ 0) ∧
    (∃ (s : State) (now : Beat) (p : Proposal) (rx : Bool) (f : Bool) (gs : BitVec 4) (re : Nat), s.rep.props = [p] ∧ p.kind = .width rx gs f re ∧ p.stage = 1 ∧ (s.at now).reached (p.beat + 64) = true ∧ s.groups rx &&& gs.toNat = 0 ∧ s.chip.col = .widthChange) ∧
    (∃ (s : State) (now : Beat) (p : Proposal) (rx : Bool) (f : Bool) (gs : BitVec 4) (re : Nat), s.rep.props = [p] ∧ s.rep.waiting = [] ∧ s.rep.yielded = [] ∧ p.kind = .width rx gs f re ∧ p.stage = 2 ∧ (s.at now).reached (p.beat + 512) = true ∧ s.chip.col = .widthChange ∧ s.cal.again = false ∧ s.sparesSpent = false ∧ s.rep.declined = [] ∧ s.get CAL.RUN_STAT.FAILS ≠ 3) ∧
    (∃ (s : State) (now : Beat) (p : Proposal) (gs : BitVec 4) (re : Nat), s.rep.props = [p] ∧ p.kind = .lowland gs re ∧ p.accepted = true ∧ (s.at now).reached p.beat = true ∧ s.colIn [.active, .quietRepair, .widthChange] = true) ∧
    (∃ (s : State) (now : Beat) (p : Proposal) (gs : BitVec 4) (re : Nat), s.rep.props = [p] ∧ p.kind = .lowland gs re ∧ p.accepted = false ∧ (s.at now).reached p.beat = true) :=
  ⟨⟨{ up 2 .active with rep.props := [propDue (.quiet 4 8 31) true true 0 0] }, 0, propDue (.quiet 4 8 31) true true 0 0, 4, 8, 31, by decide +kernel⟩,
   ⟨{ up 2 .active with rep.props := [propDue (.quiet 4 8 31) true false 0 0] }, 0, propDue (.quiet 4 8 31) true false 0 0, 4, 8, 31, by decide +kernel⟩,
   ⟨{ up 2 .quietRepair with beat := 0x10000040, rep.props := [propDue (.quiet 4 8 31) false true 0 1] }, 0, propDue (.quiet 4 8 31) false true 0 1, 4, 8, 31, by decide +kernel⟩,
   ⟨up 2 .fault, 0, by decide +kernel⟩,
   ⟨{ up 2 .repair with beat := 0x10000040, rep.props := [propDue (.quiet 4 8 0) false true 0 1] }, 0, propDue (.quiet 4 8 0) false true 0 1, 4, 8, by decide +kernel⟩,
   ⟨{ wide (up 2 .quietRepair) with beat := 0x10000500, rep.props := [propDue (.quiet 3 33 20) true true 0 2] }, 0, propDue (.quiet 3 33 20) true true 0 2, 3, 33, 20, false, by decide +kernel⟩,
   ⟨{ agree (wide (up 2 .quietRepair)) 0x80 with beat := 0x10000500, rep.props := [propDue (.quiet 3 33 20) true true 0 2] }, 0, propDue (.quiet 3 33 20) true true 0 2, 3, 33, 20, by decide +kernel⟩,
   ⟨{ up 2 .active with rep.props := [propDue (.width true 1 false 1) false true 0 0] }, 0, propDue (.width true 1 false 1) false true 0 0, true, false, 1, 1, by decide +kernel⟩,
   ⟨{ wide (up 2 .widthChange) with beat := 0x10000040, rep.props := [propDue (.width false 1 false 0) false true 0 1] }, 0, propDue (.width false 1 false 0) false true 0 1, false, false, 1, 0, by decide +kernel⟩,
   ⟨{ (wide (up 2 .widthChange)).put REPAIR.WIDTH_STAT.RX_GROUPS 8 with rep.props := [⟨.width true 7 false 1, 0x0FFFFFC0, true, true, 0, 0, 1⟩] }, 0, ⟨.width true 7 false 1, 0x0FFFFFC0, true, true, 0, 0, 1⟩, true, false, 7, 1, by decide +kernel⟩,
   ⟨{ wide (up 2 .widthChange) with beat := 0x10000200, rep.props := [propDue (.width false 1 false 0) false true 0 2] }, 0, propDue (.width false 1 false 0) false true 0 2, false, false, 1, 0, by decide +kernel⟩,
   ⟨{ wide (up 2 .quietRepair) with rep.props := [propDue (.lowland 1 6) false true 0 0] }, 0, propDue (.lowland 1 6) false true 0 0, 1, 6, by decide +kernel⟩,
   ⟨{ wide (up 2 .active) with rep.props := [propDue (.lowland 1 6) false false 0 0] }, 0, propDue (.lowland 1 6) false false 0 0, 1, 6, by decide +kernel⟩⟩

theorem hyps_TablesTakeWrites :
    (∃ (s : State) (entry : BitVec 17) (data : Word), HostUp s (aperDomains entry.toNat) ∧ s.isM = true) ∧
    (∃ (s : State) (ctx : BitVec 14) (word : BitVec 2) (data : Word), HostUp s (aperDomains (ctxIdx ctx.toNat word.toNat)) ∧ s.isM = true) ∧
    (∃ (s : State) (slot : BitVec 6) (word : BitVec 5) (data : Word), HostUp s (aperDomains (rcpIdx slot.toNat word.toNat)) ∧ s.isM = true ∧ tblMask (rcpIdx slot.toNat word.toNat) ≠ 0) ∧
    (∃ (s : State) (slot : BitVec 2) (entry : BitVec 6) (hi : Bool) (data : Word), HostUp s (aperDomains (ovlIdx slot.toNat entry.toNat (b2n hi)))) ∧
    (∃ (s : State) (off : BitVec 21) (data : Word), HostUp s (aperDomains (off.toNat / 8)) ∧ s.isM = true ∧ 0x32A00 ≤ off.toNat / 8 ∧ tblMask (off.toNat / 8) ≠ 0) ∧
    (∃ (s : State) (entry : BitVec 17) (data : Word), HostUp s (aperDomains entry.toNat) ∧ s.isM = false) :=
  ⟨⟨up 1 .active, 131071, 0xFFFFFFFFFFFFFFFF, hostUp (by decide +kernel), by decide +kernel⟩,
   ⟨up 1 .active, 16383, 3, 0xFFFFFFFFFFFFFFFF, hostUp (by decide +kernel), by decide +kernel⟩,
   ⟨up 1 .active, 63, 18, 0xFFFFFFFFFFFFFFFF, hostUp (by decide +kernel), by decide +kernel⟩,
   ⟨up 2 .active, 3, 63, true, 0xFFFFFFFFFFFFFFFF, hostUp (by decide +kernel)⟩,
   ⟨up 1 .active, 0x195000, 1, hostUp (by decide +kernel), by decide +kernel⟩,
   ⟨up 2 .active, 0, 1, hostUp (by decide +kernel), by decide +kernel⟩⟩

theorem hyps_WindowDescriptorsAreArmedFreedAndAborted :
    (∃ (s : State) (w : BitVec 10) (k : BitVec 3) (data : Word), HostUp s (aperDomains (winIdx w.toNat k.toNat)) ∧ s.isM = true ∧ s.eng.winChecks = true ∧ k ≠ 0 ∧ s.win w.toNat WIN.STATE = 0) ∧
    (∃ (s : State) (w : BitVec 10) (k : BitVec 3) (data : Word), HostUp s (aperDomains (winIdx w.toNat k.toNat)) ∧ s.isM = true ∧ s.eng.winChecks = true ∧ k ≠ 0 ∧ s.win w.toNat WIN.STATE ≠ 0) ∧
    (∃ (s : State) (w : BitVec 10) (k : BitVec 3) (data : Word), HostUp s (aperDomains (winIdx w.toNat k.toNat)) ∧ s.isM = true ∧ s.eng.winChecks = false ∧ (k ≠ 0 ∨ bits data.toNat 0 3 = 0)) ∧
    (∃ (s : State) (w : BitVec 10) (data : Word), HostUp s (aperDomains (winIdx w.toNat 0)) ∧ s.isM = true ∧ (s.eng.winChecks = false ∨ s.win w.toNat WIN.STATE ≠ 0)) ∧
    (∃ (s : State) (p : State) (w : BitVec 10) (data : Word) (code : Nat), HostUp s (aperDomains (winIdx w.toNat 0)) ∧ s.isM = true ∧ s.eng.winChecks = true ∧ s.win w.toNat WIN.STATE = 0 ∧ p = s.setTbl (winIdx w.toNat 0) (setBits data 0 3 1 &&& tblMask (winIdx w.toNat 0)) ∧ p.armRefusal w.toNat = some code) ∧
    (∃ (s : State) (p : State) (w : BitVec 10) (data : Word), HostUp s (aperDomains (winIdx w.toNat 0)) ∧ s.isM = true ∧ s.eng.winChecks = true ∧ s.win w.toNat WIN.STATE = 0 ∧ p = s.setTbl (winIdx w.toNat 0) (setBits data 0 3 1 &&& tblMask (winIdx w.toNat 0)) ∧ p.armRefusal w.toNat = none) ∧
    (∃ (s : State) (w : BitVec 10) (data : Word), HostUp s (aperDomains (winIdx w.toNat 0)) ∧ s.isM = true ∧ s.eng.winChecks = true ∧ s.winIn w.toNat [0, 1, 4, 5] = true) ∧
    (∃ (s : State) (w : BitVec 10) (data : Word), HostUp s (aperDomains (winIdx w.toNat 0)) ∧ s.isM = true ∧ s.eng.winChecks = true ∧ s.winIn w.toNat [2, 3] = true) ∧
    (∃ (s : State) (w : BitVec 10) (data : Word), HostUp s (aperDomains (winIdx w.toNat 0)) ∧ s.isM = true ∧ s.eng.winChecks = true ∧ s.winIn w.toNat [1, 2] = true) ∧
    (∃ (s : State) (w : BitVec 10) (data : Word), HostUp s (aperDomains (winIdx w.toNat 0)) ∧ s.isM = true ∧ s.winIn w.toNat [1, 2] = false) :=
  ⟨⟨eng, 1023, 7, 0xFFFFFFFFFFFFFFFF, hostUp (by decide +kernel), by decide +kernel⟩,
   ⟨window 5, 1023, 7, 1, hostUp (by decide +kernel), by decide +kernel⟩,
   ⟨up 1 .active, 1023, 0, 0xFFFFFFFFFFFFFFF8, hostUp (by decide +kernel), by decide +kernel⟩,
   ⟨window 5, 1023, 1, hostUp (by decide +kernel), by decide +kernel⟩,
   ⟨{ window 0 with beat := 0x10001000 }, ({ window 0 with beat := 0x10001000 }).setTbl (winIdx 1023 0) (setBits (BitVec.ofNat 64 (packLow [(0, 5), (1, 6), (0, 7), (5, 14), (4, 16)])) 0 3 1 &&& tblMask (winIdx 1023 0)), 1023, BitVec.ofNat 64 (packLow [(0, 5), (1, 6), (0, 7), (5, 14), (4, 16)]), 0x47, hostUp (by decide +kernel), by decide +kernel⟩,
   ⟨window 0, ((window 0)).setTbl (winIdx 1023 0) (setBits (BitVec.ofNat 64 (packLow [(0, 5), (1, 6), (0, 7), (5, 14), (4, 16)])) 0 3 1 &&& tblMask (winIdx 1023 0)), 1023, BitVec.ofNat 64 (packLow [(0, 5), (1, 6), (0, 7), (5, 14), (4, 16)]), hostUp (by decide +kernel), by decide +kernel⟩,
   ⟨window 5, 1023, 0, hostUp (by decide +kernel), by decide +kernel⟩,
   ⟨window 3, 1023, 0, hostUp (by decide +kernel), by decide +kernel⟩,
   ⟨window 2, 1023, 5, hostUp (by decide +kernel), by decide +kernel⟩,
   ⟨window 3, 1023, 5, hostUp (by decide +kernel), by decide +kernel⟩⟩

theorem hyps_WindowsOpenAndCloseOnTime :
    (∃ (s : State), HostUp s (keyDomains BASIN.INIT_CMD.GO.key) ∧ s.isM = true ∧ s.on BASIN.INIT_STAT.RUNNING = false ∧ s.windowsIn [1, 2, 3, 4, 5] = []) ∧
    (∃ (s : State), HostUp s (keyDomains BASIN.INIT_CMD.GO.key) ∧ s.isM = true ∧ s.on BASIN.INIT_STAT.RUNNING = false ∧ s.windowsIn [1, 2, 3, 4, 5] ≠ []) ∧
    (∃ (s : State) (cycles : Nat), s.engRuns = true ∧ s.on BASIN.INIT_STAT.RUNNING = true ∧ 16384 ≤ cycles) ∧
    (∃ (s : State) (w : BitVec 10) (cycles : Nat), s.engRuns = true ∧ s.win w.toNat WIN.STATE = 1 ∧ s.eng.zeroing.contains w.toNat = true ∧ s.accLines w.toNat + s.bmpLines w.toNat ≤ 4 * cycles ∧ s.reached (s.openBeat w.toNat) = false) ∧
    (∃ (s : State) (w : BitVec 10) (cycles : Nat), s.engRuns = true ∧ s.win w.toNat WIN.STATE = 1 ∧ s.eng.zeroing.contains w.toNat = true ∧ s.accLines w.toNat + s.bmpLines w.toNat ≤ 4 * cycles ∧ s.openBeat w.toNat < s.beat ∧ s.eng.lateArm.contains w.toNat = false) ∧
    (∃ (s : State) (w : BitVec 10) (now : Beat), s.engRuns = true ∧ s.win w.toNat WIN.STATE = 1 ∧ s.eng.zeroing.contains w.toNat = false ∧ (s.at now).reached (s.openBeat w.toNat) = true) ∧
    (∃ (s : State) (w : BitVec 10) (now : Beat), s.engRuns = true ∧ s.win w.toNat WIN.STATE = 1 ∧ s.eng.zeroing.contains w.toNat = true ∧ (s.at now).reached (s.openBeat w.toNat) = true ∧ s.eng.lateArm.contains w.toNat = false) ∧
    (∃ (s : State) (w : BitVec 10) (now : Beat), s.engRuns = true ∧ s.win w.toNat WIN.STATE = 2 ∧ (s.closeBeat w.toNat).toNat + s.get BASIN.WIN_CTL.SLACK ≤ (s.at now).beat.toNat ∧ (s.ctxOf (s.win w.toNat WIN.CTX)).lost = false ∧ s.win w.toNat WIN.MODE = 0 ∧ s.win w.toNat WIN.CL_WRITE = 0) ∧
    (∃ (s : State) (w : BitVec 10) (now : Beat), s.engRuns = true ∧ s.win w.toNat WIN.STATE = 2 ∧ (s.closeBeat w.toNat).toNat + s.get BASIN.WIN_CTL.SLACK ≤ (s.at now).beat.toNat ∧ (s.ctxOf (s.win w.toNat WIN.CTX)).lost = true) ∧
    (∃ (s : State) (w : BitVec 10) (now : Beat) (i : BitVec 18), s.engRuns = true ∧ s.win w.toNat WIN.STATE = 2 ∧ (s.closeBeat w.toNat).toNat + s.get BASIN.WIN_CTL.SLACK ≤ (s.at now).beat.toNat ∧ linesMeet (i.toNat / 4, 1) (s.winAcc w.toNat) = true) ∧
    (∃ (s : State) (w : BitVec 10), s.engRuns = true ∧ s.win w.toNat WIN.STATE = 3 ∧ s.eng.closing.contains w.toNat = true ∧ s.eng.unissued.contains w.toNat = false ∧ s.closeHeld w.toNat = false ∧ s.win w.toNat WIN.CL_REC = 0) ∧
    (∃ (s : State) (c : State) (w : BitVec 10) (a : Nat), s.engRuns = true ∧ s.win w.toNat WIN.STATE = 3 ∧ s.eng.closing.contains w.toNat = true ∧ s.eng.unissued.contains w.toNat = false ∧ s.closeHeld w.toNat = false ∧ s.win w.toNat WIN.CL_REC = 1 ∧ a = 64 * s.win w.toNat WIN.REC_ADDR ∧ s.pageShut a = false ∧ (s.ctxOf (s.win w.toNat WIN.CTX)).lost = false ∧ c = s.setWin w.toNat WIN.STATE 4) :=
  ⟨⟨eng, hostUp (by decide +kernel), by decide +kernel⟩,
   ⟨window 4, hostUp (by decide +kernel), by decide +kernel⟩,
   ⟨eng.put BASIN.INIT_STAT.RUNNING 1, 16384, by decide +kernel⟩,
   ⟨{ window 1 with beat := 0x0FFFFFFF, eng.zeroing := [1023] }, 1023, 1, by decide +kernel⟩,
   ⟨{ window 1 with beat := 0x10000001, eng.zeroing := [1023] }, 1023, 1, by decide +kernel⟩,
   ⟨window 1, 1023, 0, by decide +kernel⟩,
   ⟨{ window 1 with eng.zeroing := [1023] }, 1023, 0, by decide +kernel⟩,
   ⟨{ window 2 with beat := 0x20000000 }, 1023, 0, by decide +kernel⟩,
   ⟨{ (window 2).setTbl (ctxIdx 5 1) (BitVec.ofNat 64 (2 ^ 55 + 2 ^ 59)) with beat := 0x20000000 }, 1023, 0, by decide +kernel⟩,
   ⟨{ window 2 with beat := 0x20000000 }, 1023, 0, 3, by decide +kernel⟩,
   ⟨{ window 3 with eng.closing := [1023] }, 1023, by decide +kernel⟩,
   ⟨{ ((window 3).setWin 1023 WIN.CL_REC 1).setTbl 0 1 with eng.closing := [1023] }, ({ ((window 3).setWin 1023 WIN.CL_REC 1).setTbl 0 1 with eng.closing := [1023] }).setWin 1023 WIN.STATE 4, 1023, 64 * ({ ((window 3).setWin 1023 WIN.CL_REC 1).setTbl 0 1 with eng.closing := [1023] }).win 1023 WIN.REC_ADDR, by decide +kernel⟩⟩

theorem hyps_ArraysAreScrubbedAndPoolMemoryIsRelayed :
    (∃ (s : State) (a : Nat) (n : Nat), arrayOk a = true ∧ s.scrubs a = true ∧ s.get (PAGE.SCRUB_CTL.INTERVAL (arrayPage a)) ≤ n) ∧
    (∃ (s : State) (a : Nat) (n : Nat) (errs : List (Nat × EccError)), n < s.get (PAGE.SCRUB_CTL.INTERVAL (arrayPage a))) ∧
    (∃ (s : State) (a : Nat) (n : Nat) (i : Nat), arrayOk a = true ∧ s.scrubs a = true ∧ s.get (PAGE.SCRUB_CTL.INTERVAL (arrayPage a)) ≤ n) ∧
    (∃ (s : State) (n : Nat) (i : Nat), s.scrubs 6 = true ∧ s.get (PAGE.SCRUB_CTL.INTERVAL 8) ≤ n) ∧
    (∃ (s : State) (n : Nat) (i : Nat) (c : Nat), s.scrubs 7 = true ∧ s.get (PAGE.SCRUB_CTL.INTERVAL (arrayPage 7)) ≤ n ∧ (s.sram 7).row < 8192 ∧ c = ((s.sram 7).row * 8 + i % 8) / 4) ∧
    (∃ (s : State) (a : Nat) (i : Nat) (written : Bool), arrayOk a = true ∧ s.arrayHere a = true ∧ i < arrayRows a * rowWords a) ∧
    (∃ (s : State) (a : Nat) (n : Nat), arrayOk a = true ∧ s.arrayHere a = true ∧ (s.sram a).merge ≠ [] ∧ 4 ≤ n) ∧
    (∃ (s : State) (n : Nat) (p : Nat), HostUp s (keyDomains TXN.MSCRUB_CMD.GO.key) ∧ s.isM = true ∧ s.get TXN.MSCRUB_STAT.STATE = 0 ∧ n = s.get TXN.MSCRUB_CTL.COUNT ∧ p = s.get TXN.MSCRUB_CTL.PAGE ∧ 1 ≤ n ∧ n ≤ 122880 ∧ p + n ≤ 131072) ∧
    (∃ (s : State) (n : Nat) (p : Nat), HostUp s (keyDomains TXN.MSCRUB_CMD.GO.key) ∧ s.isM = true ∧ s.get TXN.MSCRUB_STAT.STATE = 0 ∧ n = s.get TXN.MSCRUB_CTL.COUNT ∧ p = s.get TXN.MSCRUB_CTL.PAGE ∧ (n = 0 ∨ 122880 < n ∨ 131072 < p + n)) ∧
    (∃ (s : State), s.dmaRuns = true ∧ s.get TXN.MSCRUB_STAT.STATE = 1) ∧
    (∃ (s : State) (sum : BitVec 256), s.dmaRuns = true ∧ s.get TXN.MSCRUB_STAT.STATE = 2) ∧
    (∃ (s : State) (sum : BitVec 256), s.dmaRuns = true ∧ s.get TXN.MSCRUB_STAT.STATE ≠ 2) :=
  ⟨⟨{ (up 2 .active).put (PAGE.SCRUB_CTL.EN 1) 1 with arrays := [(12, { row := 63 })] }, 12, 2 ^ 32, by decide +kernel⟩,
   ⟨up 2 .active, 12, 0, [], by decide +kernel⟩,
   ⟨{ (up 2 .active).put (PAGE.SCRUB_CTL.EN 1) 1 with arrays := [(12, { row := 63, fixedPrev := [511] })] }, 12, 2 ^ 32, 7, by decide +kernel⟩,
   ⟨{ (up 1 .active).put (PAGE.SCRUB_CTL.EN 8) 1 with arrays := [(6, { row := 16383 })] }, 2 ^ 32, 7, by decide +kernel⟩,
   ⟨{ eng.put (PAGE.SCRUB_CTL.EN 10) 1 with arrays := [(7, { row := 8191 })] }, 2 ^ 32, 7, 16383, by decide +kernel⟩,
   ⟨{ up 2 .active with arrays := [(12, { pending := [511] })] }, 12, 511, true, by decide +kernel⟩,
   ⟨{ eng with arrays := [(11, { merge := [3, 4] })] }, 11, 4, by decide +kernel⟩,
   ⟨((up 1 .active).put TXN.MSCRUB_CTL.COUNT 122880).put TXN.MSCRUB_CTL.PAGE 8192, 122880, 8192, hostUp (by decide +kernel), by decide +kernel⟩,
   ⟨((up 1 .active).put TXN.MSCRUB_CTL.COUNT 122880).put TXN.MSCRUB_CTL.PAGE 8193, 122880, 8193, hostUp (by decide +kernel), by decide +kernel⟩,
   ⟨(up 1 .active).put TXN.MSCRUB_STAT.STATE 1, by decide +kernel⟩,
   ⟨(up 1 .active).put TXN.MSCRUB_STAT.STATE 2, BitVec.ofNat 256 (2 ^ 256 - 1), by decide +kernel⟩,
   ⟨(up 1 .active).put TXN.MSCRUB_STAT.STATE 1, 1, by decide +kernel⟩⟩

theorem hyps_TestModeRunsPatterns :
    (∃ (s : State), HostUp s (keyDomains TEST.TEST_CMD.ENTER.key) ∧ s.role ≠ 0 ∧ s.enterRefusal = none) ∧
    (∃ (s : State) (r : Reason), HostUp s (keyDomains TEST.TEST_CMD.ENTER.key) ∧ s.role ≠ 0 ∧ s.enterRefusal = some r) ∧
    (∃ (s : State) (ctl : Nat), HostUp s (keyDomains TEST.TEST_CMD.ENTER.key) ∧ s.role ≠ 0 ∧ s.goRefusal = none ∧ ctl = (s.reg TEST.TEST_CTL.MODE.key).toNat ∧ (ctlMode ctl = 1 ∨ ctlMode ctl = 2) ∧ ctlPattern ctl ≠ 3) ∧
    (∃ (s : State), HostUp s (keyDomains TEST.TEST_CMD.ENTER.key) ∧ s.role ≠ 0 ∧ s.exitRefusal = none ∧ s.on TEST.TEST_STAT.IN_TEST = true) ∧
    (∃ (s : State) (now : Beat) (b : Beat), s.chip.dieRst = false ∧ s.test.startAt = some b ∧ b ≤ (s.at now).testTime now ∧ s.test.begun = false ∧ ctlMode s.test.ctl = 1) ∧
    (∃ (zero : Bool) (st : Nat) (w : Nat), w < 166) ∧
    (∃ (free : Nat) (ones : Nat → Nat → Nat) (st : Nat) (w : Nat), st < 167 ∧ w < 166 ∧ ones st w ≠ 32) ∧
    (∃ (s : State) (now : Beat) (b : Beat) (raw : List (List (Nat × BitVec 166))) (steps : List (BitVec 166)) (zero : Bool), (TestObs.walking raw).wf = true ∧ s.chip.dieRst = false ∧ s.test.startAt = some b ∧ ctlMode s.test.ctl ≠ 2 ∧ steps = sampledSteps (s.at now).draw.1 (fun st w => onesOf (raw.getD st []) w) ∧ s.test.begun = true ∧ b ≤ (s.at now).testTime now ∧ 42752 ≤ ((s.at now).testTime now - b).toNat ∧ ctlPattern s.test.ctl ≠ 2 ∧ zero = decide (ctlPattern s.test.ctl = 1)) ∧
    (∃ (s : State) (now : Beat) (b : Beat), s.chip.dieRst = false ∧ s.test.startAt = some b ∧ ctlMode s.test.ctl = 2 ∧ s.test.begun = true ∧ b ≤ (s.at now).testTime now ∧ 42752 ≤ ((s.at now).testTime now - b).toNat ∧ ctlPattern s.test.ctl ≠ 2) ∧
    (∃ (s : State) (now : Beat) (b : Beat), s.chip.dieRst = false ∧ s.test.startAt = some b ∧ s.test.begun = true ∧ b ≤ (s.at now).testTime now ∧ patternBeats s.test.ctl ≤ ((s.at now).testTime now - b).toNat ∧ ctlPattern s.test.ctl = 2) ∧
    (∃ (zero : Bool) (steps : List (BitVec 166)) (w : Nat), w < 166 ∧ steps.length = 167 ∧ (∀ st < 167, (steps.getD st 0).getLsbD w = walkExpected zero st w)) :=
  ⟨⟨(up 2 .resetHeld).put PHY.PLL_STAT.LOCKED 1, hostUp (by decide +kernel), by decide +kernel⟩,
   ⟨up 2 .off, .state, hostUp (by decide +kernel), by decide +kernel⟩,
   ⟨((up 2 .resetHeld).put TEST.TEST_STAT.IN_TEST 1).put TEST.TEST_CTL.MODE 1, (((((up 2 .resetHeld).put TEST.TEST_STAT.IN_TEST 1).put TEST.TEST_CTL.MODE 1)).reg TEST.TEST_CTL.MODE.key).toNat, hostUp (by decide +kernel), by decide +kernel⟩,
   ⟨(up 2 .resetHeld).put TEST.TEST_STAT.IN_TEST 1, hostUp (by decide +kernel), by decide +kernel⟩,
   ⟨{ up 1 .resetHeld with test.startAt := some 0x10000000, test.ctl := 0x111 }, 0, 0x10000000, by decide +kernel⟩,
   ⟨true, 165, 165, by decide +kernel⟩,
   ⟨0, fun _ _ => 33, 166, 165, by decide +kernel⟩,
   ⟨{ up 1 .resetHeld with test.startAt := some 0x0FF00000, test.begun := true, test.ctl := 1 }, 0, 0x0FF00000, List.replicate 167 [(33, 1), (31, 0)], sampledSteps (({ up 1 .resetHeld with test.startAt := some 0x0FF00000, test.begun := true, test.ctl := 1 }).at 0).draw.1 (fun st w => onesOf (((List.replicate 167 [(33, 1), (31, 0)])).getD st []) w), false, by decide +kernel⟩,
   ⟨{ up 1 .resetHeld with test.startAt := some 0x0FF00000, test.begun := true, test.ctl := 2 }, 0, 0x0FF00000, by decide +kernel⟩,
   ⟨{ up 2 .resetHeld with test.startAt := some 0x0F000000, test.begun := true, test.ctl := 0x21 }, 0, 0x0F000000, by decide +kernel⟩,
   ⟨false, (List.range 167).map (fun st => BitVec.ofNat 166 (2 ^ st)), 165, by decide +kernel⟩⟩

theorem hyps_WrapperInstructionsAct :
    (∃ (s : State) (wir : BitVec 8) (wsi : Bool), s.chip.dieRst = false ∧ wrapperCodes.contains wir.toNat = false) ∧
    (∃ (s : State), s.chip.dieRst = false) ∧
    (∃ (s : State) (drive : BitVec 332) (rx : BitVec 166), s.chip.dieRst = false ∧ s.role ≠ 0 ∧ s.wrapperActs = true) ∧
    (∃ (s : State) (drive : BitVec 332) (rx : BitVec 166), s.chip.dieRst = false ∧ s.wrapperActs = false) ∧
    (∃ (s : State) (drive : BitVec 332), s.chip.dieRst = false) ∧
    (∃ (s : State), s.chip.dieRst = false) ∧
    (∃ (s : State) (ctl : BitVec 32), s.chip.dieRst = false ∧ s.wrapperActs = true ∧ s.on TEST.TEST_STAT.RUNNING = false ∧ ctl.getLsbD 2 = true ∧ ctl.getLsbD 3 = false ∧ (ctlMode ctl.toNat = 1 ∨ ctlMode ctl.toNat = 2) ∧ ctlPattern ctl.toNat ≠ 3) ∧
    (∃ (s : State) (ctl : BitVec 32), s.chip.dieRst = false ∧ s.wrapperActs = false) ∧
    (∃ (s : State) (ctl : BitVec 32), s.chip.dieRst = false ∧ s.wrapperActs = true ∧ s.on TEST.TEST_STAT.RUNNING = false ∧ ctl.getLsbD 2 = true ∧ ctl.getLsbD 3 = false ∧ ctlPattern ctl.toNat ≠ 3) ∧
    (∃ (s : State), s.chip.dieRst = false ∧ s.on TEST.TEST_STAT.RUNNING = false) ∧
    (∃ (s : State), s.chip.dieRst = false) ∧
    (∃ (s : State) (pass : BitVec 12), s.chip.dieRst = false ∧ s.test.bistRuns = true) :=
  ⟨⟨up 1 .active, 0xFF, true, by decide +kernel⟩,
   ⟨up 2 .off, by decide +kernel⟩,
   ⟨up 2 .off, 1, 5, by decide +kernel⟩,
   ⟨up 2 .active, 1, 5, by decide +kernel⟩,
   ⟨up 2 .active, 1, by decide +kernel⟩,
   ⟨up 2 .active, by decide +kernel⟩,
   ⟨up 2 .off, 5, by decide +kernel⟩,
   ⟨up 2 .active, 5, by decide +kernel⟩,
   ⟨up 2 .off, 4, by decide +kernel⟩,
   ⟨up 2 .off, by decide +kernel⟩,
   ⟨up 2 .off, by decide +kernel⟩,
   ⟨{ up 2 .off with test.bistRuns := true }, 0xFFF, by decide +kernel⟩⟩

theorem hyps_HeartbeatsAreRecordedForwardedAndTimed :
    (∃ (s : State) (c : SbCopies) (b : Nat) (r : State) (w : Nat) (o : Nat) (q : Nat), Heard s c b r ∧ bodyType b = SbType.heartbeat.code ∧ w = bodyPayload b ∧ o = bits w 38 2 ∧ q = bits w 28 8 ∧ r.pairRuns = true ∧ bits w 36 2 ≠ 3 ∧ bits w 25 3 ≠ 7 ∧ o ≠ r.orig ∧ ((r.hbLink (2 * o)).getD {}).recent.contains q = false) ∧
    (∃ (s : State) (c : SbCopies) (b : Nat) (r : State) (w : Nat), Heard s c b r ∧ bodyType b = SbType.heartbeat.code ∧ w = bodyPayload b ∧ r.pairRuns = true ∧ (bits w 36 2 = 3 ∨ bits w 25 3 = 7)) ∧
    (∃ (s : State) (c : SbCopies) (b : Nat) (r : State) (w : Nat) (o : Nat), Heard s c b r ∧ bodyType b = SbType.heartbeat.code ∧ w = bodyPayload b ∧ o = bits w 38 2 ∧ r.pairRuns = true ∧ bits w 36 2 ≠ 3 ∧ bits w 25 3 ≠ 7 ∧ (o = r.orig ∨ ((r.hbLink (2 * o)).getD {}).recent.contains (bits w 28 8) = true)) ∧
    (∃ (s : State) (m : Nat) (w : Nat) (o : Nat) (q : Nat) (l : List Nat), s.lnk.linkQ = m :: l ∧ msgLtype m = 5 ∧ w = bits m 8 40 ∧ o = bits w 38 2 ∧ q = bits w 28 8 ∧ s.pairRuns = true ∧ bits w 36 2 ≠ 3 ∧ bits w 25 3 ≠ 7 ∧ o ≠ s.orig ∧ ((s.hbLink (2 * o)).getD {}).recent.contains q = false) ∧
    (∃ (s : State) (f : Frame) (w : Nat) (o : Nat) (q : Nat), s.pairRuns = true ∧ sbValid f = true ∧ bodyType (sbBody f) = SbType.heartbeat.code ∧ w = bodyPayload (sbBody f) ∧ o = bits w 38 2 ∧ q = bits w 28 8 ∧ bits w 36 2 ≠ 3 ∧ bits w 25 3 ≠ 7 ∧ o ≠ s.orig ∧ ((s.hbLink (2 * o + 1)).getD {}).recent.contains q = false) ∧
    (∃ (s : State) (f : Frame), s.pairRuns = true ∧ (sbValid f = false ∨ bodyType (sbBody f) ≠ SbType.heartbeat.code)) ∧
    (∃ (s : State) (now : Beat) (w : Nat), s.pairRuns = true ∧ (s.at now).beat.toNat % 1024 = 256 * s.orig ∧ w = hbWord s.orig 0 s.pair.seq s.prole s.ownLease) ∧
    (∃ (s : State) (now : Beat), s.pairRuns = true ∧ (s.at now).beat.toNat % 1024 ≠ 256 * s.orig) ∧
    (∃ (s : State) (o : Fin 4) (now : Beat) (c : HbLink) (l : HbLink), s.pairRuns = true ∧ s.hbLink (2 * o.val) = some c ∧ s.hbLink (2 * o.val + 1) = some l ∧ (s.at now).past c.at_ 16384 = true ∧ (s.at now).past l.at_ 16384 = true ∧ bit (s.get PAIR.LIVE_STAT.ALIVE) o.val = true) ∧
    (∃ (s : State) (o : Fin 4) (now : Beat) (c : HbLink) (l : HbLink), s.pairRuns = true ∧ s.hbLink (2 * o.val) = some c ∧ s.hbLink (2 * o.val + 1) = some l ∧ (s.at now).past c.at_ 16384 = true ∧ (s.at now).past l.at_ 16384 = false ∧ c.lost = false) :=
  ⟨⟨up 2 .active, cp .heartbeat (hbWord 0 1 9 5 77), heardBody (up 2 .active) (cp .heartbeat (hbWord 0 1 9 5 77)), heardState (up 2 .active) (cp .heartbeat (hbWord 0 1 9 5 77)), bodyPayload (heardBody (up 2 .active) (cp .heartbeat (hbWord 0 1 9 5 77))), bits (bodyPayload (heardBody (up 2 .active) (cp .heartbeat (hbWord 0 1 9 5 77)))) 38 2, bits (bodyPayload (heardBody (up 2 .active) (cp .heartbeat (hbWord 0 1 9 5 77)))) 28 8, heard (by decide +kernel), by decide +kernel⟩,
   ⟨up 2 .active, cp .heartbeat (hbWord 0 3 9 5 77), heardBody (up 2 .active) (cp .heartbeat (hbWord 0 3 9 5 77)), heardState (up 2 .active) (cp .heartbeat (hbWord 0 3 9 5 77)), bodyPayload (heardBody (up 2 .active) (cp .heartbeat (hbWord 0 3 9 5 77))), heard (by decide +kernel), by decide +kernel⟩,
   ⟨up 2 .active, cp .heartbeat (hbWord 2 0 9 5 77), heardBody (up 2 .active) (cp .heartbeat (hbWord 2 0 9 5 77)), heardState (up 2 .active) (cp .heartbeat (hbWord 2 0 9 5 77)), bodyPayload (heardBody (up 2 .active) (cp .heartbeat (hbWord 2 0 9 5 77))), bits (bodyPayload (heardBody (up 2 .active) (cp .heartbeat (hbWord 2 0 9 5 77)))) 38 2, heard (by decide +kernel), by decide +kernel⟩,
   ⟨{ up 1 .active with lnk.linkQ := [linkMsg 5 (hbWord 1 2 255 6 77)] }, linkMsg 5 (hbWord 1 2 255 6 77), bits (linkMsg 5 (hbWord 1 2 255 6 77)) 8 40, bits (bits (linkMsg 5 (hbWord 1 2 255 6 77)) 8 40) 38 2, bits (bits (linkMsg 5 (hbWord 1 2 255 6 77)) 8 40) 28 8, [], by decide +kernel⟩,
   ⟨up 2 .active, sbFrame SbType.heartbeat.code 9 (hbWord 3 0 9 5 77), bodyPayload (sbBody (sbFrame SbType.heartbeat.code 9 (hbWord 3 0 9 5 77))), bits (bodyPayload (sbBody (sbFrame SbType.heartbeat.code 9 (hbWord 3 0 9 5 77)))) 38 2, bits (bodyPayload (sbBody (sbFrame SbType.heartbeat.code 9 (hbWord 3 0 9 5 77)))) 28 8, by decide +kernel⟩,
   ⟨up 2 .active, sbFrame SbType.train.code 9 (hbWord 3 0 9 5 77), by decide +kernel⟩,
   ⟨{ up 2 .active with beat := 0x10000200 }, 0, hbWord ({ up 2 .active with beat := 0x10000200 }).orig 0 ({ up 2 .active with beat := 0x10000200 }).pair.seq ({ up 2 .active with beat := 0x10000200 }).prole ({ up 2 .active with beat := 0x10000200 }).ownLease, by decide +kernel⟩,
   ⟨up 2 .active, 0, by decide +kernel⟩,
   ⟨{ (up 1 .active).put PAIR.LIVE_STAT.ALIVE 2 with pair.links := [(2, { recent := [1] }), (3, { recent := [1] })] }, 1, 0, { recent := [1] }, { recent := [1] }, by decide +kernel⟩,
   ⟨{ (up 1 .active).put PAIR.LIVE_STAT.ALIVE 2 with pair.links := [(2, { recent := [1] }), (3, { recent := [1], at_ := 0x0FFFC001 })] }, 1, 0, { recent := [1] }, { recent := [1], at_ := 0x0FFFC001 }, by decide +kernel⟩⟩

theorem hyps_TokenMovesWithLeaseAndMirror :
    (∃ (s : State) (now : Beat), s.pairRuns = true ∧ s.isOwner = true ∧ (s.at now).reached s.pair.renewAt = true) ∧
    (∃ (s : State) (now : Beat), s.pairRuns = true ∧ s.prole = 3 ∧ s.chip.beatLock = true ∧ s.on TIME.LOCK_STAT.ALIGN_FAIL = false ∧ s.pair.eLast.toNat + s.get PAIR.LEASE_CTL.GUARD ≤ (s.at now).beat.toNat) ∧
    (∃ (s : State) (now : Beat), s.pairRuns = true ∧ s.prole = 3 ∧ s.chip.beatLock = true ∧ s.on TIME.LOCK_STAT.ALIGN_FAIL = false ∧ (s.at now).beat.toNat < s.pair.eLast.toNat + s.get PAIR.LEASE_CTL.GUARD) ∧
    (∃ (s : State) (l : MirLoad), s.pairRuns = true ∧ s.clkOn 2 = true ∧ s.prole = 4 ∧ s.mirHeld = false ∧ s.pair.load = some l ∧ l.gen = none) ∧
    (∃ (s : State) (l : MirLoad) (g : Nat), s.pairRuns = true ∧ s.clkOn 2 = true ∧ s.prole = 4 ∧ s.mirHeld = false ∧ s.pair.load = some l ∧ l.gen = some g) ∧
    (∃ (s : State), s.mirHeld = true) ∧
    (∃ (s : State) (now : Beat), s.pairRuns = true ∧ s.prole = 1 ∧ (s.at now).reached s.pair.sealAt = true ∧ s.chip.col = .active ∧ (s.at now).mirHeld = false ∧ (s.at now).past s.chip.entry 16384 = true ∧ s.pair.ownerSeen = true ∧ (s.mirGens.any (fun g => s.pair.heldGens.all (fun h => genNewer g h))) = true) ∧
    (∃ (s : State) (now : Beat), s.pairRuns = true ∧ s.prole = 1 ∧ (s.at now).reached s.pair.sealAt = true ∧ (s.at now).mirHeld = false ∧ (s.chip.col ≠ .active ∨ s.pair.ownerSeen = false ∨ s.mirGens = [])) ∧
    (∃ (s : State) (now : Beat), s.pairRuns = true ∧ s.prole = 1 ∧ s.on PAIR.PAIR_CTL.INIT_OWNER = true ∧ s.pair.busyAt = none ∧ (s.at now).past s.pair.since 16384 = true) ∧
    (∃ (s : State), HostUp s (keyDomains PAIR.TOKEN_CMD.RELEASE.key) ∧ s.isM = true ∧ s.isOwner = true ∧ s.windowsIn [1, 2, 3] = [] ∧ s.clkOn 2 = true) ∧
    (∃ (s : State), HostUp s (keyDomains PAIR.TOKEN_CMD.RELEASE.key) ∧ s.isM = true ∧ s.windowsIn [1, 2, 3] ≠ []) ∧
    (∃ (s : State) (g : Nat), HostUp s (keyDomains PAIR.MIR_CMD.BEGIN.key) ∧ s.isM = true ∧ s.isOwner = true ∧ s.on PAIR.MIR_STAT_HI.OPEN = false ∧ g = (s.get PAIR.MIR_STAT.BEGUN + 1) % 2 ^ 32) ∧
    (∃ (s : State), HostUp s (keyDomains PAIR.MIR_CMD.BEGIN.key) ∧ s.isM = true ∧ s.isOwner = false) ∧
    (∃ (s : State), HostUp s (keyDomains PAIR.MIR_CMD.BEGIN.key) ∧ s.isM = true ∧ s.on PAIR.MIR_STAT_HI.OPEN = true) :=
  ⟨⟨eng, 0, by decide +kernel⟩,
   ⟨{ (up 1 .active).put PAIR.ROLE_STAT.PROLE 3 with tblZeroed := true }, 0, by decide +kernel⟩,
   ⟨{ (up 1 .active).put PAIR.ROLE_STAT.PROLE 3 with pair.eLast := 0x10000000 }, 0, by decide +kernel⟩,
   ⟨{ (up 1 .active).put PAIR.ROLE_STAT.PROLE 4 with pair.load := some ⟨none, false, false, [], 0⟩ }, ⟨none, false, false, [], 0⟩, by decide +kernel⟩,
   ⟨{ (bound 1).put PAIR.ROLE_STAT.PROLE 4 with pair.load := some ⟨some 2, false, false, [], 2⟩ }, ⟨some 2, false, false, [], 2⟩, 2, by decide +kernel⟩,
   ⟨{ eng with inp.stkThr := 0xFF }, by decide +kernel⟩,
   ⟨{ (((bound 1).put PAIR.ROLE_STAT.PROLE 1).setMem 0 2).setMemBytes 0x195000 [2, 0, 0, 0, 0xFD, 0xFF, 0xFF, 0xFF] with pair.ownerSeen := true }, 0, by decide +kernel⟩,
   ⟨{ (bound 1).put PAIR.ROLE_STAT.PROLE 1 with pair.ownerSeen := false }, 0, by decide +kernel⟩,
   ⟨{ ((up 1 .active).put PAIR.ROLE_STAT.PROLE 1).put PAIR.PAIR_CTL.INIT_OWNER 1 with tblZeroed := true }, 0, by decide +kernel⟩,
   ⟨eng, hostUp (by decide +kernel), by decide +kernel⟩,
   ⟨window 1, hostUp (by decide +kernel), by decide +kernel⟩,
   ⟨eng, ((eng).get PAIR.MIR_STAT.BEGUN + 1) % 2 ^ 32, hostUp (by decide +kernel), by decide +kernel⟩,
   ⟨up 1 .active, hostUp (by decide +kernel), by decide +kernel⟩,
   ⟨eng.put PAIR.MIR_STAT_HI.OPEN 1, hostUp (by decide +kernel), by decide +kernel⟩⟩

theorem hyps_BulkFlitsLeaveAndArriveInSequence :
    (∃ (s : State) (n : Nat) (m : Nat) (us : List Nat) (q : List TxItem) (ue : Option (BitVec 4)), s.bulkRuns false = true ∧ n = s.get BULK.SEQ_STAT.NEXT_TX ∧ s.lnk.ptr = n ∧ s.flitReady = true ∧ fillSlots (s.beat.toNat % 65536) 15 0 s.lnk.txQ = (us, m, q)) ∧
    (∃ (s : State) (f : RplFlit), s.bulkRuns false = true ∧ s.lnk.ptr ≠ s.get BULK.SEQ_STAT.NEXT_TX ∧ s.lnk.rpl.find? (fun x => x.seq == s.lnk.ptr) = some f ∧ s.lnk.marked.contains f.seq = false) ∧
    (∃ (s : State) (f : RplFlit) (ue : Option (BitVec 4)), s.bulkRuns false = true ∧ s.lnk.ptr ≠ s.get BULK.SEQ_STAT.NEXT_TX ∧ s.lnk.rpl.find? (fun x => x.seq == s.lnk.ptr) = some f ∧ (s.lnk.marked.contains f.seq = true ∨ ue.isSome = true)) ∧
    (∃ (s : State) (ue : Option (BitVec 4)), s.lnk.ptr = s.get BULK.SEQ_STAT.NEXT_TX ∧ s.flitReady = false) ∧
    (∃ (s : State) (cycles : Nat), s.bulkRuns false = true ∧ s.outB ≠ 0 ∧ s.get BULK.RPL_CTL.TIMEOUT ≤ cycles ∧ s.lnk.noProgress + 1 ≠ s.get BULK.RPL_CTL.LIMIT) ∧
    (∃ (s : State) (cycles : Nat), s.bulkRuns false = true ∧ s.outB ≠ 0 ∧ s.get BULK.RPL_CTL.TIMEOUT ≤ cycles ∧ s.lnk.noProgress + 1 = s.get BULK.RPL_CTL.LIMIT) ∧
    (∃ (s : State) (cycles : Nat), s.bulkRuns true = true ∧ s.on BULK.RPL_STAT.NAK_PENDING = true ∧ s.get BULK.NAK_CTL.TIMEOUT ≤ cycles) ∧
    (∃ (s : State) (flit : BulkFlit) (pos : Nat), s.bulkComes = true ∧ ¬ ((bulkHdr flit.toNat).ftype = 1 ∧ (bulkHdr flit.toNat).seq = s.get BULK.SEQ_STAT.EXP)) ∧
    (∃ (s : State) (flit : BulkFlit) (pos : Nat), s.bulkComes = true ∧ (bulkHdr flit.toNat).ftype = 1 ∧ (bulkHdr flit.toNat).seq = s.get BULK.SEQ_STAT.EXP) ∧
    (∃ (s : State) (f : RxFlit) (l : List RxFlit) (ue : Option (Nat × Nat)), s.lnk.rxQ = f :: l ∧ s.colDead = false ∧ s.clkOn 4 = true ∧ bulkOk f.raw.toNat = false ∧ f.presented = none) ∧
    (∃ (s : State) (f : RxFlit) (l : List RxFlit) (b : BulkHdr) (o : Option OpenTxn), s.lnk.rxQ = f :: l ∧ s.colDead = false ∧ s.clkOn 4 = true ∧ bulkOk f.raw.toNat = true ∧ b = bulkHdr f.raw.toNat ∧ bulkBad b (bulkSlots f.raw.toNat) = false ∧ b.ftype = 1 ∧ b.seq = s.get BULK.SEQ_STAT.NEXT_RX ∧ b.ack = s.get BULK.SEQ_STAT.OLDEST ∧ b.ackt = 1 ∧ b.crv = false ∧ s.rep.keptBulk = none ∧ f.presented = none ∧ walkSlots b.hdrMap (bulkSlots f.raw.toNat) 0 s.lnk.openC = some ([], o)) ∧
    (∃ (s : State) (f : RxFlit) (l : List RxFlit) (b : BulkHdr) (o : Option OpenTxn) (p : Piece) (h : Hdr) (c : Op), s.lnk.rxQ = f :: l ∧ s.colDead = false ∧ s.clkOn 4 = true ∧ bulkOk f.raw.toNat = true ∧ b = bulkHdr f.raw.toNat ∧ bulkBad b (bulkSlots f.raw.toNat) = false ∧ b.ftype = 1 ∧ b.seq = s.get BULK.SEQ_STAT.NEXT_RX ∧ b.ack = s.get BULK.SEQ_STAT.OLDEST ∧ b.ackt = 1 ∧ b.crv = false ∧ s.rep.keptBulk = none ∧ f.presented = none ∧ f.shown = [] ∧ walkSlots b.hdrMap (bulkSlots f.raw.toNat) 0 s.lnk.openC = some ([p], o) ∧ p.first = true ∧ p.last = true ∧ h = presHdr p.hdr ∧ p.hdr.isResponse = false ∧ h.operation = some c ∧ s.slotBad h c = false ∧ s.plainRequest p.hdr c (s.bindFor p.hdr) = false ∧ s.routeOf h c (s.bindFor p.hdr) = .engine) :=
  ⟨⟨{ up 2 .active with lnk.txQ := [queued .wr] }, 0, (fillSlots (({ up 2 .active with lnk.txQ := [queued .wr] }).beat.toNat % 65536) 15 0 ({ up 2 .active with lnk.txQ := [queued .wr] }).lnk.txQ).2.1, (fillSlots (({ up 2 .active with lnk.txQ := [queued .wr] }).beat.toNat % 65536) 15 0 ({ up 2 .active with lnk.txQ := [queued .wr] }).lnk.txQ).1, (fillSlots (({ up 2 .active with lnk.txQ := [queued .wr] }).beat.toNat % 65536) 15 0 ({ up 2 .active with lnk.txQ := [queued .wr] }).lnk.txQ).2.2, none, by decide +kernel⟩,
   ⟨{ (up 2 .active).put BULK.SEQ_STAT.NEXT_TX 1 with lnk.rpl := [⟨0, 0x7FFF, List.replicate 15 0, none⟩] }, ⟨0, 0x7FFF, List.replicate 15 0, none⟩, by decide +kernel⟩,
   ⟨{ (up 2 .active).put BULK.SEQ_STAT.NEXT_TX 1 with lnk.rpl := [⟨0, 0x7FFF, List.replicate 15 0, none⟩], lnk.marked := [0] }, ⟨0, 0x7FFF, List.replicate 15 0, none⟩, none, by decide +kernel⟩,
   ⟨up 2 .active, some 15, by decide +kernel⟩,
   ⟨(up 2 .active).put BULK.SEQ_STAT.NEXT_TX 1, 4096, by decide +kernel⟩,
   ⟨{ (up 2 .active).put BULK.SEQ_STAT.NEXT_TX 1 with lnk.noProgress := (up 2 .active).get BULK.RPL_CTL.LIMIT - 1 }, 4096, by decide +kernel⟩,
   ⟨(up 2 .active).put BULK.RPL_STAT.NAK_PENDING 1, 4096, by decide +kernel⟩,
   ⟨(up 2 .active).put BULK.SEQ_STAT.EXP 1, txnFlit 0x7FFF (List.replicate 15 0), 4095, by decide +kernel⟩,
   ⟨up 2 .active, txnFlit 0x7FFF (List.replicate 15 0), 4095, by decide +kernel⟩,
   ⟨{ up 2 .active with lnk.rxQ := [arrived 0] }, arrived 0, [], none, by decide +kernel⟩,
   ⟨{ up 2 .active with lnk.rxQ := [arrived (txnFlit 0x7FFF (List.replicate 15 0))] }, arrived (txnFlit 0x7FFF (List.replicate 15 0)), [], bulkHdr ((arrived (txnFlit 0x7FFF (List.replicate 15 0)))).raw.toNat, none, by decide +kernel⟩,
   ⟨{ eng with lnk.rxQ := [arrived (txnFlit 0x7FE1 ((rq .contrib).unit :: 1 :: 2 :: 3 :: 4 :: List.replicate 10 0))] }, arrived (txnFlit 0x7FE1 ((rq .contrib).unit :: 1 :: 2 :: 3 :: 4 :: List.replicate 10 0)), [], bulkHdr ((arrived (txnFlit 0x7FE1 ((rq .contrib).unit :: 1 :: 2 :: 3 :: 4 :: List.replicate 10 0)))).raw.toNat, none, ⟨rq .contrib, true, [1, 2, 3, 4], true⟩, presHdr (rq .contrib), .contrib, by decide +kernel⟩⟩

theorem hyps_ProbesAreSentWhileFlitsAreOutstanding :
    (∃ (s : State) (cycles : Nat) (n : Nat), s.bulkRuns false = true ∧ s.outB ≠ 0 ∧ n = s.get BULK.SEQ_STAT.NEXT_TX ∧ s.lnk.ptr = n ∧ s.flitReady = false ∧ s.get BULK.RPL_CTL.PROBE_INTERVAL ≤ cycles) ∧
    (∃ (s : State) (cycles : Nat), (s.outB = 0 ∨ cycles < s.get BULK.RPL_CTL.PROBE_INTERVAL)) ∧
    (∃ (s : State) (data : Word), s.role ≠ 0 ∧ bits data.toNat 0 8 < 8) ∧
    (∃ (s : State) (data : Word), s.role ≠ 0 ∧ 8 ≤ bits data.toNat 0 8 ∧ 256 ≤ bits data.toNat 16 12 ∧ 4 ≤ bits data.toNat 32 8) :=
  ⟨⟨{ (up 2 .active).put BULK.SEQ_STAT.NEXT_TX 1 with lnk.ptr := 1 }, 32, 1, by decide +kernel⟩,
   ⟨up 2 .active, 32, by decide +kernel⟩,
   ⟨up 2 .active, 7, by decide +kernel⟩,
   ⟨up 2 .active, 0x0000000401000008, by decide +kernel⟩⟩

theorem hyps_ControlFlitsCarryMessagesInSequence :
    (∃ (s : State) (n : Nat) (ue : Option (BitVec 1)), s.ctrlFlows false = true ∧ n = s.get CTRL.SEQ_STAT.NEXT_TX ∧ s.lnk.cptr = n ∧ s.lnk.msgQ ≠ [] ∧ s.outC < 64) ∧
    (∃ (s : State) (f : Nat × List Nat), s.ctrlFlows false = true ∧ s.lnk.cptr ≠ s.get CTRL.SEQ_STAT.NEXT_TX ∧ s.lnk.crpl.find? (fun x => x.1 == s.lnk.cptr) = some f ∧ s.lnk.cMarked.contains f.1 = false) ∧
    (∃ (s : State) (f : Nat × List Nat) (ue : Option (BitVec 1)), s.ctrlFlows false = true ∧ s.lnk.cptr ≠ s.get CTRL.SEQ_STAT.NEXT_TX ∧ s.lnk.crpl.find? (fun x => x.1 == s.lnk.cptr) = some f ∧ (s.lnk.cMarked.contains f.1 = true ∨ ue.isSome = true)) ∧
    (∃ (s : State), s.ctrlFlows false = true ∧ s.msgReady = false ∧ (s.get BULK.SEQ_STAT.NEXT_RX ≠ s.lnk.carriedB ∨ s.get CTRL.SEQ_STAT.NEXT_RX ≠ s.lnk.carriedC)) ∧
    (∃ (s : State) (cycles : Nat), s.ctrlFlows false = true ∧ 64 ≤ cycles) ∧
    (∃ (s : State) (cycles : Nat), s.ctrlTimers = true ∧ s.outC ≠ 0 ∧ s.get CTRL.RPL_CTL.TIMEOUT ≤ cycles ∧ s.lnk.cNoProgress + 1 ≠ s.get CTRL.RPL_CTL.LIMIT) ∧
    (∃ (s : State) (cycles : Nat), s.ctrlTimers = true ∧ s.outC ≠ 0 ∧ s.get CTRL.RPL_CTL.TIMEOUT ≤ cycles ∧ s.lnk.cNoProgress + 1 = s.get CTRL.RPL_CTL.LIMIT) ∧
    (∃ (s : State) (flit : CtrlFlit), s.ctrlFlows true = true ∧ ctrlOk flit.toNat = false) ∧
    (∃ (s : State) (flit : CtrlFlit), s.ctrlFlows true = true ∧ ctrlOk flit.toNat = true ∧ ctrlBad (ctrlHdr flit.toNat) = true) ∧
    (∃ (s : State) (flit : CtrlFlit) (h : CtrlHdr) (m : Nat), s.ctrlFlows true = true ∧ ctrlOk flit.toNat = true ∧ h = ctrlHdr flit.toNat ∧ h.cft = 1 ∧ h.cack = s.get CTRL.SEQ_STAT.OLDEST ∧ h.back = s.get BULK.SEQ_STAT.OLDEST ∧ h.backt = 1 ∧ s.rep.keptCtrl = none ∧ s.chip.col ≠ .creditInit ∧ h.cseq = s.get CTRL.SEQ_STAT.NEXT_RX ∧ h.msgs = [m, emptyMsg, emptyMsg] ∧ msgClass m ≠ 7 ∧ msgBad m = false) ∧
    (∃ (s : State) (flit : CtrlFlit) (h : CtrlHdr), s.ctrlFlows true = true ∧ ctrlOk flit.toNat = true ∧ h = ctrlHdr flit.toNat ∧ ctrlBad h = false ∧ h.cack = s.get CTRL.SEQ_STAT.OLDEST ∧ h.back = s.get BULK.SEQ_STAT.OLDEST ∧ h.backt = 1 ∧ s.chip.col ≠ .creditInit ∧ (h.cft = 2 ∨ h.cseq ≠ s.get CTRL.SEQ_STAT.NEXT_RX)) :=
  ⟨⟨{ up 2 .active with lnk.msgQ := [8, 16, 24, 32] }, 0, none, by decide +kernel⟩,
   ⟨{ (up 2 .active).put CTRL.SEQ_STAT.NEXT_TX 1 with lnk.crpl := [(0, [8])] }, (0, [8]), by decide +kernel⟩,
   ⟨{ (up 2 .active).put CTRL.SEQ_STAT.NEXT_TX 1 with lnk.crpl := [(0, [8])] }, (0, [8]), some 1, by decide +kernel⟩,
   ⟨(up 2 .active).put BULK.SEQ_STAT.NEXT_RX 1, by decide +kernel⟩,
   ⟨up 2 .active, 64, by decide +kernel⟩,
   ⟨(up 2 .active).put CTRL.SEQ_STAT.NEXT_TX 1, 4096, by decide +kernel⟩,
   ⟨{ (up 2 .active).put CTRL.SEQ_STAT.NEXT_TX 1 with lnk.cNoProgress := (up 2 .active).get CTRL.RPL_CTL.LIMIT - 1 }, 4096, by decide +kernel⟩,
   ⟨up 2 .active, 0, by decide +kernel⟩,
   ⟨up 2 .active, buildCtrl ⟨0, 0, 0, 1, 0, [7, 7, 7]⟩, by decide +kernel⟩,
   ⟨up 2 .active, buildCtrl ⟨0, 0, 0, 1, 1, [8, 7, 7]⟩, ctrlHdr ((buildCtrl ⟨0, 0, 0, 1, 1, [8, 7, 7]⟩)).toNat, 8, by decide +kernel⟩,
   ⟨up 2 .active, buildCtrl ⟨0, 0, 0, 1, 2, [7, 7, 7]⟩, ctrlHdr ((buildCtrl ⟨0, 0, 0, 1, 2, [7, 7, 7]⟩)).toNat, by decide +kernel⟩⟩

theorem hyps_CreditsAreAdvertisedAndReturned :
    (∃ (s : State) (m : Nat) (k : Nat) (n : Nat) (l : List Nat), s.lnk.linkQ = m :: l ∧ msgLtype m = 1 ∧ creditOf m = (some k, n) ∧ n ≤ 32767) ∧
    (∃ (s : State) (m : Nat) (k : Nat) (n : Nat) (l : List Nat), s.lnk.linkQ = m :: l ∧ msgLtype m = 1 ∧ creditOf m = (some k, n) ∧ 32767 < n ∧ s.colIn [.off, .fault] = false) ∧
    (∃ (s : State) (m : Nat) (k : Nat) (n : Nat) (l : List Nat), s.lnk.linkQ = m :: l ∧ msgLtype m = 2 ∧ creditOf m = (some k, n) ∧ (n + 2 ^ 16 - s.get (CREDIT.TX_STAT.RET k)) % 2 ^ 16 ≤ (s.get (CREDIT.TX_STAT.CONS k) + 2 ^ 16 - s.get (CREDIT.TX_STAT.RET k)) % 2 ^ 16) ∧
    (∃ (s : State) (m : Nat) (k : Nat) (n : Nat) (l : List Nat), s.lnk.linkQ = m :: l ∧ msgLtype m = 2 ∧ creditOf m = (some k, n) ∧ (s.get (CREDIT.TX_STAT.CONS k) + 2 ^ 16 - s.get (CREDIT.TX_STAT.RET k)) % 2 ^ 16 < (n + 2 ^ 16 - s.get (CREDIT.TX_STAT.RET k)) % 2 ^ 16 ∧ s.get (CREDIT.TX_STAT.ADV k) < (s.get (CREDIT.TX_STAT.RET k) + 2 ^ 16 - n) % 2 ^ 16 ∧ s.colIn [.off, .fault] = false) ∧
    (∃ (s : State) (m : Nat) (k : Nat) (n : Nat) (l : List Nat), s.lnk.linkQ = m :: l ∧ msgLtype m = 2 ∧ creditOf m = (some k, n) ∧ (s.get (CREDIT.TX_STAT.CONS k) + 2 ^ 16 - s.get (CREDIT.TX_STAT.RET k)) % 2 ^ 16 < (n + 2 ^ 16 - s.get (CREDIT.TX_STAT.RET k)) % 2 ^ 16 ∧ (s.get (CREDIT.TX_STAT.RET k) + 2 ^ 16 - n) % 2 ^ 16 ≤ s.get (CREDIT.TX_STAT.ADV k)) ∧
    (∃ (s : State) (m : Nat) (l : List Nat), s.lnk.linkQ = m :: l ∧ msgLtype m = 3 ∧ bits m 8 8 = s.lnk.advSeen ∧ s.chip.col = .creditInit ∧ s.cal.mode ≠ .lowBringUp ∧ s.lnk.msgQ = [] ∧ s.lnk.crpl = []) ∧
    (∃ (s : State) (m : Nat) (l : List Nat), s.lnk.linkQ = m :: l ∧ msgLtype m = 3 ∧ bits m 8 8 ≠ s.lnk.advSeen ∧ s.colIn [.off, .fault] = false) ∧
    (∃ (s : State) (k : Nat), s.clkOn 4 = true ∧ s.colDead = false ∧ (s.chip.col = .creditInit ∨ s.colIn inService = true) ∧ s.nextCount 11 = some k) :=
  ⟨⟨{ up 2 .creditInit with lnk.linkQ := [creditMsg 1 10 32767] }, creditMsg 1 10 32767, 10, 32767, [], by decide +kernel⟩,
   ⟨{ up 2 .creditInit with lnk.linkQ := [creditMsg 1 10 32768] }, creditMsg 1 10 32768, 10, 32768, [], by decide +kernel⟩,
   ⟨{ (up 2 .active).put (CREDIT.TX_STAT.CONS 10) 5 with lnk.linkQ := [creditMsg 2 10 5] }, creditMsg 2 10 5, 10, 5, [], by decide +kernel⟩,
   ⟨{ (up 2 .active).put (CREDIT.TX_STAT.CONS 10) 5 with lnk.linkQ := [creditMsg 2 10 6] }, creditMsg 2 10 6, 10, 6, [], by decide +kernel⟩,
   ⟨{ (((up 2 .active).put (CREDIT.TX_STAT.CONS 10) 5).put (CREDIT.TX_STAT.RET 10) 3).put (CREDIT.TX_STAT.ADV 10) 2 with lnk.linkQ := [creditMsg 2 10 1] }, creditMsg 2 10 1, 10, 1, [], by decide +kernel⟩,
   ⟨{ up 2 .creditInit with lnk.linkQ := [3 * 8 + 2 + 11 * 2 ^ 8], lnk.advSeen := 11 }, 3 * 8 + 2 + 11 * 2 ^ 8, [], by decide +kernel⟩,
   ⟨{ up 2 .creditInit with lnk.linkQ := [3 * 8 + 2 + 11 * 2 ^ 8], lnk.advSeen := 10 }, 3 * 8 + 2 + 11 * 2 ^ 8, [], by decide +kernel⟩,
   ⟨(up 2 .active).put (CREDIT.RX_STAT.RETURNED 10) 1, 10, by decide +kernel⟩⟩

theorem hyps_LevelRequestsAreReleasedAtTheirBeat :
    (∃ (s : State) (now : Beat) (l : LevelItem), s.clkOn 1 = true ∧ s.txn.levelQ = [l] ∧ l.release ≤ (s.at now).beat) ∧
    (∃ (s : State) (now : Beat) (l : LevelItem), s.clkOn 1 = true ∧ s.txn.levelQ = [l] ∧ (s.at now).beat < l.release) ∧
    (∃ (s : State) (now : Beat) (t0 : Beat), s.lnk.stall = some t0 ∧ (s.at now).past t0 16384 = true ∧ s.cap 6 = true) ∧
    (∃ (s : State) (now : Beat) (t0 : Beat), s.lnk.stall = some t0 ∧ (s.at now).past t0 16384 = false) :=
  ⟨⟨{ up 2 .active with txn.levelQ := [⟨rq .wr, [1, 2, 3, 4], 0x10000000, 7⟩] }, 0, ⟨rq .wr, [1, 2, 3, 4], 0x10000000, 7⟩, by decide +kernel⟩,
   ⟨{ up 2 .active with txn.levelQ := [⟨rq .wr, [1, 2, 3, 4], 0x10000001, 7⟩] }, 0, ⟨rq .wr, [1, 2, 3, 4], 0x10000001, 7⟩, by decide +kernel⟩,
   ⟨{ agree (up 2 .active) 0x40 with lnk.stall := some 0x0FFFC000 }, 0, 0x0FFFC000, by decide +kernel⟩,
   ⟨{ agree (up 2 .active) 0x40 with lnk.stall := some 0x0FFFC001 }, 0, 0x0FFFC001, by decide +kernel⟩⟩

theorem hyps_FramesFlitsAndHeadersAreReadAsSent :
    (∃ (ty : Nat) (fseq : Nat) (pl : Nat), ty < 16 ∧ fseq < 16 ∧ pl < 2 ^ 40) ∧
    (∃ (h : BulkHdr) (us : List Nat), h.seq < 4096 ∧ h.ack < 4096 ∧ h.ackt < 4 ∧ h.ftype < 4 ∧ h.crTc < 4 ∧ h.crKind < 2 ∧ h.crCount < 65536 ∧ h.hdrMap < 2 ^ 15 ∧ h.rsvd = false ∧ us.length = 15 ∧ (∀ u ∈ us, u < 2 ^ 128)) ∧
    (∃ (h : CtrlHdr), h.cseq < 256 ∧ h.cack < 256 ∧ h.back < 4096 ∧ h.backt < 4 ∧ h.cft < 4 ∧ h.msgs.length ≤ 3 ∧ (∀ m ∈ h.msgs, m < 2 ^ 64)) ∧
    (∃ (h : Hdr), h.op < 256 ∧ h.tc < 4 ∧ h.rsvd = false ∧ h.tag < 4096 ∧ h.len < 16 ∧ h.status < 16 ∧ h.addr < 2 ^ 46 ∧ h.ctx < 2 ^ 14 ∧ h.attr < 256 ∧ h.opd < 4096 ∧ h.dbeat < 65536) ∧
    (∃ (lt : Nat) (k : Nat) (n : Nat), (lt = 1 ∨ lt = 2) ∧ k < 11 ∧ n < 65536) :=
  ⟨⟨15, 15, 2 ^ 40 - 1, by decide +kernel⟩,
   ⟨⟨4095, 4095, 3, 3, true, 3, 1, 65535, 32767, false⟩, List.replicate 15 (2 ^ 128 - 1), by decide +kernel⟩,
   ⟨⟨255, 255, 4095, 3, 3, [2 ^ 64 - 1, 0]⟩, by decide +kernel⟩,
   ⟨⟨255, 3, true, false, 4095, 15, 15, 2 ^ 46 - 1, 2 ^ 14 - 1, 255, 4095, 65535⟩, by decide +kernel⟩,
   ⟨2, 10, 65535, by decide +kernel⟩⟩

theorem hyps_ViewsAreReadAndWrittenAtCommit :
    (∃ (s : State) (a : BitVec 40) (d : BitVec 512) (ans : MemAnswer), s.isM = true ∧ s.chip.dieRst = false ∧ s.clkOn 2 = true ∧ (∀ p, s.txn.prefetch.find? (fun p => p.granule == a.toNat / 64 && p.ans.isNone) = some p → p.dropped = false ∧ p.stale = false)) ∧
    (∃ (s : State) (a : BitVec 40) (d : BitVec 512) (ans : MemAnswer) (p : Prefetch), s.isM = true ∧ s.chip.dieRst = false ∧ s.clkOn 2 = true ∧ s.txn.prefetch.find? (fun p => p.granule == a.toNat / 64 && p.ans.isNone) = some p) ∧
    (∃ (s : State) (q : EngReq) (b : Binding) (n : Nat) (tg : Target), Commits s EngReq.isRead noWait q ∧ AnswerWanted s q.hdr ∧ b = Binding.of q.bind ∧ n = q.hdr.bytes / fmtBytes b.vfmt ∧ tg = targetAt b (q.hdr.byteAddr / 2 ^ 23) (q.hdr.byteAddr % 2 ^ 23 / fmtBytes b.vfmt) b.vfmt ∧ (∀ st ∈ (s.pageCheck q.hdr.ctx q.page q.bind).sts, st = .retry) ∧ (q.hdr.vfmt = 0 ∨ q.hdr.vfmt = b.vfmt) ∧ (s.ctxOf q.hdr.ctx).lost = false ∧ tg.answer (s.asUsed q) (List.range n) = .ok ∧ b.rcpEn = false ∧ (∀ k, k < n → ((tg.read s n (List.range n) (s.ctxOf q.hdr.ctx).texp).1.getD k (0, false)).2 = false)) ∧
    (∃ (s : State) (q : EngReq) (st : Status), Commits s EngReq.isRead noWait q ∧ AnswerWanted s q.hdr ∧ st ∈ (s.pageCheck q.hdr.ctx q.page q.bind).sts ∧ st ≠ .retry) ∧
    (∃ (s : State) (q : EngReq) (b : Binding) (g : Nat) (xs : List Nat) (enc : Encoded), Commits s EngReq.isWrite noWait q ∧ AnswerWanted s q.hdr ∧ b = Binding.of q.bind ∧ b.isView = true ∧ b.rcpEn = false ∧ (s.pageCheck q.hdr.ctx q.page q.bind).sts = [] ∧ (q.hdr.vfmt = 0 ∨ q.hdr.vfmt = b.vfmt) ∧ (s.ctxOf q.hdr.ctx).lost = false ∧ q.hdr.poison = false ∧ (s.ctxOf q.hdr.ctx).errThresh = 0 ∧ q.hdr.bytes = blockSize b.sfmt * fmtBytes b.vfmt ∧ b.elem (q.hdr.byteAddr % 2 ^ 23 / fmtBytes b.vfmt) = g * blockSize b.sfmt ∧ q.hdr.byteAddr % 2 ^ 23 + q.hdr.bytes ≤ 2 ^ 23 ∧ (∀ i, i < q.hdr.bytes → q.enabled i = true) ∧ xs = (List.range (blockSize b.sfmt)).map (fun k => widen b.vfmt (bits q.data (8 * fmtBytes b.vfmt * k) (8 * fmtBytes b.vfmt))) ∧ enc = encodeBlock b.sfmt .rne (s.ctxOf q.hdr.ctx).texp (s.ctxOf q.hdr.ctx).nfClamp (fun i => (s.ctxOf q.hdr.ctx).rnd (b.run.ident g i) 7) xs) ∧
    (∃ (s : State) (q : EngReq) (b : Binding), Commits s EngReq.isWrite noWait q ∧ b = Binding.of q.bind ∧ b.isView = true ∧ b.rcpEn = false) ∧
    (∃ (s : State) (q : EngReq) (st : Status), Commits s EngReq.isWrite noWait q ∧ AnswerWanted s q.hdr ∧ (Binding.of q.bind).rcpEn = false ∧ st ∈ (s.pageCheck q.hdr.ctx q.page q.bind).sts ∧ st ≠ .retry) ∧
    (∃ (s : State) (q : EngReq), Commits s EngReq.isWrite noWait q ∧ AnswerWanted s q.hdr ∧ PageDenies s q) :=
  ⟨⟨eng, 0xFFFFFFFFFF, 5, .ok, (by decide +kernel), (by decide +kernel), (by decide +kernel), (by
      intro p h
      cases h)⟩,
   ⟨{ eng with txn.prefetch := [{ granule := 5, owner := some (0, 3) }] }, 320, 5, .ok, { granule := 5, owner := some (0, 3) }, by decide +kernel⟩,
   ⟨agree (engWith (er (rq .rd) [] viewWord)) 0x20000, er (rq .rd) [] viewWord, Binding.of (some viewWord), 16, targetAt ⟨viewWord.toNat⟩ 0 0 1, (by unfold Commits; decide +kernel), (by unfold AnswerWanted; decide +kernel), by decide +kernel⟩,
   ⟨agree (engWith (er { rq .rd with ctx := 6 } [] viewWord)) 0x20000, er { rq .rd with ctx := 6 } [] viewWord, .denied, (by unfold Commits; decide +kernel), (by unfold AnswerWanted; decide +kernel), by decide +kernel⟩,
   ⟨agree (engWith (er { rq .wr with len := 3 } [1, 2, 3, 4, 5, 6, 7, 8] viewWord)) 0x20000, er { rq .wr with len := 3 } [1, 2, 3, 4, 5, 6, 7, 8] viewWord, Binding.of (some viewWord), 0, (List.range (blockSize (Binding.mk viewWord.toNat).sfmt)).map (fun k => widen (Binding.mk viewWord.toNat).vfmt (bits ((er { rq .wr with len := 3 } [1, 2, 3, 4, 5, 6, 7, 8] viewWord)).data (8 * fmtBytes (Binding.mk viewWord.toNat).vfmt * k) (8 * fmtBytes (Binding.mk viewWord.toNat).vfmt))), encodeBlock (Binding.mk viewWord.toNat).sfmt .rne (((agree (engWith (er { rq .wr with len := 3 } [1, 2, 3, 4, 5, 6, 7, 8] viewWord)) 0x20000)).ctxOf ((er { rq .wr with len := 3 } [1, 2, 3, 4, 5, 6, 7, 8] viewWord)).hdr.ctx).texp (((agree (engWith (er { rq .wr with len := 3 } [1, 2, 3, 4, 5, 6, 7, 8] viewWord)) 0x20000)).ctxOf ((er { rq .wr with len := 3 } [1, 2, 3, 4, 5, 6, 7, 8] viewWord)).hdr.ctx).nfClamp (fun i => (((agree (engWith (er { rq .wr with len := 3 } [1, 2, 3, 4, 5, 6, 7, 8] viewWord)) 0x20000)).ctxOf ((er { rq .wr with len := 3 } [1, 2, 3, 4, 5, 6, 7, 8] viewWord)).hdr.ctx).rnd ((Binding.mk viewWord.toNat).run.ident 0 i) 7) ((List.range (blockSize (Binding.mk viewWord.toNat).sfmt)).map (fun k => widen (Binding.mk viewWord.toNat).vfmt (bits ((er { rq .wr with len := 3 } [1, 2, 3, 4, 5, 6, 7, 8] viewWord)).data (8 * fmtBytes (Binding.mk viewWord.toNat).vfmt * k) (8 * fmtBytes (Binding.mk viewWord.toNat).vfmt)))), (by unfold Commits; decide +kernel), (by unfold AnswerWanted; decide +kernel), (by decide +kernel), (by decide +kernel), (by decide +kernel), (by decide +kernel), (by decide +kernel), (by decide +kernel), (by decide +kernel), (by decide +kernel), (by decide +kernel), (by decide +kernel), (by decide +kernel), (by decide +kernel), (by
      rfl), (by
      rfl)⟩,
   ⟨agree (engWith (er { rq .wrBe with len := 3 } [5, 1, 2, 3, 4, 5, 6, 7, 8] viewWord)) 0x20000, er { rq .wrBe with len := 3 } [5, 1, 2, 3, 4, 5, 6, 7, 8] viewWord, Binding.of (some viewWord), (by unfold Commits; decide +kernel), by decide +kernel⟩,
   ⟨agree (engWith (er { rq .wr with ctx := 6 } [1, 2, 3, 4] viewWord)) 0x20000, er { rq .wr with ctx := 6 } [1, 2, 3, 4] viewWord, .denied, (by unfold Commits; decide +kernel), (by unfold AnswerWanted; decide +kernel), by decide +kernel⟩,
   ⟨agree (engWith (er { rq .wr with ctx := 6 } [1, 2, 3, 4] viewWord)) 0x20000, er { rq .wr with ctx := 6 } [1, 2, 3, 4] viewWord, (by unfold Commits; decide +kernel), (by unfold AnswerWanted; decide +kernel), (by unfold PageDenies; decide +kernel)⟩⟩

theorem hyps_TransformsWriteYAndZ :
    (∃ (s : State) (q : EngReq) (j : XfJob) (w : XfRows), Commits s (EngReq.isOp .xfApply) noWait q ∧ AnswerWanted s q.hdr ∧ TransformPasses s q .apply j w) ∧
    (∃ (s : State) (q : EngReq) (j : XfJob) (w : XfRows), Commits s (EngReq.isOp .xfApply) noWait q ∧ AnswerWanted s q.hdr ∧ TransformPasses s q .apply j w ∧ w.y.view = false ∧ (s.recipe q.hdr.recipe).nstages = 0 ∧ (s.recipe q.hdr.recipe).outY ≠ 0 ∧ (s.recipe q.hdr.recipe).outZ = 0) ∧
    (∃ (s : State) (q : EngReq) (j : XfJob) (w : XfRows), Commits s (EngReq.isOp .xfApplyR) noWait q ∧ AnswerWanted s q.hdr ∧ TransformPasses s q .applyR j w) ∧
    (∃ (s : State) (q : EngReq) (j : XfJob) (w : XfRows), Commits s (EngReq.isOp .xfAcc) noWait q ∧ AnswerWanted s q.hdr ∧ TransformPasses s q .acc j w) ∧
    (∃ (s : State) (q : EngReq), Commits s (EngReq.isOp .xfApply) noWait q ∧ AnswerWanted s q.hdr ∧ PageDenies s q) ∧
    (∃ (s : State) (q : EngReq), Commits s (EngReq.isOp .xfApplyR) noWait q ∧ AnswerWanted s q.hdr ∧ PageDenies s q) ∧
    (∃ (s : State) (q : EngReq), Commits s (EngReq.isOp .xfAcc) noWait q ∧ AnswerWanted s q.hdr ∧ PageDenies s q) :=
  ⟨⟨rcpWith (er (rq .xfApply) [1, 2, 3, 4] 1), er (rq .xfApply) [1, 2, 3, 4] 1, ((rcpWith (er (rq .xfApply) [1, 2, 3, 4] 1))).xfJob .apply (er (rq .xfApply) [1, 2, 3, 4] 1) (Binding.of ((er (rq .xfApply) [1, 2, 3, 4] 1)).bind), ((rcpWith (er (rq .xfApply) [1, 2, 3, 4] 1))).rowsOf (er (rq .xfApply) [1, 2, 3, 4] 1) (Binding.of ((er (rq .xfApply) [1, 2, 3, 4] 1)).bind) (((rcpWith (er (rq .xfApply) [1, 2, 3, 4] 1))).xfJob .apply (er (rq .xfApply) [1, 2, 3, 4] 1) (Binding.of ((er (rq .xfApply) [1, 2, 3, 4] 1)).bind)), (by unfold Commits; decide +kernel), (by unfold AnswerWanted; decide +kernel), (by unfold TransformPasses; decide +kernel)⟩,
   ⟨rcpWith (er (rq .xfApply) [1, 2, 3, 4] 1), er (rq .xfApply) [1, 2, 3, 4] 1, ((rcpWith (er (rq .xfApply) [1, 2, 3, 4] 1))).xfJob .apply (er (rq .xfApply) [1, 2, 3, 4] 1) (Binding.of ((er (rq .xfApply) [1, 2, 3, 4] 1)).bind), ((rcpWith (er (rq .xfApply) [1, 2, 3, 4] 1))).rowsOf (er (rq .xfApply) [1, 2, 3, 4] 1) (Binding.of ((er (rq .xfApply) [1, 2, 3, 4] 1)).bind) (((rcpWith (er (rq .xfApply) [1, 2, 3, 4] 1))).xfJob .apply (er (rq .xfApply) [1, 2, 3, 4] 1) (Binding.of ((er (rq .xfApply) [1, 2, 3, 4] 1)).bind)), (by unfold Commits; decide +kernel), (by unfold AnswerWanted; decide +kernel), (by unfold TransformPasses; decide +kernel), by decide +kernel⟩,
   ⟨rcpWith (er (rq .xfApplyR) [1, 2, 3, 4] 1), er (rq .xfApplyR) [1, 2, 3, 4] 1, ((rcpWith (er (rq .xfApplyR) [1, 2, 3, 4] 1))).xfJob .applyR (er (rq .xfApplyR) [1, 2, 3, 4] 1) (Binding.of ((er (rq .xfApplyR) [1, 2, 3, 4] 1)).bind), ((rcpWith (er (rq .xfApplyR) [1, 2, 3, 4] 1))).rowsOf (er (rq .xfApplyR) [1, 2, 3, 4] 1) (Binding.of ((er (rq .xfApplyR) [1, 2, 3, 4] 1)).bind) (((rcpWith (er (rq .xfApplyR) [1, 2, 3, 4] 1))).xfJob .applyR (er (rq .xfApplyR) [1, 2, 3, 4] 1) (Binding.of ((er (rq .xfApplyR) [1, 2, 3, 4] 1)).bind)), (by unfold Commits; decide +kernel), (by unfold AnswerWanted; decide +kernel), (by unfold TransformPasses; decide +kernel)⟩,
   ⟨rcpWith (er { rq .xfAcc with opd := 64 } [1, 2, 3, 4] 1), er { rq .xfAcc with opd := 64 } [1, 2, 3, 4] 1, ((rcpWith (er { rq .xfAcc with opd := 64 } [1, 2, 3, 4] 1))).xfJob .acc (er { rq .xfAcc with opd := 64 } [1, 2, 3, 4] 1) (Binding.of ((er { rq .xfAcc with opd := 64 } [1, 2, 3, 4] 1)).bind), ((rcpWith (er { rq .xfAcc with opd := 64 } [1, 2, 3, 4] 1))).rowsOf (er { rq .xfAcc with opd := 64 } [1, 2, 3, 4] 1) (Binding.of ((er { rq .xfAcc with opd := 64 } [1, 2, 3, 4] 1)).bind) (((rcpWith (er { rq .xfAcc with opd := 64 } [1, 2, 3, 4] 1))).xfJob .acc (er { rq .xfAcc with opd := 64 } [1, 2, 3, 4] 1) (Binding.of ((er { rq .xfAcc with opd := 64 } [1, 2, 3, 4] 1)).bind)), (by unfold Commits; decide +kernel), (by unfold AnswerWanted; decide +kernel), (by unfold TransformPasses; decide +kernel)⟩,
   ⟨rcpWith (er { rq .xfApply with ctx := 6 } [1, 2, 3, 4] 1), er { rq .xfApply with ctx := 6 } [1, 2, 3, 4] 1, (by unfold Commits; decide +kernel), (by unfold AnswerWanted; decide +kernel), (by unfold PageDenies; decide +kernel)⟩,
   ⟨rcpWith (er { rq .xfApplyR with ctx := 6 } [1, 2, 3, 4] 1), er { rq .xfApplyR with ctx := 6 } [1, 2, 3, 4] 1, (by unfold Commits; decide +kernel), (by unfold AnswerWanted; decide +kernel), (by unfold PageDenies; decide +kernel)⟩,
   ⟨rcpWith (er { rq .xfAcc with ctx := 6 } [1, 2, 3, 4] 1), er { rq .xfAcc with ctx := 6 } [1, 2, 3, 4] 1, (by unfold Commits; decide +kernel), (by unfold AnswerWanted; decide +kernel), (by unfold PageDenies; decide +kernel)⟩⟩

theorem hyps_AtomicsUpdateOneWordAndReturnTheOld :
    (∃ (s : State) (q : EngReq) (a : Nat), Commits s (EngReq.isOp .atFadd) noWait q ∧ AnswerWanted s q.hdr ∧ a = q.hdr.byteAddr + 8 * q.hdr.atWord ∧ (s.pageCheck q.hdr.ctx q.page q.bind).sts = [] ∧ (Binding.of q.bind).kind ≠ some .view ∧ s.isOwner = true ∧ (s.ctxOf q.hdr.ctx).lost = false ∧ q.hdr.poison = false ∧ (s.asUsed q).memAnswer a 8 = .ok) ∧
    (∃ (s : State) (q : EngReq) (a : Nat), Commits s (EngReq.isOp .atSwap) noWait q ∧ AnswerWanted s q.hdr ∧ a = q.hdr.byteAddr + 8 * q.hdr.atWord ∧ (s.pageCheck q.hdr.ctx q.page q.bind).sts = [] ∧ (Binding.of q.bind).kind ≠ some .view ∧ s.isOwner = true ∧ (s.ctxOf q.hdr.ctx).lost = false ∧ q.hdr.poison = false ∧ (s.asUsed q).memAnswer a 8 = .ok) ∧
    (∃ (s : State) (q : EngReq) (a : Nat), Commits s (EngReq.isOp .atCas) noWait q ∧ AnswerWanted s q.hdr ∧ a = q.hdr.byteAddr + 8 * q.hdr.atWord ∧ (s.pageCheck q.hdr.ctx q.page q.bind).sts = [] ∧ (Binding.of q.bind).kind ≠ some .view ∧ s.isOwner = true ∧ (s.ctxOf q.hdr.ctx).lost = false ∧ q.hdr.poison = false ∧ (s.asUsed q).memAnswer a 8 = .ok) ∧
    (∃ (s : State) (q : EngReq) (o : Op) (c : Instr), (o, c) ∈ [(Op.atFadd, Instr.atFadd), (.atSwap, .atSwap), (.atCas, .atCas)] ∧ Commits s (EngReq.isOp o) noWait q ∧ AnswerWanted s q.hdr) :=
  ⟨⟨engWith (er { rq .atFadd with opd := 7 } [2 ^ 64 - 1] 1), er { rq .atFadd with opd := 7 } [2 ^ 64 - 1] 1, 56, (by unfold Commits; decide +kernel), (by unfold AnswerWanted; decide +kernel), by decide +kernel⟩,
   ⟨engWith (er { rq .atSwap with opd := 7 } [2 ^ 64 - 1] 1), er { rq .atSwap with opd := 7 } [2 ^ 64 - 1] 1, 56, (by unfold Commits; decide +kernel), (by unfold AnswerWanted; decide +kernel), by decide +kernel⟩,
   ⟨engWith (er { rq .atCas with opd := 7 } [2 ^ 64] 1), er { rq .atCas with opd := 7 } [2 ^ 64] 1, 56, (by unfold Commits; decide +kernel), (by unfold AnswerWanted; decide +kernel), by decide +kernel⟩,
   ⟨(engWith (er (rq .atCas) [2 ^ 64] 1)).put PAIR.ROLE_STAT.PROLE 2, er (rq .atCas) [2 ^ 64] 1, .atCas, .atCas, (by decide +kernel), (by unfold Commits; decide +kernel), (by unfold AnswerWanted; decide +kernel)⟩⟩

theorem hyps_ContributionsAreJudgedAndAdded :
    (∃ (s : State) (ue : Option (BitVec 18)) (q : EngReq), Commits s (EngReq.isOp .contrib) s.contribWaits q ∧ AnswerWanted s q.hdr ∧ s.isOwner = false) ∧
    (∃ (s : State) (ue : Option (BitVec 18)) (q : EngReq) (w : Nat) (k0 : Nat) (cnt : Nat), Commits s (EngReq.isOp .contrib) s.contribWaits q ∧ AnswerWanted s q.hdr ∧ s.isOwner = true ∧ (s.ctxOf q.hdr.ctx).valid = true ∧ w = q.hdr.window ∧ (k0, cnt) = s.contribAt q.hdr ∧ (s.win w WIN.STATE = 0 ∨ s.win w WIN.CTX ≠ q.hdr.ctx ∨ s.win w WIN.EXPECT ≤ q.hdr.contributor ∨ s.win w WIN.NELEM < k0 + cnt)) ∧
    (∃ (s : State) (ue : Option (BitVec 18)) (q : EngReq) (w : Nat) (k0 : Nat) (cnt : Nat) (r : Beat), ContribSound s q w k0 cnt ∧ (s.win w WIN.STATE = 1 ∨ s.win w WIN.STATE = 2) ∧ q.release = some r ∧ r < s.openBeat w) ∧
    (∃ (s : State) (ue : Option (BitVec 18)) (q : EngReq) (w : Nat) (k0 : Nat) (cnt : Nat) (r : Beat), ContribSound s q w k0 cnt ∧ ((s.win w WIN.STATE = 1 ∨ s.win w WIN.STATE = 2) ∧ q.release = some r ∧ s.openBeat w ≤ r ∧ (s.closeBeat w ≤ r ∨ s.bmpBit w q.hdr.contributor = true) ∨ s.win w WIN.STATE = 3 ∨ s.win w WIN.STATE = 4)) ∧
    (∃ (s : State) (ue : Option (BitVec 18)) (q : EngReq) (w : Nat) (k0 : Nat) (cnt : Nat) (cause : Nat), ContribNamed s q w k0 cnt ∧ ((s.winRecipe w).bind (fun r => r.refusal .contrib false false)) = some cause ∧ s.judgeTime q ≠ .waits ∧ s.contribDrains q.hdr = false) ∧
    (∃ (s : State) (ue : Option (BitVec 18)) (q : EngReq) (w : Nat) (k0 : Nat) (cnt : Nat), ContribSound s q w k0 cnt ∧ s.win w WIN.STATE = 5) ∧
    (∃ (s : State) (ue : Option (BitVec 18)) (q : EngReq) (w : Nat) (k0 : Nat) (cnt : Nat), ContribOnTime s ue q w k0 cnt ∧ q.hdr.last = false ∧ s.win w WIN.MODE = 0) ∧
    (∃ (s : State) (ue : Option (BitVec 18)) (q : EngReq) (w : Nat) (k0 : Nat) (cnt : Nat), ContribOnTime s ue q w k0 cnt ∧ q.hdr.last = false ∧ s.win w WIN.MODE = 1) ∧
    (∃ (s : State) (ue : Option (BitVec 18)) (q : EngReq) (w : Nat) (k0 : Nat) (cnt : Nat) (a : Nat), ContribOnTime s ue q w k0 cnt ∧ q.hdr.last = false ∧ s.win w WIN.MODE = 2 ∧ a = 64 * s.win w WIN.MEM_BASE + 4 * k0 ∧ s.rangeDrained (a, 4 * cnt) = false ∧ (s.asUsed q).memAnswer a (4 * cnt) = .ok) ∧
    (∃ (s : State) (ue : Option (BitVec 18)) (q : EngReq) (w : Nat) (k0 : Nat) (cnt : Nat), ContribOnTime s ue q w k0 cnt ∧ q.hdr.last = true ∧ s.win w WIN.MODE = 0 ∧ s.win w WIN.EAGER = 0 ∧ s.win w WIN.ARRIVED < 2 ^ 16 - 1) ∧
    (∃ (s : State) (i : BitVec 18) (q : EngReq) (w : Nat) (k0 : Nat) (cnt : Nat), ContribOnTime s none q w k0 cnt ∧ i.toNat / 4 ∈ s.contribLines q.hdr) ∧
    (∃ (s : State) (ue : Option (BitVec 18)) (q : EngReq) (w : Nat) (k0 : Nat) (cnt : Nat) (a : Nat), ContribOnTime s ue q w k0 cnt ∧ s.win w WIN.MODE = 2 ∧ a = 64 * s.win w WIN.MEM_BASE + 4 * k0 ∧ s.rangeDrained (a, 4 * cnt) = true) :=
  ⟨⟨(winWith 2 0 (cr false 0x10000000)).put PAIR.ROLE_STAT.PROLE 2, none, cr false 0x10000000, (by unfold Commits; decide +kernel), (by unfold AnswerWanted; decide +kernel), by decide +kernel⟩,
   ⟨winWith 0 0 (cr false 0x10000000), none, cr false 0x10000000, 1023, 0, 16, (by unfold Commits; decide +kernel), (by unfold AnswerWanted; decide +kernel), by decide +kernel⟩,
   ⟨winWith 1 0 (cr false 0x0FFFFFFF), none, cr false 0x0FFFFFFF, 1023, 0, 16, 0x0FFFFFFF, (by unfold ContribSound ContribNamed Commits AnswerWanted; decide +kernel), by decide +kernel⟩,
   ⟨{ winWith 2 0 (cr false 0x10001000) with beat := 0x10001000 }, none, cr false 0x10001000, 1023, 0, 16, 0x10001000, (by unfold ContribSound ContribNamed Commits AnswerWanted; decide +kernel), by decide +kernel⟩,
   ⟨((winWith 2 0 (cr false 0x10000000)).setWin 1023 WIN.RCP_EN 1).setTbl (rcpIdx 0 0) 0, none, cr false 0x10000000, 1023, 0, 16, 1, (by unfold ContribNamed Commits AnswerWanted; decide +kernel), by decide +kernel⟩,
   ⟨winWith 5 0 (cr false 0x10000000), none, cr false 0x10000000, 1023, 0, 16, (by unfold ContribSound ContribNamed Commits AnswerWanted; decide +kernel), by decide +kernel⟩,
   ⟨winWith 2 0 (cr false 0x10000000), none, cr false 0x10000000, 1023, 0, 16, ⟨(by unfold ContribSound ContribNamed Commits AnswerWanted; decide +kernel), (by intro i h; cases h), by decide +kernel, by decide +kernel, by decide +kernel,
    by decide +kernel, 0x10000000, rfl, by decide +kernel⟩, by decide +kernel⟩,
   ⟨winWith 2 1 (cr false 0x10000000), none, cr false 0x10000000, 1023, 0, 16, ⟨(by unfold ContribSound ContribNamed Commits AnswerWanted; decide +kernel), (by intro i h; cases h), by decide +kernel, by decide +kernel, by decide +kernel,
    by decide +kernel, 0x10000000, rfl, by decide +kernel⟩, by decide +kernel⟩,
   ⟨winWith 2 2 (cr false 0x10000000), none, cr false 0x10000000, 1023, 0, 16, 0, ⟨(by unfold ContribSound ContribNamed Commits AnswerWanted; decide +kernel), (by intro i h; cases h), by decide +kernel, by decide +kernel, by decide +kernel,
    by decide +kernel, 0x10000000, rfl, by decide +kernel⟩, by decide +kernel⟩,
   ⟨winWith 2 0 (cr true 0x10000000), none, cr true 0x10000000, 1023, 0, 16, ⟨(by unfold ContribSound ContribNamed Commits AnswerWanted; decide +kernel), (by intro i h; cases h), by decide +kernel, by decide +kernel, by decide +kernel,
    by decide +kernel, 0x10000000, rfl, by decide +kernel⟩, by decide +kernel⟩,
   ⟨winWith 2 0 (cr false 0x10000000), 8, cr false 0x10000000, 1023, 0, 16, ⟨(by unfold ContribSound ContribNamed Commits AnswerWanted; decide +kernel), (by intro i h; cases h), by decide +kernel, by decide +kernel, by decide +kernel,
    by decide +kernel, 0x10000000, rfl, by decide +kernel⟩, by decide +kernel⟩,
   ⟨(winWith 2 2 (cr false 0x10000000)).setTbl 0 4, none, cr false 0x10000000, 1023, 0, 16, 0, ⟨(by unfold ContribSound ContribNamed Commits AnswerWanted; decide +kernel), (by intro i h; cases h), by decide +kernel, by decide +kernel, by decide +kernel,
    by decide +kernel, 0x10000000, rfl, by decide +kernel⟩, by decide +kernel⟩⟩

theorem hyps_DmaInstructionsRun :
    (∃ (s : State) (n : Fin 4) (u : Nat) (src : Nat) (dst : Nat), s.dma.length = 4 ∧ s.chReady n = true ∧ s.chUnit n (s.get (DMA.CH_STAT.PC n)) = some u ∧ bits u 0 4 = 1 ∧ mvMode u = 0 ∧ (src : Int) = (mvSrc u : Int) + (s.chan n).loop0.adjS + (s.chan n).loop1.adjS ∧ (dst : Int) = (mvDst u : Int) + (s.chan n).loop0.adjD + (s.chan n).loop1.adjD ∧ pieceFault u src dst = none ∧ Fetchable s n (s.get (DMA.CH_STAT.PC n) + 1) ∧ (mvSrcTbl u = true ∨ ∀ x, src ≤ x → x < src + mvLen u → (s.dmaRoute n x false).err = none)) ∧
    (∃ (s : State) (n : Fin 4) (u : Nat) (off : Nat) (src : Nat) (dst : Nat), s.dma.length = 4 ∧ s.chReady n = true ∧ s.chUnit n (s.get (DMA.CH_STAT.PC n)) = some u ∧ bits u 0 4 = 1 ∧ (mvMode u = 1 ∨ mvMode u = 2) ∧ s.mvOff n 0 = some off ∧ (src : Int) = (mvSrc u : Int) + (s.chan n).loop0.adjS + (s.chan n).loop1.adjS ∧ (dst : Int) = (mvDst u : Int) + (s.chan n).loop0.adjD + (s.chan n).loop1.adjD ∧ pieceFault u (if mvMode u = 1 then src + off * 2 ^ mvShift u else src) (if mvMode u = 1 then dst else dst + off * 2 ^ mvShift u) = none ∧ (mvSrcTbl u = true ∨ ∀ x, (if mvMode u = 1 then src + off * 2 ^ mvShift u else src) ≤ x → x < (if mvMode u = 1 then src + off * 2 ^ mvShift u else src) + mvLen u → (s.dmaRoute n x false).err = none)) ∧
    (∃ (s : State) (n : Fin 4) (u : Nat), s.dma.length = 4 ∧ s.chReady n = true ∧ s.chUnit n (s.get (DMA.CH_STAT.PC n)) = some u ∧ bits u 0 4 = 1 ∧ mvMode u = 3 ∧ (s.chan n).acc = []) ∧
    (∃ (s : State) (n : Fin 4) (u : Nat) (e : Nat) (src : Nat) (dst : Nat), s.dma.length = 4 ∧ s.chReady n = true ∧ s.chUnit n (s.get (DMA.CH_STAT.PC n)) = some u ∧ bits u 0 4 = 1 ∧ mvMode u = 0 ∧ (src : Int) = (mvSrc u : Int) + (s.chan n).loop0.adjS + (s.chan n).loop1.adjS ∧ (dst : Int) = (mvDst u : Int) + (s.chan n).loop0.adjD + (s.chan n).loop1.adjD ∧ pieceFault u src dst = some e ∧ (s.chan n).acc = []) ∧
    (∃ (s : State) (n : Fin 4) (u : Nat) (pc : Nat) (l : DmaLoop), s.dma.length = 4 ∧ s.chReady n = true ∧ pc = s.get (DMA.CH_STAT.PC n) ∧ s.chUnit n pc = some u ∧ bits u 0 4 = 2 ∧ bits u 5 11 = 0 ∧ bits u 16 16 ≠ 0 ∧ bits u 32 16 ≠ 0 ∧ bits u 32 16 ≤ pc ∧ pc + 1 < 2 ^ 24 ∧ (s.chan n).lowHalt = false ∧ l = (if bit u 4 then (s.chan n).loop1 else (s.chan n).loop0) ∧ (l.active = false ∨ l.owner = pc) ∧ Fetchable s n (if (if l.active then l.done else 1) < bits u 16 16 then pc - bits u 32 16 else pc + 1)) ∧
    (∃ (s : State) (n : Fin 4) (u : Nat), s.dma.length = 4 ∧ s.chReady n = true ∧ s.chUnit n (s.get (DMA.CH_STAT.PC n)) = some u ∧ bits u 0 4 = 3 ∧ bits u 4 2 = 0 ∧ bits u 7 9 = 0 ∧ bits u 28 36 = 0) ∧
    (∃ (s : State) (n : Fin 4) (u : Nat) (pc : Nat), s.dma.length = 4 ∧ s.chReady n = true ∧ pc = s.get (DMA.CH_STAT.PC n) ∧ s.chUnit n pc = some u ∧ bits u 0 4 = 3 ∧ bits u 4 2 = 1 ∧ bits u 7 9 = 0 ∧ bits u 28 36 = 0 ∧ s.paceByFill = false ∧ pc + 1 < 2 ^ 24 ∧ (s.chan n).lowHalt = false ∧ Fetchable s n (pc + 1)) ∧
    (∃ (s : State) (n : Fin 4) (u : Nat) (pc : Nat), s.dma.length = 4 ∧ s.chReady n = true ∧ pc = s.get (DMA.CH_STAT.PC n) ∧ s.chUnit n pc = some u ∧ bits u 0 4 = 3 ∧ bits u 4 2 = 2 ∧ bits u 7 9 = 0 ∧ bits u 28 36 = 0 ∧ s.paceByFill = true ∧ pc + 1 < 2 ^ 24 ∧ (s.chan n).lowHalt = false ∧ Fetchable s n (pc + 1)) ∧
    (∃ (s : State) (n : Fin 4) (now : Beat) (b : Beat), s.dma.length = 4 ∧ s.dmaRuns = true ∧ (s.chan n).waitBeat = some b ∧ (s.at now).reached b = true ∧ s.get (DMA.CH_STAT.STATE n) = DMA.waiting ∧ (s.chan n).lowHalt = false ∧ s.get (DMA.CH_STAT.PC n) + 1 < 2 ^ 24 ∧ Fetchable s n (s.get (DMA.CH_STAT.PC n) + 1)) ∧
    (∃ (s : State) (n : Fin 4) (u : Nat) (pc : Nat), s.dma.length = 4 ∧ s.chReady n = true ∧ pc = s.get (DMA.CH_STAT.PC n) ∧ s.chUnit n pc = some u ∧ bits u 0 4 = 4 ∧ bits u 7 9 = 0 ∧ bits u 48 80 = 0 ∧ (s.chan n).acc.all (fun a => a.use.isRead) = true ∧ pc + 1 < 2 ^ 24 ∧ (s.chan n).lowHalt = false ∧ (bit u 6 = true → s.cqFull n = false ∧ s.stkHeld (s.cqSlot n) = false ∧ s.rawRoute (s.cqSlot n) = .direct) ∧ Fetchable s n (pc + 1)) ∧
    (∃ (s : State) (n : Fin 4) (u : Nat) (pc : Nat), s.dma.length = 4 ∧ s.chReady n = true ∧ pc = s.get (DMA.CH_STAT.PC n) ∧ s.chUnit n pc = some u ∧ bits u 0 4 = 4 ∧ bits u 7 9 = 0 ∧ bits u 48 80 = 0 ∧ bit u 6 = true ∧ (s.chan n).acc.all (fun a => a.use.isRead) = true ∧ s.cqFull n = true) ∧
    (∃ (s : State) (n : Fin 4) (u : Nat) (pc : Nat) (e : Option Nat), s.dma.length = 4 ∧ s.chReady n = true ∧ pc = s.get (DMA.CH_STAT.PC n) ∧ s.chUnit n pc = some u ∧ bits u 0 4 = 4 ∧ bits u 7 9 = 0 ∧ bits u 48 80 = 0 ∧ bit u 6 = true ∧ (s.chan n).acc = [] ∧ s.cqFull n = false ∧ s.stkHeld (s.cqSlot n) = false ∧ (s.rawRoute (s.cqSlot n)).err = some e) ∧
    (∃ (s : State) (n : Fin 4) (g : Nat) (x : DmaAccess) (d : BitVec 1024), s.dma.length = 4 ∧ s.dmaRuns = true ∧ (s.chan n).acc.find? (fun x => x.due.isNone && (match x.use with | .fetch _ => true | _ => false)) = some x ∧ x.use = .fetch g ∧ x.gone = false ∧ (s.chan n).mov = none ∧ (s.chan n).signal = false) ∧
    (∃ (s : State) (n : Fin 4) (x : DmaAccess) (l : List DmaAccess) (m : DmaMove) (d : BitVec 512), s.dma.length = 4 ∧ s.dmaRuns = true ∧ (s.chan n).acc.filter (fun a => a.use == .read) = x :: l ∧ (∀ y ∈ l, y.got = false) ∧ x.due = none ∧ x.got = false ∧ x.gone = false ∧ x.tbl = false ∧ x.view = none ∧ x.addr % 64 + x.len ≤ 64 ∧ (s.chan n).mov = some m ∧ m.asked = mvLen m.word ∧ m.cut + m.data.length + x.len < mvLen m.word ∧ (mvPace m.word = false ∨ l ≠ [])) ∧
    (∃ (s : State) (n : Fin 4) (x : DmaAccess) (m : DmaMove) (bs : List Byte) (d : BitVec 512), s.dma.length = 4 ∧ s.chIssues n = true ∧ s.dmaRuns = true ∧ s.get (DMA.CH_STAT.STATE n) = DMA.running ∧ (s.chan n).lowHalt = false ∧ (s.chan n).acc = [x] ∧ x.use = .read ∧ x.due = none ∧ x.got = false ∧ x.gone = false ∧ x.tbl = false ∧ x.view = none ∧ x.addr % 64 + x.len ≤ 64 ∧ (s.chan n).mov = some m ∧ mvMode m.word = 0 ∧ mvSrcTbl m.word = false ∧ mvDstTbl m.word = false ∧ mvPace m.word = false ∧ mvCount m.word = 0 ∧ m.piece = 0 ∧ m.part = [] ∧ m.cut = 0 ∧ m.buf = [] ∧ bs = m.data ++ ((natBytes d.toNat 64).drop (x.addr % 64)).take x.len ∧ bs.length = mvLen m.word ∧ (∀ a, m.dst ≤ a → a < m.dst + mvLen m.word → s.dmaRoute n a true = .direct) ∧ (m.dst + mvLen m.word ≤ m.src ∨ m.src + mvLen m.word ≤ m.dst) ∧ s.stkApplies = false ∧ (m.dst + mvLen m.word + 63) / 64 - m.dst / 64 ≤ 1023 ∧ s.get (DMA.CH_STAT.PC n) + 1 < 2 ^ 24 ∧ Fetchable s n (s.get (DMA.CH_STAT.PC n) + 1)) :=
  ⟨⟨dmaAt [mv 0], 3, mv 0, 0, 4096, (by decide +kernel), (by decide +kernel), (by decide +kernel), (by decide +kernel), (by decide +kernel), (by decide +kernel), (by decide +kernel), (by decide +kernel), (by unfold Fetchable; decide +kernel), by decide +kernel⟩,
   ⟨dmaAt [mv 1, 5], 3, mv 1, 5, 0, 4096, by decide +kernel⟩,
   ⟨dmaAt [mv 3], 3, mv 3, by decide +kernel⟩,
   ⟨dmaAt [packLow [(1, 4), (0, 2), (0, 7), (63, 19), (0, 16), (2 ^ 40 - 1, 40), (4096, 40)]], 3, packLow [(1, 4), (0, 2), (0, 7), (63, 19), (0, 16), (2 ^ 40 - 1, 40), (4096, 40)], 2, 2 ^ 40 - 1, 4096, by decide +kernel⟩,
   ⟨dmaAt [0, packLow [(2, 4), (1, 1), (0, 11), (2, 16), (1, 16), (64, 40), (64, 40)]] |>.put (DMA.CH_STAT.PC 3) 1, 3, packLow [(2, 4), (1, 1), (0, 11), (2, 16), (1, 16), (64, 40), (64, 40)], 1, {}, (by decide +kernel), (by decide +kernel), (by decide +kernel), (by decide +kernel), (by decide +kernel), (by decide +kernel), (by decide +kernel), (by decide +kernel), (by decide +kernel), (by decide +kernel), (by decide +kernel), (by decide +kernel), (by decide +kernel), (by unfold Fetchable; decide +kernel)⟩,
   ⟨dmaAt [3 + 2 ^ 6 + 2 ^ 64 * 1000], 3, 3 + 2 ^ 6 + 2 ^ 64 * 1000, by decide +kernel⟩,
   ⟨dmaAt [3 + 2 ^ 4], 3, 3 + 2 ^ 4, 0, (by decide +kernel), (by decide +kernel), (by decide +kernel), (by decide +kernel), (by decide +kernel), (by decide +kernel), (by decide +kernel), (by decide +kernel), (by decide +kernel), (by decide +kernel), (by decide +kernel), (by unfold Fetchable; decide +kernel)⟩,
   ⟨(dmaAt [3 + 2 * 2 ^ 4 + 2 ^ 16 * 9]).put IDENT.FUSE_STAT.ASSY 1, 3, 3 + 2 * 2 ^ 4 + 2 ^ 16 * 9, 0, (by decide +kernel), (by decide +kernel), (by decide +kernel), (by decide +kernel), (by decide +kernel), (by decide +kernel), (by decide +kernel), (by decide +kernel), (by decide +kernel), (by decide +kernel), (by decide +kernel), (by unfold Fetchable; decide +kernel)⟩,
   ⟨(dmaAt [] { waitBeat := some 0x10000000 }).put (DMA.CH_STAT.STATE 3) DMA.waiting, 3, 0x10000000, 0x10000000, (by decide +kernel), (by decide +kernel), (by decide +kernel), (by decide +kernel), (by decide +kernel), (by decide +kernel), (by decide +kernel), (by unfold Fetchable; decide +kernel)⟩,
   ⟨dmaAt [4 + 2 ^ 4 + 2 ^ 5 + 2 ^ 6 + 2 ^ 16 * 77], 3, 4 + 2 ^ 4 + 2 ^ 5 + 2 ^ 6 + 2 ^ 16 * 77, 0, (by decide +kernel), (by decide +kernel), (by decide +kernel), (by decide +kernel), (by decide +kernel), (by decide +kernel), (by decide +kernel), (by decide +kernel), (by decide +kernel), (by decide +kernel), (by decide +kernel), (by unfold Fetchable; decide +kernel)⟩,
   ⟨(dmaAt [4 + 2 ^ 6]).put (DMA.CQ_TAIL.COUNT 3) 16, 3, 4 + 2 ^ 6, 0, by decide +kernel⟩,
   ⟨(dmaAt [4 + 2 ^ 6]).setTbl 0 4, 3, 4 + 2 ^ 6, 0, some 7, by decide +kernel⟩,
   ⟨dmaAt [] { acc := [fetch1] }, 3, 1, fetch1, 5, by decide +kernel⟩,
   ⟨dmaAt [mv 0] { mov := some (mvAt 0), acc := [readAt 0, readAt 32] }, 3, readAt 0, [readAt 32], mvAt 0, 5, by decide +kernel⟩,
   ⟨{ dmaAt [mv 0] { mov := some (mvAt 32), acc := [readAt 32] } with inp.budgetValid := true }, 3, readAt 32, mvAt 32, (mvAt 32).data ++ ((natBytes (5 : BitVec 512).toNat 64).drop 32).take 32, 5, (by decide +kernel), (by decide +kernel), (by decide +kernel), (by decide +kernel), (by decide +kernel), (by decide +kernel), (by decide +kernel), (by decide +kernel), (by decide +kernel), (by decide +kernel), (by decide +kernel), (by decide +kernel), (by decide +kernel), (by decide +kernel), (by decide +kernel), (by decide +kernel), (by decide +kernel), (by decide +kernel), (by decide +kernel), (by decide +kernel), (by decide +kernel), (by decide +kernel), (by decide +kernel), (by decide +kernel), (by decide +kernel), (by decide +kernel), (by decide +kernel), (by decide +kernel), (by decide +kernel), (by decide +kernel), (by unfold Fetchable; decide +kernel)⟩⟩

theorem hyps_DmaChannelsStartPaceRetryAndStop :
    (∃ (s : State) (n : Fin 4), s.dma.length = 4 ∧ HostUp s (keyDomains (DMA.CH_CMD.START n).key) ∧ s.isM = true ∧ s.chBusy n = false ∧ s.eng.noStart = false ∧ s.get (DMA.CH_CNT.RD_OUT n) = 0 ∧ s.get (DMA.CH_CNT.WR_OUT n) = 0 ∧ (s.chan n).haltPend = false ∧ (s.chan n).halting = none ∧ s.get (DMA.CH_PROG.ADDR n) % 16 = 0 ∧ s.stkApplies = false ∧ (∀ k, k < 5 → s.rawRouteN (s.get (DMA.CH_PROG.ADDR n) + 128 * k) 128 = .direct)) ∧
    (∃ (s : State) (n : Fin 4), HostUp s (keyDomains (DMA.CH_CMD.START n).key) ∧ s.isM = true ∧ (s.chBusy n = true ∨ s.eng.noStart = true)) ∧
    (∃ (s : State) (n : Fin 4), HostUp s (keyDomains (DMA.CH_CMD.START n).key) ∧ s.isM = true) ∧
    (∃ (s : State) (n : Fin 4), HostUp s (keyDomains (DMA.CH_CMD.START n).key) ∧ s.isM = true) ∧
    (∃ (s : State) (n : Fin 4) (d : Word), HostUp s (keyDomains (DMA.CQ_HEAD.COUNT n).key) ∧ s.isM = true ∧ (s.chan n).haltPend = false ∧ (s.chan n).signal = false ∧ (s.get (DMA.CQ_TAIL.COUNT n) + 2 ^ 17 - d.toNat % 2 ^ 17) % 2 ^ 17 ≤ 2 ^ s.get (DMA.CQ_CTL.SIZE n)) ∧
    (∃ (s : State) (n : Fin 4) (d : Word), HostUp s (keyDomains (DMA.CQ_HEAD.COUNT n).key) ∧ s.isM = true ∧ 2 ^ s.get (DMA.CQ_CTL.SIZE n) < (s.get (DMA.CQ_TAIL.COUNT n) + 2 ^ 17 - d.toNat % 2 ^ 17) % 2 ^ 17) ∧
    (∃ (s : State) (n : Fin 4) (d : Word), HostUp s (keyDomains (DMA.CQ_CTL.SIZE n).key) ∧ s.isM = true ∧ s.chBusy n = false ∧ (s.chan n).haltPend = false ∧ (s.chan n).signal = false ∧ 4 ≤ d.toNat % 32 ∧ d.toNat % 32 ≤ 16) ∧
    (∃ (s : State) (n : Fin 4) (ctl : Bool) (d : Word), HostUp s (keyDomains (if ctl then (DMA.CQ_CTL.SIZE n).key else (DMA.CQ_BASE.ADDR n).key)) ∧ s.isM = true ∧ s.chBusy n = true) ∧
    (∃ (s : State) (n : Fin 4), s.dma.length = 4 ∧ s.dmaRuns = true ∧ (s.chan n).mov = none ∧ (s.chan n).signal = false ∧ (s.chan n).halting = none ∧ (s.chan n).haltPend = false ∧ s.retrying n = false ∧ (s.chBusy n = false ∨ Fetchable s n (s.get (DMA.CH_STAT.PC n)))) ∧
    (∃ (s : State) (n : Fin 4) (e : Nat), s.dma.length = 4 ∧ s.dmaRuns = true ∧ (s.chan n).mov = none ∧ (s.chan n).signal = false ∧ (s.chan n).halting = some e ∧ e < 256 ∧ (s.chan n).haltPend = false ∧ (∀ a ∈ (s.chan n).acc, a.use.isRead = false ∧ a.due = none)) ∧
    (∃ (s : State) (n : Fin 4) (now : Beat) (b : Beat) (x : DmaAccess) (g : Nat), s.dma.length = 4 ∧ s.dmaRuns = true ∧ (s.chan n).acc = [x] ∧ x.use = .fetch g ∧ x.tbl = false ∧ x.due = some b ∧ (s.at now).reached b = true ∧ (s.at now).accHeld n x = false ∧ (s.chan n).mov = none ∧ (s.chan n).signal = false ∧ s.rawRouteN x.addr 128 = .direct ∧ (s.chBusy n = false ∨ Fetchable s n (s.get (DMA.CH_STAT.PC n)))) ∧
    (∃ (s : State) (n : Fin 4) (now : Beat) (b : Beat) (x : DmaAccess), s.dma.length = 4 ∧ s.dmaRuns = true ∧ (s.chan n).acc = [x] ∧ x.due = some b ∧ (s.at now).reached b = true ∧ (s.at now).accHeld n x = false ∧ (s.chan n).halting = none ∧ s.chBusy n = true ∧ x.retries + 1 < s.get (DMA.CH_CTL.RETRIES n)) ∧
    (∃ (s : State) (n : Fin 4) (now : Beat) (b : Beat) (x : DmaAccess), s.dma.length = 4 ∧ s.dmaRuns = true ∧ (s.chan n).acc = [x] ∧ x.due = some b ∧ (s.at now).reached b = true ∧ (s.at now).accHeld n x = false ∧ (s.chan n).halting = none ∧ s.chBusy n = true ∧ s.get (DMA.CH_CTL.RETRIES n) ≤ x.retries + 1) ∧
    (∃ (s : State) (n : Fin 4), s.dmaRuns = true ∧ s.paceByFill = false ∧ s.get (DMA.CH_STAT.PENDING n) < 15 ∧ (s.get (DMA.CH_STAT.STATE n) ≠ DMA.waiting ∨ s.get (DMA.CH_STAT.WAIT_ON n) ≠ 1)) ∧
    (∃ (s : State) (n : Fin 4), s.dmaRuns = true ∧ s.paceByFill = false ∧ s.get (DMA.CH_STAT.PENDING n) = 15) ∧
    (∃ (s : State) (n : Fin 4) (f : BitVec 12), s.dma.length = 4 ∧ s.dmaRuns = true ∧ s.paceByFill = true ∧ (s.get (DMA.CH_STAT.STATE n) ≠ DMA.waiting ∨ s.get (DMA.CH_STAT.WAIT_ON n) ≠ 2)) ∧
    (∃ (s : State) (n : Fin 4) (x : DmaAccess) (ans : MemAnswer) (e : Nat), s.dma.length = 4 ∧ (ans, e) ∈ [(MemAnswer.denied, 5), (.drained, 7), (.poison, 8)] ∧ s.engRuns = true ∧ s.clkOn 1 = true ∧ s.chBusy n = true ∧ (s.chan n).halting = none ∧ (s.chan n).acc = [x] ∧ x.use.isRead = false ∧ x.due = none) ∧
    (∃ (s : State) (n : Fin 4) (x : DmaAccess) (ans : MemAnswer), s.dma.length = 4 ∧ (ans = .error ∨ ans = .retry) ∧ s.engRuns = true ∧ s.clkOn 1 = true ∧ s.chBusy n = true ∧ (s.chan n).halting = none ∧ (s.chan n).acc = [x] ∧ x.use.isRead = false ∧ x.due = none ∧ x.retries < s.get (DMA.CH_CTL.RETRIES n)) ∧
    (∃ (s : State) (n : Fin 4) (x : DmaAccess) (d : BitVec 1024) (ans : MemAnswer) (e : Nat), s.dma.length = 4 ∧ (ans, e) ∈ [(MemAnswer.denied, 5), (.drained, 7), (.poison, 8)] ∧ s.dmaRuns = true ∧ s.chBusy n = true ∧ (s.chan n).halting = none ∧ (s.chan n).acc = [x] ∧ (∃ g, x.use = .fetch g) ∧ x.gone = false ∧ x.due = none) ∧
    (∃ (s : State) (w : BitVec 10) (ans : MemAnswer), ans ≠ .ok ∧ s.engRuns = true ∧ s.win w.toNat WIN.STATE = 3 ∧ w.toNat ∈ s.eng.closing) ∧
    (∃ (s : State) (w : BitVec 10) (ans : MemAnswer), ans ≠ .ok ∧ s.engRuns = true ∧ s.win w.toNat WIN.STATE = 3 ∧ w.toNat ∈ s.eng.closing ∧ s.win w.toNat WIN.CL_REC = 1) ∧
    (∃ (s : State) (ctx : BitVec 14) (ans : MemAnswer) (a : Nat) (len : Nat) (slot : Nat), ans ≠ .ok ∧ s.engRuns = true ∧ s.eng.escWrites.find? (fun e => e.1 == ctx.toNat) = some (ctx.toNat, a, len, slot) ∧ s.lostQ.length < 64) :=
  ⟨⟨{ bound 1 with inp.budgetValid := true }, 3, (by decide +kernel), hostUp (by decide +kernel), by decide +kernel⟩,
   ⟨dmaAt [], 3, hostUp (by decide +kernel), by decide +kernel⟩,
   ⟨dmaAt [], 3, hostUp (by decide +kernel), by decide +kernel⟩,
   ⟨dmaAt [], 3, hostUp (by decide +kernel), by decide +kernel⟩,
   ⟨(up 1 .active).put (DMA.CQ_TAIL.COUNT 3) 16, 3, 0x1FFFF00000000000, hostUp (by decide +kernel), by decide +kernel⟩,
   ⟨(up 1 .active).put (DMA.CQ_TAIL.COUNT 3) 17, 3, 0x1FFFF00000000000, hostUp (by decide +kernel), by decide +kernel⟩,
   ⟨up 1 .active, 3, 16, hostUp (by decide +kernel), by decide +kernel⟩,
   ⟨dmaAt [], 3, true, 5, hostUp (by decide +kernel), by decide +kernel⟩,
   ⟨dmaAt [] { acc := [{ use := .write, addr := 4096, bytes := [1, 2], sent := true }] }, 3, (by decide +kernel), (by decide +kernel), (by decide +kernel), (by decide +kernel), (by decide +kernel), (by decide +kernel), (by decide +kernel), (by
      right
      unfold Fetchable
      decide +kernel)⟩,
   ⟨dmaAt [] { halting := some 255, acc := [{ use := .write, addr := 4096, bytes := [1, 2], sent := true }] }, 3, 255, by decide +kernel⟩,
   ⟨dmaAt [] { acc := [{ fetch1 with due := some 0x10000000 }] }, 3, 0, 0x10000000, { fetch1 with due := some 0x10000000 }, 1, (by decide +kernel), (by decide +kernel), (by decide +kernel), (by decide +kernel), (by decide +kernel), (by decide +kernel), (by decide +kernel), (by decide +kernel), (by decide +kernel), (by decide +kernel), (by decide +kernel), (by
      right
      unfold Fetchable
      decide +kernel)⟩,
   ⟨dmaAt [] { acc := [{ fetch1 with due := some 0x10000000, retries := 1 }] }, 3, 0, 0x10000000, { fetch1 with due := some 0x10000000, retries := 1 }, by decide +kernel⟩,
   ⟨dmaAt [] { acc := [{ fetch1 with due := some 0x10000000, retries := 2 }] }, 3, 0, 0x10000000, { fetch1 with due := some 0x10000000, retries := 2 }, by decide +kernel⟩,
   ⟨(dmaAt []).put (DMA.CH_STAT.PENDING 3) 14, 3, by decide +kernel⟩,
   ⟨(dmaAt []).put (DMA.CH_STAT.PENDING 3) 15, 3, by decide +kernel⟩,
   ⟨(dmaAt []).put IDENT.FUSE_STAT.ASSY 1, 3, 0xFFF, by decide +kernel⟩,
   ⟨dmaAt [] { acc := [{ use := .write, addr := 4096, bytes := [1, 2], sent := true }] }, 3, { use := .write, addr := 4096, bytes := [1, 2], sent := true }, .poison, 8, by decide +kernel⟩,
   ⟨dmaAt [] { acc := [{ use := .write, addr := 4096, bytes := [1, 2], sent := true, retries := 2 }] }, 3, { use := .write, addr := 4096, bytes := [1, 2], sent := true, retries := 2 }, .error, by decide +kernel⟩,
   ⟨dmaAt [] { acc := [fetch1] }, 3, fetch1, 5, .drained, 7, (by decide +kernel), (by decide +kernel), (by decide +kernel), (by decide +kernel), (by decide +kernel), (by decide +kernel), (by
      exact ⟨1, rfl⟩), by decide +kernel⟩,
   ⟨{ window 3 with eng.closing := [1023] }, 1023, .drained, by decide +kernel⟩,
   ⟨{ (window 3).setWin 1023 WIN.CL_REC 1 with eng.closing := [1023] }, 1023, .error, by decide +kernel⟩,
   ⟨{ eng with eng.escWrites := [(5, 4096, 32, 9)] }, 5, .drained, 4096, 32, 9, by decide +kernel⟩⟩

theorem hyps_ResetLeavesTheRegisterTablesValues :
    (∃ (i : Nat), i < 145) ∧
    (∃ (n : Nat), n < 4) :=
  ⟨⟨144, by decide +kernel⟩,
   ⟨3, by decide +kernel⟩⟩

theorem hyps_EveryStepKeepsTheInvariant :
    (∃ (s : State) (t : State), InvariantHolds s ∧ step s = .next t) :=
  ⟨State.reset, State.reset, (by
      unfold InvariantHolds MemoryCanonical
      decide +kernel), (by
      exact rfl)⟩

theorem hyps_CommandsLeaveTheRestOfTheEndAlone :
    (∃ (c : Instr) (s : State) (t : State), exec c s = .next t) ∧
    (∃ (c : Instr) (s : State) (t : State), c.mayStore = false ∧ exec c s = .next t) ∧
    (∃ (c : Instr) (s : State) (t : State) (l : Nat), c.mayChangeBasin = false ∧ exec c s = .next t) ∧
    (∃ (c : Instr) (s : State) (t : State), c.mayMoveInputs = false ∧ exec c s = .next t) ∧
    (∃ (c : Instr) (s : State) (t : State), c.mayChangeTest = false ∧ exec c s = .next t) ∧
    (∃ (c : Instr) (s : State) (t : State), c.mayMoveChannels = false ∧ exec c s = .next t) :=
  ⟨⟨.eventCrossingIdle .lclk, { up 1 .active with chip.evtBusy := 0x10 }, { up 1 .active with chip.evtBusy := 0 }, (by
      exact rfl)⟩,
   ⟨.eventCrossingIdle .lclk, { up 1 .active with chip.evtBusy := 0x10 }, { up 1 .active with chip.evtBusy := 0 }, (by
      rfl), (by
      exact rfl)⟩,
   ⟨.eventCrossingIdle .lclk, { up 1 .active with chip.evtBusy := 0x10 }, { up 1 .active with chip.evtBusy := 0 }, 5, (by
      rfl), (by
      exact rfl)⟩,
   ⟨.eventCrossingIdle .lclk, { up 1 .active with chip.evtBusy := 0x10 }, { up 1 .active with chip.evtBusy := 0 }, (by
      rfl), (by
      exact rfl)⟩,
   ⟨.eventCrossingIdle .lclk, { up 1 .active with chip.evtBusy := 0x10 }, { up 1 .active with chip.evtBusy := 0 }, (by
      rfl), (by
      exact rfl)⟩,
   ⟨.eventCrossingIdle .lclk, { up 1 .active with chip.evtBusy := 0x10 }, { up 1 .active with chip.evtBusy := 0 }, (by
      rfl), (by
      exact rfl)⟩⟩

theorem hyps_CommandsLeaveRegistersOfOtherPagesAlone :
    (∃ (c : Instr) (pages : List Nat) (s : State) (t : State) (k : Nat), c.writesPages = some pages ∧ exec c s = .next t ∧ k / 4096 ∉ pages) :=
  ⟨.validLaneRise 0, [], up 1 .cal, up 1 .cal, 5, (by
      rfl), (by
      exact rfl), by decide +kernel⟩

/-! ### Well-formedness: what no pin, frame or port can carry is refused -/

theorem test_wf_no_units : (Instr.dpiHeaderOffer ⟨0, [], true⟩).wf = false ∧ (Instr.dpiHeaderOffer ⟨0, [1], true⟩).wf = true := by decide
theorem test_wf_seventeen_units :
    (Instr.dpiContinuation ⟨0, List.replicate 17 0, true⟩).wf = false ∧ (Instr.dieResponseOffer ⟨0, List.replicate 16 0, true⟩).wf = true := by decide
theorem test_wf_drive_site : (Instr.txDriveWrite 145 0).wf = false ∧ (Instr.txDriveWrite 144 0).wf = true := by decide
theorem test_wf_attribution_site : (Instr.attrWindowExpiry 145 0).wf = false ∧ (Instr.attrWindowExpiry 144 0).wf = true ∧
    (Instr.attrWindowExpiry 5 0 true).wf = false ∧ (Instr.attrWindowExpiry 4 0 true).wf = true := by decide
theorem test_wf_trims :
    trimOk .duty 5 = false ∧ trimOk .phase 4 = true ∧ trimOk .deskew 145 = false ∧ trimOk .offset 144 = true := by decide
theorem test_wf_cal_window :
    CalWindow.wf (calWin [(145, 0)]) = false ∧ CalWindow.wf (calWin [(144, 0)]) = true ∧
    CalWindow.wf { calWin [] with duty := [(5, 0)] } = false ∧ CalWindow.wf { calWin [] with phase := [(5, 0)] } = false ∧
    CalWindow.wf { calWin [] with deskew := [(145, 0)] } = false ∧ CalWindow.wf { calWin [] with drive := [(145, 0)] } = false := by decide
theorem test_wf_walk_steps : TestObs.wf (.walking (List.replicate 166 [(64, 0)])) = false ∧
    TestObs.wf (.walking (List.replicate 167 [(63, 0), (1, 1)])) = true ∧ TestObs.wf (.walking (List.replicate 167 [(63, 0)])) = false := by decide
theorem test_wf_joined : TestObs.wf (.joined [(166, 159, 165)]) = true ∧ TestObs.wf (.joined [(166, 160, 165)]) = false := by decide
theorem test_wf_prbs_wire : TestObs.wf (.prbs [(166, 1)]) = false ∧ TestObs.wf (.prbs [(165, 1)]) = true := by decide
theorem test_wf_arrays : arrayOk 0 = false ∧ arrayOk 1 = true ∧ arrayOk 12 = true ∧ arrayOk 13 = false := by decide
theorem test_wf_measured_sites :
    (Instr.calMeasureEnd [⟨145, 0, 0⟩]).wf = false ∧ (Instr.calMeasureEnd [⟨144, 0, 0⟩]).wf = true ∧
    (Instr.calCorrectionEnd [⟨145, 0, 0, 0, 0, 0, 0, 0, 0⟩]).wf = false := by decide
theorem test_wf_event_clear_bit :
    (Instr.evtStatClear 1 0 (some (64, 0))).wf = false ∧ (Instr.evtStatClear 1 0 (some (63, 0))).wf = true := by decide

/-! ### Worked examples of the specification -/

/-- The check value of R178 over the bytes of "123456789". -/
theorem test_crc64_check : crc64Bytes 0x393837363534333231 9 0 0xFFFFFFFFFFFFFFFF ^^^ 0xFFFFFFFFFFFFFFFF = 0x62EC59E3F1A4F00A := by
  decide +kernel
theorem test_crc32_check : crc32 72 0x393837363534333231 = 0xCBF43926 := by decide +kernel

/-- The worked flit of chapter 6. -/
theorem test_worked_flit_header :
    BulkHdr.word ⟨0x2A5, 0x13C, 1, 1, true, 0, 0, 0x1F40, 0x0601, false⟩ = 0x06011F401513C2A5 := by decide +kernel
theorem test_worked_flit_slot :
    Hdr.unit { op := 0x10, tc := 1, tag := 0x7D, len := 3, addr := 0x0A00001080 / 64, ctx := 0x0A51, dbeat := 0xC350 } =
      0xC350000002944000280000420307D110 := by decide +kernel
theorem test_squash_message : linkMsg 4 0x7E = 0x7E22 := by decide
theorem test_page_access_payload : pagePayload 2 0x8A 0 3 9 = 0x2450060009 := by decide

/-- Logical lane 0 of R85's example: two output bits. -/
theorem test_scrambler_first_bits :
    scramblerSeed 1 = 0x2545F491 ∧ prbsStep (scramblerSeed 1) = (false, 0x4A8BE922) ∧ (prbsStep 0x4A8BE922).1 = false := by decide +kernel

/-- The stream indices of R84: bulk lanes, control lanes, idle sites. -/
theorem test_stream_indices :
    laneStream 0 0 = 1 ∧ laneStream 3 31 = 128 ∧ laneStream 4 7 = 136 ∧ idleStream 0 0 = 137 ∧ idleStream 3 1 = 144 ∧ idleStream 4 0 = 145 := by
  decide

/-- An eye of 32 clean bins about the sampling point (R117). -/
theorem test_eye_width : (EyeMeas.mk 0 0x0000FFFFFFFF0000 0).width = 32 := by decide +kernel

/-- Bad sites 5 and 20 of LG2: lane 5 rides on site 6, lane 31 on site 33. -/
theorem test_lanes_skip_bad_sites :
    let s := State.reset.put (maskField true 2) 0x00100020
    s.laneSite true 2 4 = some 4 ∧ s.laneSite true 2 5 = some 6 ∧ s.laneSite true 2 31 = some 33 ∧ s.freeSite true 2 = false := by
  decide +kernel

/-- OLDEST 0xF80 and NEXT_TX 0x070: an ACK of 0x010 frees, a later 0xF90 is stale. -/
theorem test_bulk_ack_wraps :
    let s := ((up 2 .active).put BULK.SEQ_STAT.OLDEST 0xF80).put BULK.SEQ_STAT.NEXT_TX 0x070
    let t := s.ackBulk 0x010 false
    s.outB = 240 ∧ t.get BULK.SEQ_STAT.OLDEST = 0x010 ∧ (t.ackBulk 0xF90 false).get BULK.SEQ_STAT.OLDEST = 0x010 ∧
      (t.ackBulk 0xF90 false).chip.col = .active := by decide +kernel

/-- The TC1 data credits of R205's example. -/
theorem test_credits_wrap :
    let s := (((up 2 .active).put (CREDIT.TX_STAT.ADV 4) 1536).put (CREDIT.TX_STAT.CONS 4) 0x0210).put (CREDIT.TX_STAT.RET 4) 0xFE50
    s.avail 4 = 576 ∧ (s.consume 4 2).get (CREDIT.TX_STAT.CONS 4) = 0x0212 := by decide +kernel

/-- The MXFP4 block of chapter 10 and its relative error at t = 3 and 4. -/
theorem test_mxfp4_block :
    let vs := [0x41B00000, 0xC1100000, 0x40400000, 0x3F333333, 0x41500000, 0xBE99999A] ++ List.replicate 26 0
    let e := encodeBlock 0x14 .rne 0 false (fun _ => 0) vs
    e.scale = 0x81 ∧ bits e.field 0 32 = 0x008502C7 := by decide +kernel
theorem test_relative_error :
    let ps := [(0x41B00000, 0x41C00000), (0xC1100000, 0xC1000000), (0x40400000, 0x40800000), (0x3F333333, 0),
      (0x41500000, 0x41400000), (0xBE99999A, 0x80000000)]
    errExceeds 3 ps = false ∧ errExceeds 4 ps = true := by decide +kernel

/-- Three contributions in two orders, and the exact grid with XW = 26. -/
theorem test_fp32_order : addF (addF 0x4B800000 0x3F800000) 0xCB800000 = 0 ∧ addF (addF 0x4B800000 0xCB800000) 0x3F800000 = 0x3F800000 := by
  decide +kernel
theorem test_exact_grid :
    (exactQ 26 0x4B800000).q = 2 ^ 62 ∧ (exactQ 26 0x3F800000).q = 2 ^ 38 ∧ (exactQ 26 0xCB800000).q = -2 ^ 62 := by decide +kernel

/-- WIDTH_CMD 0x0D against L_LEVEL 64 is refused LEVEL. -/
theorem test_width_refused :
    ((((agree (up 2 .active) 0xFFFF).put REPAIR.WIDTH_STAT.RX_GROUPS 0xF).put REPAIR.WIDTH_STAT.TX_GROUPS 0xF).put PHY.RATE_STAT.RATE 3
      |>.put TIME.LEVEL_CTL.L_LEVEL 64 |>.writeAddr (REPAIR.WIDTH_CMD.GO.key / 8) 0x0D).reg (PAGE.REFUSED.OFFSET 4).key = 0x0001000D00870118 := by decide +kernel

/-- FAULT_SUM of chapter 20: ARRAY_UE (14) from ACTIVE. -/
theorem test_fault_summary :
    (({ up 2 .active with beat := 0x1234567890 } : State).faultSum (some 14)).reg IDENT.FAULT_SUM.CAUSE.key = 0x001234567890740E := by
  decide +kernel

/-- Wires 39 and 40 crossed, walking one (chapter 21). -/
theorem test_crossed_wires :
    let read (st : Nat) : BitVec 166 := BitVec.ofNat 166 (if st = 39 then 2 ^ 40 else if st = 40 then 2 ^ 39 else if st < 166 then 2 ^ st else 0)
    let steps := (List.range 167).map read
    walkResult false steps 39 = 0x0000280000000209 ∧ walkResult false steps 40 = 0x0000270000000209 ∧ firstWrong false 0 steps = some 39 := by
  decide +kernel

/-- BUDGET 0x60 (3.0 W) at 16 GT/s and full width (chapter 17). -/
theorem test_engine_cap :
    let s : State := { wide ((up 1 .active).put PHY.RATE_STAT.RATE 3) with inp.budget := 0x60, inp.budgetValid := true }
    s.fixedPower = 2000 ∧ s.budgetCap = 26 ∧ s.demand 1024 1024 = 141 := by decide +kernel

/-- Window 37 word 3 stands at aperture byte 0x18_4958 of the register map. -/
theorem test_window_word_address : winIdx 37 3 * 8 = 0x184958 := by decide

/-! ### Single steps -/

/-- An empty queue lets one beat pass (log entry 2). -/
theorem test_idle_step_ticks : (match step (up 2 .active) with | .next t => t.beat.toNat - (up 2 .active).beat.toNat | _ => 0) = 1 := by
  decide +kernel

/-- A die reset keeps the fuses and clears the registers. -/
theorem test_die_reset_clears :
    (match exec .dieRstAssert ((up 2 .active).put TIME.LEVEL_CTL.L_LEVEL 99) with
      | .next t => (t.chip.dieRst, t.get TIME.LEVEL_CTL.L_LEVEL)
      | _ => (false, 0)) = (true, 64) := by decide +kernel

end Sys2Proof.Tests
end

section
/-!
PROOFS. Table words read after a write, the write of a table word range by range (R465, R466), and the registers that log a refused
write (R443): what the tables' own commands leave.
-/

namespace Sys2Proof.Machine

/-! ### Table words -/

/-- A table word that is written changes the table and the arrays' correction state alone. -/
theorem State.setTbl_eq (s : State) (idx : Nat) (w : Word) :
    ∃ l, s.setTbl idx w = { s with tbl := Sparse.set idx (some w) s.tbl, arrays := l } :=
  State.wordWritten_eq { s with tbl := Sparse.set idx (some w) s.tbl } (tblArray idx)

@[simp] theorem State.setTbl_regs (s : State) (idx : Nat) (w : Word) : (s.setTbl idx w).regs = s.regs := by
  obtain ⟨l, h⟩ := s.setTbl_eq idx w; rw [h]

/-- A table word read after a table word is written. -/
theorem State.tblWord_setTbl (s : State) (idx : Nat) (w : Word) (i : Nat) :
    (s.setTbl idx w).tblWord i = if idx = i then w else s.tblWord i := by
  obtain ⟨l, h⟩ := s.setTbl_eq idx w
  simp only [h, State.tblWord, Sparse.find_set]
  split <;> rfl

@[simp] theorem State.tblWord_setTbl_same (s : State) (idx : Nat) (w : Word) : (s.setTbl idx w).tblWord idx = w := by
  simp [State.tblWord_setTbl]

theorem State.tblWord_setTbl_ne (s : State) {idx i : Nat} (w : Word) (h : i ≠ idx) : (s.setTbl idx w).tblWord i = s.tblWord i := by
  simp [State.tblWord_setTbl, Ne.symm h]

/-- Table words are read from the table and from what unlisted words read as. -/
theorem State.tblWord_congr {s t : State} (h : t.tbl = s.tbl) (hz : t.tblZeroed = s.tblZeroed) (he : t.epoch = s.epoch) (i : Nat) :
    t.tblWord i = s.tblWord i := by
  simp only [State.tblWord, State.tblDefault, h, hz, he]

@[simp] theorem State.tblWord_chip (s : State) (c : Chip) (i : Nat) : ({ s with chip := c } : State).tblWord i = s.tblWord i :=
  State.tblWord_congr rfl rfl rfl i
@[simp] theorem State.tblWord_eng (s : State) (e : Engine) (i : Nat) : ({ s with eng := e } : State).tblWord i = s.tblWord i :=
  State.tblWord_congr rfl rfl rfl i
@[simp] theorem State.tblWord_put (s : State) (f : Field) (v i : Nat) : (s.put f v).tblWord i = s.tblWord i :=
  State.tblWord_congr rfl rfl rfl i
@[simp] theorem State.tblWord_setPair (s : State) (f : Pair → Pair) (i : Nat) : (s.setPair f).tblWord i = s.tblWord i :=
  State.tblWord_congr rfl rfl rfl i
@[simp] theorem State.tblWord_setTxn (s : State) (f : Txns → Txns) (i : Nat) : (s.setTxn f).tblWord i = s.tblWord i :=
  State.tblWord_congr rfl rfl rfl i
@[simp] theorem State.tblWord_keepBind (s : State) (p i : Nat) : (s.keepBind p).tblWord i = s.tblWord i :=
  State.tblWord_congr rfl rfl rfl i
@[simp] theorem State.keepBind_regs (s : State) (p : Nat) : (s.keepBind p).regs = s.regs := rfl
@[simp] theorem State.tblWord_markDirty (s : State) (c i : Nat) : (s.markDirty c).tblWord i = s.tblWord i := by
  simp only [State.markDirty, State.tblWord_put, State.tblWord_setPair]

/-- A context marked changed is among the changed ones (R405). -/
theorem State.markDirty_dirty (s : State) {c : Nat} (h : c < 16384) : Sparse.find (s.markDirty c).pair.dirty c = some () := by
  simp [State.markDirty, State.setPair, Nat.mod_eq_of_lt h]

/-! ### Writes of a table word, range by range (R465, R466) -/

/-- A host-port write of a table word that completes is the write of the word. -/
theorem State.hostTable_eq (s : State) {idx : Nat} (h : HostUp s (aperDomains idx)) (data : Word) :
    s.hostTable idx data = (s.tableWrite idx data).2 :=
  s.access_eq h.aperNeeds _

/-- An end that is no M-end has no table but the overlays. -/
theorem State.tableWrite_foreign (s : State) {idx : Nat} (hm : s.isM = false) (h : idx < 0x32800) (data : Word) :
    s.tableWrite idx data = (true, s) := by
  have ho : tblOverlay idx = false := by simp [tblOverlay, h]
  simp [State.tableWrite, ho, hm]

theorem tblMask_binding {idx : Nat} (h : idx < 0x20000) : tblMask idx = BitVec.allOnes 64 := by simp [tblMask, h]

theorem tblMask_context_ne {idx : Nat} (h : 0x20000 ≤ idx) (h2 : idx < 0x30000) : tblMask idx ≠ 0#64 := by
  have h1 : ¬ idx < 0x20000 := by omega
  simp only [tblMask, h1, h2, if_true, if_false]
  split <;> decide

/-- A binding entry is written, and kept for the requests whose header was taken before (R239). -/
theorem State.tableWrite_binding (s : State) {idx : Nat} (hm : s.isM = true) (h : idx < 0x20000) (data : Word) :
    s.tableWrite idx data =
      (true, ((s.keepBind idx).setTbl idx (data &&& tblMask idx)).setTxn fun t => { t with badBinds := t.badBinds.filter (· != idx) }) := by
  have ho : tblOverlay idx = false := by simp [tblOverlay]; omega
  have hk : tblMask idx ≠ 0#64 := by rw [tblMask_binding h]; decide
  simp [State.tableWrite, ho, hm, hk, h]

/-- A word of a context record is written, and its context is marked changed (R309, R405). -/
theorem State.tableWrite_context (s : State) {idx : Nat} (hm : s.isM = true) (h : 0x20000 ≤ idx) (h2 : idx < 0x30000) (data : Word) :
    s.tableWrite idx data = (true, (s.setTbl idx (data &&& tblMask idx)).markDirty ((idx - 0x20000) / 4)) := by
  have ho : tblOverlay idx = false := by simp [tblOverlay]; omega
  have h1 : ¬ idx < 0x20000 := by omega
  simp [State.tableWrite, ho, hm, tblMask_context_ne h h2, h1, h2]

/-- A recipe word that is not reserved is written, and its slot is whole again (R422, R467). -/
theorem State.tableWrite_recipe (s : State) {idx : Nat} (hm : s.isM = true) (h : 0x30000 ≤ idx) (h2 : idx < 0x30800) (hk : tblMask idx ≠ 0#64)
    (data : Word) :
    s.tableWrite idx data = (true, { s.setTbl idx (data &&& tblMask idx) with
      eng := { (s.setTbl idx (data &&& tblMask idx)).eng with
        badSlots := (s.setTbl idx (data &&& tblMask idx)).eng.badSlots.filter (· != (idx - 0x30000) / 32) } }) := by
  have ho : tblOverlay idx = false := by simp [tblOverlay]; omega
  have h0 : ¬ idx < 0x20000 := by omega
  have h1 : ¬ idx < 0x30000 := by omega
  simp [State.tableWrite, ho, hm, hk, h0, h1, h2]

/-- An overlay word is written on every end, and its slot is whole again (R422, R466). -/
theorem State.tableWrite_overlay (s : State) {idx : Nat} (h : 0x32800 ≤ idx) (h2 : idx < 0x32A00) (data : Word) :
    s.tableWrite idx data = (true, { s.setTbl idx (data &&& tblMask idx) with
      chip := { (s.setTbl idx (data &&& tblMask idx)).chip with
        badOvl := (s.setTbl idx (data &&& tblMask idx)).chip.badOvl.filter (· != (idx - 0x32800) / 128) } }) := by
  have ho : tblOverlay idx = true := by simp [tblOverlay]; omega
  simp [State.tableWrite, ho]

/-- The mirror block takes no write: it is refused with STATE (R466). -/
theorem State.tableWrite_mirror (s : State) {idx : Nat} (hm : s.isM = true) (h : 0x32A00 ≤ idx) (hk : tblMask idx ≠ 0#64) (data : Word) :
    s.tableWrite idx data = (false, s.refuseTbl idx 1 data) := by
  have ho : tblOverlay idx = false := by simp [tblOverlay]; omega
  have h0 : ¬ idx < 0x20000 := by omega
  have h1 : ¬ idx < 0x30000 := by omega
  have h2 : ¬ idx < 0x30800 := by omega
  have h3 : ¬ idx < 0x32800 := by omega
  simp [State.tableWrite, ho, hm, hk, h0, h1, h2, h3]

/-! ### Refused writes (R443) -/

/-- A refusal in a page is logged in its REFUSED register alone. -/
theorem State.refuseCode_reg_ne (s : State) (p off : Nat) (a : Bool) (r : Nat) (data : Word) {k : Nat} (h : 4096 * p + 0x040 ≠ k) :
    (s.refuseCode p off a r data).reg k = s.reg k := by
  have hp : ∀ (t : State) (f : Field) (v : Nat), f.key = 4096 * p + 0x040 → (t.put f v).reg k = t.reg k :=
    fun t f v e => t.put_reg_ne v (e ▸ h)
  simp only [State.refuseCode, State.bump, State.bumpBy]
  rw [hp _ _ _ rfl, hp _ _ _ rfl, hp _ _ _ rfl, hp _ _ _ rfl, hp _ _ _ rfl, hp _ _ _ rfl]

/-- A refusal leaves its reason. -/
theorem State.refuseCode_reason (s : State) (p off : Nat) (a : Bool) (r : Nat) (data : Word) :
    (s.refuseCode p off a r data).get (PAGE.REFUSED.REASON p) = r % 2 ^ 8 := by
  rw [State.refuseCode, State.get_bump_apart _ (by simp [PAGE.REFUSED.REASON, PAGE.REFUSED.COUNT]),
    State.get_put_apart _ _ (by simp [PAGE.REFUSED.REASON, PAGE.REFUSED.DATA]),
    State.get_put_same _ _ _ (by simp [PAGE.REFUSED.REASON])]
  rfl

/-- A refusal leaves whether it was of the table aperture. -/
theorem State.refuseCode_aper (s : State) (p off : Nat) (a : Bool) (r : Nat) (data : Word) :
    (s.refuseCode p off a r data).get (PAGE.REFUSED.APER p) = b2n a := by
  rw [State.refuseCode, State.get_bump_apart _ (by simp [PAGE.REFUSED.APER, PAGE.REFUSED.COUNT]),
    State.get_put_apart _ _ (by simp [PAGE.REFUSED.APER, PAGE.REFUSED.DATA]),
    State.get_put_apart _ _ (by simp [PAGE.REFUSED.APER, PAGE.REFUSED.REASON]),
    State.get_put_apart _ _ (by simp [PAGE.REFUSED.APER, PAGE.REFUSED.STATE]),
    State.get_put_same _ _ _ (by simp [PAGE.REFUSED.APER])]
  cases a <;> rfl

@[simp] theorem State.refuseCode_chip (s : State) (p off : Nat) (a : Bool) (r : Nat) (data : Word) :
    (s.refuseCode p off a r data).chip = s.chip := by
  simp only [State.refuseCode, State.put_chip, State.bump_chip]
@[simp] theorem State.refuseCode_tbl (s : State) (p off : Nat) (a : Bool) (r : Nat) (data : Word) :
    (s.refuseCode p off a r data).tbl = s.tbl := by
  simp only [State.refuseCode, State.put_tbl, State.bump_tbl]

/-- A refused write of the mirror block is logged in the PAIR page (R454, R465). -/
theorem State.refuseTbl_mirror (s : State) {idx : Nat} (h : 0x32A00 ≤ idx) (code : Nat) (data : Word) :
    s.refuseTbl idx code data = (s.refuseCode 13 (8 * idx % 4096) true code data).put PAIR.TBL_CAPTURE.ADDR (8 * idx) := by
  have h0 : ¬ idx < 0x20000 := by omega
  have h1 : ¬ idx < 0x30800 := by omega
  have h2 : ¬ idx < 0x32800 := by omega
  have h3 : ¬ idx < 0x32A00 := by omega
  simp [State.refuseTbl, tblPage, h0, h1, h2, h3]

/-! ### The tables' commands -/

theorem exec_bindingWrite (entry : BitVec 17) (data : Word) (s : State) :
    exec (.bindingWrite entry data) s = .next (s.hostTable entry.toNat data) := rfl
theorem exec_contextWrite (ctx : BitVec 14) (word : BitVec 2) (data : Word) (s : State) :
    exec (.contextWrite ctx word data) s = .next (s.hostTable (ctxIdx ctx.toNat word.toNat) data) := rfl
theorem exec_recipeWrite (slot : BitVec 6) (word : BitVec 5) (data : Word) (s : State) :
    exec (.recipeWrite slot word data) s = .next (s.hostTable (rcpIdx slot.toNat word.toNat) data) := rfl
theorem exec_overlayWrite (slot : BitVec 2) (entry : BitVec 6) (hi : Bool) (data : Word) (s : State) :
    exec (.overlayWrite slot entry hi data) s = .next (s.hostTable (ovlIdx slot.toNat entry.toNat (b2n hi)) data) := rfl
theorem exec_mirrorBlockWrite (off : BitVec 21) (data : Word) (s : State) :
    exec (.mirrorBlockWrite off data) s = .next (if 0x32A00 ≤ off.toNat / 8 then s.hostTable (off.toNat / 8) data else s) := rfl

/-- Settles O37: each clause is the write of one range of the aperture, and the words read after `setTbl`. -/
theorem tablesTakeWrites : Obligations.TablesTakeWrites := by
  refine ⟨?binding, ?context, ?recipe, ?overlay, ?mirror, ?foreign⟩
  case binding =>
    intro s entry data hup hm
    have hi : entry.toNat < 0x20000 := entry.isLt
    rw [exec_bindingWrite, s.hostTable_eq hup, s.tableWrite_binding hm hi, tblMask_binding hi, BitVec.and_allOnes]
    refine ⟨_, rfl, by simp, fun i h => ?_, by simp [State.setTxn], by simp⟩
    simp [State.tblWord_setTbl_ne _ _ h]
  case context =>
    intro s ctx word data hup hm
    have hc : ctx.toNat < 16384 := ctx.isLt
    have hw : word.toNat < 4 := word.isLt
    have hi : ctxIdx ctx.toNat word.toNat = 0x20000 + 4 * ctx.toNat + word.toNat := by rw [ctxIdx, Nat.mod_eq_of_lt hc]
    have hd : (ctxIdx ctx.toNat word.toNat - 0x20000) / 4 = ctx.toNat := by omega
    rw [exec_contextWrite, s.hostTable_eq hup, s.tableWrite_context hm (by omega) (by omega), hd]
    refine ⟨_, rfl, by simp, fun i h => ?_, State.markDirty_dirty _ hc⟩
    simp [State.tblWord_setTbl_ne _ _ h]
  case recipe =>
    intro s slot word data hup hm hk
    have hs : slot.toNat < 64 := slot.isLt
    have hw : word.toNat < 32 := word.isLt
    have hi : rcpIdx slot.toNat word.toNat = 0x30000 + 32 * slot.toNat + word.toNat := by rw [rcpIdx, Nat.mod_eq_of_lt hs]
    have hd : (rcpIdx slot.toNat word.toNat - 0x30000) / 32 = slot.toNat := by omega
    rw [exec_recipeWrite, s.hostTable_eq hup, s.tableWrite_recipe hm (by omega) (by omega) hk, hd]
    refine ⟨_, rfl, ?_, fun i h => ?_, by simp, State.setTbl_regs _ _ _⟩
    · rw [State.tblWord_eng, State.tblWord_setTbl_same]
    · rw [State.tblWord_eng, State.tblWord_setTbl_ne _ _ h]
  case overlay =>
    intro s slot entry hi data hup
    have hs : slot.toNat < 4 := slot.isLt
    have he : entry.toNat < 64 := entry.isLt
    have hb : b2n hi < 2 := by cases hi <;> decide
    have hx : ovlIdx slot.toNat entry.toNat (b2n hi) = 0x32800 + 128 * slot.toNat + 2 * entry.toNat + b2n hi := by rw [ovlIdx]
    have hd : (ovlIdx slot.toNat entry.toNat (b2n hi) - 0x32800) / 128 = slot.toNat := by omega
    rw [exec_overlayWrite, s.hostTable_eq hup, s.tableWrite_overlay (by omega) (by omega), hd]
    refine ⟨_, rfl, ?_, fun i h => ?_, by simp, State.setTbl_regs _ _ _⟩
    · rw [State.tblWord_chip, State.tblWord_setTbl_same]
    · rw [State.tblWord_chip, State.tblWord_setTbl_ne _ _ h]
  case mirror =>
    intro s off data hup hm hi hk
    rw [exec_mirrorBlockWrite, if_pos hi, s.hostTable_eq hup, s.tableWrite_mirror hm hi hk, s.refuseTbl_mirror hi]
    refine ⟨_, rfl, (State.put_tbl _ _ _).trans (State.refuseCode_tbl ..), ?_, ?_⟩
    · rw [State.get_put_ne _ _ (by decide), State.refuseCode_reason]; rfl
    · rw [State.get_put_ne _ _ (by decide), State.refuseCode_aper]; rfl
  case foreign =>
    intro s entry data hup hm
    have hi : entry.toNat < 0x32800 := Nat.lt_trans entry.isLt (by decide)
    rw [exec_bindingWrite, s.hostTable_eq hup, s.tableWrite_foreign hm hi]

end Sys2Proof.Machine
end

section
/-!
PROOFS. The host port (R51 to R57, R439 to R452): accesses that end in MB_ERR, writes of registers that hold no command, the fields that
refuse a write, and reads with an effect.
-/

namespace Sys2Proof.Machine

/-! ### Accesses of the port -/

/-- A read that completes is its effect. -/
theorem State.accessRead_eq (s : State) {mask : Nat} (h : HostUp s mask) (go : State → State) : s.accessRead mask go = go s := by
  have ht : s.tornAt mask = false := by
    obtain ⟨_, _, _, ht⟩ := h
    simp only [State.tornAt, bne_eq_false_iff_eq] at ht ⊢
    exact (State.and_or_one _ _ ht).1
  simp [State.accessRead, ht, s.access_eq h]

@[simp] theorem State.mbError_regs (s : State) : s.mbError.regs = s.regs := rfl

/-- An access outside the register space ends with MB_ERR and whatever data (R447). -/
theorem State.mbError_out (s : State) : ∃ v, s.mbError.out = .mb v true :: s.out := ⟨_, rfl⟩

theorem regKey_outside {addr : Nat} (h : 2 ^ 13 ≤ addr) : regKey addr = none := if_pos h

theorem regKey_of_key {key : Nat} (h : key < 2 ^ 16) (h8 : 8 ∣ key) : regKey (BitVec.ofNat 18 (key / 8)).toNat = some key := by
  have ha : (BitVec.ofNat 18 (key / 8)).toNat = key / 8 := by simp; omega
  simp only [ha, regKey, if_neg (show ¬ 2 ^ 13 ≤ key / 8 by omega), Nat.mul_div_cancel' h8]

theorem State.present_of_role (s : State) {page : Nat} (h : s.role ≠ 0) (hp : page ∈ [2, 3, 4, 5, 6, 7, 8, 9, 13, 15]) :
    s.present page = true := by
  simp only [List.mem_cons, List.not_mem_nil, or_false] at hp
  rcases hp with rfl | rfl | rfl | rfl | rfl | rfl | rfl | rfl | rfl | rfl <;> simpa [State.present] using h

theorem State.role_of_isM {s : State} (h : s.isM = true) : s.role ≠ 0 := by
  rw [eq_of_beq (show (s.role == 1) = true from h)]; decide

/-! ### Writes of registers that hold no command (R439, R440) -/

/-- The registers above the common ones whose write issues a command, by key, the CH_CMD registers of the DMA page apart. -/
def commandKeys : List Nat :=
  [RESET.COL_CTL.ENABLE.key, RESET.OVL_CMD.APPLY_O3.key, PHY.RPA_CMD.GO.key, PAIR.MIR_CMD.BEGIN.key, POWER.PARK_CMD.GO.key,
   TEST.TEST_CMD.ENTER.key, RESET.COL_RST_CMD.GO.key, RESET.SOFT_CLR.GO.key, PHY.RETRAIN_CMD.GO.key, CAL.RUN_CMD.GO.key,
   REPAIR.MARK_CMD.GO.key, REPAIR.WIDTH_CMD.GO.key, REPAIR.LOWLAND_CMD.GO.key, TXN.DRAIN_CMD.GO.key, TXN.MDRAIN_CMD.GO.key,
   TXN.MSCRUB_CMD.GO.key, BASIN.INIT_CMD.GO.key, PAIR.TOKEN_CMD.RELEASE.key]

/-- A register outside the DMA page that holds no command, not PAGE_CTL and not THR_CTL, whose write moves no throttle. -/
def plainKey (key : Nat) : Bool :=
  decide (key < 2 ^ 16) && decide (8 ∣ key) && decide (key / 4096 ≠ 12) && decide (key % 4096 ≠ 0x010) &&
  decide (key ≠ POWER.THR_CTL.STK_ALWAYS.key) && !commandKeys.contains key

/-- A write of a register that holds no command takes its fields or is refused. -/
theorem State.writeReg_plain (s : State) {key : Nat} (h : plainKey key = true) (data : Word) :
    s.writeReg key data = s.access (s.needs key) fun s => s.hostWrite key data := by
  simp only [plainKey, commandKeys, Bool.and_eq_true, decide_eq_true_eq, Bool.not_eq_true', List.contains_cons, Bool.or_eq_false_iff,
    beq_eq_false_iff_ne, List.contains_nil] at h
  simp [State.writeReg, goCommand, h]

/-- A write by word address to neither a CH_WM nor THR_CTL moves no channel and no throttle (R384, R432). -/
theorem State.writePaced_eq_writeAddr (s : State) {addr : Nat} (hw : ∀ n < 4, regKey addr ≠ some (DMA.CH_WM.HIGH n).key)
    (ht : regKey addr ≠ some POWER.THR_CTL.STK_ALWAYS.key) (data : Word) : s.writePaced addr data = s.writeAddr addr data := by
  have hf : ((List.range 4).find? fun n => regKey addr == some (DMA.CH_WM.HIGH n).key) = none :=
    List.find?_eq_none.2 fun n hn => by simpa using hw n (List.mem_range.1 hn)
  simp only [State.writePaced, hf, if_neg ht]

/-- REGISTER_WRITE of a register that holds no command. -/
theorem State.writePaced_hostWrite (s : State) {key : Nat} (h : plainKey key = true) (hup : HostUp s (keyDomains key)) (data : Word) :
    s.writePaced (BitVec.ofNat 18 (key / 8)).toNat data = s.hostWrite key data := by
  have hp := h
  simp only [plainKey, Bool.and_eq_true, decide_eq_true_eq] at hp
  obtain ⟨⟨⟨⟨⟨hlt, h8⟩, hdma⟩, -⟩, hthr⟩, -⟩ := hp
  have hk := regKey_of_key hlt h8
  have hw : ∀ n < 4, key ≠ (DMA.CH_WM.HIGH n).key := by
    intro n hn
    simp only [DMA.CH_WM.HIGH]
    omega
  rw [s.writePaced_eq_writeAddr (by simpa only [hk, ne_eq, Option.some.injEq] using hw) (by simpa only [hk, ne_eq, Option.some.injEq] using hthr)]
  simp only [State.writeAddr, hk, s.writeReg_plain h, s.access_eq hup.needs]

/-- A write outside the register space ends with MB_ERR (R447). -/
theorem State.writePaced_outside (s : State) {addr : Nat} (h : 2 ^ 13 ≤ addr) (hup : HostUp s 1) (data : Word) :
    s.writePaced addr data = s.mbError := by
  have hk := regKey_outside h
  rw [s.writePaced_eq_writeAddr (by simp [hk]) (by simp [hk])]
  simp only [State.writeAddr, hk, s.access_eq hup]

/-! ### Fields of a write (R6, R440) -/

/-- Fields that serve the role refuse a write whose data leaves the range of one of them (R6, R440). -/
theorem State.fieldRefusal_served (s : State) (data : Word) (fs : List RwField) (hs : ∀ f ∈ fs, s.serves f.serves = true) :
    s.fieldRefusal data fs =
      if ∀ f ∈ fs, f.min ≤ bits data.toNat f.lo f.width ∧ bits data.toNat f.lo f.width ≤ f.max then none else some .range := by
  induction fs with
  | nil => rfl
  | cons f fs ih =>
    have hf := hs f List.mem_cons_self
    have ih := ih fun g hg => hs g (List.mem_cons_of_mem _ hg)
    simp only [State.fieldRefusal, hf, if_true, ih, List.forall_mem_cons, Bool.or_eq_true, decide_eq_true_eq]
    by_cases hr : f.min ≤ bits data.toNat f.lo f.width ∧ bits data.toNat f.lo f.width ≤ f.max
    · simp [hr, Nat.not_lt.2 hr.1, Nat.not_lt.2 hr.2]
    · rw [if_pos (by omega), if_neg (fun h => hr h.1)]

/-- A refused write is logged in its page and changes no other register. -/
theorem State.refuse_reg_ne (s : State) {key k : Nat} (r : Reason) (data : Word) (h : 4096 * (key / 4096) + 0x040 ≠ k) :
    (s.refuse key r data).reg k = s.reg k := s.refuseCode_reg_ne _ _ _ _ _ h

theorem State.refuse_reason (s : State) (key : Nat) (r : Reason) (data : Word) :
    (s.refuse key r data).get (PAGE.REFUSED.REASON (key / 4096)) = r.code := by
  rw [State.refuse, State.refuseCode_reason]
  cases r <;> rfl

theorem State.refuse_chip (s : State) (key : Nat) (r : Reason) (data : Word) : (s.refuse key r data).chip = s.chip :=
  s.refuseCode_chip ..

/-- A write of a page whose registers have no effect of their own leaves the merged word in the register. -/
theorem State.acceptWrite_quiet (s : State) {key : Nat} (h : key / 4096 < 10) (h2 : key / 4096 ≠ 2) (h3 : key / 4096 ≠ 3) (data : Word)
    (rw : List RwField) : s.acceptWrite (key / 4096) (key % 4096) data rw = s.setReg key (s.mergeRw (s.reg key) data rw) := by
  have hk : key ≠ POWER.THR_CTL.STK_ALWAYS.key := by simp only [POWER.THR_CTL.STK_ALWAYS]; omega
  have ha : ∀ t : State, t.afterWrite (key / 4096) (key % 4096) = t := fun t => by
    unfold State.afterWrite
    split <;> [omega; omega; omega; omega; omega; rfl]
  simp [State.acceptWrite, Nat.div_add_mod, h2, h3, hk, ha]

/-- A write of a register with fields, all of which serve the role and which no rule of its own turns away: its fields are in range and
it is accepted, or it is refused with RANGE. -/
theorem State.hostWrite_fields (s : State) {key : Nat} {row : RegRow} {data : Word} (hp : s.present (key / 4096) = true)
    (ho : 0x100 ≤ key % 4096) (hrow : rowOf key = some row) (hne : row.rw ≠ [])
    (hst : s.stateRefusal (key / 4096) (key % 4096) data = none) (hown : s.ownRefusal (key / 4096) (key % 4096) data = none)
    (hs : ∀ f ∈ row.rw, s.serves f.serves = true) :
    s.hostWrite key data =
      if ∀ f ∈ row.rw, f.min ≤ bits data.toNat f.lo f.width ∧ bits data.toNat f.lo f.width ≤ f.max then
        s.acceptWrite (key / 4096) (key % 4096) data row.rw
      else s.refuse key .range data := by
  have ho : ¬ key % 4096 < 0x100 := Nat.not_lt.2 ho
  simp only [State.hostWrite, State.writeRefusal, State.takeWrite, hp, ho, hrow, hne, hst, hown, s.fieldRefusal_served data row.rw hs,
    Bool.not_true, Bool.false_eq_true, if_false]
  by_cases hr : ∀ f ∈ row.rw, f.min ≤ bits data.toNat f.lo f.width ∧ bits data.toNat f.lo f.width ≤ f.max
  · simp only [if_pos hr, Option.orElse]
  · simp only [if_neg hr, Option.orElse]

/-- Two fields of a register share no bit. -/
def RwField.apart (f g : RwField) : Prop := f.lo + f.width ≤ g.lo ∨ g.lo + g.width ≤ f.lo

/-- A write leaves the bits that are apart from its fields. -/
theorem State.bits_mergeRw_apart (s : State) (old data : Word) (fs : List RwField) (f : RwField) (hf : f.lo + f.width ≤ 64)
    (ha : ∀ g ∈ fs, f.apart g) : bits (s.mergeRw old data fs).toNat f.lo f.width = bits old.toNat f.lo f.width := by
  induction fs generalizing old with
  | nil => rfl
  | cons g fs ih =>
    rw [State.mergeRw, ih _ fun x hx => ha x (List.mem_cons_of_mem _ hx)]
    split
    · exact bits_setBits_apart _ _ _ _ _ _ hf (ha g List.mem_cons_self).symm
    · rfl

/-- A field that serves the role holds the data after the write (R439). -/
theorem State.bits_mergeRw_same (s : State) (old data : Word) (fs : List RwField) (hs : ∀ f ∈ fs, s.serves f.serves = true)
    (hw : ∀ f ∈ fs, f.lo + f.width ≤ 64) (ha : fs.Pairwise RwField.apart) (f : RwField) (hf : f ∈ fs) :
    bits (s.mergeRw old data fs).toNat f.lo f.width = bits data.toNat f.lo f.width := by
  induction fs generalizing old with
  | nil => cases hf
  | cons g fs ih =>
    obtain ⟨hg, ha⟩ := List.pairwise_cons.1 ha
    rw [State.mergeRw, if_pos (hs g List.mem_cons_self)]
    rcases List.mem_cons.1 hf with rfl | hf
    · rw [s.bits_mergeRw_apart _ _ _ _ (hw f List.mem_cons_self) hg, bits_setBits_same _ _ _ _ (hw f List.mem_cons_self)]
      exact Nat.mod_eq_of_lt (bits_lt _ _ _)
    · exact ih _ (fun x hx => hs x (List.mem_cons_of_mem _ hx)) (fun x hx => hw x (List.mem_cons_of_mem _ hx)) ha hf

/-! ### SCRATCH (R448) -/

theorem setBits_whole (w : Word) (v : Nat) : setBits w 0 64 v = BitVec.ofNat 64 v := by
  refine BitVec.eq_of_getLsbD_eq fun i hi => ?_
  rw [setBits_getLsbD _ _ _ _ _ hi, if_pos (by omega), BitVec.getLsbD_ofNat]
  simp [hi]

/-- SCRATCH takes every word. -/
theorem State.hostWrite_scratch (s : State) (data : Word) :
    s.hostWrite IDENT.SCRATCH.DATA.key data = s.setReg IDENT.SCRATCH.DATA.key data := by
  have hrow : rowOf IDENT.SCRATCH.DATA.key = some { off := 0x138, rw := [{ lo := 0, width := 64 }] } := by decide
  have hb : bits data.toNat 0 64 = data.toNat := Nat.mod_eq_of_lt data.isLt
  rw [s.hostWrite_fields rfl (by decide) hrow (by simp) rfl rfl (by simp [State.serves]), if_pos,
    s.acceptWrite_quiet (by decide) (by decide) (by decide)]
  · show s.setReg IDENT.SCRATCH.DATA.key (setBits (s.reg IDENT.SCRATCH.DATA.key) 0 64 (bits data.toNat 0 64)) = _
    rw [setBits_whole, hb, BitVec.ofNat_toNat, BitVec.setWidth_eq]
  · have := data.isLt
    simp [hb]; omega

/-- REGISTER_WRITE of SCRATCH leaves the word there. -/
theorem State.writePaced_scratch (s : State) (h : HostUp s 1) (data : Word) :
    s.writePaced (BitVec.ofNat 18 (IDENT.SCRATCH.DATA.key / 8)).toNat data = s.setReg IDENT.SCRATCH.DATA.key data := by
  have hup : HostUp s (keyDomains IDENT.SCRATCH.DATA.key) := h
  rw [s.writePaced_hostWrite (by decide) hup, s.hostWrite_scratch]

/-! ### RPL_CTL of the BULK page (R6) -/

/-- The fields of RPL_CTL. -/
def rplCtlFields : List RwField :=
  [{ lo := 0, width := 8, min := 8 }, { lo := 16, width := 12, min := 256 }, { lo := 32, width := 8, min := 4 }]

theorem rplCtl_row : rowOf BULK.RPL_CTL.TIMEOUT.key = some { off := 0x128, reset := 0x4004000020, rw := rplCtlFields } := by decide

theorem State.serves_rplCtl (s : State) : ∀ f ∈ rplCtlFields, s.serves f.serves = true := by simp [rplCtlFields, State.serves]

/-- RPL_CTL takes a word whose three fields reach their minimums, and refuses any other with RANGE. -/
theorem State.hostWrite_rplCtl (s : State) (hr : s.role ≠ 0) (data : Word) :
    s.hostWrite BULK.RPL_CTL.TIMEOUT.key data =
      if 8 ≤ bits data.toNat 0 8 ∧ 256 ≤ bits data.toNat 16 12 ∧ 4 ≤ bits data.toNat 32 8 then
        s.setReg BULK.RPL_CTL.TIMEOUT.key (s.mergeRw (s.reg BULK.RPL_CTL.TIMEOUT.key) data rplCtlFields)
      else s.refuse BULK.RPL_CTL.TIMEOUT.key .range data := by
  have hc : (∀ f ∈ rplCtlFields, f.min ≤ bits data.toNat f.lo f.width ∧ bits data.toNat f.lo f.width ≤ f.max) ↔
      8 ≤ bits data.toNat 0 8 ∧ 256 ≤ bits data.toNat 16 12 ∧ 4 ≤ bits data.toNat 32 8 := by
    have h0 := bits_lt data.toNat 0 8
    have h1 := bits_lt data.toNat 16 12
    have h2 := bits_lt data.toNat 32 8
    simp [rplCtlFields]
    omega
  rw [s.hostWrite_fields (s.present_of_role hr (by decide)) (by decide) rplCtl_row (by decide) rfl rfl s.serves_rplCtl,
    s.acceptWrite_quiet (by decide) (by decide) (by decide), if_congr hc rfl rfl]

/-- REGISTER_WRITE of RPL_CTL is the write of its fields. -/
theorem State.writePaced_rplCtl (s : State) (h : HostUp s (keyDomains BULK.RPL_CTL.TIMEOUT.key)) (data : Word) :
    s.writePaced (BitVec.ofNat 18 (BULK.RPL_CTL.TIMEOUT.key / 8)).toNat data = s.hostWrite BULK.RPL_CTL.TIMEOUT.key data :=
  s.writePaced_hostWrite (by decide) h data

/-- A field of RPL_CTL holds the data after the write. -/
theorem State.get_mergeRw_rplCtl (s : State) (data : Word) (f : RwField) (hf : f ∈ rplCtlFields) :
    (s.setReg BULK.RPL_CTL.TIMEOUT.key (s.mergeRw (s.reg BULK.RPL_CTL.TIMEOUT.key) data rplCtlFields)).get
      ⟨BULK.RPL_CTL.TIMEOUT.key, f.lo, f.width⟩ = bits data.toNat f.lo f.width := by
  simp only [State.get, State.setReg_reg_same]
  exact s.bits_mergeRw_same _ _ _ s.serves_rplCtl (by decide) (by simp [rplCtlFields, RwField.apart]) f hf

/-! ### Reads with an effect (R448, R452) -/

/-- BEAT_LO reads as the lower half of the beat count. -/
theorem State.readLive_beatLo (s : State) : s.readLive IDENT.BEAT_LO.COUNT.key = BitVec.ofNat 64 (s.beat.toNat % 2 ^ 32) := by
  have hrow : rowOf IDENT.BEAT_LO.COUNT.key = some { off := 0x100 } := by decide
  have hp : s.present (IDENT.BEAT_LO.COUNT.key / 4096) = true := rfl
  have ho : ¬ IDENT.BEAT_LO.COUNT.key % 4096 < 0x100 := by decide
  simp only [State.readLive, hrow, hp, ho, State.maskRole, State.derived, Bool.not_true, Bool.false_eq_true, if_false, if_true]
  exact BitVec.and_allOnes

/-- A read of BEAT_LO latches the upper half of the beat count in BEAT_HI and brings the lower half (R448). -/
theorem execBeatLoRead_eq {s : State} (h : HostUp s 1) :
    ∃ t, execBeatLoRead s = .next t ∧ t.get IDENT.BEAT_HI.COUNT = s.beat.toNat / 2 ^ 32 ∧
      t.out = .mb (BitVec.ofNat 64 (s.beat.toNat % 2 ^ 32)) false :: s.out := by
  refine ⟨_, congrArg Host.Outcome.next (s.accessRead_eq h _), ?_, ?_⟩
  · have hb : s.beat.toNat / 2 ^ 32 < 2 ^ 32 := by have := s.beat.isLt; omega
    rw [State.get_mbRead, State.get_put_same _ _ _ (by decide)]
    exact Nat.mod_eq_of_lt hb
  · rw [State.mbRead_out, State.readLive_beatLo, State.put_out]

/-- A wide register is neither BEAT_LO nor LOST_FIFO nor the upper word of a wide one. -/
theorem wideLow_apart {key : Nat} (h : wideLow key = true) :
    key ≠ IDENT.BEAT_LO.COUNT.key ∧ key ≠ TXN.LOST_FIFO.CTX.key ∧ wideLow (key - 8) = false := by
  simp only [wideLow, List.contains_cons, List.contains_nil, Bool.or_eq_true, beq_iff_eq, Bool.or_false] at h
  rcases h with rfl | rfl | rfl | rfl | rfl | rfl | rfl | rfl | rfl <;> decide

/-- A read of the lower word of a wide register latches the upper one (R452). -/
theorem execWideRegisterRead_wide {s : State} {addr : BitVec 18} {key : Nat} (hup : HostUp s (keyDomains key))
    (hk : regKey addr.toNat = some key) (hw : wideLow key = true) (hp : s.present (key / 4096) = true) :
    execWideRegisterRead addr s = .next ((s.latchWide key).mbRead (s.readLive key)) := by
  obtain ⟨hbeat, hlost, hlow⟩ := wideLow_apart hw
  simp [execWideRegisterRead, hk, hbeat, hlost, s.accessRead_eq hup.needs, hw, hp, State.readWord, hlow]

/-- A read outside the register space ends with MB_ERR (R447). -/
theorem execWideRegisterRead_outside {s : State} {addr : BitVec 18} (h : 2 ^ 13 ≤ addr.toNat) (hup : HostUp s 1) :
    execWideRegisterRead addr s = .next s.mbError := by
  simp [execWideRegisterRead, regKey_outside h, s.access_eq hup]

theorem execWideRegisterRead_beatLo {s : State} {addr : BitVec 18} (hk : regKey addr.toNat = some IDENT.BEAT_LO.COUNT.key) :
    execWideRegisterRead addr s = execBeatLoRead s := by
  simp [execWideRegisterRead, hk]

theorem execWideRegisterRead_lostFifo {s : State} {addr : BitVec 18} (hk : regKey addr.toNat = some TXN.LOST_FIFO.CTX.key) :
    execWideRegisterRead addr s = execLostFifoRead s := by
  have hne : TXN.LOST_FIFO.CTX.key ≠ IDENT.BEAT_LO.COUNT.key := by decide
  simp [execWideRegisterRead, hk, hne]

/-- A read of LOST_FIFO takes the oldest report and the note of a dropped one (R456). -/
theorem execLostFifoRead_cons {s : State} (hup : HostUp s (keyDomains TXN.LOST_FIFO.CTX.key)) (hp : s.present 8 = true) {e : LostEntry}
    {rest : List LostEntry} (hq : s.lostQ = e :: rest) : ∃ t, execLostFifoRead s = .next t ∧ t.lostQ = rest ∧ t.lostOvf = false := by
  refine ⟨_, congrArg Host.Outcome.next (s.accessRead_eq hup.needs _), ?_⟩
  simp [hp, hq]

/-- A read of a table word on an M-end that finds nothing in error (R465). -/
theorem execWideRegisterRead_table {s : State} {addr : BitVec 18} (hup : HostUp s (s.aperNeeds addr.toNat)) (hm : s.isM = true) :
    execWideRegisterRead addr s true = .next (s.mbRead (s.tblWord addr.toNat &&& tblMask addr.toNat)) := by
  simp [execWideRegisterRead, State.tableRead, s.accessRead_eq hup, hm, State.meet, State.tblRead]

/-! ### CHAIN_ADDR (R54) -/

/-- An unassigned end whose ENUM_TI is high takes the address, unless it is a reserved one. -/
theorem execChainAddrWrite_unassigned {s : State} (hup : HostUp s 1) (hu : s.on IDENT.CHAIN_ADDR.ASSIGNED = false) (data : Word) :
    execChainAddrWrite true data s = .next
      (if 0xFFE ≤ bits data.toNat 0 12 then s.refuse IDENT.CHAIN_ADDR.ADDR.key .address data
       else
        let t := (s.put IDENT.CHAIN_ADDR.ADDR (bits data.toNat 0 12)).put IDENT.CHAIN_ADDR.ASSIGNED 1
        { t with chip := { t.chip with enumTo := true } }) := by
  simp [execChainAddrWrite, s.access_eq hup, hu]

/-- An end that is assigned, or whose ENUM_TI is low, does not take the address. -/
theorem execChainAddrWrite_passed {s : State} (hup : HostUp s 1) {ti : Bool} (h : ti = false ∨ s.on IDENT.CHAIN_ADDR.ASSIGNED = true)
    (data : Word) : execChainAddrWrite ti data s = .next s := by
  have hc : (!ti || s.on IDENT.CHAIN_ADDR.ASSIGNED) = true := by rcases h with h | h <;> simp [h]
  simp only [execChainAddrWrite, s.access_eq hup, hc, if_true]

/-! ### The port's commands -/

theorem exec_chainAddrWrite (ti : Bool) (data : Word) (s : State) :
    exec (.chainAddrWrite ti data) s = execChainAddrWrite ti data s := rfl
theorem exec_broadcastWrite (aper : Bool) (addr : BitVec 18) (data : Word) (wr : Bool) (s : State) :
    exec (.broadcastWrite aper addr data wr) s = execBroadcastWrite aper addr data s wr := rfl
theorem exec_registerWrite (addr : BitVec 18) (data : Word) (s : State) :
    exec (.registerWrite addr data) s = .next (s.writePaced addr.toNat data) := rfl
theorem exec_beatLoRead (s : State) : exec .beatLoRead s = execBeatLoRead s := rfl
theorem exec_wideRegisterRead (addr : BitVec 18) (aper : Bool) (errs : List ArrayErr) (s : State) :
    exec (.wideRegisterRead addr aper errs) s = execWideRegisterRead addr s aper errs := rfl

theorem execBroadcastWrite_foreign {s : State} (hm : s.isM = false) (aper : Bool) (addr : BitVec 18) (data : Word) (wr : Bool) :
    execBroadcastWrite aper addr data s wr = .next s := by
  simp [execBroadcastWrite, hm]

theorem execBroadcastWrite_register {s : State} (hm : s.isM = true) (addr : BitVec 18) (data : Word) :
    execBroadcastWrite false addr data s = .next (s.writePaced addr.toNat data) := by
  simp [execBroadcastWrite, hm]

theorem execBroadcastWrite_read {s : State} (hm : s.isM = true) (hup : HostUp s 1) (aper : Bool) (addr : BitVec 18) (data : Word) :
    execBroadcastWrite aper addr data s false = .next s.mbError := by
  simp [execBroadcastWrite, hm, s.access_eq hup]

/-- Settles O26: each clause is one command's meaning, with the fields and registers read after it. -/
theorem theHostPortReadsAndWritesRegisters : Obligations.TheHostPortReadsAndWritesRegisters := by
  refine ⟨?chainTaken, ?chainRefused, ?chainPassed, ?foreign, ?broadcastIsWrite, ?broadcastAll, ?broadcastRead, ?scratch, ?rplTaken,
    ?rplRefused, ?writeOutside, ?beatLo, ?wide, ?readOutside, ?beatLoByAddress, ?lostFifo, ?table⟩
  case chainTaken =>
    intro s data hup hu hd
    rw [exec_chainAddrWrite, execChainAddrWrite_unassigned hup hu, if_neg (Nat.not_le.2 hd)]
    refine ⟨_, rfl, ?_, ?_, rfl⟩
    · rw [State.get_chip, State.get_put_apart _ _ (by decide), State.get_put_same _ _ _ (by decide)]
      exact Nat.mod_eq_of_lt (bits_lt _ _ _)
    · rw [State.get_chip, State.get_put_same _ _ _ (by decide)]; rfl
  case chainRefused =>
    intro s data hup hu hd
    have hz : s.get IDENT.CHAIN_ADDR.ASSIGNED = 0 := by simpa [State.on] using hu
    rw [exec_chainAddrWrite, execChainAddrWrite_unassigned hup hu, if_pos hd]
    refine ⟨_, rfl, ?_, by rw [State.refuse_chip], State.refuse_reason ..⟩
    rw [State.get, State.refuse_reg_ne _ _ _ (by decide)]
    exact hz
  case chainPassed =>
    intro s ti data hup h
    rw [exec_chainAddrWrite, execChainAddrWrite_passed hup h]
  case foreign =>
    intro s wr aper addr data hm
    rw [exec_broadcastWrite, execBroadcastWrite_foreign hm]
  case broadcastIsWrite =>
    intro s addr data hm
    rw [exec_broadcastWrite, execBroadcastWrite_register hm, exec_registerWrite]
  case broadcastAll =>
    intro s m p data hs hsu hm hmu hp
    simp only [exec_broadcastWrite, execBroadcastWrite_register hs, execBroadcastWrite_register hm, execBroadcastWrite_foreign hp,
      s.writePaced_scratch hsu, m.writePaced_scratch hmu]
    exact ⟨_, _, rfl, rfl, trivial, State.setReg_reg_same _ _ _, State.setReg_reg_same _ _ _, State.setReg_out _ _ _, State.setReg_out _ _ _,
      fun k hk => ⟨State.setReg_reg_ne _ _ hk.symm, State.setReg_reg_ne _ _ hk.symm⟩⟩
  case broadcastRead =>
    intro s aper addr data hm hup
    obtain ⟨v, hv⟩ := s.mbError_out
    exact ⟨_, v, (exec_broadcastWrite ..).trans (execBroadcastWrite_read hm hup ..), s.mbError_regs, hv⟩
  case scratch =>
    intro s data hup
    rw [exec_registerWrite, s.writePaced_scratch hup]
    exact ⟨_, rfl, State.setReg_reg_same _ _ _, fun k hk => State.setReg_reg_ne _ _ hk.symm⟩
  case rplTaken =>
    intro s data hup hr h0 h1 h2
    rw [exec_registerWrite, s.writePaced_rplCtl hup, s.hostWrite_rplCtl hr, if_pos ⟨h0, h1, h2⟩]
    exact ⟨_, rfl, s.get_mergeRw_rplCtl data { lo := 0, width := 8, min := 8 } (by decide),
      s.get_mergeRw_rplCtl data { lo := 16, width := 12, min := 256 } (by decide),
      s.get_mergeRw_rplCtl data { lo := 32, width := 8, min := 4 } (by decide)⟩
  case rplRefused =>
    intro s data hup hr h
    rw [exec_registerWrite, s.writePaced_rplCtl hup, s.hostWrite_rplCtl hr, if_neg (by omega)]
    exact ⟨_, rfl, State.refuse_reg_ne _ _ _ (by decide), State.refuse_reason ..⟩
  case writeOutside =>
    intro s addr data hup ha
    obtain ⟨v, hv⟩ := s.mbError_out
    exact ⟨_, v, congrArg Host.Outcome.next (s.writePaced_outside ha hup data), s.mbError_regs, hv⟩
  case beatLo => exact fun s hup => execBeatLoRead_eq hup
  case wide =>
    intro s addr key hup hk hw hp
    refine ⟨_, (exec_wideRegisterRead ..).trans (execWideRegisterRead_wide hup hk hw hp), ?_, ?_, ?_⟩
    · rw [State.mbRead_chip]; simp [State.latchWide]
    · rfl
    · rfl
  case readOutside =>
    intro s addr hup ha
    obtain ⟨v, hv⟩ := s.mbError_out
    exact ⟨_, v, (exec_wideRegisterRead ..).trans (execWideRegisterRead_outside ha hup), s.mbError_regs, hv⟩
  case beatLoByAddress =>
    intro s addr hup hk
    rw [exec_wideRegisterRead, execWideRegisterRead_beatLo hk]
    exact execBeatLoRead_eq hup.mclk
  case lostFifo =>
    intro s addr e rest hup hm hk hq
    rw [exec_wideRegisterRead, execWideRegisterRead_lostFifo hk]
    exact execLostFifoRead_cons hup (s.present_of_role (State.role_of_isM hm) (by decide)) hq
  case table =>
    intro s addr hup hm
    rw [exec_wideRegisterRead, execWideRegisterRead_table hup hm]
    exact ⟨_, rfl, rfl, rfl, rfl⟩

end Sys2Proof.Machine
end

section
/-!
PROOFS. What reset leaves (R53, R64, R67), END_IRQ (R58), and fabric time (R59, R60, R361, R366, R368): the load and the slew of the beat
counter, the fall of BEAT_LOCK and the write of L_LEVEL.
-/

namespace Sys2Proof.Machine

/-! ### Reset (R53, R64, R67) -/

@[simp] theorem State.reset_reg (k : Nat) : State.reset.reg k = regReset k := rfl

/-- A field of the reset state is the field of its register's reset value. -/
theorem State.reset_get (f : Field) : State.reset.get f = bits (regReset f.key).toNat f.lo f.width := rfl

/-- Settles O57: nothing is listed after reset, so that every register reads as its row of the register tables says. -/
theorem resetLeavesTheRegisterTablesValues : Obligations.ResetLeavesTheRegisterTablesValues := by
  refine ⟨rfl, rfl, rfl, rfl, rfl, rfl, rfl, rfl, rfl, rfl, ⟨State.reset_memory_wf, rfl⟩, State.reset_reg, ?drive, ?dma, ?_, ?_, ?_, ?_⟩
  case drive =>
    simp only [State.reset_get]
    decide
  case dma =>
    simp only [State.reset_get]
    decide
  all_goals decide

/-! ### END_IRQ (R58) -/

/-- A row of one-bit fields is not zero exactly where one of them is set. -/
theorem packLow_flags_ne_zero {α : Type} (p : α → Bool) (l : List α) :
    packLow (l.map fun x => (b2n (p x), 1)) ≠ 0 ↔ ∃ x ∈ l, p x = true := by
  induction l with
  | nil => simp [packLow]
  | cons x l ih =>
    simp only [List.map_cons, packLow, List.exists_mem_cons_iff, ← ih]
    cases p x <;> simp [b2n]

/-- Settles O27: END_IRQ is the row of the sixteen pages' enabled events. -/
theorem endIrqShowsAnEnabledEvent : Obligations.EndIrqShowsAnEnabledEvent := by
  intro s
  simp only [State.irq, bne_iff_ne, State.evtPages, if_true]
  rw [packLow_flags_ne_zero]
  simp

/-! ### The beat counter (R59, R60, R361, R366) -/

theorem State.beatRuns_iff (s : State) :
    s.beatRuns = true ↔ s.chip.dieRst = false ∧ s.role ≠ 0 ∧ s.chip.stopped.getLsbD 3 = false := by
  simp [State.beatRuns, and_assoc]

@[simp] theorem State.loadBeat_regs (s : State) (seed : Beat) : (s.loadBeat seed).regs = s.regs := by
  unfold State.loadBeat
  dsimp only
  split <;> simp

/-- A load sets the count of the beat counter (R59). -/
theorem State.loadBeat_count (s : State) (seed : Beat) : (s.loadBeat seed).count = seed := by
  unfold State.loadBeat
  dsimp only
  split
  · exact State.count_setCount ..
  · rename_i h
    have hn : s.chip.counter = none := by simpa [State.uiFrom] using h
    simp [State.count, State.uiFrom, hn]

/-- Where X09 is whole, every domain reads the loaded count. -/
theorem State.loadBeat_beat (s : State) (seed : Beat) (h : s.chip.counter = none) : (s.loadBeat seed).beat = seed := by
  simp [State.loadBeat, State.uiFrom, h]

@[simp] theorem State.count_bump (s : State) (f : Field) : (s.bump f).count = s.count := rfl

@[simp] theorem State.raise_beat (s : State) (e : Event) (v : Nat) : (s.raise e v).beat = s.beat := by
  unfold State.raise State.overrun
  repeat' split
  all_goals simp only [State.deliver_beat, State.put_beat]

/-- Where X09 is whole, a row's time moves the beat count alone. -/
theorem State.at_whole (s : State) (now : Beat) (h : s.chip.counter = none) : ∃ b, s.at now = { s with beat := b } := by
  rcases s.at_cases now with ⟨-, -, e⟩ | ⟨-, e⟩
  · exact ⟨now, by rw [e, State.setCount, h]⟩
  · exact ⟨s.beat, e⟩

theorem exec_beatLoad (seed : Beat) (s : State) : exec (.beatLoad seed) s = execBeatLoad seed s := rfl
theorem exec_beatLockFall (s : State) : exec .beatLockFall s = execBeatLockFall s := rfl
theorem exec_lLevelWrite (v : BitVec 8) (s : State) : exec (.lLevelWrite v) s = execLLevelWrite v s := rfl
theorem exec_slewStep (now : Beat) (s : State) : exec (.slewStep now) s = execSlewStep now s := rfl

/-- A fall of BEAT_LOCK that a BCLK edge samples clears it, and raises BEAT_UNLOCK outside OFF and RESET_HELD (R60, R361). -/
theorem State.sampleLock_spec (s : State) :
    s.sampleLock.beat = s.beat ∧ s.sampleLock.chip.beatLock = false ∧
      (s.colIn [.off, .resetHeld] = false → Raised EV.TIME.BEAT_UNLOCK s.sampleLock) := by
  cases hc : s.colIn [.off, .resetHeld]
  · have e : s.sampleLock = ({ s with chip := { s.chip with beatLock := false, lockFell := false } } : State).raise EV.TIME.BEAT_UNLOCK 0 := by
      simp [State.sampleLock, hc]
    rw [e]
    refine ⟨State.raise_beat .., ?_, fun _ => State.raise_raised _ _ _ (by decide)⟩
    obtain ⟨_, _, h⟩ := State.raise_chip ({ s with chip := { s.chip with beatLock := false, lockFell := false } } : State) EV.TIME.BEAT_UNLOCK 0
    rw [h]
  · simp [State.sampleLock, hc]

/-- The state that a slew step leaves: the count is held, or goes on by two (R366). -/
def State.slewed (s : State) : State :=
  let s2 := (s.put TIME.SLEW_STAT.PENDING (s.get TIME.SLEW_STAT.PENDING - 1)).bump TIME.SLEW_STAT.TOTAL
  let b := if s.on TIME.SLEW_STAT.DIR then s.beat + 2 else s.beat
  { s2.uiFrom b s2.uiPerBeat with
    beat := b, marks := { s2.marks with nextSlew := s.marks.nextSlew + (if s.on TIME.SLEW_STAT.DIR then 1025 else 1023) } }

/-- A slew step acts where BCLK runs, X09 is whole, a slew is pending and its next step is due. -/
theorem execSlewStep_due {s r : State} {now : Beat} (hs : s.at now = r) (hr : r.beatRuns = true) (hc : r.chip.counter = none)
    (hp : r.on TIME.SLEW_STAT.PENDING = true) (hd : r.reached r.marks.nextSlew = true) : execSlewStep now s = .next r.slewed := by
  subst hs
  simp [execSlewStep, State.slewed, hr, hc, hp, hd]

theorem State.slewed_regs (s : State) :
    s.slewed.regs = ((s.put TIME.SLEW_STAT.PENDING (s.get TIME.SLEW_STAT.PENDING - 1)).bump TIME.SLEW_STAT.TOTAL).regs := by
  simp only [State.slewed, State.uiFrom_regs]
theorem State.slewed_beat (s : State) : s.slewed.beat = if s.on TIME.SLEW_STAT.DIR then s.beat + 2 else s.beat := rfl
theorem State.slewed_nextSlew (s : State) :
    s.slewed.marks.nextSlew = s.marks.nextSlew + (if s.on TIME.SLEW_STAT.DIR then 1025 else 1023) := rfl

theorem State.slewed_pending (s : State) : s.slewed.get TIME.SLEW_STAT.PENDING = s.get TIME.SLEW_STAT.PENDING - 1 := by
  rw [State.get_congr s.slewed_regs, State.get_bump_apart _ (by decide), State.get_put_same _ _ _ (by decide)]
  exact Nat.mod_eq_of_lt (Nat.lt_of_le_of_lt (Nat.sub_le _ _) (bits_lt _ _ _))

/-- A load that BCLK samples in OFF or RESET_HELD is taken, and counted (R59). -/
theorem execBeatLoad_taken {s : State} {seed : Beat} (hr : s.beatRuns = true) (hc : s.colIn [.off, .resetHeld] = true) :
    execBeatLoad seed s = .next ((s.loadBeat seed).bump TIME.SEED_STAT.LOADS) := by
  simp [execBeatLoad, hr, hc]

theorem execBeatLoad_standing {s : State} {seed : Beat} (hr : s.beatRuns = false) : execBeatLoad seed s = .next s := by
  simp [execBeatLoad, hr]

/-- A load in any later Col state is ignored, and counted as such (R59). -/
theorem execBeatLoad_ignored {s : State} {seed : Beat} (hr : s.beatRuns = true) (hc : s.colIn [.off, .resetHeld] = false) :
    execBeatLoad seed s = .next (s.bump TIME.SEED_STAT.IGNORED_LOADS) := by
  simp [execBeatLoad, hr, hc]

/-- A write of L_LEVEL in a state and a range that allow it (R368). -/
theorem execLLevelWrite_taken {s : State} {v : BitVec 8} (hup : HostUp s (keyDomains TIME.LEVEL_CTL.L_LEVEL.key)) (hr : s.role ≠ 0)
    (hc : s.colIn [.off, .resetHeld, .sbUp, .ident, .cal, .repair, .creditInit] = true) (hv : 32 ≤ v.toNat) :
    execLLevelWrite v s = .next (s.put TIME.LEVEL_CTL.L_LEVEL v.toNat) := by
  have hp : s.present (TIME.LEVEL_CTL.L_LEVEL.key / 4096) = true := s.present_of_role hr (by decide)
  simp [execLLevelWrite, s.command_eq hup, hp, hc, Nat.not_lt.2 hv]

/-- Settles O11: loads, the fall of BEAT_LOCK, the write of L_LEVEL and the slew, each by its command's meaning. -/
theorem beatCounterLoadsSlewsAndLevelIsWritten : Obligations.BeatCounterLoadsSlewsAndLevelIsWritten := by
  refine ⟨?loads, ?standing, ?ignored, ?lockFall, ?level, ?slew⟩
  case loads =>
    intro s seed hr hc
    rw [exec_beatLoad, execBeatLoad_taken hr hc]
    exact ⟨_, rfl, (State.count_bump _ _).trans (s.loadBeat_count seed), fun hc => (State.bump_beat _ _).trans (s.loadBeat_beat seed hc)⟩
  case standing =>
    intro s seed hr
    rw [exec_beatLoad, execBeatLoad_standing hr]
  case ignored =>
    intro s seed hr hc
    rw [exec_beatLoad, execBeatLoad_ignored hr hc]
    exact ⟨_, rfl, State.bump_beat _ _, s.get_bump_same TIME.SEED_STAT.IGNORED_LOADS (by decide)⟩
  case lockFall =>
    intro s hd hr
    cases hb : s.chip.stopped.getLsbD 3
    · have hrun : s.beatRuns = true := s.beatRuns_iff.2 ⟨hd, hr, hb⟩
      obtain ⟨hbeat, hlock, hraised⟩ := s.sampleLock_spec
      exact ⟨s.sampleLock, by simp [exec_beatLockFall, execBeatLockFall, hd, hr, hrun], hbeat, hlock, hraised⟩
    · have hrun : s.beatRuns = false := by simp [State.beatRuns, hb]
      exact ⟨{ s with chip := { s.chip with lockFell := true } }, by simp [exec_beatLockFall, execBeatLockFall, hd, hr, hrun], rfl, rfl, rfl⟩
  case level =>
    intro s v hup hr hc hv
    rw [exec_lLevelWrite, execLLevelWrite_taken hup hr hc hv]
    exact ⟨_, rfl, (s.get_put_same _ _ (by decide)).trans (Nat.mod_eq_of_lt v.isLt)⟩
  case slew =>
    intro s now hr hc hp hd
    obtain ⟨b, e⟩ := s.at_whole now hc
    have hdir : ({ s with beat := b } : State).on TIME.SLEW_STAT.DIR = s.on TIME.SLEW_STAT.DIR := rfl
    rw [e] at hd ⊢
    rw [exec_slewStep, execSlewStep_due e hr hc hp hd]
    refine ⟨_, rfl, State.slewed_pending _, ?_⟩
    rw [State.slewed_beat, State.slewed_nextSlew, hdir]
    split <;> exact ⟨rfl, rfl⟩

end Sys2Proof.Machine
end

section
/-!
PROOFS. The die port (R40 to R48): transfers taken, the two message ports, and early reads with their verdicts and squashes (R230, R231).
-/

namespace Sys2Proof.Machine

/-! ### Events leave the rest of the state alone (R244, R248) -/

/-- From `s` to `t` registers change, and nothing else. -/
def RegsOnly (s t : State) : Prop := ∃ r, t = { s with regs := r }

theorem RegsOnly.refl (s : State) : RegsOnly s s := ⟨s.regs, rfl⟩
theorem RegsOnly.put {s t : State} (h : RegsOnly s t) (f : Field) (v : Nat) : RegsOnly s (t.put f v) := by
  obtain ⟨r, rfl⟩ := h
  exact ⟨_, rfl⟩
theorem RegsOnly.bump {s t : State} (h : RegsOnly s t) (f : Field) : RegsOnly s (t.bump f) := h.put f _

theorem RegsOnly.deliver {s t : State} (h : RegsOnly s t) (p b v : Nat) (fo : Bool) : RegsOnly s (t.deliver p b v fo) := by
  have h1 : RegsOnly s ((t.put (PAGE.EVT_STAT p) (setBit (t.get (PAGE.EVT_STAT p)) b)).bump (PAGE.PAGE_STAT.EVT_COUNT p)) :=
    (h.put _ _).bump _
  unfold State.deliver
  dsimp only
  split
  · exact h1
  · exact (((h1.put _ _).put _ _).put _ _).put _ _

/-- Raising an event changes registers, and what waits in the event crossings. -/
theorem State.raise_eq (s : State) (e : Event) (v : Nat) : ∃ r c, s.raise e v = { s with regs := r, chip := c } := by
  have ofRegs : ∀ {c : Chip} {t : State}, RegsOnly { s with chip := c } t → ∃ r c, t = { s with regs := r, chip := c } :=
    fun {c} _ ⟨r, h⟩ => ⟨r, c, h⟩
  unfold State.raise State.overrun
  split
  · exact ofRegs (c := s.chip) ((RegsOnly.refl s).deliver ..)
  split
  · exact ⟨s.regs, s.chip, rfl⟩
  split
  · split
    · exact ofRegs (c := s.chip) (((RegsOnly.refl s).put ..).deliver ..)
    · exact ⟨s.regs, _, rfl⟩
  · exact ofRegs ((RegsOnly.refl _).deliver ..)

@[simp] theorem State.raise_lnk (s : State) (e : Event) (v : Nat) : (s.raise e v).lnk = s.lnk := by
  obtain ⟨_, _, h⟩ := s.raise_eq e v; rw [h]
@[simp] theorem State.raise_txn (s : State) (e : Event) (v : Nat) : (s.raise e v).txn = s.txn := by
  obtain ⟨_, _, h⟩ := s.raise_eq e v; rw [h]
@[simp] theorem State.raise_inp (s : State) (e : Event) (v : Nat) : (s.raise e v).inp = s.inp := by
  obtain ⟨_, _, h⟩ := s.raise_eq e v; rw [h]
@[simp] theorem State.raise_pwr (s : State) (e : Event) (v : Nat) : (s.raise e v).pwr = s.pwr := by
  obtain ⟨_, _, h⟩ := s.raise_eq e v; rw [h]
@[simp] theorem State.raise_cal (s : State) (e : Event) (v : Nat) : (s.raise e v).cal = s.cal := by
  obtain ⟨_, _, h⟩ := s.raise_eq e v; rw [h]

@[simp] theorem State.get_setLnk (s : State) (f : Link → Link) (g : Field) : (s.setLnk f).get g = s.get g := rfl
@[simp] theorem State.get_setTxn (s : State) (f : Txns → Txns) (g : Field) : (s.setTxn f).get g = s.get g := rfl
@[simp] theorem State.get_setPwr (s : State) (f : Power → Power) (g : Field) : (s.setPwr f).get g = s.get g := rfl

/-! ### Answers for the die (R171, R231) -/

/-- The SQUASHED answer to a request as it goes to the die: a header alone. -/
def squashedItem (q : Hdr) (resv : Nat) : DpoItem :=
  { hdr := respHdr q .squashed, first := true, units := [], last := true, tent := false, seq := 0, credit := false, resv := resv }

theorem State.answerDie_squashed (s : State) (q : Hdr) (resv : Nat) : s.answerDie q .squashed resv = s.present' [squashedItem q resv] := by
  have hl : (respHdr q .squashed).len = 0 := by simp [respHdr]
  simp [State.answerDie, hl, lenBytes, State.undefUnits, pieceItems, squashedItem]

/-- A transfer that is presented waits for the die, behind whatever must go before it. -/
theorem State.mem_present' (s : State) (l : List DpoItem) {i : DpoItem} (h : i ∈ l) :
    ∃ j ∈ (s.present' l).lnk.dpoQ, j.hdr = i.hdr := by
  simp only [State.present', State.setLnk, List.mem_append]
  split
  · exact ⟨_, .inr (List.mem_map_of_mem h), rfl⟩
  · exact ⟨i, .inr h, rfl⟩

@[simp] theorem State.present'_txn (s : State) (l : List DpoItem) : (s.present' l).txn = s.txn := rfl
@[simp] theorem State.present'_txQ (s : State) (l : List DpoItem) : (s.present' l).lnk.txQ = s.lnk.txQ := rfl

/-- The SQUASHED answer of an early read waits for the die, its entry has ended, and the transmit path is as it was (R231). -/
theorem State.answerSquashed_spec (s : State) (e : EarlyRead) :
    Sparse.find (s.answerSquashed e).txn.early e.hdr.tag = none ∧ (s.answerSquashed e).lnk.txQ = s.lnk.txQ ∧
      ∃ i ∈ (s.answerSquashed e).lnk.dpoQ, i.hdr.tag = e.hdr.tag ∧ i.hdr.status = Status.squashed.code := by
  unfold State.answerSquashed
  rw [State.answerDie_squashed]
  obtain ⟨i, hi, hh⟩ := State.mem_present' (s.setTxn fun t => { t with early := Sparse.set e.hdr.tag none t.early })
    [squashedItem e.hdr e.hdr.resv] (List.mem_singleton.2 rfl)
  exact ⟨by simp [State.setTxn], rfl, i, hi, by rw [hh]; exact ⟨rfl, rfl⟩⟩

/-! ### Verdicts (R47, R48, R230, R231) -/

theorem exec_dirVerdict (tag : BitVec 12) (dirty : Bool) (s : State) : exec (.dirVerdict tag dirty) s = execDirVerdict tag dirty s := rfl
theorem exec_squashRx (s : State) : exec .squashRx s = execSquashRx s := rfl

/-- The H-end's verdict port acts: its clock runs, and the end is out of die reset (R70). -/
def State.verdictPort (s : State) : Prop := s.chip.dieRst = false ∧ s.isH = true ∧ s.clkOn 1 = true

/-- A verdict on an early read that has none yet is applied to it. -/
theorem execDirVerdict_read {s : State} (hp : s.verdictPort) {tag : BitVec 12} {e : EarlyRead} (he : Sparse.find s.txn.early tag.toNat = some e)
    (hv : e.verdict = none) (dirty : Bool) : execDirVerdict tag dirty s = .next (s.verdict e dirty) := by
  obtain ⟨hd, hh, hc⟩ := hp
  simp [execDirVerdict, hd, hh, hc, he, hv]

/-- A verdict without an early read that waits for one is an orphan (R48). -/
theorem execDirVerdict_orphan {s : State} (hp : s.verdictPort) {tag : BitVec 12}
    (he : ∀ e, Sparse.find s.txn.early tag.toNat = some e → e.verdict ≠ none) (dirty : Bool) :
    execDirVerdict tag dirty s = .next (s.raise EV.TXN.DIR_ORPHAN tag.toNat) := by
  obtain ⟨hd, hh, hc⟩ := hp
  cases hf : Sparse.find s.txn.early tag.toNat with
  | none => simp [execDirVerdict, hd, hh, hc, hf]
  | some e => simp [execDirVerdict, hd, hh, hc, hf, Option.isNone_iff_eq_none, he e hf]

/-- A read of the transmit path that waits for the verdict on a tag. -/
def TxItem.waitsFor (tag : Nat) (t : TxItem) : Bool := t.held && t.hdr.tag == tag

/-- The read goes on its way, no longer early (R230). -/
def TxItem.released (t : TxItem) : TxItem := { t with held := false, hdr := { t.hdr with attr := clearBit t.hdr.attr 0 } }

/-- A clear verdict sends a read that was held (R230). -/
theorem State.verdict_clear_held (s : State) (e : EarlyRead) (h : e.held = true) :
    Sparse.find (s.verdict e false).txn.early e.hdr.tag = none ∧
      (s.verdict e false).lnk.txQ = s.lnk.txQ.map fun t => if t.waitsFor e.hdr.tag then t.released else t := by
  simp only [State.verdict, h, if_true, Bool.false_eq_true, if_false]
  exact ⟨by simp [State.setLnk, State.setTxn], rfl⟩

/-- A dirty verdict answers a read that was held SQUASHED, and it is not sent (R230, R231). -/
theorem State.verdict_dirty_held (s : State) (e : EarlyRead) (h : e.held = true) :
    Sparse.find (s.verdict e true).txn.early e.hdr.tag = none ∧
      (s.verdict e true).lnk.txQ = s.lnk.txQ.filter (fun t => !t.waitsFor e.hdr.tag) ∧
      ∃ i ∈ (s.verdict e true).lnk.dpoQ, i.hdr.tag = e.hdr.tag ∧ i.hdr.status = Status.squashed.code := by
  simp only [State.verdict, h, if_true]
  exact State.answerSquashed_spec _ e

/-- A verdict on a read that was sent, and whose response is still to come, is kept; a dirty one goes on to the M-end as SQUASH (R230, R231). -/
theorem State.verdict_clear_sent (s : State) (e : EarlyRead) (h : e.held = false) (hr : e.resp = none) :
    s.verdict e false = s.setTxn fun t => { t with early := Sparse.set e.hdr.tag (some { e with verdict := some false }) t.early } := by
  simp [State.verdict, h, hr]
theorem State.verdict_dirty_sent (s : State) (e : EarlyRead) (h : e.held = false) (hr : e.resp = none) :
    s.verdict e true =
      ((s.bump TXN.SPEC_STAT_HI.SQUASHED).setLnk fun k => { k with msgQ := linkMsg 4 e.hdr.tag :: k.msgQ }).setTxn fun t =>
        { t with early := Sparse.set e.hdr.tag (some { e with verdict := some true }) t.early } := by
  simp [State.verdict, h, hr]

/-! ### SQUASH received (R231) -/

/-- A response to a tag whose header is still to be sent. -/
def TxItem.answers (tag : Nat) (t : TxItem) : Bool := t.fresh && t.hdr.isResponse && t.hdr.tag == tag

/-- The response with its data withdrawn: SQUASHED (R231). -/
def TxItem.squashed (t : TxItem) : TxItem :=
  { t with hdr := { t.hdr with op := Op.cpl.code, len := 0, status := Status.squashed.code, attr := 0, opd := 0 }, slots := [] }

/-- A SQUASH meets the response in the transmit path, the response while it is taken from the die, the read itself, or nothing. -/
theorem execSquashRx_eq {s : State} {m : Nat} (h : s.linkHead 4 = some m) :
    execSquashRx s = .next
      (let tag := bits m 8 12
       if s.lnk.txQ.any (TxItem.answers tag) then
         s.linkDone.setLnk fun k => { k with txQ := k.txQ.map (fun t => if t.answers tag then t.squashed else t) }
       else if s.lnk.txCur.any (fun c => c.1 == .send && c.2.answers tag) then
         s.linkDone.setLnk fun k =>
           { k with txQ := k.txQ ++ (k.txCur.map (fun c => c.2.squashed)).toList, txCur := k.txCur.map (fun c => (.sink, c.2)) }
       else if s.holdsRead tag then
         s.linkDone.setTxn fun t => { t with squashed := if t.squashed.contains tag then t.squashed else tag :: t.squashed }
       else s.linkDone.bump TXN.SPEC_STAT_HI.SQUASH_LATE) := by
  simp only [execSquashRx, h]
  rfl

@[simp] theorem State.linkDone_linkQ (s : State) : s.linkDone.lnk.linkQ = s.lnk.linkQ.drop 1 := rfl
@[simp] theorem State.linkDone_txQ (s : State) : s.linkDone.lnk.txQ = s.lnk.txQ := rfl
@[simp] theorem State.linkDone_txCur (s : State) : s.linkDone.lnk.txCur = s.lnk.txCur := rfl
@[simp] theorem State.linkDone_txn (s : State) : s.linkDone.txn = s.txn := rfl
@[simp] theorem State.linkDone_get (s : State) (f : Field) : s.linkDone.get f = s.get f := rfl

/-- The one read of the transmit path that waits for a tag goes on its way, and every other item stays as it is. -/
theorem TxItem.map_released (tag : Nat) (a b : List TxItem) (i : TxItem) (hi : i.waitsFor tag = true)
    (ho : ∀ j ∈ a ++ b, j.waitsFor tag = false) :
    (a ++ i :: b).map (fun t => if t.waitsFor tag then t.released else t) = a ++ i.released :: b := by
  have keep : ∀ l : List TxItem, (∀ j ∈ l, j.waitsFor tag = false) → l.map (fun t => if t.waitsFor tag then t.released else t) = l :=
    fun l hl => (List.map_congr_left fun j hj => by simp [hl j hj]).trans (List.map_id l)
  rw [List.map_append, List.map_cons, if_pos hi, keep a fun j hj => ho j (List.mem_append_left b hj),
    keep b fun j hj => ho j (List.mem_append_right a hj)]

/-- Settles O20: verdicts by whether the read was held or sent, and SQUASH by where it meets the read. -/
theorem verdictsAndSquashesDecideEarlyReads : Obligations.VerdictsAndSquashesDecideEarlyReads := by
  refine ⟨?orphan, ?clearHeld, ?dirtyHeld, ?clearSent, ?dirtySent, ?inPath, ?beingTaken, ?atRead, ?late⟩
  case orphan =>
    intro s tag dirty hd hh hc he
    rw [exec_dirVerdict, execDirVerdict_orphan ⟨hd, hh, hc⟩ he]
    exact ⟨_, rfl, State.raise_txn .., State.raise_lnk .., State.raise_raised _ _ _ (by decide)⟩
  case clearHeld =>
    intro s tag e hd hh hc he hv ht hheld
    rw [exec_dirVerdict, execDirVerdict_read ⟨hd, hh, hc⟩ he hv, ← ht]
    obtain ⟨hfind, hq⟩ := s.verdict_clear_held e hheld
    refine ⟨_, rfl, hfind, fun a b i hs hi htag hother => ?_⟩
    rw [hq, hs]
    refine TxItem.map_released _ a b i (by simp [TxItem.waitsFor, hi, htag, ht]) fun j hj => ?_
    have := hother j hj
    simpa [TxItem.waitsFor, ht] using this
  case dirtyHeld =>
    intro s tag e hd hh hc he hv ht hheld
    rw [exec_dirVerdict, execDirVerdict_read ⟨hd, hh, hc⟩ he hv, ← ht]
    obtain ⟨hfind, hq, i, hi, htag, hst⟩ := s.verdict_dirty_held e hheld
    exact ⟨_, i, rfl, hfind, hq, hi, htag, hst⟩
  case clearSent =>
    intro s tag e hd hh hc he hv ht hheld hresp
    rw [exec_dirVerdict, execDirVerdict_read ⟨hd, hh, hc⟩ he hv, s.verdict_clear_sent e hheld hresp, ← ht]
    exact ⟨_, rfl, by simp [State.setTxn], rfl⟩
  case dirtySent =>
    intro s tag e hd hh hc he hv ht hheld hresp
    rw [exec_dirVerdict, execDirVerdict_read ⟨hd, hh, hc⟩ he hv, s.verdict_dirty_sent e hheld hresp, ← ht]
    exact ⟨_, rfl, by simp [State.setTxn], rfl,
      (State.get_setTxn ..).trans ((State.get_setLnk ..).trans (s.get_bump_same TXN.SPEC_STAT_HI.SQUASHED (by decide)))⟩
  case inPath =>
    intro s m i hm hq hf hr ht
    have ha : i.answers (bits m 8 12) = true := by simp [TxItem.answers, hf, hr, ht]
    rw [exec_squashRx, execSquashRx_eq hm]
    refine ⟨_, i.squashed, rfl, ?_⟩
    simp [hq, ha, State.setLnk, TxItem.squashed]
  case beingTaken =>
    intro s m i hm hq hcur hf hr ht
    have ha : i.answers (bits m 8 12) = true := by simp [TxItem.answers, hf, hr, ht]
    rw [exec_squashRx, execSquashRx_eq hm]
    refine ⟨_, i.squashed, rfl, ?_⟩
    simp [hq, hcur, ha, State.setLnk, TxItem.squashed]
  case atRead =>
    intro s m hm hq hcur hr
    rw [exec_squashRx, execSquashRx_eq hm]
    refine ⟨_, rfl, ?_⟩
    simp only [hq, hcur, hr, List.any_nil, Option.any_none, Bool.false_eq_true, if_false, if_true]
    refine ⟨rfl, ?_⟩
    simp only [State.setTxn, List.contains_eq_mem]
    split
    · rename_i h
      exact of_decide_eq_true h
    · exact List.mem_cons_self
  case late =>
    intro s m hm hq hcur hr
    rw [exec_squashRx, execSquashRx_eq hm]
    refine ⟨_, rfl, ?_⟩
    simp only [hq, hcur, hr, List.any_nil, Option.any_none, Bool.false_eq_true, if_false]
    exact ⟨by rw [State.bump_lnk, State.linkDone_linkQ], by rw [State.bump_txn, State.linkDone_txn], by rw [CountedOne, State.get_bump_same _ _ (by decide), State.linkDone_get]⟩

end Sys2Proof.Machine
end

section
/-!
PROOFS. The die port (R40 to R45): what the die takes from it, and the two message ports.
-/

namespace Sys2Proof.Machine

theorem RegsOnly.trans {s t u : State} (h : RegsOnly s t) (h' : RegsOnly t u) : RegsOnly s u := by
  obtain ⟨r, rfl⟩ := h
  obtain ⟨r', rfl⟩ := h'
  exact ⟨r', rfl⟩
theorem RegsOnly.lnk {s t : State} (h : RegsOnly s t) : t.lnk = s.lnk := by obtain ⟨r, rfl⟩ := h; rfl
theorem RegsOnly.txn {s t : State} (h : RegsOnly s t) : t.txn = s.txn := by obtain ⟨r, rfl⟩ := h; rfl

theorem RegsOnly.foldl {α : Type} {f : State → α → State} (hf : ∀ s x, RegsOnly s (f s x)) (l : List α) (s : State) :
    RegsOnly s (l.foldl f s) := by
  induction l generalizing s with
  | nil => exact .refl s
  | cons x l ih => exact (hf s x).trans (ih _)

theorem exec_dpoTransferTaken (cls : BitVec 2) (s : State) : exec (.dpoTransferTaken cls) s = execDpoTransferTaken cls s := rfl
theorem exec_msgInOffer (cls : BitVec 3) (data : Word) (s : State) : exec (.msgInOffer cls data) s = execMsgInOffer cls data s := rfl
theorem exec_msgOutTaken (cls : BitVec 3) (s : State) : exec (.msgOutTaken cls) s = execMsgOutTaken cls s := rfl

/-! ### Transfers taken (R40 to R42) -/

/-- Confirms that are presented change the trace and the list of those that wait. -/
theorem State.sendCnf_eq (s : State) (l : List Nat) : ∃ o w, s.sendCnf l = { s with out := o, lnk := { s.lnk with cnfWait := w } } := by
  induction l generalizing s with
  | nil => exact ⟨s.out, [], rfl⟩
  | cons q l ih =>
    unfold State.sendCnf
    split
    · exact ⟨s.out, q :: l, rfl⟩
    · obtain ⟨o, w, h⟩ := ih (s.emit (.cnf false q))
      exact ⟨o, w, h⟩

/-- The port once it has presented a transfer: the rest of the queue, the lock, and the confirms that waited for the transfer (R40, R42). -/
def State.offPort (s : State) (i : DpoItem) (q : List DpoItem) : State :=
  let s1 := s.setLnk fun k => { k with dpoQ := q, dpoLock := if i.last then none else if i.first then some i.hdr else k.dpoLock }
  if i.cnf then s1.sendCnf s1.lnk.cnfWait else s1

/-- What leaving the port changes: the trace, the queue, the lock and the confirms that wait. -/
theorem State.offPort_eq (s : State) (i : DpoItem) (q : List DpoItem) :
    ∃ o l w, s.offPort i q = { s with out := o, lnk := { s.lnk with dpoQ := q, dpoLock := l, cnfWait := w } } := by
  unfold State.offPort
  dsimp only
  split
  · obtain ⟨o, w, h⟩ := State.sendCnf_eq
      (s.setLnk fun k => { k with dpoQ := q, dpoLock := if i.last then none else if i.first then some i.hdr else k.dpoLock }) s.lnk.cnfWait
    exact ⟨o, _, w, h⟩
  · exact ⟨s.out, _, s.lnk.cnfWait, rfl⟩

@[simp] theorem State.offPort_dpoQ (s : State) (i : DpoItem) (q : List DpoItem) : (s.offPort i q).lnk.dpoQ = q := by
  obtain ⟨_, _, _, h⟩ := s.offPort_eq i q; rw [h]
@[simp] theorem State.offPort_txn (s : State) (i : DpoItem) (q : List DpoItem) : (s.offPort i q).txn = s.txn := by
  obtain ⟨_, _, _, h⟩ := s.offPort_eq i q; rw [h]
@[simp] theorem State.offPort_chip (s : State) (i : DpoItem) (q : List DpoItem) : (s.offPort i q).chip = s.chip := by
  obtain ⟨_, _, _, h⟩ := s.offPort_eq i q; rw [h]
@[simp] theorem State.offPort_regs (s : State) (i : DpoItem) (q : List DpoItem) : (s.offPort i q).regs = s.regs := by
  obtain ⟨_, _, _, h⟩ := s.offPort_eq i q; rw [h]

/-- A tentative transfer is taken: its effect waits for the confirm of its flit (R41). -/
theorem execDpoTransferTaken_tentative {s : State} (hd : s.chip.dieRst = false) (hc : s.clkOn 1 = true) {cls : BitVec 2} {i : DpoItem}
    {q : List DpoItem} (hp : s.pickItem cls.toNat [] s.lnk.dpoQ = some (i, q)) (ht : i.tent = true) :
    execDpoTransferTaken cls s = .next ((s.offPort i q).setLnk fun k => { k with dpoTaken := k.dpoTaken ++ [i] }) := by
  simp only [execDpoTransferTaken, State.takeItem, hd, hc, hp, ht]
  rfl

/-- A confirmed transfer is taken, and has its effect at once (R40). -/
theorem execDpoTransferTaken_confirmed {s : State} (hd : s.chip.dieRst = false) (hc : s.clkOn 1 = true) {cls : BitVec 2} {i : DpoItem}
    {q : List DpoItem} (hp : s.pickItem cls.toNat [] s.lnk.dpoQ = some (i, q)) (ht : i.tent = false) :
    execDpoTransferTaken cls s = .next ((s.offPort i q).finishItem i) := by
  simp only [execDpoTransferTaken, State.takeItem, hd, hc, hp, ht]
  rfl

/-- The last transfer of a response ends its request and frees the landing entries held for it (R205, R212). -/
theorem State.finishItem_response (s : State) {i : DpoItem} (hr : i.hdr.isResponse = true) (hl : i.last = true) :
    s.finishItem i =
      (s.setTxn fun t => { t with outT := Sparse.set i.hdr.tag none t.outT }).put CREDIT.RSP_STAT.FREE (s.get CREDIT.RSP_STAT.FREE + i.resv) := by
  simp [State.finishItem, hr, hl]

theorem State.freeCredit_regsOnly (s : State) (k n : Nat) : RegsOnly s (s.freeCredit k n) := by
  unfold State.freeCredit
  split
  · exact .refl s
  · exact (RegsOnly.refl s).put _ _

theorem State.freeRequest_regsOnly (s : State) (h : Hdr) : RegsOnly s (s.freeRequest h) := by
  unfold State.freeRequest
  split
  · exact RegsOnly.foldl (fun s _ => s.freeCredit_regsOnly _ _) _ s
  · exact .refl s

/-- A write noted against the operands read before leaves the streams, and the requests that the die holds. -/
theorem State.noteWrite_port (s : State) (g : Nat) : (s.noteWrite g).lnk = s.lnk ∧ (s.noteWrite g).txn.served = s.txn.served := by
  unfold State.noteWrite
  split
  · exact ⟨rfl, rfl⟩
  · dsimp only
    split
    · exact ⟨rfl, rfl⟩
    · split
      · exact ⟨rfl, rfl⟩
      · exact ⟨by rw [State.bump_lnk]; rfl, by rw [State.bump_txn]; rfl⟩

theorem State.foldl_noteWrite_port (gs : List Nat) (s : State) :
    (gs.foldl State.noteWrite s).lnk = s.lnk ∧ (gs.foldl State.noteWrite s).txn.served = s.txn.served := by
  induction gs generalizing s with
  | nil => exact ⟨rfl, rfl⟩
  | cons g gs ih =>
    obtain ⟨hl, hs⟩ := ih (s.noteWrite g)
    obtain ⟨hl', hs'⟩ := s.noteWrite_port g
    exact ⟨hl.trans hl', hs.trans hs'⟩

/-- The first transfer of a request that wants an answer is taken: the die holds the request until it answers (R214). -/
theorem State.finishItem_request (s : State) {i : DpoItem} (hr : i.hdr.isResponse = false) (hp : i.hdr.isPosted = false) (hf : i.first = true)
    (hc : s.colDead = false) :
    (s.finishItem i).lnk = s.lnk ∧ Sparse.find (s.finishItem i).txn.served i.hdr.tag = some i.hdr := by
  have hcond : (i.first && !i.hdr.isPosted && !s.colDead) = true := by simp [hf, hp, hc]
  simp only [State.finishItem, hr, hcond, if_true, Bool.false_eq_true, if_false]
  generalize h1 : (s.setTxn fun t => { t with served := Sparse.set i.hdr.tag (some i.hdr) t.served }) = s1
  have hs1 : s1.lnk = s.lnk ∧ Sparse.find s1.txn.served i.hdr.tag = some i.hdr := by
    subst h1
    exact ⟨rfl, by simp [State.setTxn]⟩
  generalize h2 : (if (i.first && s.isM && i.hdr.writesMemory) = true then
    (granules i.hdr.byteAddr i.hdr.bytes).foldl State.noteWrite s1 else s1) = s2
  have hs2 : s2.lnk = s.lnk ∧ Sparse.find s2.txn.served i.hdr.tag = some i.hdr := by
    subst h2
    split
    · obtain ⟨hl, hs⟩ := State.foldl_noteWrite_port (granules i.hdr.byteAddr i.hdr.bytes) s1
      rw [hl, hs]
      exact hs1
    · exact hs1
  split
  · rw [(s2.freeRequest_regsOnly i.hdr).lnk, (s2.freeRequest_regsOnly i.hdr).txn]
    exact hs2
  · exact hs2

/-! ### Message ports (R44, R45, R203) -/

/-- The message port takes offers: its clock runs on an end with a role, in service, and no Col reset has settled the Col (R45). -/
def State.msgPort (s : State) : Prop :=
  s.chip.dieRst = false ∧ s.role ≠ 0 ∧ s.clkOn 1 = true ∧ s.colIn inService = true ∧ s.preReset = false

/-- A message offered: a class that does not exist, one without credits at all, or one with a credit in hand. -/
theorem execMsgInOffer_badClass {s : State} (hp : s.msgPort) {cls : BitVec 3} (hc : cls.toNat = 2 ∨ 5 ≤ cls.toNat) (data : Word) :
    execMsgInOffer cls data s = .next (s.raise EV.CTRL.MSG_CLASS_BAD cls.toNat) := by
  obtain ⟨hd, hr, hk, hs, hq⟩ := hp
  have h2 : cls = 2 ↔ cls.toNat = 2 := ⟨fun h => by rw [h]; rfl, fun h => BitVec.eq_of_toNat_eq h⟩
  simp only [execMsgInOffer, h2, if_pos hc]
  simp [hd, hr, hk, hs, hq]

theorem msgClass_exists {cls : BitVec 3} (hc : cls.toNat ∈ [0, 1, 3, 4]) : ¬ (cls = 2 ∨ 5 ≤ cls.toNat) := by
  simp only [List.mem_cons, List.not_mem_nil, or_false] at hc
  rintro (rfl | h)
  · revert hc; decide
  · omega

theorem execMsgInOffer_lost {s : State} (hp : s.msgPort) {cls : BitVec 3} (hc : cls.toNat ∈ [0, 1, 3, 4])
    (ha : s.get (CREDIT.TX_STAT.ADV (msgIdx cls.toNat)) = 0) (data : Word) :
    execMsgInOffer cls data s = .next ((s.bump CTRL.FAIL_STAT.MSG_LOST).raise EV.CTRL.MSG_LOST 1) := by
  obtain ⟨hd, hr, hk, hs, hq⟩ := hp
  simp only [execMsgInOffer, if_neg (msgClass_exists hc)]
  simp [hd, hr, hk, hs, hq, ha]

theorem execMsgInOffer_taken {s : State} (hp : s.msgPort) {cls : BitVec 3} (hc : cls.toNat ∈ [0, 1, 3, 4])
    (ha : 0 < s.avail (msgIdx cls.toNat)) (data : Word) :
    execMsgInOffer cls data s =
      .next ((s.consume (msgIdx cls.toNat) 1).setLnk fun l => { l with msgQ := l.msgQ ++ [data.toNat / 8 * 8 + cls.toNat] }) := by
  obtain ⟨hd, hr, hk, hs, hq⟩ := hp
  have hadv : s.get (CREDIT.TX_STAT.ADV (msgIdx cls.toNat)) ≠ 0 := by
    unfold State.avail at ha; omega
  simp only [execMsgInOffer, if_neg (msgClass_exists hc), if_neg hadv, if_neg (Nat.ne_of_gt ha)]
  simp [hd, hr, hk, hs, hq]

/-- Consuming credits moves CONS, modulo 2^16 (R202). -/
theorem State.get_consume_cons (s : State) (k n : Nat) :
    (s.consume k n).get (CREDIT.TX_STAT.CONS k) = (s.get (CREDIT.TX_STAT.CONS k) + n) % 2 ^ 16 := by
  rw [State.consume, State.refreshAvail, State.get_put_apart _ _ (by simp [CREDIT.TX_STAT.CONS, CREDIT.TX_STAT.AVAIL]),
    State.get_put_same _ _ _ (by simp [CREDIT.TX_STAT.CONS])]
  rfl

/-- The oldest message of a class leaves for the die, and its credit is to be returned (R44, R203). -/
theorem execMsgOutTaken_message {s : State} (hd : s.chip.dieRst = false) (hc : s.clkOn 1 = true) {cls : BitVec 3} {m : Nat}
    (hm : s.lnk.msgOut.find? (fun m => msgClass m == cls.toNat) = some m) :
    execMsgOutTaken cls s = .next ((s.setLnk fun l => { l with msgOut := l.msgOut.erase m }).freeCredit (msgIdx cls.toNat) 1) := by
  simp [execMsgOutTaken, hd, hc, hm]

theorem State.get_freeCredit (s : State) (k : Nat) {n : Nat} (hn : n ≠ 0) :
    (s.freeCredit k n).get (CREDIT.RX_STAT.RETURNED k) = (s.get (CREDIT.RX_STAT.RETURNED k) + n) % 2 ^ 16 := by
  rw [State.freeCredit, if_neg hn, State.get_put_same _ _ _ (by simp [CREDIT.RX_STAT.RETURNED])]
  rfl

/-- Settles O19: transfers by what is taken of what, and messages by their class and credits. -/
theorem transfersAndMessagesPassTheDiePort : Obligations.TransfersAndMessagesPassTheDiePort := by
  refine ⟨?tentative, ?response, ?request, ?badClass, ?lost, ?taken, ?out⟩
  case tentative =>
    intro s cls i q hd hc hp ht hn
    rw [exec_dpoTransferTaken, execDpoTransferTaken_tentative hd hc hp ht]
    simp only [State.offPort, hn, Bool.false_eq_true, if_false]
    exact ⟨_, rfl, rfl, rfl, rfl, rfl⟩
  case response =>
    intro s cls i q hd hc hp ht hr hf hl
    rw [exec_dpoTransferTaken, execDpoTransferTaken_confirmed hd hc hp ht, State.finishItem_response _ hr hl]
    refine ⟨_, rfl, ?_, ?_, ?_⟩
    · rw [State.put_lnk]; exact State.offPort_dpoQ ..
    · rw [State.put_txn]; simp [State.setTxn]
    · rw [State.get_put_same _ _ _ (by decide), State.get_congr (State.offPort_regs ..)]; rfl
  case request =>
    intro s cls i q hd hc hp ht hr hpost hf hdead
    rw [exec_dpoTransferTaken, execDpoTransferTaken_confirmed hd hc hp ht]
    have hdead' : (s.offPort i q).colDead = false := by
      simpa [State.colDead, State.colIn, State.preReset] using hdead
    obtain ⟨hl, hfind⟩ := State.finishItem_request _ hr hpost hf hdead'
    exact ⟨_, rfl, hl ▸ State.offPort_dpoQ .., hfind⟩
  case badClass =>
    intro s cls data hd hr hk hs hq hc
    rw [exec_msgInOffer, execMsgInOffer_badClass ⟨hd, hr, hk, hs, hq⟩ hc]
    exact ⟨_, rfl, State.raise_lnk .., State.raise_raised _ _ _ (by decide)⟩
  case lost =>
    intro s cls data hd hr hk hs hq hc ha
    rw [exec_msgInOffer, execMsgInOffer_lost ⟨hd, hr, hk, hs, hq⟩ hc ha]
    refine ⟨_, rfl, (State.raise_lnk ..).trans (State.bump_lnk ..), ?_, State.raise_raised _ _ _ (by decide)⟩
    rw [CountedOne, State.raise_get _ _ _ _ (by decide), State.get_bump_same _ _ (by decide)]
  case taken =>
    intro s cls data hd hr hk hs hq hc ha
    rw [exec_msgInOffer, execMsgInOffer_taken ⟨hd, hr, hk, hs, hq⟩ hc ha]
    exact ⟨_, rfl, rfl, (State.get_setLnk ..).trans (State.get_consume_cons ..)⟩
  case out =>
    intro s cls m hd hc hm
    rw [exec_msgOutTaken, execMsgOutTaken_message hd hc hm]
    refine ⟨_, rfl, ?_, (State.get_freeCredit _ _ (by decide)).trans rfl⟩
    rw [(State.freeCredit_regsOnly ..).lnk]
    rfl

end Sys2Proof.Machine
end

section
/-!
PROOFS. Registers read page by page; die reset and the fuses (R53, R64 to R67, R69, R266).
-/

namespace Sys2Proof.Machine

/-! ### Registers of some pages -/

/-- From `s` to `t` registers of the pages `ps` alone change. -/
def OnPages (ps : List Nat) (s t : State) : Prop := ∀ k, k / 4096 ∉ ps → t.reg k = s.reg k

section
variable {ps : List Nat} {s t u : State}

theorem OnPages.of_regs (h : t.regs = s.regs) : OnPages ps s t := fun k _ => State.reg_congr h k
theorem OnPages.refl (ps : List Nat) (s : State) : OnPages ps s s := .of_regs rfl
theorem OnPages.trans (h : OnPages ps s t) (h' : OnPages ps t u) : OnPages ps s u := fun k hk => (h' k hk).trans (h k hk)
theorem OnPages.mono {qs : List Nat} (h : OnPages ps s t) (hs : ∀ p ∈ ps, p ∈ qs) : OnPages qs s t := fun k hk => h k fun hp => hk (hs _ hp)

theorem State.setReg_onPages (s : State) {k : Nat} (w : Word) (hp : k / 4096 ∈ ps) : OnPages ps s (s.setReg k w) :=
  fun _ hk => s.setReg_reg_ne w fun h => hk (h ▸ hp)
theorem State.put_onPages (s : State) {f : Field} (v : Nat) (hp : f.key / 4096 ∈ ps) : OnPages ps s (s.put f v) := s.setReg_onPages _ hp

theorem State.deliver_onPages (s : State) {p : Nat} (b v : Nat) (fo : Bool) (hp : p ∈ ps) : OnPages ps s (s.deliver p b v fo) :=
  fun k hk => by
    have hn : ∀ o < 4096, k ≠ 4096 * p + o := fun o ho h => hk (by rwa [h, Nat.mul_add_div (by decide), Nat.div_eq_of_lt ho])
    exact s.deliver_reg p b v fo k (hn _ (by decide)) (hn _ (by decide)) (hn _ (by decide))

/-- An event of MCLK is delivered at once (R248). -/
theorem State.raise_mclk (s : State) {e : Event} (h : e.dom = 0) (v : Nat) : s.raise e v = s.deliver e.page e.bit v false := if_pos h

theorem OnPages.get (h : OnPages ps s t) {f : Field} (hf : f.key / 4096 ∉ ps) : t.get f = s.get f := by
  simp only [State.get, h _ hf]

/-- The role is read from FUSE_STAT alone. -/
theorem State.role_congr (h : t.reg IDENT.FUSE_STAT.OK.key = s.reg IDENT.FUSE_STAT.OK.key) : t.role = s.role := by
  have hi : t.get IDENT.FUSE_STAT.INVALID = s.get IDENT.FUSE_STAT.INVALID := congrArg (fun w : Word => bits w.toNat _ _) h
  have hr : t.get IDENT.FUSE_STAT.ROLE = s.get IDENT.FUSE_STAT.ROLE := congrArg (fun w : Word => bits w.toNat _ _) h
  unfold State.role State.on
  rw [hi, hr]

theorem OnPages.role (h : OnPages ps s t) (h0 : 0 ∉ ps) : t.role = s.role := State.role_congr (h _ h0)

end

/-! ### Fields of a packed word -/

theorem bits_packLow_head (v w : Nat) (l : List (Nat × Nat)) : bits (packLow ((v, w) :: l)) 0 w = v % 2 ^ w := by
  simp [bits, packLow]

theorem bits_packLow_tail (v w : Nat) (l : List (Nat × Nat)) {lo : Nat} (h : w ≤ lo) (wd : Nat) :
    bits (packLow ((v, w) :: l)) lo wd = bits (packLow l) (lo - w) wd := by
  obtain ⟨d, rfl⟩ := Nat.exists_eq_add_of_le h
  have hd : (v % 2 ^ w + 2 ^ w * packLow l) / 2 ^ w = packLow l := by
    rw [Nat.add_mul_div_left _ _ (Nat.two_pow_pos w), Nat.div_eq_of_lt (Nat.mod_lt _ (Nat.two_pow_pos w)), Nat.zero_add]
  simp only [bits, packLow, Nat.shiftRight_eq_div_pow, Nat.pow_add, ← Nat.div_div_eq_div_mul, hd, Nat.add_sub_cancel_left]

theorem packLow_lt (l : List (Nat × Nat)) : packLow l < 2 ^ (l.map (·.2)).sum := by
  induction l with
  | nil => simp [packLow]
  | cons e l ih =>
    obtain ⟨v, w⟩ := e
    have hv : v % 2 ^ w < 2 ^ w := Nat.mod_lt _ (Nat.two_pow_pos w)
    calc packLow ((v, w) :: l) < 2 ^ w + 2 ^ w * packLow l := Nat.add_lt_add_right hv _
      _ = 2 ^ w * (packLow l + 1) := by ring
      _ ≤ 2 ^ w * 2 ^ (l.map (·.2)).sum := Nat.mul_le_mul_left _ ih
      _ = 2 ^ (((v, w) :: l).map (·.2)).sum := by rw [List.map_cons, List.sum_cons, Nat.pow_add]

/-! ### Fuses (R64, R65) -/

/-- FUSE_STAT as the fuses give it. -/
def fuseWord (f : Fuses) : Nat :=
  packLow [(b2n f.ok, 1), (0, 3), (f.assy.toNat, 4), (f.die.toNat, 4), (f.role.toNat, 2), (0, 2), (f.col.toNat, 6), (0, 2),
    (f.qidEn.toNat, 8), (b2n (fusesBad f), 1)]

theorem fuseWord_role (f : Fuses) : bits (fuseWord f) 12 2 = f.role.toNat := by
  unfold fuseWord
  iterate 4 rw [bits_packLow_tail _ _ _ (by decide)]
  exact (bits_packLow_head ..).trans (Nat.mod_eq_of_lt f.role.isLt)
theorem fuseWord_col (f : Fuses) : bits (fuseWord f) 16 6 = f.col.toNat := by
  unfold fuseWord
  iterate 6 rw [bits_packLow_tail _ _ _ (by decide)]
  exact (bits_packLow_head ..).trans (Nat.mod_eq_of_lt f.col.isLt)
theorem fuseWord_invalid (f : Fuses) : bits (fuseWord f) 32 1 = b2n (fusesBad f) := by
  unfold fuseWord
  iterate 9 rw [bits_packLow_tail _ _ _ (by decide)]
  refine (bits_packLow_head ..).trans (Nat.mod_eq_of_lt ?_)
  cases fusesBad f <;> decide

/-- The QID registers taken one after another leave the chip state and every other register. -/
theorem State.foldl_qid (w : Nat → Word) (l : List Nat) (t : State) :
    (l.foldl (fun t k => t.setReg (IDENT.FUSE_QID.LO k).key (w k)) t).chip = t.chip ∧
      (l.foldl (fun t k => t.setReg (IDENT.FUSE_QID.LO k).key (w k)) t).reg IDENT.FUSE_STAT.OK.key = t.reg IDENT.FUSE_STAT.OK.key := by
  induction l generalizing t with
  | nil => exact ⟨rfl, rfl⟩
  | cons k l ih =>
    obtain ⟨hc, hr⟩ := ih (t.setReg (IDENT.FUSE_QID.LO k).key (w k))
    exact ⟨hc.trans (t.setReg_chip ..), hr.trans (t.setReg_reg_ne _ (by simp only [IDENT.FUSE_QID.LO, IDENT.FUSE_STAT.OK]; omega))⟩

@[simp] theorem State.sampleFuses_chip (s : State) (f : Fuses) : (s.sampleFuses f).chip = s.chip := by
  unfold State.sampleFuses
  exact (State.foldl_qid ..).1.trans (s.setReg_chip ..)

theorem State.sampleFuses_reg (s : State) (f : Fuses) : (s.sampleFuses f).reg IDENT.FUSE_STAT.OK.key = BitVec.ofNat 64 (fuseWord f) := by
  unfold State.sampleFuses
  exact (State.foldl_qid ..).2.trans (s.setReg_reg_same ..)

/-- A field of FUSE_STAT as sampled. -/
theorem State.get_sampleFuses (s : State) (f : Fuses) (lo wd : Nat) :
    (s.sampleFuses f).get ⟨IDENT.FUSE_STAT.OK.key, lo, wd⟩ = bits (fuseWord f) lo wd := by
  have hlt : fuseWord f < 2 ^ 64 := Nat.lt_trans (packLow_lt _) (by simp)
  rw [State.get, State.sampleFuses_reg, BitVec.toNat_ofNat, Nat.mod_eq_of_lt hlt]

/-- The role that sampled fuses give; invalid ones leave the end unused (R65). -/
theorem State.sampleFuses_role (s : State) (f : Fuses) : (s.sampleFuses f).role = if fusesBad f then 0 else f.role.toNat := by
  have hi : (s.sampleFuses f).get IDENT.FUSE_STAT.INVALID = b2n (fusesBad f) := (s.get_sampleFuses f 32 1).trans (fuseWord_invalid f)
  have hr : (s.sampleFuses f).get IDENT.FUSE_STAT.ROLE = f.role.toNat := (s.get_sampleFuses f 12 2).trans (fuseWord_role f)
  simp only [State.role, State.on, hi, hr]
  cases fusesBad f <;> rfl

/-! ### Release steps (R266) -/

theorem State.releaseStep_onPages (s : State) : OnPages [1] s s.releaseStep := by
  unfold State.releaseStep
  dsimp only
  split
  · exact s.put_onPages _ (by decide)
  · exact s.put_onPages (f := RESET.COL_STAT.WAIT_CLK) 0 (by decide)

/-- A release step whose clocks run is done. -/
theorem State.releaseStep_done (s : State) (h : s.chip.stopped &&& s.stepClocks s.chip.released = 0) :
    s.releaseStep.chip =
      { s.chip with released := s.chip.released + 1, clk := s.chip.clk ||| s.stepClocks s.chip.released, releaseAt := none } := by
  simp [State.releaseStep, h]

/-- A release step one of whose clocks stands waits for it. -/
theorem State.releaseStep_waits (s : State) (h : s.chip.stopped &&& s.stepClocks s.chip.released ≠ 0) :
    s.releaseStep.chip = s.chip ∧ s.releaseStep.get RESET.COL_STAT.WAIT_CLK = 1 := by
  simp only [State.releaseStep, if_pos h]
  exact ⟨rfl, s.get_put_same _ _ (by decide)⟩

/-! ### Pins sampled by the first MCLK edge (R31, R61, R428, R431) -/

/-- From `s` to `t` the chip state stays, and no register of a page other than `ps` changes. -/
structure ChipOnPages (ps : List Nat) (s t : State) : Prop where
  chip : t.chip = s.chip
  regs : OnPages ps s t

theorem ChipOnPages.refl (ps : List Nat) (s : State) : ChipOnPages ps s s := ⟨rfl, .refl ps s⟩
theorem ChipOnPages.trans {ps : List Nat} {s t u : State} (h : ChipOnPages ps s t) (h' : ChipOnPages ps t u) : ChipOnPages ps s u :=
  ⟨h'.chip.trans h.chip, h.regs.trans h'.regs⟩
theorem ChipOnPages.setPwr {ps : List Nat} (s : State) (f : Power → Power) : ChipOnPages ps s (s.setPwr f) := ⟨rfl, .of_regs rfl⟩
theorem ChipOnPages.put {ps : List Nat} (s : State) {f : Field} (v : Nat) (hp : f.key / 4096 ∈ ps) : ChipOnPages ps s (s.put f v) :=
  ⟨rfl, s.put_onPages v hp⟩
theorem ChipOnPages.raise {ps : List Nat} (s : State) {e : Event} (v : Nat) (hd : e.dom = 0) (hp : e.page ∈ ps) :
    ChipOnPages ps s (s.raise e v) := by
  rw [s.raise_mclk hd]
  exact ⟨s.deliver_chip .., s.deliver_onPages _ _ _ hp⟩

theorem State.tempLost_chipOnPages (s : State) : ChipOnPages [3, 14] s s.tempLost := by
  unfold State.tempLost
  split
  · exact .refl _ s
  · exact (ChipOnPages.setPwr s fun p => { p with tempLow := true }).trans (.raise _ _ rfl (by decide))

theorem State.hotCheck_chipOnPages (s : State) : ChipOnPages [3, 14] s s.hotCheck := by
  have hraise := (ChipOnPages.setPwr (ps := [3, 14]) s fun p => { p with hot := true }).trans
    (.raise (e := EV.POWER.TEMP_HOT) _ s.inp.temp.toNat rfl (by decide))
  unfold State.hotCheck
  dsimp only
  split
  · exact .refl _ s
  split
  · split
    · exact hraise.trans (.put _ _ (by decide))
    · exact hraise
  · split
    · exact .setPwr s _
    · exact .refl _ s

theorem State.judgeBudget_chipOnPages (s : State) : ChipOnPages [3, 14] s s.judgeBudget := by
  unfold State.judgeBudget
  split
  · exact .refl _ s
  split
  · split
    · exact .refl _ s
    · exact (ChipOnPages.setPwr s fun p => { p with shortSince := some s.beat }).trans (.raise _ _ rfl (by decide))
  · exact .setPwr s _

/-- The first MCLK edge judges temperature and budget in the registers of pages 3 and 14. -/
theorem State.pinsReleased_chipOnPages (s : State) : ChipOnPages [3, 14] s s.pinsReleased := by
  have hl : ChipOnPages [3, 14] s s.latchPins := ⟨rfl, .of_regs rfl⟩
  unfold State.pinsReleased
  dsimp only
  split
  · exact hl
  · refine (hl.trans ?_).trans ((State.hotCheck_chipOnPages _).trans (State.judgeBudget_chipOnPages _))
    split
    · exact .setPwr _ _
    · exact State.tempLost_chipOnPages _

/-! ### Die reset (R53, R67, R69, R266) -/

theorem exec_dieRstAssert (s : State) : exec .dieRstAssert s = execDieRstAssert s := rfl
theorem exec_dieSupplyLoss (s : State) : exec .dieSupplyLoss s = execDieSupplyLoss s := rfl
theorem exec_dieRstDeassert (f : Fuses) (s : State) : exec (.dieRstDeassert f) s = execDieRstDeassert f s := rfl

/-- What a die reset leaves of the end: reset asserted, the Col OFF, no access hanging, and no register away from its reset value. -/
theorem State.outside_reset (s : State) :
    s.outside.chip.dieRst = true ∧ s.outside.chip.col = .off ∧ s.outside.chip.mbHung = false ∧ ∀ k, s.outside.reg k = regReset k :=
  ⟨rfl, rfl, rfl, fun _ => rfl⟩

/-- The end as the first MCLK edge finds it: the fuses are sampled (R64), and the first release step is done. -/
def State.fused (s : State) (f : Fuses) : State :=
  { s with chip := { s.chip with dieRst := false, col := .off, released := 1, clk := 1, stopped := s.chip.stopped &&& 0xFFE } }.sampleFuses f

/-- The release steps that follow at once where their clocks run (R266). -/
def State.stepped (s : State) : State :=
  if s.releaseStep.chip.released = 2 then s.releaseStep.releaseStep else s.releaseStep

theorem execDieRstDeassert_eq {s : State} (hd : s.chip.dieRst = true) (f : Fuses) :
    execDieRstDeassert f s = .next
      (if fusesBad f then (s.fused f).stepped.latchPins.raise EV.IDENT.FUSE_INVALID ((s.fused f).stepped.reg IDENT.FUSE_STAT.OK.key).toNat
       else (s.fused f).stepped.pinsReleased) := by
  simp only [execDieRstDeassert, hd]
  rfl

theorem State.fused_chip (s : State) (f : Fuses) :
    (s.fused f).chip = { s.chip with dieRst := false, col := .off, released := 1, clk := 1, stopped := s.chip.stopped &&& 0xFFE } :=
  State.sampleFuses_chip _ f

theorem State.stepped_onPages (s : State) : OnPages [1] s s.stepped := by
  unfold State.stepped
  split
  · exact s.releaseStep_onPages.trans (State.releaseStep_onPages _)
  · exact s.releaseStep_onPages

theorem State.releaseStep_kept (s : State) : s.releaseStep.chip.dieRst = s.chip.dieRst ∧ s.releaseStep.chip.col = s.chip.col := by
  unfold State.releaseStep
  dsimp only
  split <;> exact ⟨rfl, rfl⟩

theorem State.stepped_kept (s : State) : s.stepped.chip.dieRst = s.chip.dieRst ∧ s.stepped.chip.col = s.chip.col := by
  obtain ⟨hd, hc⟩ := s.releaseStep_kept
  obtain ⟨hd', hc'⟩ := s.releaseStep.releaseStep_kept
  unfold State.stepped
  split
  · exact ⟨hd'.trans hd, hc'.trans hc⟩
  · exact ⟨hd, hc⟩

theorem State.stepClocks_congr {s t : State} (h : t.role = s.role) (n : Nat) : t.stepClocks n = s.stepClocks n := by
  unfold State.stepClocks State.isM
  rw [h]

/-- Both later release steps are done where none of their clocks stands. -/
theorem State.stepped_done (s : State) (hr : s.chip.released = 1) (h1 : s.chip.stopped &&& s.stepClocks 1 = 0)
    (h2 : s.chip.stopped &&& s.stepClocks 2 = 0) :
    s.stepped.chip = { s.chip with released := 3, clk := s.chip.clk ||| s.stepClocks 1 ||| s.stepClocks 2, releaseAt := none } := by
  have hs1 : s.releaseStep.chip = { s.chip with released := 2, clk := s.chip.clk ||| s.stepClocks 1, releaseAt := none } := by
    rw [s.releaseStep_done (by rwa [hr]), hr]
  have hk : s.releaseStep.stepClocks 2 = s.stepClocks 2 := State.stepClocks_congr (s.releaseStep_onPages.role (by decide)) 2
  have hrel : s.releaseStep.chip.released = 2 := by rw [hs1]
  have hstop : s.releaseStep.chip.stopped = s.chip.stopped := by rw [hs1]
  rw [State.stepped, if_pos hrel, State.releaseStep_done _ (by rwa [hrel, hk, hstop]), hrel, hk, hs1]

/-- Clocks none of which stands, and fewer of them. -/
theorem and_submask {x a b : BitVec 12} (h : x &&& a = 0) (hab : a &&& b = b) : x &&& b = 0 := by
  rw [← hab, ← BitVec.and_assoc, h]
  exact BitVec.zero_and

/-- The domains that the two steps release are those of the role (R70, R266). -/
theorem State.stepped_released (s : State) (hr : s.chip.released = 1) (hc : s.chip.clk = 1) (hs : s.chip.stopped &&& 0x80E = 0) :
    s.stepped.chip.released = 3 ∧ s.stepped.chip.clk = (if s.role = 0 then 1 else if s.role = 1 then 0x80F else 0x80B) := by
  have h1 : s.stepClocks 1 = if s.role = 0 then 0 else 0x80A := rfl
  have h2 : s.stepClocks 2 = if s.role = 1 then 4 else 0 := by simp [State.stepClocks, State.isM]
  rw [s.stepped_done hr (and_submask hs (by rw [h1]; split <;> decide)) (and_submask hs (by rw [h2]; split <;> decide)), hc, h1, h2]
  refine ⟨rfl, ?_⟩
  by_cases h : s.role = 0
  · simp [h]
  · simp only [h, if_false]
    split <;> decide

/-- An end with a role waits where a clock of the second release step stands. -/
theorem State.stepped_waits (s : State) (hr : s.chip.released = 1) (h0 : s.role ≠ 0) (hs : s.chip.stopped &&& 0x80A ≠ 0) :
    s.stepped.chip = s.chip ∧ s.stepped.get RESET.COL_STAT.WAIT_CLK = 1 := by
  have hk : s.stepClocks s.chip.released = 0x80A := by simp [State.stepClocks, hr, h0]
  obtain ⟨hchip, hwait⟩ := s.releaseStep_waits (hk ▸ hs)
  have hn : s.stepped = s.releaseStep := if_neg (by rw [hchip, hr]; decide)
  rw [hn]
  exact ⟨hchip, hwait⟩

/-- An unused end has no clock to wait for but MCLK (R70, R266). -/
theorem State.stepped_unused (s : State) (hr : s.chip.released = 1) (hc : s.chip.clk = 1) (h0 : s.role = 0) : s.stepped.chip.clk = 1 := by
  have h1 : s.stepClocks 1 = 0 := if_pos h0
  have h2 : s.stepClocks 2 = 0 := by simp [State.stepClocks, State.isM, h0]
  rw [s.stepped_done hr (by rw [h1]; exact BitVec.and_zero) (by rw [h2]; exact BitVec.and_zero), hc, h1, h2]
  rfl

/-- The fuses after the release steps: the role, COL and the clocks that stand. -/
theorem State.stepped_fused (s : State) (f : Fuses) :
    (s.fused f).stepped.role = (s.fused f).role ∧ (s.fused f).stepped.get IDENT.FUSE_STAT.COL = f.col.toNat ∧
      (s.fused f).stepped.chip.dieRst = false ∧ (s.fused f).stepped.chip.col = .off := by
  have hp := (s.fused f).stepped_onPages
  obtain ⟨hd, hc⟩ := (s.fused f).stepped_kept
  rw [s.fused_chip f] at hd hc
  exact ⟨hp.role (by decide), (hp.get (by decide)).trans ((State.get_sampleFuses _ f 16 6).trans (fuseWord_col f)), hd, hc⟩

/-- Settles O2: a reset is what stands outside the end; its release is the fuses, then the release steps, then the pins. -/
theorem dieResetClearsAndFusesSetTheRole : Obligations.DieResetClearsAndFusesSetTheRole := by
  refine ⟨?assert, ?supplyLoss, ?fused, ?invalid⟩
  case assert =>
    intro s
    obtain ⟨hd, hc, hh, hr⟩ := s.outside_reset
    rw [exec_dieRstAssert, execDieRstAssert]
    split
    · exact ⟨_, rfl, hd, hc, hh, fun k => (State.reg_congr s.outside.mbError_regs k).trans (hr k)⟩
    · exact ⟨_, rfl, hd, hc, hh, hr⟩
  case supplyLoss =>
    intro s
    obtain ⟨hd, hc, -, hr⟩ := s.outside_reset
    exact ⟨_, exec_dieSupplyLoss s, hd, hc, hr⟩
  case fused =>
    intro s f hd hf
    obtain ⟨hrole, hcol, hdie, hoff⟩ := s.stepped_fused f
    have hfr : (s.fused f).role = f.role.toNat := by rw [State.fused, State.sampleFuses_role, hf]; rfl
    have hstop : ∀ m : BitVec 12, 0xFFE &&& m = m → (s.fused f).chip.stopped &&& m = s.chip.stopped &&& m := fun m hm => by
      rw [s.fused_chip f, BitVec.and_assoc, hm]
    obtain ⟨hchip, hregs⟩ := (s.fused f).stepped.pinsReleased_chipOnPages
    rw [exec_dieRstDeassert, execDieRstDeassert_eq hd, hf, if_neg (by decide)]
    refine ⟨_, rfl, by rw [hchip, hdie], by rw [hchip, hoff], (hregs.role (by decide)).trans (hrole.trans hfr),
      (hregs.get (by decide)).trans hcol, fun hs => ?_, fun hr hs => ?_⟩
    · obtain ⟨hrel, hclk⟩ := (s.fused f).stepped_released (by rw [s.fused_chip f]) (by rw [s.fused_chip f]) ((hstop _ (by decide)).trans hs)
      rw [hchip, hrel, hclk, hfr]
      have h0 : f.role.toNat = 0 ↔ f.role = 0 := ⟨fun h => BitVec.eq_of_toNat_eq h, fun h => by rw [h]; rfl⟩
      have h1 : f.role.toNat = 1 ↔ f.role = 1 := ⟨fun h => BitVec.eq_of_toNat_eq h, fun h => by rw [h]; rfl⟩
      simp only [h0, h1, true_and]
    · have h0 : (s.fused f).role ≠ 0 := by rw [hfr]; exact fun h => hr (BitVec.eq_of_toNat_eq h)
      obtain ⟨hwchip, hwait⟩ := (s.fused f).stepped_waits (by rw [s.fused_chip f]) h0 (by rwa [hstop _ (by decide)])
      rw [hchip, hwchip, s.fused_chip f]
      exact ⟨rfl, rfl, (hregs.get (by decide)).trans hwait⟩
  case invalid =>
    intro s f hd hf
    obtain ⟨hrole, -, hdie, -⟩ := s.stepped_fused f
    have hfr : (s.fused f).role = 0 := by rw [State.fused, State.sampleFuses_role, hf]; rfl
    have hclk := (s.fused f).stepped_unused (by rw [s.fused_chip f]) (by rw [s.fused_chip f]) hfr
    rw [exec_dieRstDeassert, execDieRstDeassert_eq hd, hf, if_pos rfl, State.raise_mclk _ rfl]
    have hchip := (s.fused f).stepped.latchPins.deliver_chip EV.IDENT.FUSE_INVALID.page EV.IDENT.FUSE_INVALID.bit
      ((s.fused f).stepped.reg IDENT.FUSE_STAT.OK.key).toNat false
    refine ⟨_, rfl, by rw [hchip]; exact hdie, ?_, by rw [hchip]; exact hclk, State.deliver_stat _ _ _ _ _ (by decide)⟩
    exact (State.role_congr (State.deliver_reg _ _ _ _ _ _ (by decide) (by decide) (by decide))).trans (hrole.trans hfr)

end Sys2Proof.Machine
end

section
/-!
PROOFS. What the engine and the DMA channels leave alone: the inputs, the power state and the registers of other pages.
-/

namespace Sys2Proof.Machine

/-! ### The part of the state that is not the engine's -/

/-- The pages whose registers the engine and the DMA channels write: RESET for overruns, TXN, DEFILE, BASIN, DMA and PAIR. -/
def enginePages : List Nat := [1, 8, 10, 11, 12, 13]

/-- The inputs, the power state, and the registers of the pages that the engine and the DMA channels do not write. -/
structure OffEngine where
  inp : Inputs
  pwr : Power
  regs : Nat → Word

/-- That part of a state. -/
def State.offEngine (s : State) : OffEngine := ⟨s.inp, s.pwr, fun k => if k / 4096 ∈ enginePages then 0 else s.reg k⟩

section
variable {s t : State}

theorem State.offEngine_congr (hi : t.inp = s.inp) (hp : t.pwr = s.pwr) (hr : t.regs = s.regs) : t.offEngine = s.offEngine := by
  simp only [State.offEngine, hi, hp, State.reg_congr hr]

theorem OnPages.offEngine (h : OnPages enginePages s t) (hi : t.inp = s.inp) (hp : t.pwr = s.pwr) : t.offEngine = s.offEngine := by
  have hr : ∀ k, (if k / 4096 ∈ enginePages then (0 : Word) else t.reg k) = if k / 4096 ∈ enginePages then 0 else s.reg k := fun k => by
    split
    · rfl
    · exact h k ‹_›
  simp only [State.offEngine, hi, hp, hr]

theorem State.inp_of_offEngine (h : t.offEngine = s.offEngine) : t.inp = s.inp := congrArg OffEngine.inp h
theorem State.pwr_of_offEngine (h : t.offEngine = s.offEngine) : t.pwr = s.pwr := congrArg OffEngine.pwr h
theorem State.onPages_of_offEngine (h : t.offEngine = s.offEngine) : OnPages enginePages s t := fun k hk => by
  have := congrFun (congrArg OffEngine.regs h) k
  simpa only [State.offEngine, hk, if_false] using this

end

theorem State.foldl_offEngine {α : Type} {f : State → α → State} (hf : ∀ t x, (f t x).offEngine = t.offEngine) (l : List α) (s : State) :
    (l.foldl f s).offEngine = s.offEngine := by
  induction l generalizing s with
  | nil => rfl
  | cons x l ih => exact (ih _).trans (hf s x)

/-! ### Shared operations -/

@[simp] theorem State.put_offEngine (s : State) {f : Field} (h : f.key / 4096 ∈ enginePages) (v : Nat) : (s.put f v).offEngine = s.offEngine :=
  (s.put_onPages v h).offEngine (s.put_inp f v) (s.put_pwr f v)
@[simp] theorem State.bump_offEngine (s : State) {f : Field} (h : f.key / 4096 ∈ enginePages) : (s.bump f).offEngine = s.offEngine :=
  s.put_offEngine h _
@[simp] theorem State.raise_offEngine (s : State) {e : Event} (h : e.page ∈ enginePages) (v : Nat) : (s.raise e v).offEngine = s.offEngine := by
  refine OnPages.offEngine ?_ (s.raise_inp e v) (s.raise_pwr e v)
  unfold State.raise State.overrun
  repeat' split
  · exact s.deliver_onPages _ _ _ h
  · exact .refl _ s
  · exact (s.put_onPages _ (by decide)).trans (State.deliver_onPages _ _ _ _ (by decide))
  · exact .of_regs rfl
  · exact (OnPages.of_regs rfl).trans (State.deliver_onPages _ _ _ _ h)
@[simp] theorem State.emit_offEngine (s : State) (o : Out) : (s.emit o).offEngine = s.offEngine := rfl
@[simp] theorem State.setTxn_offEngine (s : State) (f : Txns → Txns) : (s.setTxn f).offEngine = s.offEngine := rfl
@[simp] theorem State.setLnk_offEngine (s : State) (f : Link → Link) : (s.setLnk f).offEngine = s.offEngine := rfl
@[simp] theorem State.setPair_offEngine (s : State) (f : Pair → Pair) : (s.setPair f).offEngine = s.offEngine := rfl
@[simp] theorem State.setChan_offEngine (s : State) (n : Nat) (f : DmaChan → DmaChan) : (s.setChan n f).offEngine = s.offEngine := rfl
@[simp] theorem State.draw_offEngine (s : State) : s.draw.2.offEngine = s.offEngine := rfl

/-! ### Table words, lines and memory -/

@[simp] theorem State.wordWritten_offEngine (s : State) (w : Nat × Nat) : (s.wordWritten w).offEngine = s.offEngine := by
  obtain ⟨_, h⟩ := s.wordWritten_eq w
  rw [h]
  rfl
@[simp] theorem State.wordMerged_offEngine (s : State) (w : Nat × Nat) : (s.wordMerged w).offEngine = s.offEngine :=
  (State.wordWritten_offEngine ..).trans (State.offEngine_congr rfl rfl rfl)
@[simp] theorem State.setTbl_offEngine (s : State) (i : Nat) (w : Word) : (s.setTbl i w).offEngine = s.offEngine :=
  (State.wordWritten_offEngine ..).trans (State.offEngine_congr rfl rfl rfl)
@[simp] theorem State.setTblPart_offEngine (s : State) (i : Nat) (w : Word) : (s.setTblPart i w).offEngine = s.offEngine :=
  (State.wordMerged_offEngine ..).trans (State.offEngine_congr rfl rfl rfl)
@[simp] theorem State.setLine_offEngine (s : State) (n : Nat) (l : Line) : (s.setLine n l).offEngine = s.offEngine :=
  State.offEngine_congr (s.setLine_inp n l) (s.setLine_pwr n l) (s.setLine_regs n l)
@[simp] theorem State.setWin_offEngine (s : State) (n : Nat) (f : WinField) (v : Nat) : (s.setWin n f v).offEngine = s.offEngine :=
  State.setTblPart_offEngine ..
@[simp] theorem State.setOutcome_offEngine (s : State) (n b : Nat) : (s.setOutcome n b).offEngine = s.offEngine := State.setWin_offEngine ..
@[simp] theorem State.setCtx_offEngine (s : State) (c w lo wd v : Nat) : (s.setCtx c w lo wd v).offEngine = s.offEngine :=
  State.setTblPart_offEngine ..
@[simp] theorem State.ctxCount_offEngine (s : State) (c w lo : Nat) : (s.ctxCount c w lo).offEngine = s.offEngine := State.setCtx_offEngine ..

theorem State.setMemBytes_offEngine (s : State) (a : Nat) (bs : List Byte) : (s.setMemBytes a bs).offEngine = s.offEngine := by
  induction bs generalizing s a with
  | nil => rfl
  | cons b bs ih => exact (ih _ _).trans (State.offEngine_congr rfl rfl rfl)

@[simp] theorem State.noteWrite_offEngine (s : State) (g : Nat) : (s.noteWrite g).offEngine = s.offEngine := by
  unfold State.noteWrite
  dsimp only
  repeat' split
  · rfl
  · rfl
  · rfl
  · exact State.bump_offEngine _ (by decide)
@[simp] theorem State.noteWrites_offEngine (s : State) (a n : Nat) : (s.noteWrites a n).offEngine = s.offEngine :=
  State.foldl_offEngine State.noteWrite_offEngine _ s
@[simp] theorem State.memTake_offEngine (s : State) (a : Nat) (bs : List Byte) : (s.memTake a bs).offEngine = s.offEngine :=
  (State.noteWrites_offEngine ..).trans ((State.offEngine_congr rfl rfl rfl).trans (s.setMemBytes_offEngine a bs))
@[simp] theorem State.engWrite_offEngine (s : State) (a : Nat) (bs : List Byte) : (s.engWrite a bs).offEngine = s.offEngine :=
  State.memTake_offEngine ..
@[simp] theorem State.setPrefetch_offEngine (s : State) (l : List Prefetch) : (s.setPrefetch l).offEngine = s.offEngine := rfl
@[simp] theorem State.endReads_offEngine (s : State) (f : Prefetch → Bool) : (s.endReads f).offEngine = s.offEngine := rfl

@[simp] theorem State.useRanges_offEngine (s : State) (rs : List (Nat × Nat)) : (s.useRanges rs).offEngine = s.offEngine := by
  unfold State.useRanges
  dsimp only
  rw [State.endReads_offEngine]
  split
  · rfl
  · exact (State.foldl_offEngine (fun t g => t.emit_offEngine _) _ _).trans (State.bump_offEngine _ (by decide))

/-! ### Reports and counts -/

@[simp] theorem State.markLost_offEngine (s : State) (c : Nat) : (s.markLost c).offEngine = s.offEngine := by
  unfold State.markLost
  split
  · exact State.setTblPart_offEngine ..
  · rfl
@[simp] theorem State.reportLost_offEngine (s : State) (c cause : Nat) : (s.reportLost c cause).offEngine = s.offEngine := by
  unfold State.reportLost
  dsimp only
  rw [State.raise_offEngine _ (by decide)]
  split
  · exact (State.offEngine_congr rfl rfl rfl).trans (s.markLost_offEngine c)
  · exact (State.offEngine_congr rfl rfl rfl).trans (s.markLost_offEngine c)

@[simp] theorem State.bindBad_offEngine (s : State) (p c : Nat) : (s.bindBad p c).offEngine = s.offEngine := by
  simp +decide only [State.bindBad, State.raise_offEngine, State.put_offEngine, State.bump_offEngine]
@[simp] theorem State.seeRoute_offEngine (s : State) (r : Route) : (s.seeRoute r).offEngine = s.offEngine := by
  cases r with
  | bad p c => exact s.bindBad_offEngine p c
  | direct | engine | answer => rfl
@[simp] theorem State.pageBad_offEngine (s : State) (st : Status) (p : Nat) (c : PageCheck) : (s.pageBad st p c).offEngine = s.offEngine := by
  unfold State.pageBad
  split
  · split
    · exact s.bindBad_offEngine ..
    · rfl
  · rfl
@[simp] theorem State.recipeBad_offEngine (s : State) (slot c : Nat) : (s.recipeBad slot c).offEngine = s.offEngine := by
  simp +decide only [State.recipeBad, State.raise_offEngine, State.put_offEngine, State.bump_offEngine]

@[simp] theorem State.safeCapture_offEngine (s : State) (c e : Nat) : (s.safeCapture c e).offEngine = s.offEngine := by
  simp +decide only [State.safeCapture, State.put_offEngine]
@[simp] theorem State.budget_offEngine (s b : State) (c : Nat) : (s.budget b c).offEngine = s.offEngine := by
  unfold State.budget
  dsimp only
  split
  · exact (State.raise_offEngine _ (by decide) _).trans (s.safeCapture_offEngine ..)
  · rfl
@[simp] theorem State.countSat_offEngine (s : State) (c : Nat) : (s.countSat c).offEngine = s.offEngine := by
  simp only [State.countSat, State.budget_offEngine, State.ctxCount_offEngine]
@[simp] theorem State.countEsc_offEngine (s : State) (c : Nat) : (s.countEsc c).offEngine = s.offEngine := by
  simp only [State.countEsc, State.budget_offEngine, State.ctxCount_offEngine]
@[simp] theorem State.countNf_offEngine (s : State) (c : Nat) : (s.countNf c).offEngine = s.offEngine := State.ctxCount_offEngine ..
@[simp] theorem State.satBlock_offEngine (s : State) (c : Nat) : (s.satBlock c).offEngine = s.offEngine := by
  simp +decide only [State.satBlock, State.countSat_offEngine, State.bump_offEngine]
@[simp] theorem State.satOnce_offEngine (s : State) (c : Nat) (b : Bool) : (s.satOnce c b).offEngine = s.offEngine := by
  cases b with
  | true => exact s.countSat_offEngine c
  | false => rfl
@[simp] theorem State.scaleRange_offEngine (s : State) (c : Nat) (h : Bool) : (s.scaleRange c h).offEngine = s.offEngine := by
  cases h <;> simp +decide only [State.scaleRange, State.raise_offEngine, State.safeCapture_offEngine, State.bump_offEngine, if_true, if_false]

/-! ### Blocks and elements -/

@[simp] theorem State.putBlock_offEngine (s : State) (r : Run) (g sc z f : Nat) : (s.putBlock r g sc z f).offEngine = s.offEngine := by
  simp only [State.putBlock, State.engWrite_offEngine]
@[simp] theorem State.poisonWrite_offEngine (s : State) (c : Nat) (r : Run) (g : Nat) : (s.poisonWrite c r g).offEngine = s.offEngine := by
  simp +decide only [State.poisonWrite, State.putBlock_offEngine, State.countNf_offEngine, State.bump_offEngine]

@[simp] theorem State.guardCompare_offEngine (s : State) (c a : Nat) (e g : Encoded) : (s.guardCompare c a e g).2.offEngine = s.offEngine := by
  unfold State.guardCompare
  split
  · rfl
  · simp +decide only [State.raise_offEngine, State.put_offEngine, State.bump_offEngine]
@[simp] theorem State.guardSample_offEngine (s : State) (c a : Nat) (g : Encoded) : (s.guardSample c a g).2.offEngine = s.offEngine := by
  unfold State.guardSample
  dsimp only
  split
  · rfl
  split
  · exact (State.guardCompare_offEngine ..).trans ((State.offEngine_congr rfl rfl rfl).trans (s.bump_offEngine (by decide)))
  · rfl

@[simp] theorem State.escapeBlock_offEngine (s : State) (c : Nat) (r : Run) (g : Nat) (e e' : Encoded) :
    (s.escapeBlock c r g e e').offEngine = s.offEngine := by
  unfold State.escapeBlock
  dsimp only
  split
  · split
    · simp only [State.satBlock_offEngine, State.putBlock_offEngine]
    · rw [State.raise_offEngine _ (by decide), State.safeCapture_offEngine]
      refine (State.offEngine_congr rfl rfl rfl).trans ((State.satBlock_offEngine ..).trans (State.putBlock_offEngine ..))
  split
  · simp only [State.reportLost_offEngine, State.countNf_offEngine, State.putBlock_offEngine]
  · refine (State.offEngine_congr rfl rfl rfl).trans ((State.countEsc_offEngine ..).trans ?_)
    simp +decide only [State.put_offEngine, State.bump_offEngine, State.putBlock_offEngine, State.engWrite_offEngine]

@[simp] theorem State.encodeWrite_offEngine (s : State) (c : Nat) (r : Run) (g : Nat) (m : Rnd) (vs : List Nat) (cl : Bool) :
    (s.encodeWrite c r g m vs cl).offEngine = s.offEngine := by
  simp +decide only [State.encodeWrite, apply_ite State.offEngine, ite_self, State.countSat_offEngine, State.countNf_offEngine,
    State.escapeBlock_offEngine, State.satBlock_offEngine, State.putBlock_offEngine, State.scaleRange_offEngine, State.bump_offEngine,
    State.guardSample_offEngine]

@[simp] theorem State.readBlock_offEngine (s : State) (r : Run) (g : Nat) (x : Int) : (s.readBlock r g x).2.offEngine = s.offEngine := by
  unfold State.readBlock
  dsimp only
  split
  · split
    · rfl
    · exact s.raise_offEngine (by decide) _
  · generalize decodeBlock .. = d
    cases d.bad with
    | true => exact s.raise_offEngine (e := EV.DEFILE.FMT_CODE_BAD) (by decide) _
    | false => rfl
@[simp] theorem State.readBlocks_offEngine (s : State) (r : Run) (x : Int) (gs : List Nat) : (s.readBlocks r x gs).2.offEngine = s.offEngine := by
  induction gs generalizing s with
  | nil => rfl
  | cons g gs ih => exact (ih _).trans (s.readBlock_offEngine r g x)

@[simp] theorem State.writeBlock_offEngine (s : State) (c : Nat) (r : Run) (g : Nat) (m : Rnd) (vs : List (Nat × Nat)) (cl : List Nat) :
    (s.writeBlock c r g m vs cl).offEngine = s.offEngine := by
  unfold State.writeBlock
  dsimp only
  split
  · exact State.encodeWrite_offEngine ..
  · simp +decide only [State.encodeWrite_offEngine, State.bump_offEngine, State.readBlock_offEngine, State.useRanges_offEngine]
@[simp] theorem State.writeRun_offEngine (s : State) (c : Nat) (r : Run) (m : Rnd) (vs : List (Nat × Nat)) (cl : List Nat) :
    (s.writeRun c r m vs cl).offEngine = s.offEngine := State.foldl_offEngine (fun t g => t.writeBlock_offEngine c r g m vs cl) _ s
@[simp] theorem State.writeScalars_offEngine (s : State) (c f a : Nat) (m : Rnd) (vs : List Nat) :
    (s.writeScalars c f a m vs).2.offEngine = s.offEngine := by
  induction vs generalizing s a with
  | nil => rfl
  | cons v vs ih => exact (ih _ _).trans (State.engWrite_offEngine ..)

@[simp] theorem Target.read_offEngine (t : Target) (s : State) (n : Nat) (ks : List Nat) (x : Int) : (t.read s n ks x).2.offEngine = s.offEngine := by
  unfold Target.read
  dsimp only
  split
  · exact (State.readBlocks_offEngine ..).trans (s.useRanges_offEngine _)
  · exact s.useRanges_offEngine _
@[simp] theorem Target.write_offEngine (t : Target) (s : State) (c : Nat) (m : Rnd) (vs : List (Nat × Nat)) (cl : List Nat) :
    (t.write s c m vs cl).2.offEngine = s.offEngine := by
  unfold Target.write
  split
  · exact State.writeRun_offEngine ..
  · generalize false = b
    induction vs generalizing s b with
    | nil => rfl
    | cons v vs ih =>
      rw [List.foldl_cons, ih]
      exact s.writeScalars_offEngine c t.fmt _ m [v.2]

/-! ### Jobs -/

@[simp] theorem State.runJob_offEngine (s : State) (q : EngReq) (j : XfJob) : (s.runJob q j).2.offEngine = s.offEngine := by
  have poisoned : ∀ (c : Nat) (r : Run) (gs : List Nat) (t : State), (gs.foldl (fun t g => t.poisonWrite c r g) t).offEngine = t.offEngine :=
    fun c r => State.foldl_offEngine fun t g => t.poisonWrite_offEngine c r g
  simp only [State.runJob, apply_ite Prod.snd, apply_ite State.offEngine, ite_self, poisoned, State.pageBad_offEngine, State.satOnce_offEngine,
    Target.write_offEngine, Target.read_offEngine]
  refine ite_eq_right_iff.mpr fun _ => ?_
  split
  · simp only [apply_ite State.offEngine, State.recipeBad_offEngine, ite_self]
  · rfl

end Sys2Proof.Machine
end

section
/-!
PROOFS. The DMA channels leave alone what is not the engine's.
-/

namespace Sys2Proof.Machine

/-! ### The table aperture -/

/-- A refusal is logged in its page's one register of refusals (R443). -/
theorem State.refuseCode_offEngine (s : State) {p : Nat} (hp : p ∈ enginePages) (o : Nat) (ap : Bool) (r : Nat) (d : Word) :
    (s.refuseCode p o ap r d).offEngine = s.offEngine := by
  have hk : (4096 * p + 0x040) / 4096 ∈ enginePages := by rwa [Nat.mul_add_div (by decide)]
  have put : ∀ (t : State) (f : Field) (v : Nat), f.key = 4096 * p + 0x040 → (t.put f v).offEngine = t.offEngine := fun t f v hf =>
    t.put_offEngine (hf ▸ hk) v
  rw [State.refuseCode, State.bump, State.bumpBy, put _ _ _ rfl, put _ _ _ rfl, put _ _ _ rfl, put _ _ _ rfl, put _ _ _ rfl, put _ _ _ rfl]

/-- The refusals of table words are logged in pages of the engine (R465). -/
theorem tblPage_page (i : Nat) : (tblPage i).1 ∈ enginePages ∧ ∀ f, (tblPage i).2 = some f → f.key / 4096 ∈ enginePages := by
  unfold tblPage
  repeat' split
  all_goals exact ⟨by decide, by rintro f ⟨⟩ <;> decide⟩

@[simp] theorem State.refuseTbl_offEngine (s : State) (i c : Nat) (w : Word) : (s.refuseTbl i c w).offEngine = s.offEngine := by
  obtain ⟨hp, hf⟩ := tblPage_page i
  unfold State.refuseTbl
  dsimp only
  split
  · exact (State.put_offEngine _ (hf _ ‹_›) _).trans (s.refuseCode_offEngine hp ..)
  · exact s.refuseCode_offEngine hp ..

@[simp] theorem State.dropWinWork_offEngine (s : State) (n : Nat) : (s.dropWinWork n).offEngine = s.offEngine := rfl
@[simp] theorem State.writeRecord_offEngine (s : State) (n : Nat) : (s.writeRecord n).offEngine = s.offEngine := by
  simp only [State.writeRecord, apply_ite State.offEngine, State.engWrite_offEngine, ite_self]
@[simp] theorem State.failWindow_offEngine (s : State) (n : Nat) (o : List Nat) (r : Bool) : (s.failWindow n o r).offEngine = s.offEngine := by
  have ho : ∀ (o : List Nat) (t : State), (o.foldl (fun t b => t.setOutcome n b) t).offEngine = t.offEngine :=
    State.foldl_offEngine fun t b => t.setOutcome_offEngine n b
  simp +decide only [State.failWindow, State.raise_offEngine, apply_ite State.offEngine, State.writeRecord_offEngine, ho, State.setWin_offEngine,
    State.dropWinWork_offEngine, ite_self]

@[simp] theorem State.zeroLines_offEngine (s : State) (l k : Nat) : (s.zeroLines l k).offEngine = s.offEngine := by
  induction k generalizing s l with
  | zero => rfl
  | succ k ih => exact (ih _ _).trans (s.setLine_offEngine l 0)
@[simp] theorem State.armWindow_offEngine (s : State) (n : Nat) : (s.armWindow n).offEngine = s.offEngine := by
  refine (State.offEngine_congr rfl rfl rfl).trans ((State.zeroLines_offEngine ..).trans ((State.zeroLines_offEngine ..).trans ?_))
  simp only [State.setWin_offEngine, State.setTbl_offEngine]
@[simp] theorem State.markDirty_offEngine (s : State) (c : Nat) : (s.markDirty c).offEngine = s.offEngine := by
  simp +decide only [State.markDirty, State.put_offEngine, State.setPair_offEngine]
@[simp] theorem State.keepBind_offEngine (s : State) (p : Nat) : (s.keepBind p).offEngine = s.offEngine := rfl

@[simp] theorem State.writeWindow_offEngine (s : State) (i : Nat) (w : Word) : (s.writeWindow i w).2.offEngine = s.offEngine := by
  unfold State.writeWindow
  dsimp only
  repeat' split
  all_goals simp only [State.refuseTbl_offEngine, State.setTbl_offEngine, State.armWindow_offEngine, State.dropWinWork_offEngine,
    State.failWindow_offEngine]
@[simp] theorem State.tableWrite_offEngine (s : State) (i : Nat) (w : Word) : (s.tableWrite i w).2.offEngine = s.offEngine := by
  unfold State.tableWrite
  dsimp only
  split
  · exact (State.offEngine_congr rfl rfl rfl).trans (s.setTbl_offEngine ..)
  split
  · rfl
  split
  · simp only [State.setTxn_offEngine, State.setTbl_offEngine, State.keepBind_offEngine]
  split
  · simp only [State.markDirty_offEngine, State.setTbl_offEngine]
  split
  · exact (State.offEngine_congr rfl rfl rfl).trans (s.setTbl_offEngine ..)
  split
  · split <;> simp only [State.markDirty_offEngine, State.writeWindow_offEngine]
  · exact s.refuseTbl_offEngine ..

/-! ### Accesses and halts of a channel -/

/-- The registers of a channel are those of the DMA page. -/
theorem dmaFields_page {n : Nat} (hn : n < 4) :
    (DMA.CH_STAT.STATE n).key / 4096 ∈ enginePages ∧ (DMA.CH_STAT.WAIT_ON n).key / 4096 ∈ enginePages ∧
    (DMA.CH_STAT.PENDING n).key / 4096 ∈ enginePages ∧ (DMA.CH_STAT.ERR n).key / 4096 ∈ enginePages ∧
    (DMA.CH_STAT.PC n).key / 4096 ∈ enginePages ∧ (DMA.CH_CNT.RD_OUT n).key / 4096 ∈ enginePages ∧
    (DMA.CH_CNT.WR_OUT n).key / 4096 ∈ enginePages ∧ (DMA.CH_CNT_HI.BYTES_WRITTEN n).key / 4096 ∈ enginePages ∧
    (DMA.CQ_TAIL.COUNT n).key / 4096 ∈ enginePages := by
  interval_cases n <;> decide

theorem dmaEvents_page (n : Nat) : (EV.DMA.DMA_SIGNAL n).page ∈ enginePages ∧ (EV.DMA.DMA_HALT n).page ∈ enginePages ∧
    (EV.DMA.DMA_CQ_FULL n).page ∈ enginePages := by
  have h : 12 ∈ enginePages := by decide
  exact ⟨h, h, h⟩

section
variable {n : Nat} (hn : n < 4)
include hn

theorem State.setAcc_offEngine (s : State) (l : List DmaAccess) : (s.setAcc n l).offEngine = s.offEngine := by
  simp only [State.setAcc, State.put_offEngine, dmaFields_page hn, State.setChan_offEngine]
theorem State.addAcc_offEngine (s : State) (a : DmaAccess) : (s.addAcc n a).offEngine = s.offEngine := s.setAcc_offEngine hn _
theorem State.endAcc_offEngine (s : State) (a : DmaAccess) : (s.endAcc n a).offEngine = s.offEngine := s.setAcc_offEngine hn _
theorem State.chWait_offEngine (s : State) (on : Nat) : (s.chWait n on).offEngine = s.offEngine := by
  simp only [State.chWait, State.put_offEngine, dmaFields_page hn]
theorem State.chRun_offEngine (s : State) : (s.chRun n).offEngine = s.offEngine := by
  simp only [State.chRun, State.put_offEngine, dmaFields_page hn, apply_ite State.offEngine, ite_self]
theorem State.addWritten_offEngine (s : State) (k : Nat) : (s.addWritten n k).offEngine = s.offEngine := by
  simp only [State.addWritten, State.put_offEngine, dmaFields_page hn]
theorem State.cqIssue_offEngine (s : State) (kind err user : Nat) : (s.cqIssue n kind err user).offEngine = s.offEngine := by
  simp only [State.cqIssue, State.put_offEngine, dmaFields_page hn, State.addAcc_offEngine hn, State.noteWrites_offEngine, State.emit_offEngine]

theorem State.haltRecord_offEngine (s : State) : (s.haltRecord n).offEngine = s.offEngine := by
  simp only [State.haltRecord, State.raise_offEngine, dmaEvents_page, State.put_offEngine, dmaFields_page hn, apply_ite State.offEngine,
    State.setChan_offEngine, State.cqIssue_offEngine hn, State.seeRoute_offEngine, ite_self]
theorem State.haltFinish_offEngine (s : State) : (s.haltFinish n).offEngine = s.offEngine := by
  unfold State.haltFinish
  split
  · simp only [apply_ite State.offEngine, State.haltRecord_offEngine hn, State.put_offEngine, dmaFields_page hn, State.setChan_offEngine, ite_self]
  · rfl
theorem State.chHalt_offEngine (s : State) (err : Nat) : (s.chHalt n err).offEngine = s.offEngine := by
  simp only [State.chHalt, State.haltFinish_offEngine hn, State.chRun_offEngine hn, State.setAcc_offEngine hn, State.setChan_offEngine]
theorem State.accFails_offEngine (s : State) (a : DmaAccess) (err : Option Nat) : (s.accFails n a err).offEngine = s.offEngine := by
  simp only [State.accFails, apply_ite State.offEngine, State.chHalt_offEngine hn, State.haltFinish_offEngine hn, State.setAcc_offEngine hn,
    State.endAcc_offEngine hn, ite_self]

/-! ### Programs and signals -/

theorem State.fetchGroup_offEngine (s : State) (g : Nat) : (s.fetchGroup n g).offEngine = s.offEngine := by
  unfold State.fetchGroup
  dsimp only
  split <;> simp only [State.accFails_offEngine hn, State.seeRoute_offEngine, State.addAcc_offEngine hn, State.emit_offEngine]
theorem State.chFetch_offEngine (s : State) : (s.chFetch n).offEngine = s.offEngine := by
  unfold State.chFetch
  split
  · exact State.foldl_offEngine (fun t g => by simp only [apply_ite State.offEngine, State.fetchGroup_offEngine hn, ite_self]) _ s
  · rfl
theorem State.chNext_offEngine (s : State) (pc : Nat) : (s.chNext n pc).offEngine = s.offEngine := by
  simp only [State.chNext, apply_ite State.offEngine, State.chHalt_offEngine hn, State.chFetch_offEngine hn, State.put_offEngine, dmaFields_page hn,
    State.chRun_offEngine hn, State.setChan_offEngine, ite_self]
theorem State.signalEnd_offEngine (s : State) (u : Nat) : (s.signalEnd n u).offEngine = s.offEngine := by
  simp only [State.signalEnd, apply_ite State.offEngine, State.chNext_offEngine hn, State.put_offEngine, dmaFields_page hn, State.chRun_offEngine hn,
    State.setAcc_offEngine hn, State.setChan_offEngine, State.raise_offEngine, dmaEvents_page, State.cqIssue_offEngine hn, ite_self]
theorem State.signalTry_offEngine (s : State) : (s.signalTry n).offEngine = s.offEngine := by
  unfold State.signalTry
  dsimp only
  repeat' split
  all_goals simp only [State.raise_offEngine, dmaEvents_page, State.chWait_offEngine hn, State.chHalt_offEngine hn, State.seeRoute_offEngine,
    State.chRun_offEngine hn, State.signalEnd_offEngine hn]
theorem State.headMoved_offEngine (s : State) : (s.headMoved n).offEngine = s.offEngine := by
  simp only [State.headMoved, apply_ite State.offEngine, State.haltRecord_offEngine hn, State.signalTry_offEngine hn, ite_self]

/-! ### Writing a piece -/

theorem State.tblWrites_offEngine (s : State) (f i : Nat) (bs : List Byte) : (s.tblWrites n f i bs).2.offEngine = s.offEngine := by
  induction f generalizing s i bs with
  | zero => rfl
  | succ f ih => simp only [State.tblWrites, apply_ite Prod.snd, apply_ite State.offEngine, ih, State.addWritten_offEngine hn,
      State.tableWrite_offEngine, ite_self]
omit hn in
theorem State.dmaViewWrite_offEngine (s : State) (a : Nat) (e : Option Word) (bs : List Byte) : (s.dmaViewWrite n a e bs).2.offEngine = s.offEngine :=
  State.runJob_offEngine ..
theorem State.giveWrite_offEngine (s : State) (x : DmaAccess) : (s.giveWrite n x).2.offEngine = s.offEngine := by
  unfold State.giveWrite
  dsimp only
  split
  · simp only [State.accFails_offEngine hn, State.seeRoute_offEngine]
  · simp only [apply_ite Prod.snd, apply_ite State.offEngine, State.accFails_offEngine hn, State.setAcc_offEngine hn, State.dmaViewWrite_offEngine,
      State.addWritten_offEngine hn, State.noteWrites_offEngine, State.emit_offEngine, ite_self]
theorem State.dmaWriteOne_offEngine (s : State) (m : DmaMove) (w : DmaWrite) : (s.dmaWriteOne n m w).2.offEngine = s.offEngine := by
  simp only [State.dmaWriteOne, apply_ite Prod.snd, apply_ite State.offEngine, State.tblWrites_offEngine hn, State.chHalt_offEngine hn, State.setPart,
    State.setChan_offEngine, State.addAcc_offEngine hn, State.giveWrite_offEngine hn, ite_self]

/-! ### Reading a piece -/

theorem State.dmaAsk_offEngine (s : State) (k : Nat) : (s.dmaAsk n k).offEngine = s.offEngine := by
  induction k generalizing s with
  | zero => rfl
  | succ k ih =>
    unfold State.dmaAsk
    dsimp only
    repeat' split
    all_goals simp only [ih, State.accFails_offEngine hn, State.seeRoute_offEngine, State.setChan_offEngine, State.addAcc_offEngine hn,
      State.emit_offEngine]
theorem State.dmaReads_offEngine (s : State) : (s.dmaReads n).offEngine = s.offEngine := s.dmaAsk_offEngine hn _

omit hn in
theorem State.undefWhere_offEngine (s : State) (p : Nat → Bool) (a : Nat) (bs : List Byte) : (s.undefWhere p a bs).2.offEngine = s.offEngine := by
  induction bs generalizing s a with
  | nil => rfl
  | cons b bs ih => simp only [State.undefWhere, apply_ite Prod.snd, apply_ite State.offEngine, ih, State.draw_offEngine, ite_self]
omit hn in
theorem State.undefRange_offEngine (s : State) (tbl : Bool) (a len : Nat) : (s.undefRange n tbl a len).offEngine = s.offEngine := by
  unfold State.undefRange
  dsimp only
  split
  · refine (State.foldl_offEngine (fun t i => ?_) _ _).trans (s.undefWhere_offEngine ..)
    simp only [apply_ite State.offEngine, State.tableWrite_offEngine, ite_self]
  · simp only [apply_ite State.offEngine, State.dmaViewWrite_offEngine, State.setChan_offEngine, State.memTake_offEngine, State.undefWhere_offEngine,
      ite_self]
omit hn in
theorem State.undefWritten_offEngine (s : State) (m : DmaMove) (src : Nat) : (s.undefWritten n m src).offEngine = s.offEngine := by
  simp only [State.undefWritten, apply_ite State.offEngine, State.undefRange_offEngine, ite_self]

theorem State.pieceBegin_offEngine (s : State) : (s.pieceBegin n).offEngine = s.offEngine := by
  unfold State.pieceBegin
  dsimp only
  repeat' split
  all_goals simp only [State.chHalt_offEngine hn, State.chFetch_offEngine hn, State.dmaReads_offEngine hn, State.setChan_offEngine,
    State.undefWritten_offEngine]
theorem State.pieceDone_offEngine (s : State) : (s.pieceDone n).offEngine = s.offEngine := by
  unfold State.pieceDone
  split
  · rfl
  · simp only [apply_ite State.offEngine, State.chNext_offEngine hn, State.pieceBegin_offEngine hn, State.setChan_offEngine, ite_self]

theorem State.dmaPump_offEngine (s : State) (ws : List DmaWrite) : (s.dmaPump n ws).offEngine = s.offEngine := by
  induction ws generalizing s with
  | nil =>
    unfold State.dmaPump
    split
    · simp only [apply_ite State.offEngine, State.pieceDone_offEngine hn, ite_self]
    · rfl
  | cons w ws ih =>
    unfold State.dmaPump
    dsimp only
    split
    · rfl
    split
    · rfl
    · exact s.chWait_offEngine hn _
    · simp only [apply_ite State.offEngine, ih, State.dmaWriteOne_offEngine hn, State.setChan_offEngine, State.chRun_offEngine hn, State.put_offEngine,
        dmaFields_page hn, ite_self]
theorem State.dmaResume_offEngine (s : State) : (s.dmaResume n).offEngine = s.offEngine := by
  unfold State.dmaResume
  split
  · rfl
  · simp only [apply_ite State.offEngine, State.dmaReads_offEngine hn, State.dmaPump_offEngine hn, ite_self]
theorem State.dmaGo_offEngine (s : State) : (s.dmaGo n).offEngine = s.offEngine := by
  simp only [State.dmaGo, State.signalTry_offEngine hn, State.dmaResume_offEngine hn, State.dmaReads_offEngine hn, State.chFetch_offEngine hn]

end

/-- What the stack throttle held goes on without touching what is not the engine's (R432). -/
theorem State.throttleMoved_offEngine (s : State) : s.throttleMoved.offEngine = s.offEngine := by
  have go : ∀ l : List Nat, (∀ n ∈ l, n < 4) → ∀ t : State, (l.foldl (fun t n => (t.dmaGo n).headMoved n) t).offEngine = t.offEngine := by
    intro l
    induction l with
    | nil => exact fun _ _ => rfl
    | cons n l ih =>
      intro h t
      have hn := h n List.mem_cons_self
      exact (ih (fun k hk => h k (List.mem_cons_of_mem _ hk)) _).trans ((State.headMoved_offEngine hn _).trans (t.dmaGo_offEngine hn))
  unfold State.throttleMoved
  split
  · exact go _ (fun n h => List.mem_range.mp h) s
  · rfl

end Sys2Proof.Machine
end

section
/-!
PROOFS. The sampled inputs: temperature, budget and stack throttle (R31, R61 to R63, R124, R428, R431).
-/

namespace Sys2Proof.Machine

theorem exec_tempUpdate (temp : BitVec 10) (valid : Bool) (s : State) : exec (.tempUpdate temp valid) s = execTempUpdate temp valid s := rfl
theorem exec_budgetChange (budget : BitVec 8) (valid : Bool) (s : State) : exec (.budgetChange budget valid) s = execBudgetChange budget valid s := rfl
theorem exec_stkThrChange (thr : BitVec 8) (s : State) : exec (.stkThrChange thr) s = execStkThrChange thr s := rfl

/-! ### The pins -/

/-- The temperature pins take levels. -/
def State.pinTemp (s : State) (temp : BitVec 10) (valid : Bool) : State :=
  { s with inp := { s.inp with pin := { s.inp.pin with temp := temp, tempValid := valid } } }

/-- The budget pins take levels. -/
def State.pinBudget (s : State) (budget : BitVec 8) (valid : Bool) : State :=
  { s with inp := { s.inp with pin := { s.inp.pin with budget := budget, budgetValid := valid } } }

/-- The stack throttle's pins take levels. -/
def State.pinStkThr (s : State) (thr : BitVec 8) : State :=
  { s with inp := { s.inp with pin := { s.inp.pin with stkThr := thr } } }

/-- The temperature as an MCLK edge that finds TEMP_VALID high has sampled it. -/
def State.tempSeen (s : State) (temp : BitVec 10) : State := (s.pinTemp temp true).latchPins.setPwr fun p => { p with tempLow := false }

section
variable {s : State}

theorem execTempUpdate_eq (temp : BitVec 10) (valid : Bool) : execTempUpdate temp valid s = .next
    (if !s.clkOn 0 then s.pinTemp temp valid
     else if s.role == 0 then (s.pinTemp temp valid).latchPins
     else if !valid then (s.pinTemp temp valid).latchPins.tempLost
     else (((s.pinTemp temp valid).latchPins.setPwr fun p => { p with tempLow := false }).hotCheck).tempRun.runAgain) := rfl

theorem execTempUpdate_stopped (hc : s.clkOn 0 = false) (temp : BitVec 10) (valid : Bool) :
    execTempUpdate temp valid s = .next (s.pinTemp temp valid) := by
  rw [execTempUpdate_eq, hc]
  rfl
theorem execTempUpdate_invalid (hc : s.clkOn 0 = true) (hr : s.role ≠ 0) (temp : BitVec 10) :
    execTempUpdate temp false s = .next (s.pinTemp temp false).latchPins.tempLost := by
  rw [execTempUpdate_eq, hc, beq_eq_false_iff_ne.mpr hr]
  rfl
theorem execTempUpdate_valid (hc : s.clkOn 0 = true) (hr : s.role ≠ 0) (temp : BitVec 10) :
    execTempUpdate temp true s = .next (s.tempSeen temp).hotCheck.tempRun.runAgain := by
  rw [execTempUpdate_eq, hc, beq_eq_false_iff_ne.mpr hr]
  rfl

theorem execBudgetChange_running (hc : s.clkOn 0 = true) (budget : BitVec 8) (valid : Bool) :
    execBudgetChange budget valid s = .next (s.pinBudget budget valid).accrue.latchPins.judgeBudget.throttleMoved := congrArg _ (if_pos hc)
theorem execBudgetChange_stopped (hc : s.clkOn 0 = false) (budget : BitVec 8) (valid : Bool) :
    execBudgetChange budget valid s = .next (s.pinBudget budget valid) := congrArg _ (if_neg (ne_true_of_eq_false hc))
theorem execStkThrChange_running (hc : s.clkOn 0 = true) (thr : BitVec 8) :
    execStkThrChange thr s = .next (s.pinStkThr thr).accrue.latchPins.throttleMoved := congrArg _ (if_pos hc)
theorem execStkThrChange_stopped (hc : s.clkOn 0 = false) (thr : BitVec 8) :
    execStkThrChange thr s = .next (s.pinStkThr thr) := congrArg _ (if_neg (ne_true_of_eq_false hc))

/-! ### TEMP_VALID (R61) -/

theorem State.tempLost_again (hl : s.pwr.tempLow = true) : s.tempLost = s := by
  unfold State.tempLost
  rw [hl, Bool.or_true, if_pos rfl]
theorem State.tempLost_first (hv : s.inp.tempValid = false) (hl : s.pwr.tempLow = false) :
    s.tempLost = (s.setPwr fun p => { p with tempLow := true }).raise EV.CAL.TEMP_INVALID 0 := by
  unfold State.tempLost
  rw [hv, hl]
  rfl

/-! ### The hot limit (R431) -/

/-- The hot limit comes into force: TEMP_HOT is raised, and on an M-end the cap falls to 16. -/
theorem State.hotCheck_on (hv : s.inp.tempValid = true) (hh : s.pwr.hot = false)
    (ht : toInt 10 (s.get POWER.TEMP_CTL.HOT) ≤ toInt 10 s.inp.temp.toNat) :
    s.hotCheck.pwr.hot = true ∧ (s.isM = true → s.hotCheck.get POWER.BUDGET_STAT.ENG_CAP ≤ 16) ∧ Raised EV.POWER.TEMP_HOT s.hotCheck := by
  generalize hu : (s.setPwr fun p => { p with hot := true }).raise EV.POWER.TEMP_HOT s.inp.temp.toNat = u
  have hot : u.pwr.hot = true := by rw [← hu, State.raise_pwr]; rfl
  have raised : bit (u.get (PAGE.EVT_STAT 14)) 2 = true := by
    rw [← hu, State.raise_mclk _ rfl]
    exact State.deliver_stat _ _ _ _ _ (by decide)
  have role : u.role = s.role := by
    rw [← hu]
    exact (ChipOnPages.raise _ _ rfl (List.mem_singleton_self 14)).regs.role (by decide)
  have cap : s.hotCheck = if u.isM then u.put POWER.BUDGET_STAT.ENG_CAP (min 16 (u.get POWER.BUDGET_STAT.ENG_CAP)) else u := by
    simp only [State.hotCheck, hv, hh, ht, decide_true, Bool.not_true, Bool.not_false, Bool.and_self, if_true, Bool.false_eq_true, if_false, hu]
  rw [cap]
  split
  next =>
    refine ⟨hot, fun _ => ?_, .inl ?_⟩
    · rw [State.get_put_same _ _ _ (by decide)]
      exact (Nat.mod_le ..).trans (Nat.min_le_left ..)
    · rwa [State.get_put_ne _ _ (by decide)]
  next hm => exact ⟨hot, fun h => absurd (by rwa [State.isM, role]) hm, .inl raised⟩

theorem State.hotCheck_off (hv : s.inp.tempValid = true) (hh : s.pwr.hot = true)
    (ht : toInt 10 s.inp.temp.toNat ≤ toInt 10 (s.get POWER.TEMP_CTL.HOT) - 20) : s.hotCheck.pwr.hot = false := by
  simp only [State.hotCheck, hv, hh, ht, decide_true, Bool.not_true, Bool.false_and, Bool.and_self, if_true, Bool.false_eq_true, if_false]
  rfl

/-- The hot limit concerns its flag, its event and the cap. -/
theorem State.hotCheck_get (s : State) {f : Field} (h : f.key % 4096 ≠ 0x018 ∧ f.key % 4096 ≠ 0x020 ∧ f.key % 4096 ≠ 0x038 ∧
    f.key ≠ RESET.XING_STAT.OVERRUN.key) (hc : POWER.BUDGET_STAT.ENG_CAP.key ≠ f.key) : s.hotCheck.get f = s.get f := by
  have hr := (s.setPwr fun p => { p with hot := true }).raise_get EV.POWER.TEMP_HOT s.inp.temp.toNat f h
  unfold State.hotCheck
  dsimp only
  split
  · rfl
  split
  · split
    · exact (State.get_put_ne _ _ hc).trans hr
    · exact hr
  split <;> rfl

theorem State.hotCheck_inp_cal (s : State) : s.hotCheck.inp = s.inp ∧ s.hotCheck.cal = s.cal := by
  have hi := (s.setPwr fun p => { p with hot := true }).raise_inp EV.POWER.TEMP_HOT s.inp.temp.toNat
  have hc := (s.setPwr fun p => { p with hot := true }).raise_cal EV.POWER.TEMP_HOT s.inp.temp.toNat
  unfold State.hotCheck
  dsimp only
  split
  · exact ⟨rfl, rfl⟩
  split
  · split
    · exact ⟨(State.put_inp ..).trans hi, (State.put_cal ..).trans hc⟩
    · exact ⟨hi, hc⟩
  split <;> exact ⟨rfl, rfl⟩

/-! ### Temperature runs (R124) -/

theorem State.colIn_congr {t : State} (h : t.chip = s.chip) (l : List ColState) : t.colIn l = s.colIn l := by unfold State.colIn; rw [h]

theorem State.tempRun_none (h : s.colIn [.active, .lowland] = false) : s.tempRun = s := by
  unfold State.tempRun
  rw [h]
  rfl
theorem State.runAgain_none (h : s.colIn [.active, .lowland] = false) : s.runAgain = s := by
  unfold State.runAgain
  rw [h, Bool.and_false, Bool.false_and]
  rfl
theorem State.runAgain_busy (h : s.cal.run.isSome = true) : s.runAgain = s := by
  unfold State.runAgain
  rw [Option.isNone_eq_false_iff.mpr h, Bool.and_false, Bool.false_and, Bool.false_and]
  rfl

/-- RUN_STAT as a run that starts leaves it: T_last takes TEMP, and the run number counts (R124). -/
def State.runCounted (s : State) : State :=
  ((s.put CAL.RUN_STAT.T_LAST s.inp.temp.toNat).put CAL.RUN_STAT.RUN (s.get CAL.RUN_STAT.RUN + 1)).put CAL.RUN_STAT.ACTIVE 1

theorem State.startRun_eq (s : State) (temp : Bool) : s.startRun temp = { s.runCounted with
    cal := { s.runCounted.cal with run := some { stage := .correct, old := [], drive := [], rejSites := [], rejGroup := false, temp := temp }
                                   again := false, againTemp := false } } := rfl

theorem State.runCounted_pwr (s : State) : s.runCounted.pwr = s.pwr := by
  rw [State.runCounted, State.put_pwr, State.put_pwr, State.put_pwr]
theorem State.runCounted_last (s : State) : s.runCounted.get CAL.RUN_STAT.T_LAST = s.inp.temp.toNat := by
  have apart : ∀ (t : State) (f : Field) (v : Nat), (f = CAL.RUN_STAT.RUN ∨ f = CAL.RUN_STAT.ACTIVE) →
      (t.put f v).get CAL.RUN_STAT.T_LAST = t.get CAL.RUN_STAT.T_LAST := fun t f v hf =>
    t.get_put_apart v (by rcases hf with rfl | rfl <;> decide)
  rw [State.runCounted, apart _ _ _ (.inr rfl), apart _ _ _ (.inl rfl), State.get_put_same _ _ _ (by decide)]
  exact Nat.mod_eq_of_lt s.inp.temp.isLt

theorem State.startRun_pwr (s : State) (temp : Bool) : (s.startRun temp).pwr = s.pwr := by
  rw [State.startRun_eq]
  dsimp only
  exact s.runCounted_pwr
theorem State.startRun_run (s : State) (temp : Bool) : (s.startRun temp).cal.run.isSome = true := by
  rw [State.startRun_eq]
  rfl
theorem State.startRun_last (s : State) (temp : Bool) : (s.startRun temp).get CAL.RUN_STAT.T_LAST = s.inp.temp.toNat := by
  rw [State.startRun_eq]
  exact (State.get_congr (s := s.runCounted) (by dsimp only) CAL.RUN_STAT.T_LAST).trans s.runCounted_last

/-- A run that starts, at once or after a wake, has no say in the hot limit. -/
theorem State.tempRun_hot (s : State) : s.tempRun.pwr.hot = s.pwr.hot := by
  unfold State.tempRun State.tryRun
  dsimp only
  split
  · split
    · rfl
    · rw [State.startRun_pwr]
  · rfl
theorem State.runAgain_hot (s : State) : s.runAgain.pwr.hot = s.pwr.hot := by
  unfold State.runAgain
  split
  · rw [State.startRun_pwr]
  · rfl

theorem State.tempRun_starts (hcol : s.colIn [.active, .lowland] = true) (hc : s.clkOn 4 = true) (hr : s.cal.run = none) (hp : s.parked = false)
    (hd : 4 * s.get CAL.DT_CTL.DELTA_T ≤ (toInt 10 s.inp.temp.toNat - toInt 10 (s.get CAL.RUN_STAT.T_LAST)).natAbs) :
    s.tempRun = s.startRun true := by
  simp only [State.tempRun, State.tryRun, hcol, hc, hr, hp, hd, Option.isNone_none, decide_true, Bool.and_self, if_true, Bool.false_eq_true, if_false]

end

/-! ### Budget (R428) -/

theorem stkHeldField_page (k : Nat) : (stkHeldField k).key / 4096 ∈ [3, 14] := by
  unfold stkHeldField
  split <;> decide

/-- Throttled beats are counted in the registers of page 14. -/
theorem State.accrue_kept (s : State) : s.accrue.inp = s.inp ∧ ChipOnPages [3, 14] s s.accrue := by
  have count : ∀ (n : Nat) (l : List Nat) (t : State), (l.foldl (fun t k => t.bumpBy (stkHeldField k) n) t).inp = t.inp ∧
      ChipOnPages [3, 14] t (l.foldl (fun t k => t.bumpBy (stkHeldField k) n) t) := by
    intro n l
    induction l with
    | nil => exact fun t => ⟨rfl, .refl _ t⟩
    | cons k l ih =>
      intro t
      obtain ⟨hi, hc⟩ := ih (t.bumpBy (stkHeldField k) n)
      exact ⟨hi.trans (t.put_inp ..), (ChipOnPages.put t _ (stkHeldField_page k)).trans hc⟩
  unfold State.accrue
  dsimp only
  split
  · obtain ⟨hi, hc⟩ := count (s.beat - s.pwr.thrSince).toNat ((List.range 4).filter fun k => s.stkLevel k != 0) s
    exact ⟨hi, hc.trans (.setPwr _ _)⟩
  · exact ⟨rfl, .setPwr s _⟩

theorem State.judgeBudget_inp (s : State) : s.judgeBudget.inp = s.inp := by
  have hr := (s.setPwr fun p => { p with shortSince := some s.beat }).raise_inp EV.POWER.BUDGET_SHORT s.inp.budget.toNat
  unfold State.judgeBudget
  split
  · rfl
  split
  · split
    · rfl
    · exact hr
  · rfl

/-- A powered end remembers since when its budget is short, and only while it is. -/
theorem State.judgeBudget_short {s : State} (h : s.powered = true) : s.judgeBudget.pwr.shortSince.isSome = s.budgetShort := by
  have hr := (s.setPwr fun p => { p with shortSince := some s.beat }).raise_pwr EV.POWER.BUDGET_SHORT s.inp.budget.toNat
  unfold State.judgeBudget
  rw [h, Bool.not_true, if_neg (by decide)]
  split
  next hb =>
    split
    next hs => rw [hs, hb]
    next => rw [hr, hb]; rfl
  next hb => rw [Bool.eq_false_iff.mpr hb]; rfl

section
variable {ps : List Nat} {s t : State}

/-- Whether the budget is short is read from the inputs and the registers of pages 0, 2 and 4. -/
theorem OnPages.budgetShort (h : OnPages ps s t) (hi : t.inp = s.inp) (hp : 0 ∉ ps ∧ 2 ∉ ps ∧ 4 ∉ ps) : t.budgetShort = s.budgetShort := by
  obtain ⟨h0, h2, h4⟩ := hp
  have rate : t.get PHY.RATE_STAT.RATE = s.get PHY.RATE_STAT.RATE := h.get h2
  have groups : t.groups false = s.groups false := h.get (f := REPAIR.WIDTH_STAT.TX_GROUPS) h4
  have isM : t.isM = s.isM := by rw [State.isM, State.isM, h.role h0]
  unfold State.budgetShort State.budget4 State.fixedPower
  rw [hi, rate, groups, isM]

theorem ChipOnPages.powered (h : ChipOnPages ps s t) (h0 : 0 ∉ ps) : t.powered = s.powered := by
  simp only [State.powered, State.clkOn, h.chip, h.regs.role h0]

end

/-- Settles O22: what a sampled input does, the rest of the end left aside; the work that the stack throttle releases is the engine's own. -/
theorem inputsAreSampledAndHeatLimitsTheEngine : Obligations.InputsAreSampledAndHeatLimitsTheEngine := by
  refine ⟨?invalid, ?stillInvalid, ?tempStopped, ?hot, ?cool, ?run, ?budget, ?budgetStopped, ?stkThr, ?stkThrStopped⟩
  case invalid =>
    intro s temp hc hr hl
    rw [exec_tempUpdate, execTempUpdate_invalid hc hr, State.tempLost_first (s := (s.pinTemp temp false).latchPins) rfl hl]
    exact ⟨_, rfl, by rw [State.raise_inp]; rfl, by rw [State.raise_pwr]; rfl, by rw [State.raise_cal]; rfl, State.raise_raised _ _ _ (by decide)⟩
  case stillInvalid =>
    intro s temp hc hr hl
    rw [exec_tempUpdate, execTempUpdate_invalid hc hr, State.tempLost_again (s := (s.pinTemp temp false).latchPins) hl]
    exact ⟨_, rfl, rfl, rfl, rfl⟩
  case tempStopped => exact fun s temp valid hc => execTempUpdate_stopped hc temp valid
  case hot =>
    intro s temp hc hr hh ht hcol
    have hcol' : (s.tempSeen temp).hotCheck.colIn [.active, .lowland] = false :=
      (State.colIn_congr (State.hotCheck_chipOnPages _).chip _).trans hcol
    rw [exec_tempUpdate, execTempUpdate_valid hc hr, State.tempRun_none hcol', State.runAgain_none hcol']
    exact ⟨_, rfl, State.hotCheck_on (s := s.tempSeen temp) rfl hh ht⟩
  case cool =>
    intro s temp hc hr hh ht
    rw [exec_tempUpdate, execTempUpdate_valid hc hr]
    exact ⟨_, rfl, (State.runAgain_hot _).trans ((State.tempRun_hot _).trans (State.hotCheck_off (s := s.tempSeen temp) rfl hh ht))⟩
  case run =>
    intro s temp hc hr hcol hl hrun hp hd
    generalize hu : (s.tempSeen temp).hotCheck = u
    have chip : u.chip = s.chip := by rw [← hu]; exact (State.hotCheck_chipOnPages _).chip
    obtain ⟨inp, cal⟩ : u.inp.temp = temp ∧ u.cal = s.cal := by
      obtain ⟨hi, hk⟩ := (s.tempSeen temp).hotCheck_inp_cal
      rw [← hu]
      exact ⟨congrArg Inputs.temp hi, hk⟩
    have state : u.get POWER.PWR_STAT.STATE = s.get POWER.PWR_STAT.STATE := by rw [← hu]; exact State.hotCheck_get _ (by decide) (by decide)
    have delta : u.get CAL.DT_CTL.DELTA_T = s.get CAL.DT_CTL.DELTA_T := by rw [← hu]; exact State.hotCheck_get _ (by decide) (by decide)
    have last : u.get CAL.RUN_STAT.T_LAST = s.get CAL.RUN_STAT.T_LAST := by rw [← hu]; exact State.hotCheck_get _ (by decide) (by decide)
    have start : u.tempRun = u.startRun true := State.tempRun_starts ((State.colIn_congr chip _).trans hcol)
      (by rw [State.clkOn, chip]; exact hl) (by rw [cal]; exact hrun) (by rw [State.parked, state]; exact hp) (by rw [delta, last, inp]; exact hd)
    rw [exec_tempUpdate, execTempUpdate_valid hc hr, hu, start, State.runAgain_busy (u.startRun_run true)]
    exact ⟨_, rfl, u.startRun_run true, (u.startRun_last true).trans (by rw [inp])⟩
  case budget =>
    intro s budget valid hc
    obtain ⟨hi, hk⟩ := (s.pinBudget budget valid).accrue_kept
    generalize hu : (s.pinBudget budget valid).accrue.latchPins = u
    have pin : u.inp.budget = budget ∧ u.inp.budgetValid = valid := by
      rw [← hu]
      exact ⟨congrArg (fun i : Inputs => i.pin.budget) hi, congrArg (fun i : Inputs => i.pin.budgetValid) hi⟩
    have power : u.powered = s.powered := by
      rw [← hu]
      exact hk.powered (by decide)
    have go := u.judgeBudget.throttleMoved_offEngine
    have inp := (State.inp_of_offEngine go).trans u.judgeBudget_inp
    have short : u.judgeBudget.throttleMoved.budgetShort = u.budgetShort :=
      ((State.onPages_of_offEngine go).budgetShort (State.inp_of_offEngine go) (by decide)).trans
        (u.judgeBudget_chipOnPages.regs.budgetShort u.judgeBudget_inp (by decide))
    rw [exec_budgetChange, execBudgetChange_running hc, hu]
    refine ⟨_, rfl, by rw [inp]; exact pin.1, by rw [inp]; exact pin.2, fun hp => ?_⟩
    rw [State.pwr_of_offEngine go, State.judgeBudget_short (power.trans hp), short]
  case budgetStopped => exact fun s budget valid hc => execBudgetChange_stopped hc budget valid
  case stkThr =>
    intro s thr hc
    have go := (s.pinStkThr thr).accrue.latchPins.throttleMoved_offEngine
    rw [exec_stkThrChange, execStkThrChange_running hc]
    exact ⟨_, rfl, (congrArg Inputs.stkThr (State.inp_of_offEngine go)).trans (congrArg (fun i : Inputs => i.pin.stkThr) (s.pinStkThr thr).accrue_kept.1)⟩
  case stkThrStopped => exact fun s thr hc => execStkThrChange_stopped hc thr

end Sys2Proof.Machine
end

section
/-!
PROOFS. Frames, flits, headers and credit messages (R87, R88, R160, R164, R165, R174 to R178, R199): each is a packed word, and its
receiver reads the fields that were packed.
-/

namespace Sys2Proof.Machine

/-! ### Reading a packed word -/

/-- Bits that lie within the lowest field of a packed word are bits of that field. -/
theorem bits_packLow_within (v w : Nat) (l : List (Nat × Nat)) {lo wd : Nat} (h : lo + wd ≤ w) :
    bits (packLow ((v, w) :: l)) lo wd = bits v lo wd := by
  refine Nat.eq_of_testBit_eq fun i => ?_
  rw [bits_testBit, bits_testBit]
  by_cases hi : i < wd
  · have hw : lo + i < w := by omega
    rw [packLow, Nat.add_comm, Nat.testBit_two_pow_mul_add _ (Nat.mod_lt _ (Nat.two_pow_pos w)), if_pos hw, Nat.testBit_mod_two_pow]
    simp [hw]
  · simp [hi]

/-- The lowest field of a packed word, read back at every value that its width admits. -/
theorem bits_packLow_field {v w : Nat} (h : v < 2 ^ w) (l : List (Nat × Nat)) : bits (packLow ((v, w) :: l)) 0 w = v :=
  (bits_packLow_head v w l).trans (Nat.mod_eq_of_lt h)

theorem bits_whole {v w : Nat} (h : v < 2 ^ w) : bits v 0 w = v := Nat.mod_eq_of_lt h

theorem bit_eq_bits (n i : Nat) : bit n i = decide (bits n i 1 = 1) := rfl

theorem b2n_mod_two (b : Bool) : decide (b2n b % 2 = 1) = b := by cases b <;> rfl

theorem packLow_lt_of {l : List (Nat × Nat)} {n : Nat} (h : (l.map (·.2)).sum = n) : packLow l < 2 ^ n := h ▸ packLow_lt l

/-- A word packed of one field below another is their sum. -/
theorem packLow_pair {a b v w : Nat} (hv : v < 2 ^ a) (hw : w < 2 ^ b) : packLow [(v, a), (w, b)] = v + 2 ^ a * w := by
  rw [packLow, packLow, packLow, Nat.mod_eq_of_lt hv, Nat.mod_eq_of_lt hw, Nat.mul_zero, Nat.add_zero]

/-- A packed word is held whole by a bit vector as wide as its fields together. -/
theorem toNat_ofNat_packLow {n : Nat} {l : List (Nat × Nat)} (h : (l.map (·.2)).sum = n) : (BitVec.ofNat n (packLow l)).toNat = packLow l := by
  subst h
  rw [BitVec.toNat_ofNat, Nat.mod_eq_of_lt (packLow_lt l)]

/-! ### The checks' widths -/

theorem crcStepMsb_lt {w poly : Nat} (hp : poly < 2 ^ w) (crc : Nat) (b : Bool) : crcStepMsb w poly crc b < 2 ^ w := by
  have hc : 2 * crc % 2 ^ w < 2 ^ w := Nat.mod_lt _ (Nat.two_pow_pos w)
  unfold crcStepMsb
  split
  · exact hc
  · exact Nat.xor_lt_two_pow hc hp

theorem crcMsb_lt {w poly : Nat} (hp : poly < 2 ^ w) (n data : Nat) {crc : Nat} (hc : crc < 2 ^ w) : crcMsb w poly n data crc < 2 ^ w := by
  induction n generalizing crc with
  | zero => exact hc
  | succ n ih => exact ih (crcStepMsb_lt hp crc _)

theorem crcLsb_lt {w poly : Nat} (hp : poly < 2 ^ w) (n data : Nat) {crc : Nat} (hc : crc < 2 ^ w) : crcLsb poly n data crc < 2 ^ w := by
  induction n generalizing data crc with
  | zero => exact hc
  | succ n ih =>
    have half : crc / 2 < 2 ^ w := (Nat.div_le_self _ _).trans_lt hc
    refine ih _ ?_
    split
    · exact half
    · exact Nat.xor_lt_two_pow half hp

theorem crc64Bytes_lt (f n i : Nat) {crc : Nat} (hc : crc < 2 ^ 64) : crc64Bytes f n i crc < 2 ^ 64 := by
  induction n generalizing i crc with
  | zero => exact hc
  | succ n ih => exact ih _ (crcMsb_lt (by decide) 8 _ hc)

theorem fcrc_lt (body : Nat) : fcrc body < 2 ^ 8 := crcMsb_lt (by decide) 48 body (by decide)

theorem crc32_lt (n data : Nat) : crc32 n data < 2 ^ 32 := Nat.xor_lt_two_pow (crcLsb_lt (by decide) n data (by decide)) (by decide)

theorem bulkCrc_lt (f : Nat) : bulkCrc f < 2 ^ 64 := Nat.xor_lt_two_pow (crc64Bytes_lt f 248 0 (by decide)) (by decide)

/-- The CRC-64 depends on the bytes that it covers alone. -/
theorem crc64Bytes_congr {f g : Nat} (n i crc : Nat) (h : ∀ j < i + n, bits f (8 * j) 8 = bits g (8 * j) 8) :
    crc64Bytes f n i crc = crc64Bytes g n i crc := by
  induction n generalizing i crc with
  | zero => rfl
  | succ n ih =>
    rw [crc64Bytes, crc64Bytes, h i (by omega)]
    exact ih _ _ fun j hj => h j (by omega)

/-! ### Sideband frames (R87, R88) -/

/-- The 48 bits of a frame that the vote compares. -/
def frameBody (ty fseq pl : Nat) : Nat := packLow [(pl, 40), (fseq, 4), (ty, 4)]

theorem frameBody_lt (ty fseq pl : Nat) : frameBody ty fseq pl < 2 ^ 48 := packLow_lt _

theorem sbFrame_toNat (ty fseq pl : Nat) : (sbFrame ty fseq pl).toNat =
    packLow [(0xE, 4), (fcrc (frameBody ty fseq pl), 8), (frameBody ty fseq pl, 48), (5, 4)] := by
  have body : ty % 16 * 2 ^ 44 + fseq % 16 * 2 ^ 40 + pl % 2 ^ 40 = frameBody ty fseq pl := by
    simp only [frameBody, packLow]
    omega
  have frame : 5 * 2 ^ 60 + frameBody ty fseq pl * 2 ^ 12 + fcrc (frameBody ty fseq pl) * 2 ^ 4 + 0xE =
      packLow [(0xE, 4), (fcrc (frameBody ty fseq pl), 8), (frameBody ty fseq pl, 48), (5, 4)] := by
    simp only [packLow, Nat.mod_eq_of_lt (frameBody_lt ty fseq pl), Nat.mod_eq_of_lt (fcrc_lt _)]
    norm_num
    ring
  rw [← toNat_ofNat_packLow rfl, ← frame, ← body]
  rfl

theorem sbBody_sbFrame (ty fseq pl : Nat) : sbBody (sbFrame ty fseq pl) = frameBody ty fseq pl := by
  rw [sbBody, sbFrame_toNat, bits_packLow_tail _ _ _ (by decide), bits_packLow_tail _ _ _ (by decide),
    bits_packLow_field (frameBody_lt ty fseq pl)]

theorem sbValid_sbFrame (ty fseq pl : Nat) : sbValid (sbFrame ty fseq pl) = true := by
  have sof : bits (sbFrame ty fseq pl).toNat 60 4 = 5 := by
    rw [sbFrame_toNat, bits_packLow_tail _ _ _ (by decide), bits_packLow_tail _ _ _ (by decide), bits_packLow_tail _ _ _ (by decide),
      bits_packLow_field (by decide)]
  have eof : bits (sbFrame ty fseq pl).toNat 0 4 = 0xE := by rw [sbFrame_toNat, bits_packLow_field (by decide)]
  have crc : bits (sbFrame ty fseq pl).toNat 4 8 = fcrc (sbBody (sbFrame ty fseq pl)) := by
    rw [sbBody_sbFrame, sbFrame_toNat, bits_packLow_tail _ _ _ (by decide), bits_packLow_field (fcrc_lt _)]
  simp [sbValid, sof, eof, crc]

theorem bodyType_frameBody {ty : Nat} (h : ty < 16) (fseq pl : Nat) : bodyType (frameBody ty fseq pl) = ty := by
  rw [bodyType, frameBody, bits_packLow_tail _ _ _ (by decide), bits_packLow_tail _ _ _ (by decide), bits_packLow_field h]

theorem bodyFseq_frameBody (ty : Nat) {fseq : Nat} (h : fseq < 16) (pl : Nat) : bodyFseq (frameBody ty fseq pl) = fseq := by
  rw [bodyFseq, frameBody, bits_packLow_tail _ _ _ (by decide), bits_packLow_field h]

theorem bodyPayload_frameBody (ty fseq : Nat) {pl : Nat} (h : pl < 2 ^ 40) : bodyPayload (frameBody ty fseq pl) = pl := by
  rw [bodyPayload, frameBody, bits_packLow_field h]

/-! ### Bulk flits (R160, R164, R178) -/

theorem slotsNat_eq (l : List Nat) : slotsNat l = packLow (l.map (·, 128)) := by
  induction l with
  | nil => rfl
  | cons u l ih => rw [slotsNat, ih, List.map_cons, packLow]

theorem bits_slotsNat (l : List Nat) {i : Nat} (h : i < l.length) : bits (slotsNat l) (128 * i) 128 = l[i] % 2 ^ 128 := by
  rw [slotsNat_eq]
  induction l generalizing i with
  | nil => exact absurd h (Nat.not_lt_zero i)
  | cons u l ih =>
    cases i with
    | zero => exact bits_packLow_head ..
    | succ i =>
      rw [List.map_cons, bits_packLow_tail _ _ _ (by omega), Nat.mul_succ, Nat.add_sub_cancel]
      exact ih (Nat.lt_of_succ_lt_succ h)

/-- The bytes of a bulk flit that its CRC covers. -/
def bulkBody (h : BulkHdr) (us : List Nat) : Nat := packLow [(h.word, 64), (slotsNat us, 1920)]

theorem bulkBody_lt (h : BulkHdr) (us : List Nat) : bulkBody h us < 2 ^ 1984 := packLow_lt_of rfl

theorem BulkHdr.word_lt (h : BulkHdr) : h.word < 2 ^ 64 := packLow_lt_of rfl

theorem slotsNat_lt {us : List Nat} (h : us.length = 15) : slotsNat us < 2 ^ 1920 := by
  rw [slotsNat_eq]
  refine packLow_lt_of ?_
  simp [Function.comp_def, h]

theorem buildBulk_toNat (h : BulkHdr) {us : List Nat} (hu : us.length = 15) :
    (buildBulk h us).toNat = packLow [(bulkBody h us, 1984), (bulkCrc (bulkBody h us), 64)] := by
  have body : h.word + 2 ^ 64 * slotsNat (us.take 15) = bulkBody h us := by
    rw [List.take_of_length_le hu.le, bulkBody, packLow_pair h.word_lt (slotsNat_lt hu)]
  rw [← toNat_ofNat_packLow rfl, packLow_pair (bulkBody_lt h us) (bulkCrc_lt _), Nat.mul_comm, ← body]
  rfl

theorem bulkOk_buildBulk (h : BulkHdr) {us : List Nat} (hu : us.length = 15) : bulkOk (buildBulk h us).toNat = true := by
  have covered : bulkCrc (buildBulk h us).toNat = bulkCrc (bulkBody h us) := by
    unfold bulkCrc
    rw [crc64Bytes_congr 248 0 _ fun j hj => ?_]
    rw [buildBulk_toNat h hu, bits_packLow_within _ _ _ (by omega)]
  rw [bulkOk, covered, buildBulk_toNat h hu, bits_packLow_tail _ _ _ (by decide), bits_packLow_field (bulkCrc_lt _), beq_self_eq_true]

theorem bulkSlots_getElem (f : Nat) {i : Nat} (h : i < (bulkSlots f).length) : (bulkSlots f)[i] = bits f (64 + 128 * i) 128 := by
  simp [bulkSlots]

theorem bulkSlots_buildBulk (h : BulkHdr) {us : List Nat} (hu : us.length = 15) (hs : ∀ u ∈ us, u < 2 ^ 128) :
    bulkSlots (buildBulk h us).toNat = us := by
  refine List.ext_getElem (by simp [bulkSlots, hu]) fun i hi hi' => ?_
  rw [bulkSlots_getElem, buildBulk_toNat h hu, bits_packLow_within _ _ _ (by omega), bulkBody,
    bits_packLow_tail _ _ _ (by omega), Nat.add_sub_cancel_left, bits_packLow_within _ _ _ (by omega), bits_slotsNat us hi',
    Nat.mod_eq_of_lt (hs _ (List.getElem_mem hi'))]

/-- The header of a bulk flit is in its lowest word. -/
theorem bits_buildBulk_word (h : BulkHdr) {us : List Nat} (hu : us.length = 15) {lo wd : Nat} (hw : lo + wd ≤ 64) :
    bits (buildBulk h us).toNat lo wd = bits h.word lo wd := by
  rw [buildBulk_toNat h hu, bits_packLow_within _ _ _ (by omega), bulkBody, bits_packLow_within _ _ _ hw]

theorem bulkHdr_buildBulk {h : BulkHdr} {us : List Nat} (seq : h.seq < 4096) (ack : h.ack < 4096) (ackt : h.ackt < 4) (ftype : h.ftype < 4)
    (crTc : h.crTc < 4) (crKind : h.crKind < 2) (crCount : h.crCount < 65536) (hdrMap : h.hdrMap < 2 ^ 15) (rsvd : h.rsvd = false)
    (hu : us.length = 15) : bulkHdr (buildBulk h us).toNat = h := by
  have word : bulkHdr (buildBulk h us).toNat = bulkHdr h.word := by
    simp only [bulkHdr, bit_eq_bits, bits_buildBulk_word h hu, Nat.reduceAdd, Nat.reduceLeDiff]
  rw [word]
  obtain ⟨_, _, _, _, _, _, _, _, _, _⟩ := h
  simp only [Nat.reducePow] at *
  simp only [bulkHdr, BulkHdr.word, bit_eq_bits, bits_packLow_tail, bits_packLow_head, Nat.reduceLeDiff, Nat.reduceSub, b2n_mod_two,
    Nat.reducePow, Nat.mod_eq_of_lt, *]
  rfl

/-! ### Control flits (R174, R175, R178) -/

/-- The 224 bits of a control flit that its CRC covers. -/
def ctrlBody (h : CtrlHdr) : Nat :=
  packLow [(h.cseq, 8), (h.cack, 8), (h.back, 12), (h.backt, 2), (h.cft, 2), (h.msgs.getD 0 emptyMsg, 64), (h.msgs.getD 1 emptyMsg, 64),
    (h.msgs.getD 2 emptyMsg, 64)]

theorem ctrlBody_lt (h : CtrlHdr) : ctrlBody h < 2 ^ 224 := packLow_lt_of rfl

theorem buildCtrl_toNat (h : CtrlHdr) : (buildCtrl h).toNat = packLow [(ctrlBody h, 224), (crc32 224 (ctrlBody h), 32)] := by
  rw [← toNat_ofNat_packLow rfl, packLow_pair (ctrlBody_lt h) (crc32_lt 224 _), Nat.mul_comm]
  rfl

theorem bits_buildCtrl_body (h : CtrlHdr) {lo wd : Nat} (hw : lo + wd ≤ 224) : bits (buildCtrl h).toNat lo wd = bits (ctrlBody h) lo wd := by
  rw [buildCtrl_toNat, bits_packLow_within _ _ _ hw]

theorem ctrlOk_buildCtrl (h : CtrlHdr) : ctrlOk (buildCtrl h).toNat = true := by
  rw [ctrlOk, bits_buildCtrl_body h (lo := 0) (wd := 224) (by decide), buildCtrl_toNat, bits_packLow_tail _ _ _ (by decide),
    bits_packLow_field (crc32_lt 224 _), bits_whole (ctrlBody_lt h), beq_self_eq_true]

/-- Three message slots: the messages, then EMPTY. -/
theorem msgSlots_eq {l : List Nat} (h : l.length ≤ 3) :
    [l.getD 0 emptyMsg, l.getD 1 emptyMsg, l.getD 2 emptyMsg] = l ++ List.replicate (3 - l.length) emptyMsg := by
  match l, h with
  | [], _ => rfl
  | [_], _ => rfl
  | [_, _], _ => rfl
  | [_, _, _], _ => rfl

theorem getD_emptyMsg_lt {l : List Nat} (h : ∀ m ∈ l, m < 2 ^ 64) (i : Nat) : l.getD i emptyMsg < 2 ^ 64 := by
  rw [List.getD_eq_getElem?_getD]
  cases hi : l[i]? with
  | none => decide
  | some m => exact h m (List.mem_of_getElem? hi)

theorem ctrlHdr_buildCtrl {h : CtrlHdr} (cseq : h.cseq < 256) (cack : h.cack < 256) (back : h.back < 4096) (backt : h.backt < 4)
    (cft : h.cft < 4) (hl : h.msgs.length ≤ 3) (hm : ∀ m ∈ h.msgs, m < 2 ^ 64) :
    ctrlHdr (buildCtrl h).toNat = { h with msgs := h.msgs ++ List.replicate (3 - h.msgs.length) emptyMsg } := by
  rw [← msgSlots_eq hl]
  have m0 := getD_emptyMsg_lt hm 0
  have m1 := getD_emptyMsg_lt hm 1
  have m2 := getD_emptyMsg_lt hm 2
  simp only [Nat.reducePow] at *
  simp only [ctrlHdr, bits_buildCtrl_body, ctrlBody, bits_packLow_tail, bits_packLow_head, Nat.reduceAdd, Nat.reduceLeDiff, Nat.reduceSub,
    Nat.reducePow, Nat.mod_eq_of_lt, *]

/-! ### Transaction headers (R165) -/

theorem hdrOf_unit {h : Hdr} (op : h.op < 256) (tc : h.tc < 4) (rsvd : h.rsvd = false) (tag : h.tag < 4096) (len : h.len < 16)
    (status : h.status < 16) (addr : h.addr < 2 ^ 46) (ctx : h.ctx < 2 ^ 14) (attr : h.attr < 256) (opd : h.opd < 4096)
    (dbeat : h.dbeat < 65536) : hdrOf h.unit = h := by
  obtain ⟨_, _, _, _, _, _, _, _, _, _, _, _⟩ := h
  simp only [Nat.reducePow] at *
  simp only [hdrOf, Hdr.unit, bit_eq_bits, bits_packLow_tail, bits_packLow_head, Nat.reduceLeDiff, Nat.reduceSub, b2n_mod_two,
    Nat.reducePow, Nat.mod_eq_of_lt, *]
  rfl

/-! ### Credit messages (R177, R199) -/

/-- The kinds of credit fit their fields, and their fields name them. -/
theorem creditKey_fits : ∀ k < 11, (creditKey k).1 < 2 ∧ (creditKey k).2.1 < 8 ∧ (creditKey k).2.2 < 2 ∧
    creditIndex (creditKey k).1 (creditKey k).2.1 (creditKey k).2.2 = some k := by decide

theorem creditMsg_eq (lt : Nat) {k : Nat} (hk : k < 11) (n : Nat) : creditMsg lt k n =
    packLow [(2, 3), (lt, 5), ((creditKey k).1, 1), ((creditKey k).2.1, 3), ((creditKey k).2.2, 1), (0, 3), (n, 16)] := by
  obtain ⟨hs, hc, hd, -⟩ := creditKey_fits k hk
  unfold creditMsg
  generalize creditKey k = key at hs hc hd ⊢
  obtain ⟨st, cl, kd⟩ := key
  simp only [linkMsg, packLow] at hs hc hd ⊢
  omega

theorem msgClass_creditMsg (lt : Nat) {k : Nat} (hk : k < 11) (n : Nat) : msgClass (creditMsg lt k n) = 2 := by
  rw [msgClass, creditMsg_eq lt hk, bits_packLow_field (by decide)]

theorem msgLtype_creditMsg {lt k : Nat} (hl : lt < 2 ^ 5) (hk : k < 11) (n : Nat) : msgLtype (creditMsg lt k n) = lt := by
  rw [msgLtype, creditMsg_eq lt hk, bits_packLow_tail _ _ _ (by decide), bits_packLow_field hl]

theorem creditOf_creditMsg (lt : Nat) {k n : Nat} (hk : k < 11) (hn : n < 65536) : creditOf (creditMsg lt k n) = (some k, n) := by
  obtain ⟨hs, hc, hd, named⟩ := creditKey_fits k hk
  simp only [creditOf, creditMsg_eq lt hk, bits_packLow_tail, bits_packLow_head, Nat.reduceLeDiff, Nat.reduceSub, Nat.reducePow,
    Nat.mod_eq_of_lt hs, Nat.mod_eq_of_lt hc, Nat.mod_eq_of_lt hd, Nat.mod_eq_of_lt hn, named]

/-- Settles O50: every frame, flit, header and credit message is a packed word, read back field by field. -/
theorem framesFlitsAndHeadersAreReadAsSent : Obligations.FramesFlitsAndHeadersAreReadAsSent := by
  unfold Obligations.FramesFlitsAndHeadersAreReadAsSent
  refine ⟨?frame, ?bulk, ?ctrl, ?header, ?credit⟩
  case frame =>
    intro ty fseq pl hty hf hp
    rw [sbBody_sbFrame]
    exact ⟨sbValid_sbFrame ty fseq pl, bodyType_frameBody hty fseq pl, bodyFseq_frameBody ty hf pl, bodyPayload_frameBody ty fseq hp⟩
  case bulk =>
    intro h us seq ack ackt ftype crTc crKind crCount hdrMap rsvd hu hs
    exact ⟨bulkHdr_buildBulk seq ack ackt ftype crTc crKind crCount hdrMap rsvd hu, bulkSlots_buildBulk h hu hs, bulkOk_buildBulk h hu⟩
  case ctrl =>
    intro h cseq cack back backt cft hl hm
    exact ⟨ctrlHdr_buildCtrl cseq cack back backt cft hl hm, ctrlOk_buildCtrl h⟩
  case header =>
    intro h op tc rsvd tag len status addr ctx attr opd dbeat
    exact hdrOf_unit op tc rsvd tag len status addr ctx attr opd dbeat
  case credit =>
    intro lt k n hl hk hn
    exact ⟨creditOf_creditMsg lt hk hn, msgLtype_creditMsg (by omega) hk n, msgClass_creditMsg lt hk n⟩

end Sys2Proof.Machine
end

section
/-!
PROOFS. TRAIN and IDENT frames, frames of a reserved TYPE, and the attempts of the identity exchange (R89, R96, R100, R103, R109).
-/

namespace Sys2Proof.Machine

theorem exec_trainFrame (c : SbCopies) (s : State) : exec (.trainFrame c) s = execTrainFrame c s := rfl
theorem exec_identChunk (c : SbCopies) (s : State) : exec (.identChunk c) s = execIdentChunk c s := rfl
theorem exec_sbFrameReserved (c : SbCopies) (s : State) : exec (.sbFrameReserved c) s = execSbFrameReserved c s := rfl
theorem exec_identAttemptTimeout (now : Beat) (s : State) : exec (.identAttemptTimeout now) s = execIdentAttemptTimeout now s := rfl

/-! ### The Col state under events and on the way to DOWN -/

@[simp] theorem State.raise_col (s : State) (e : Event) (v : Nat) : (s.raise e v).chip.col = s.chip.col := by
  obtain ⟨_, _, h⟩ := s.raise_chip e v
  rw [h]

/-- The events of the MCLK domain set their status bit at once (R444). -/
theorem State.raise_stat (s : State) {e : Event} (h : e.dom = 0) (hb : e.bit < 64) (v : Nat) :
    bit ((s.raise e v).get (PAGE.EVT_STAT e.page)) e.bit = true := by
  rw [State.raise_mclk s h]
  exact s.deliver_stat _ _ _ _ hb

@[simp] theorem State.goDown_col (s : State) (cause : Option Nat) : (s.goDown cause).chip.col = .down :=
  (State.raise_col ..).trans (State.setCol_col ..)

@[simp] theorem State.downFor_col (s : State) (e : Event) (v : Nat) : (s.downFor e v).chip.col = .down := State.goDown_col ..

/-! ### What sending frames leaves -/

@[simp] theorem State.sbSend_chunks (s : State) (t : SbType) (pl : Nat) : (s.sbSend t pl).sb.chunks = s.sb.chunks := by
  unfold State.sbSend State.nextFrame State.crossIn
  repeat' split
  all_goals rfl

@[simp] theorem State.train_chunks (s : State) : s.train.sb.chunks = s.sb.chunks := s.sbSend_chunks ..

theorem State.train_attempts (s : State) : s.train.get IDENT.IDENT_STAT.ATTEMPTS = s.get IDENT.IDENT_STAT.ATTEMPTS := by
  rw [State.train, State.get_sb, State.get_put_apart _ _ (by decide), State.sbSend_get]

/-- The 16 chunks of the own record leave whatever one frame leaves. -/
theorem State.sendRecord_keeps {α : Type} (f : State → α) (hf : ∀ s t pl, f (s.sbSend t pl) = f s) (s : State) : f s.sendRecord = f s :=
  List.foldlRecOn (motive := fun t => f t = f s) _ _ rfl fun _ ht _ _ => (hf _ _ _).trans ht

/-! ### The identity exchange (R103, R109) -/

theorem State.startExchange_col (s : State) : s.startExchange.chip.col = s.chip.col :=
  (State.sendRecord_keeps (·.chip.col) State.sbSend_col _).trans (State.train_col _)

theorem State.startExchange_chunks (s : State) : s.startExchange.sb.chunks = [] :=
  (State.sendRecord_keeps (·.sb.chunks) State.sbSend_chunks _).trans (State.train_chunks _)

theorem State.startExchange_attempts (s : State) : s.startExchange.get IDENT.IDENT_STAT.ATTEMPTS = s.get IDENT.IDENT_STAT.ATTEMPTS := by
  rw [State.startExchange, State.sendRecord_keeps (·.get IDENT.IDENT_STAT.ATTEMPTS) (fun s t pl => s.sbSend_get t pl _), State.train_attempts,
    State.get_sb, State.get_put_ne _ _ (by decide)]

theorem State.putRecord_chip (s : State) (f : Nat → Field) (r : Nat) : (s.putRecord f r).chip = s.chip :=
  List.foldlRecOn (motive := fun t : State => t.chip = s.chip) _ _ rfl fun _ ht _ _ => ht

theorem State.enterIdent_col (s : State) : s.enterIdent.chip.col = .ident := by
  rw [State.enterIdent, State.startExchange_col, State.put_chip, State.putRecord_chip, State.setCol_col]

theorem execIdentAttemptTimeout_restarts {s r : State} {now : Beat} (hr : s.at now = r) (hc : r.chip.col = .ident) (hj : r.sb.rejected = false)
    (hp : r.past r.chip.stepEntry 200000 = true) (ha : r.get IDENT.IDENT_STAT.ATTEMPTS < 3) :
    execIdentAttemptTimeout now s = .next ({ r.put IDENT.IDENT_STAT.ATTEMPTS (r.get IDENT.IDENT_STAT.ATTEMPTS + 1) with
      chip := { r.chip with stepEntry := r.beat } } : State).startExchange := by
  subst hr
  simp only [execIdentAttemptTimeout, hc, hj, hp, Nat.not_le.mpr ha, Bool.not_false, Bool.and_self, decide_true, if_true, if_false, State.put_chip,
    State.put_beat]

theorem execIdentAttemptTimeout_down {s r : State} {now : Beat} (hr : s.at now = r) (hc : r.chip.col = .ident) (hj : r.sb.rejected = false)
    (hp : r.past r.chip.stepEntry 200000 = true) (ha : 3 ≤ r.get IDENT.IDENT_STAT.ATTEMPTS) :
    execIdentAttemptTimeout now s = .next (r.downFor EV.IDENT.IDENT_TIMEOUT (r.get IDENT.IDENT_STAT.ATTEMPTS)) := by
  subst hr
  simp only [execIdentAttemptTimeout, hc, hj, hp, ha, Bool.not_false, Bool.and_self, decide_true, if_true]

/-- The state with a chunk of the far record stored by its index (R103). -/
def State.storeChunk (s : State) (pl : Nat) : State :=
  { s with sb := { s.sb with chunks := Sparse.set (bits pl 36 4) (some (BitVec.ofNat 32 pl)) s.sb.chunks } }

theorem State.storeChunk_find (s : State) (pl : Nat) :
    Sparse.find (s.storeChunk pl).sb.chunks (bits pl 36 4) = some (BitVec.ofNat 32 pl) := by
  rw [State.storeChunk, Sparse.find_set, if_pos rfl]

theorem execIdentChunk_stored {s r : State} {c : SbCopies} {b : Nat} (h : Heard s c b r) (ht : bodyType b = SbType.ident.code)
    (hc : r.chip.col = .ident) (hf : r.on IDENT.REC_STAT.FAR_HELD = false) 
    (hl : (Sparse.set (bits (bodyPayload b) 36 4) (some (BitVec.ofNat 32 (bodyPayload b))) r.sb.chunks).length ≠ 16) :
    execIdentChunk c s = .next (r.storeChunk (bodyPayload b)) := by
  rw [execIdentChunk, State.receive_eq h ht, hc, hf, if_neg (by simp)]
  exact congrArg _ (if_neg hl)

/-! ### TRAIN frames in SB_UP (R96, R100) -/

/-- What an accepted TRAIN frame shows of the far end, kept. -/
def State.showFar (s : State) (pl : Nat) : State :=
  { (s.put IDENT.IDENT_STAT.FAR_STATE (bits pl 36 4)).put IDENT.IDENT_STAT.FAR_STEP (bits pl 32 4) with
    sb := { s.sb with farIdentSeen := s.sb.farIdentSeen || decide (3 ≤ bits pl 36 4) } }

theorem State.showFar_col (s : State) (pl : Nat) : (s.showFar pl).chip.col = s.chip.col := rfl

theorem State.showFar_farState (s : State) (pl : Nat) : (s.showFar pl).get IDENT.IDENT_STAT.FAR_STATE = bits pl 36 4 := by
  rw [State.showFar, State.get_sb, State.get_put_apart _ _ (by decide), State.get_put_same _ _ _ (by decide)]
  exact Nat.mod_eq_of_lt (bits_lt ..)

/-- In SB_UP a TRAIN frame with a STATUS that is not reserved is shown and counted. -/
theorem State.onTrain_sbUp {s : State} {pl : Nat} (hc : s.chip.col = .sbUp) (hs : bits pl 28 4 < 11) :
    s.onTrain pl = (s.showFar pl).countTrain (bits pl 36 4) := by
  have early : ((s.put IDENT.IDENT_STAT.FAR_STATE (bits pl 36 4)).put IDENT.IDENT_STAT.FAR_STEP (bits pl 32 4)).farReset (bits pl 36 4) = false := by
    simp [State.farReset, State.colIn, hc]
  unfold State.onTrain
  simp only [Nat.not_le.mpr hs, if_false, early, State.put_chip, hc, State.put_sb, Bool.false_eq_true, State.showFar]

/-- Fewer than four frames in a row count. -/
theorem State.countTrain_counts (s : State) {st : Nat} (h2 : 2 ≤ st) (h : s.sb.trains < 3) :
    (s.countTrain st).sb.trains = s.sb.trains + 1 ∧ (s.countTrain st).chip = s.chip ∧ ∀ f, (s.countTrain st).get f = s.get f := by
  have stays : s.countTrain st = { s with sb := { s.sb with trains := s.sb.trains + 1 } } := by
    simp only [State.countTrain, if_pos h2, if_neg (show ¬ 4 ≤ s.sb.trains + 1 by omega)]
  rw [stays]
  exact ⟨rfl, rfl, State.get_sb s _⟩

/-- The fourth frame in a row ends SB_UP. -/
theorem State.countTrain_enters (s : State) {st : Nat} (h2 : 2 ≤ st) (h : s.sb.trains = 3) : (s.countTrain st).chip.col = .ident := by
  simp only [State.countTrain, if_pos h2, h, Nat.reduceAdd, le_refl, if_true, State.enterIdent_col]

theorem execTrainFrame_sbUp {s r : State} {c : SbCopies} {b : Nat} (h : Heard s c b r) (ht : bodyType b = SbType.train.code)
    (hc : r.chip.col = .sbUp) (hs : bits (bodyPayload b) 28 4 < 11) :
    execTrainFrame c s = .next ((r.showFar (bodyPayload b)).countTrain (bits (bodyPayload b) 36 4)) := by
  rw [execTrainFrame, State.receive_eq h ht, State.onTrain_sbUp hc hs]

/-! ### Frames of a reserved TYPE (R89) -/

theorem execSbFrameReserved_eq {s r : State} {c : SbCopies} {b : Nat} (h : Heard s c b r) (ht : bodyType b ∈ [0, 13, 14, 15]) :
    execSbFrameReserved c s = .next (r.raise EV.PHY.SB_TYPE_BAD (bodyType b)) := by
  obtain ⟨hrun, s1, hv, rfl⟩ := h
  simp only [execSbFrameReserved, hrun, hv, List.contains_iff_mem.mpr ht, Bool.not_true, Bool.false_eq_true, if_false, if_true]

/-- Settles O8: what each accepted frame does to SB_UP and IDENT, and how the attempts of the exchange end. -/
theorem trainAndIdentFramesMoveBringUp : Obligations.TrainAndIdentFramesMoveBringUp := by
  unfold Obligations.TrainAndIdentFramesMoveBringUp
  refine ⟨?counted, ?fourth, ?chunk, ?reserved, ?again, ?last⟩
  case counted =>
    intro s c b r h ht hc hs h2 hn
    rw [exec_trainFrame, execTrainFrame_sbUp h ht hc hs]
    obtain ⟨trains, chip, get⟩ := (r.showFar (bodyPayload b)).countTrain_counts h2 hn
    refine ⟨_, rfl, trains, ?_, ?_⟩
    · rw [chip, State.showFar_col, hc]
    · rw [get, State.showFar_farState]
  case fourth =>
    intro s c b r h ht hc hs h2 hn
    rw [exec_trainFrame, execTrainFrame_sbUp h ht hc hs]
    exact ⟨_, rfl, State.countTrain_enters (r.showFar _) h2 hn⟩
  case chunk =>
    intro s c b r h ht hc hf hl
    rw [exec_identChunk, execIdentChunk_stored h ht hc hf hl]
    exact ⟨_, rfl, r.storeChunk_find _⟩
  case reserved =>
    intro s c b r h ht
    rw [exec_sbFrameReserved, execSbFrameReserved_eq h ht]
    exact ⟨_, rfl, r.raise_stat (e := EV.PHY.SB_TYPE_BAD) rfl (by decide) _, r.raise_col ..⟩
  case again =>
    intro s now hc hj hp ha
    rw [exec_identAttemptTimeout, execIdentAttemptTimeout_restarts rfl hc hj hp ha]
    refine ⟨_, rfl, (State.startExchange_col _).trans hc, (State.startExchange_attempts _).trans ?_, State.startExchange_chunks _⟩
    refine ((s.at now).get_put_same _ _ (by decide)).trans (Nat.mod_eq_of_lt ?_)
    exact Nat.succ_lt_succ ha
  case last =>
    intro s now hc hj hp ha
    rw [exec_identAttemptTimeout, execIdentAttemptTimeout_down rfl hc hj hp ha]
    exact ⟨_, rfl, State.downFor_col ..⟩

end Sys2Proof.Machine
end

section
/-!
PROOFS. The Col goes to FAULT: faults of the PLL and of the receive clocks, time limits, and the silence of the far end (R76, R96, R97,
R99, R121, R243, R255, R260, R266).
-/

namespace Sys2Proof.Machine

theorem exec_pllLock (s : State) : exec .pllLock s = execPllLock s := rfl
theorem exec_pllLockTimeout (now : Beat) (s : State) : exec (.pllLockTimeout now) s = execPllLockTimeout now s := rfl
theorem exec_phyUnlock (s : State) : exec .phyUnlock s = execPhyUnlock s := rfl
theorem exec_rxFifoSlip (g : Fin 5) (s : State) : exec (.rxFifoSlip g) s = execRxFifoSlip g s := rfl
theorem exec_sbUpTimeout (now : Beat) (s : State) : exec (.sbUpTimeout now) s = execSbUpTimeout now s := rfl
theorem exec_creditInitTimeout (now : Beat) (s : State) : exec (.creditInitTimeout now) s = execCreditInitTimeout now s := rfl
theorem exec_repairTimeout (now : Beat) (s : State) : exec (.repairTimeout now) s = execRepairTimeout now s := rfl
theorem exec_calTimeout (now : Beat) (s : State) : exec (.calTimeout now) s = execCalTimeout now s := rfl
theorem exec_farSilentSb (now : Beat) (s : State) : exec (.farSilentSb now) s = execFarSilentSb now s := rfl
theorem exec_farSilentCtrl (cycles : Nat) (s : State) : exec (.farSilentCtrl cycles) s = execFarSilentCtrl cycles s := rfl

/-! ### Bits of one word -/

/-- One bit set in a word of `n` bits reads as set, and the others as they were. -/
theorem getLsbD_or_pow {n : Nat} (x : BitVec n) {i : Nat} (h : i < n) : (x ||| BitVec.ofNat n (2 ^ i)).getLsbD i = true := by
  rw [BitVec.getLsbD_or, BitVec.getLsbD_ofNat, Nat.testBit_two_pow_self]
  simp [h]

/-! ### The Col state -/

theorem State.colIn_iff (s : State) (l : List ColState) : s.colIn l = true ↔ s.chip.col ∈ l := List.contains_iff_mem

theorem State.col_ne_of_colIn {s : State} {l : List ColState} {c : ColState} (h : s.colIn l = true) (hc : c ∉ l) : s.chip.col ≠ c := by
  rintro rfl
  exact hc ((s.colIn_iff l).mp h)

theorem State.keepCause_chip (s : State) (code : Nat) : (s.keepCause code).chip = s.chip := by
  simp only [State.keepCause, apply_ite State.chip, State.put_chip, ite_self]

/-- A fault takes the Col to FAULT from every state but OFF. -/
theorem State.goFaultBy_col (s : State) (torn : Bool) (e : Event) (v : Nat) (h : s.chip.col ≠ .off) : (s.goFaultBy torn e v).chip.col = .fault := by
  unfold State.goFaultBy
  dsimp only
  rw [if_neg (by rwa [State.raise_col])]
  split
  · rename_i hf
    split
    · rwa [State.keepCause_chip]
    · exact hf
  · rw [State.raise_col, State.setCol_col]

theorem State.goFault_col (s : State) (e : Event) (v : Nat) (h : s.chip.col ≠ .off) : (s.goFault e v).chip.col = .fault :=
  s.goFaultBy_col false e v h

/-- A tear leaves a Col that is in FAULT there. -/
theorem State.tear_col (s : State) (mask : Nat) (h : s.chip.col = .fault) : (s.tear mask).chip.col = .fault := by
  unfold State.tear
  dsimp only
  split
  · exact h
  · exact State.goFaultBy_col _ _ _ _ (by rw [State.setReg_chip, h]; decide)

theorem State.pllLost_col (s : State) (h : s.chip.col ≠ .off) : s.pllLost.chip.col = .fault :=
  State.tear_col _ _ (State.goFaultBy_col _ _ _ _ h)

/-! ### The PLL (R96, R255, R266) -/

theorem execPllLock_eq {s : State} (hd : s.chip.dieRst = false) (hc : s.chip.col = .resetHeld) (hr : s.chip.colReset = false)
    (hl : s.on PHY.PLL_STAT.LOCKED = false) :
    execPllLock s = .next { (s.put PHY.PLL_STAT.LOCKED 1) with
      chip := { s.chip with released := 4, clk := s.chip.clk ||| 0x030, stopped := s.chip.stopped &&& 0xFCF } } := by
  simp only [execPllLock, hd, hc, hr, hl, bne_self_eq_false, Bool.or_self, Bool.false_eq_true, if_false]

theorem execPllLockTimeout_eq {s : State} {now : Beat} (hc : (s.at now).chip.col = .resetHeld) (hr : (s.at now).chip.colReset = false)
    (hl : (s.at now).on PHY.PLL_STAT.LOCKED = false) (hp : (s.at now).past (s.at now).chip.entry 50000 = true) :
    execPllLockTimeout now s = .next ((s.at now).goFault EV.PHY.PLL_LOCK_FAIL 0) := by
  simp only [execPllLockTimeout, hc, hr, hl, hp, Bool.not_false, Bool.and_self, decide_true, if_true]

theorem execPhyUnlock_eq {s : State} (hd : s.chip.dieRst = false) (hl : s.on PHY.PLL_STAT.LOCKED = true) :
    execPhyUnlock s = .next s.pllLost := by
  simp only [execPhyUnlock, hd, hl, Bool.not_true, Bool.or_self, Bool.false_eq_true, if_false]

/-! ### Faults of a receive group (R76, R243) -/

theorem execRxFifoSlip_eq {s : State} {g : Fin 5} (hd : s.chip.dieRst = false) (hr : s.role ≠ 0) (hc : s.clkOn 4 = true) :
    execRxFifoSlip g s = .next ((s.raise EV.PHY.RX_FIFO_SLIP g.val).groupFault g.val) := by
  simp only [execRxFifoSlip, hd, hc, beq_eq_false_iff_ne.mpr hr, Bool.not_true, Bool.or_self, Bool.false_eq_true, if_false]

/-- An event whose crossing is idle and whole sets its status bit at once (R248). -/
theorem State.raise_idle_stat (s : State) {e : Event} (hb : s.chip.evtBusy.getLsbD e.dom = false) (ht : s.chip.torn.getLsbD e.dom = false)
    (h : e.bit < 64) (v : Nat) : bit ((s.raise e v).get (PAGE.EVT_STAT e.page)) e.bit = true := by
  unfold State.raise
  simp only [hb, ht, Bool.false_eq_true, if_false]
  split
  · exact State.deliver_stat _ _ _ _ _ h
  · exact State.deliver_stat _ _ _ _ _ h

/-- Where no lane carries anything a fault of a group has no effect. -/
theorem State.groupFault_none {s : State} (h : s.colIn [.off, .resetHeld, .sbUp, .ident, .down, .fault] = true) (g : Nat) :
    s.groupFault g = s := by
  have hm := (s.colIn_iff _).mp h
  simp only [List.mem_cons, List.not_mem_nil, or_false] at hm
  rcases hm with hc | hc | hc | hc | hc | hc <;> simp [State.groupFault, State.colIn, hc]

/-- In a calibration step the group fails the step. -/
theorem State.groupFault_step {s : State} (h : s.colIn [.cal, .retrain] = true) {g : Nat} (hg : g < 4) :
    s.groupFault g = s.setCal fun c => { c with noRise := c.noRise ||| BitVec.ofNat 5 (2 ^ g) } := by
  simp only [State.groupFault, Nat.not_le.mpr hg, h, Bool.true_or, if_true, if_false]

theorem State.raise_colIn (s : State) (e : Event) (v : Nat) (l : List ColState) : (s.raise e v).colIn l = s.colIn l := by
  simp only [State.colIn, State.raise_col]

/-- Settles O4: the PLL's lock releases its domains, its loss and a lock that does not come end in FAULT, and a receive clock that slips
is recorded and fails the group's calibration step. -/
theorem phyClockFaultsActOnTheCol : Obligations.PhyClockFaultsActOnTheCol := by
  unfold Obligations.PhyClockFaultsActOnTheCol
  refine ⟨?lock, ?noLock, ?unlock, ?slip, ?slipStep⟩
  case lock =>
    intro s hd hc hr hl
    rw [exec_pllLock, execPllLock_eq hd hc hr hl]
    refine ⟨_, rfl, ?_, ?_, ?_, hc⟩
    · have locked : (s.put PHY.PLL_STAT.LOCKED 1).get PHY.PLL_STAT.LOCKED = 1 := s.get_put_same _ _ (by decide)
      simp only [State.on, State.get_chip, locked]
      decide
    · simp [State.clkOn]
    · simp [State.clkOn]
  case noLock =>
    intro s now hc hr hl hp
    rw [exec_pllLockTimeout, execPllLockTimeout_eq hc hr hl hp]
    exact ⟨_, rfl, State.goFault_col _ _ _ (by rw [hc]; decide)⟩
  case unlock =>
    intro s hd hl hc
    have on : s.chip.col ≠ .off := by
      intro h
      simp [State.colIn, h] at hc
    rw [exec_phyUnlock, execPhyUnlock_eq hd hl]
    exact ⟨_, rfl, s.pllLost_col on⟩
  case slip =>
    intro s g hd hr hc hb ht hcol
    rw [exec_rxFifoSlip, execRxFifoSlip_eq hd hr hc, State.groupFault_none ((State.raise_colIn ..).trans hcol)]
    exact ⟨_, rfl, s.raise_idle_stat (e := EV.PHY.RX_FIFO_SLIP) hb ht (by decide) _, s.raise_col ..⟩
  case slipStep =>
    intro s g hd hr hc hg hcol
    rw [exec_rxFifoSlip, execRxFifoSlip_eq hd hr hc, State.groupFault_step ((State.raise_colIn ..).trans hcol) hg]
    exact ⟨_, rfl, getLsbD_or_pow _ g.isLt, s.raise_col ..⟩

/-! ### Time limits (R96, R97, R99, R121, R260) -/

theorem execCalTimeout_phaseA {s : State} {now : Beat} (hc : (s.at now).chip.col = .cal) (h0 : (s.at now).chip.step = 0)
    (hp : (s.at now).past (s.at now).chip.stepEntry 1000000 = true) :
    execCalTimeout now s = .next ((s.at now).goFault EV.CAL.CAL_FAIL 0) := by
  have step : (s.at now).colIn [.cal, .retrain] = true := by simp [State.colIn, hc]
  simp only [execCalTimeout, step, h0, hp, Bool.true_or, if_true]

/-- Settles O10: each time limit, once past, is the way to DOWN or to FAULT that it names. -/
theorem timeLimitsEndInDownOrFault : Obligations.TimeLimitsEndInDownOrFault := by
  unfold Obligations.TimeLimitsEndInDownOrFault
  refine ⟨?sbUp, ?creditInit, ?repair, ?cal, ?silentSb, ?silentCtrl⟩
  case sbUp =>
    intro s now hc hp
    refine ⟨(s.at now).downFor EV.IDENT.SB_NO_PARTNER 0, ?_, State.downFor_col ..⟩
    simp only [exec_sbUpTimeout, execSbUpTimeout, hc, hp, decide_true, Bool.and_self, if_true]
  case creditInit =>
    intro s now hc hp
    refine ⟨(s.at now).downFor EV.IDENT.CREDIT_INIT_TIMEOUT 0, ?_, State.downFor_col ..⟩
    simp only [exec_creditInitTimeout, execCreditInitTimeout, hc, hp, decide_true, Bool.and_self, if_true]
  case repair =>
    intro s now hc hp
    refine ⟨(s.at now).downFor EV.IDENT.REPAIR_TIMEOUT 0, ?_, State.downFor_col ..⟩
    simp only [exec_repairTimeout, execRepairTimeout, hc, hp, decide_true, Bool.and_self, if_true]
  case cal =>
    intro s now hc h0 hp
    rw [exec_calTimeout, execCalTimeout_phaseA hc h0 hp]
    exact ⟨_, rfl, State.goFault_col _ _ _ (by rw [hc]; decide)⟩
  case silentSb =>
    intro s now hc hp
    refine ⟨(s.at now).goFault EV.RESET.FAR_SILENT 1, ?_, State.goFault_col _ _ _ (State.col_ne_of_colIn hc (by decide))⟩
    simp only [exec_farSilentSb, execFarSilentSb, hc, hp, Bool.and_self, if_true]
  case silentCtrl =>
    intro s cycles hc hn hp
    refine ⟨s.goFault EV.RESET.FAR_SILENT 2, ?_, State.goFault_col _ _ _ (State.col_ne_of_colIn hc (by decide))⟩
    simp only [exec_farSilentCtrl, execFarSilentCtrl, hc, hp, hn, Bool.not_false, Bool.and_self, decide_true, if_true]

end Sys2Proof.Machine
end

section
/-!
PROOFS. Enabling, disabling and releasing the Col (R96, R419), and what the release of the token leaves alone (R400).
-/

namespace Sys2Proof.Machine

theorem exec_colEnableSet (s : State) : exec .colEnableSet s = execColEnableSet s := rfl
theorem exec_colEnableClear (s : State) : exec .colEnableClear s = execColEnableClear s := rfl
theorem exec_colRelease (s : State) : exec .colRelease s = execColRelease s := rfl

/-- What a fold of updates leaves alone if each of them does. -/
theorem foldl_keeps {α β : Type} (p : State → β) {f : State → α → State} (hf : ∀ t x, p (f t x) = p t) (l : List α) (s : State) :
    p (l.foldl f s) = p s :=
  List.foldlRecOn (motive := fun t => p t = p s) l f rfl fun t ht x _ => (hf t x).trans ht

/-! ### What the windows and the token's release leave alone (R400) -/

/-- Calibration, the Col state, the requests and transfers that wait, and COL_CTL. -/
structure OffWindows where
  cal : Cal
  col : ColState
  engQ : List EngReq
  levelQ : List LevelItem
  dpoQ : List DpoItem
  rxQ : List RxFlit
  colCtl : Word

/-- That part of a state. -/
def State.offWindows (s : State) : OffWindows :=
  ⟨s.cal, s.chip.col, s.txn.engQ, s.txn.levelQ, s.lnk.dpoQ, s.lnk.rxQ, s.reg RESET.COL_CTL.ENABLE.key⟩

theorem State.cal_of_offWindows {s t : State} (h : t.offWindows = s.offWindows) : t.cal = s.cal := congrArg OffWindows.cal h

@[simp] theorem State.put_offWindows (s : State) {f : Field} (h : f.key ≠ RESET.COL_CTL.ENABLE.key) (v : Nat) :
    (s.put f v).offWindows = s.offWindows := by
  simp only [State.offWindows, s.put_reg_ne v h, State.put_cal, State.put_chip, State.put_txn, State.put_lnk]
@[simp] theorem State.bump_offWindows (s : State) {f : Field} (h : f.key ≠ RESET.COL_CTL.ENABLE.key) : (s.bump f).offWindows = s.offWindows :=
  s.put_offWindows h _
@[simp] theorem State.raise_offWindows (s : State) (e : Event) (v : Nat) : (s.raise e v).offWindows = s.offWindows := by
  simp only [State.offWindows, State.raise_cal, State.raise_col, State.raise_txn, State.raise_lnk,
    s.raise_reg e v RESET.COL_CTL.ENABLE.key (by decide) (by decide) (by decide) (by decide)]
@[simp] theorem State.setPair_offWindows (s : State) (f : Pair → Pair) : (s.setPair f).offWindows = s.offWindows := rfl
@[simp] theorem State.dropWinWork_offWindows (s : State) (n : Nat) : (s.dropWinWork n).offWindows = s.offWindows := rfl

/-- A part of a table word that is written changes the tables and the arrays' correction state alone. -/
theorem State.setTblPart_eq (s : State) (idx : Nat) (w : Word) : ∃ tbl arrays, s.setTblPart idx w = { s with tbl := tbl, arrays := arrays } := by
  unfold State.setTblPart State.wordMerged
  dsimp only
  obtain ⟨l, h⟩ := State.wordWritten_eq _ _
  exact ⟨_, l, h⟩

@[simp] theorem State.setTblPart_offWindows (s : State) (idx : Nat) (w : Word) : (s.setTblPart idx w).offWindows = s.offWindows := by
  obtain ⟨_, _, h⟩ := s.setTblPart_eq idx w
  rw [h]
  rfl
@[simp] theorem State.setWin_offWindows (s : State) (n : Nat) (f : WinField) (v : Nat) : (s.setWin n f v).offWindows = s.offWindows :=
  State.setTblPart_offWindows ..
@[simp] theorem State.setOutcome_offWindows (s : State) (n b : Nat) : (s.setOutcome n b).offWindows = s.offWindows := State.setWin_offWindows ..

/-- A window that fails without a record writes no memory. -/
theorem State.failWindow_offWindows (s : State) (n : Nat) (o : List Nat) : (s.failWindow n o false).offWindows = s.offWindows := by
  have outcomes : ∀ t : State, (o.foldl (fun t b => t.setOutcome n b) t).offWindows = t.offWindows :=
    foldl_keeps State.offWindows (fun t b => t.setOutcome_offWindows n b) o
  simp only [State.failWindow, Bool.false_eq_true, if_false, State.raise_offWindows, outcomes, State.setWin_offWindows, State.dropWinWork_offWindows]
theorem State.freeWindow_offWindows (s : State) (n : Nat) : (s.freeWindow n).offWindows = s.offWindows := State.setWin_offWindows ..

theorem State.endWindows_offWindows (s : State) : s.endWindows.offWindows = s.offWindows :=
  (foldl_keeps State.offWindows State.freeWindow_offWindows _ _).trans
    (foldl_keeps State.offWindows (fun t n => t.failWindow_offWindows n [4]) _ s)

theorem State.markLost_offWindows (s : State) (c : Nat) : (s.markLost c).offWindows = s.offWindows := by
  simp only [State.markLost, apply_ite State.offWindows, State.setTblPart_offWindows, ite_self]

theorem State.reportLost_offWindows (s : State) (c cause : Nat) : (s.reportLost c cause).offWindows = s.offWindows := by
  unfold State.reportLost
  dsimp only
  rw [State.raise_offWindows]
  split
  · exact s.markLost_offWindows c
  · exact s.markLost_offWindows c

theorem State.releaseWindows_offWindows (s : State) : s.releaseWindows.offWindows = s.offWindows :=
  (foldl_keeps State.offWindows (fun t c => t.reportLost_offWindows c 7) _ _).trans s.endWindows_offWindows

theorem State.hbMessage_offWindows (s : State) (w : Nat) : (s.hbMessage w).offWindows = s.offWindows := by
  unfold State.hbMessage
  split
  · rfl
  · simp only [State.offWindows, State.setLnk_cal, State.setLnk_chip, State.setLnk_txn, State.reg_congr (State.setLnk_regs ..)]
    simp only [State.setLnk, apply_ite Link.dpoQ, apply_ite Link.rxQ, ite_self]

theorem State.hbStrap_offWindows (s : State) (w : Nat) : (s.hbStrap w).offWindows = s.offWindows := by
  unfold State.hbStrap
  split <;> rfl

theorem State.sendWord_offWindows (s : State) : s.sendWord.offWindows = s.offWindows :=
  (State.hbStrap_offWindows ..).trans (s.hbMessage_offWindows _)

theorem State.setProle_offWindows (s : State) (r : Nat) : (s.setProle r).offWindows = s.offWindows := by
  unfold State.setProle
  rw [State.sendWord_offWindows, State.setPair_offWindows, State.put_offWindows _ (by decide)]
  split <;> rfl

/-- The steps of a release after its first: windows end, the release is counted, and a word tells of it. -/
theorem State.releaseToken_offWindows (s : State) (cause : Nat) : (s.releaseToken cause true).offWindows = s.offWindows := by
  simp only [State.releaseToken, Bool.true_or, if_true, State.raise_offWindows, State.setProle_offWindows, State.setPair_offWindows]
  rw [State.bump_offWindows _ (by decide)]
  split
  · exact s.releaseWindows_offWindows
  · rfl

theorem State.leaveDone_offWindows (s : State) : s.leaveDone.offWindows = s.offWindows := by
  simp only [State.leaveDone, apply_ite State.offWindows, State.releaseToken_offWindows, State.setPair_offWindows, ite_self]

/-! ### Frames about the Col's state (R100, R101) -/

/-- What a TRAIN frame leaves: every register but IDENT_STAT. -/
theorem State.train_reg (s : State) {k : Nat} (h : IDENT.IDENT_STAT.OWN_STATUS.key ≠ k) : s.train.reg k = s.reg k := by
  rw [State.train, State.reg_sb, State.put_reg_ne _ _ h, State.reg_congr (State.sbSend_regs ..)]

theorem State.train_get (s : State) {f : Field} (h : IDENT.IDENT_STAT.OWN_STATUS.key ≠ f.key) : s.train.get f = s.get f := by
  rw [State.get, State.train_reg s h, State.get]

/-- A TRAIN frame changes what waits in the crossings, and nothing else of the resets, clocks and drivers. -/
theorem State.train_chip (s : State) : ∃ fill, s.train.chip = { s.chip with fill := fill } := by
  obtain ⟨_, _, fill, h⟩ := s.sbSend_frame .train s.trainPayload
  exact ⟨fill, by rw [State.train, h]; rfl⟩

theorem State.train_cal (s : State) : s.train.cal = s.cal := by rw [State.train]; exact State.sbSend_cal ..

/-- A state entered changes of the registers IDENT_STAT alone. -/
theorem State.setColStep_get (s : State) (c : ColState) (step : Nat) {f : Field} (h : IDENT.IDENT_STAT.OWN_STATUS.key ≠ f.key) :
    (s.setColStep c step).get f = s.get f := by
  rw [State.setColStep, State.train_get _ h]
  rfl

/-- A state entered changes of the resets, clocks and drivers the state, its step and their times, and what waits in the crossings. -/
theorem State.setColStep_chip (s : State) (c : ColState) (step : Nat) : ∃ fill, (s.setColStep c step).chip =
    { s.chip with col := c, entry := s.beat, step := step, stepEntry := s.beat, fill := fill } := by
  unfold State.setColStep
  obtain ⟨fill, h⟩ := State.train_chip _
  exact ⟨fill, h⟩

theorem State.setCol_get (s : State) (c : ColState) {f : Field} (h : IDENT.IDENT_STAT.OWN_STATUS.key ≠ f.key) : (s.setCol c).get f = s.get f :=
  s.setColStep_get c 0 h

/-! ### COL_ENABLE_SET (R96, R419) -/

/-- The Col in RESET_HELD, before its buffers are zeroed. -/
def State.enabled (s : State) : State := ((s.put RESET.COL_CTL.ENABLE 1).put POWER.PWR_STAT.STATE 0).setCol .resetHeld

theorem execColEnableSet_off {s : State} (h : HostUp s (keyDomains RESET.COL_CTL.ENABLE.key)) (hr : s.role ≠ 0) (h3 : 3 ≤ s.chip.released)
    (hc : s.chip.col = .off) : execColEnableSet s = .next s.enabled.zeroBuffers := by
  have present : s.present (RESET.COL_CTL.ENABLE.key / 4096) = true := rfl
  simp only [execColEnableSet, s.command_eq h, present, hr, Nat.not_lt.mpr h3, hc, Bool.true_eq_false, if_false, if_true]
  rfl

theorem State.enabled_ctl (s : State) : s.enabled.get RESET.COL_CTL.ENABLE = 1 := by
  rw [State.enabled, State.setCol_get _ _ (by decide), State.get_put_ne _ _ (by decide), State.get_put_same _ _ _ (by decide)]
  rfl

/-- The buffers' arrays hold zeros: nothing of a flit or of a transaction is left in them (R419). -/
theorem State.zeroBuffers_offWindows (s : State) : s.zeroBuffers.offWindows =
    { s.offWindows with engQ := [], levelQ := [], dpoQ := [], rxQ := [] } := by
  unfold State.zeroBuffers
  dsimp only
  rw [State.leaveDone_offWindows]
  simp only [State.offWindows, State.reg_congr (State.setTxn_regs ..), State.reg_congr (State.setLnk_regs ..)]
  rfl

/-! ### COL_ENABLE_CLEAR (R96, R136, R156) -/

theorem execColEnableClear_off {s : State} (h : HostUp s (keyDomains RESET.COL_CTL.ENABLE.key)) (hr : s.role ≠ 0)
    (hc : s.colIn [.down, .fault] = true ∨ (s.chip.col = .resetHeld ∧ s.chip.colReset = false)) :
    execColEnableClear s = .next s.colOff := by
  have present : s.present (RESET.COL_CTL.ENABLE.key / 4096) = true := rfl
  have takes : (s.colIn [.off, .lowland, .down, .fault] || (s.chip.col == .resetHeld && !s.chip.colReset)) = true ∧
      s.chip.col ≠ .off ∧ s.chip.col ≠ .lowland := by
    rcases hc with hc | ⟨hc, hr⟩
    · have hm := (s.colIn_iff _).mp hc
      simp only [List.mem_cons, List.not_mem_nil, or_false] at hm
      rcases hm with hm | hm <;> simp [State.colIn, hm]
    · simp [hc, hr]
  obtain ⟨ok, hoff, hlow⟩ := takes
  simp only [execColEnableClear, s.command_eq h, present, hr, ok, hoff, hlow, Bool.true_eq_false, if_false, if_true]

theorem execColEnableClear_lowland {s : State} (h : HostUp s (keyDomains RESET.COL_CTL.ENABLE.key)) (hr : s.role ≠ 0)
    (hc : s.chip.col = .lowland) :
    execColEnableClear s = .next (((s.settle false).leaveService true).voidProps).colOff := by
  have present : s.present (RESET.COL_CTL.ENABLE.key / 4096) = true := rfl
  have ok : (s.colIn [.off, .lowland, .down, .fault] || (s.chip.col == .resetHeld && !s.chip.colReset)) = true := by
    simp [State.colIn, hc]
  have hoff : s.chip.col ≠ .off := by rw [hc]; decide
  simp only [execColEnableClear, s.command_eq h, present, hr, ok, hoff, Bool.true_eq_false, if_false, if_true]
  rw [if_pos hc]

/-- A pattern that is stopped changes neither clocks nor drivers. -/
theorem State.abortPattern_chip (s : State) : s.abortPattern.chip = s.chip := by
  have results : ∀ t : State, t.freeResults.chip = t.chip := fun t => by
    unfold State.freeResults
    generalize List.range 166 = wires
    refine foldl_keeps State.chip ?_ wires t
    exact fun _ _ => rfl
  unfold State.abortPattern
  split
  · rw [results]
    rfl
  · rfl

/-- OFF: no driver and no clock but those of the domains that need no PLL; ENABLE reads 0. -/
theorem State.colOff_spec (s : State) : s.colOff.chip.col = .off ∧ s.colOff.get RESET.COL_CTL.ENABLE = 0 ∧ s.colOff.chip.drivers = false ∧
    s.colOff.chip.clk = s.chip.clk &&& 0x80F := by
  have off : ∀ (t : State) (c : Chip) (p : Power) (k : Cal) (f : Field), ({ t with chip := c, pwr := p, cal := k } : State).get f = t.get f :=
    fun _ _ _ _ _ => rfl
  have idle := s.abortPattern_chip
  unfold State.colOff
  dsimp only
  refine ⟨rfl, ?_, rfl, by simp only [State.put_chip, idle]⟩
  rw [State.get_put_ne _ _ (by decide), off, State.setCol_get _ _ (by decide),
    State.get_put_ne _ _ (by decide), State.get_put_ne _ _ (by decide), State.get_put_same _ _ _ (by decide)]
  rfl

/-! ### COL_RELEASE (R96, R60) -/

/-- The end at the release of its Col: SB TX and the sideband drivers run where SB TX's clock does, and the sideband starts afresh. -/
def State.released (s : State) : State :=
  let s1 := ((s.put RESET.COL_CTL.ENABLE 1).put RESET.COL_STAT.DONE 0).put TEST.WRAP_STAT.OWNER 0
  { s1 with
    sb := { lastRx := s1.beat, lastTx := s1.beat, farIdentSeen := s1.sb.farIdentSeen }
    chip := { s1.chip with drivers := true, clk := s1.chip.clk ||| (0x800 &&& ~~~ s1.chip.stopped), beatLock := true, lockFell := false } }

theorem execColRelease_eq {s : State} (h : HostUp s (keyDomains RESET.COL_CTL.RELEASE.key)) (hr : s.role ≠ 0) (hc : s.chip.col = .resetHeld)
    (hx : s.chip.colReset = false) (hl : s.on PHY.PLL_STAT.LOCKED = true) (ht : s.on TEST.TEST_STAT.IN_TEST = false) :
    execColRelease s = .next (s.released.setCol .sbUp) := by
  have present : s.present (RESET.COL_CTL.RELEASE.key / 4096) = true := rfl
  simp only [execColRelease, s.command_eq h, present, hr, hc, hx, hl, ht, ne_eq, not_true_eq_false, Bool.true_eq_false, Bool.false_eq_true,
    or_self, if_false]
  rfl

/-- Settles O5: each command takes the Col to the state that the state table names, with buffers zeroed, drivers off or drivers on. -/
theorem colEnablingMovesTheCol : Obligations.ColEnablingMovesTheCol := by
  unfold Obligations.ColEnablingMovesTheCol
  refine ⟨?set, ?clear, ?clearLowland, ?release⟩
  case set =>
    intro s h hr h3 hc
    rw [exec_colEnableSet, execColEnableSet_off h hr h3 hc]
    have kept := s.enabled.zeroBuffers_offWindows
    refine ⟨_, rfl, ?_, ?_, congrArg OffWindows.engQ kept, congrArg OffWindows.levelQ kept, congrArg OffWindows.dpoQ kept,
      congrArg OffWindows.rxQ kept⟩
    · exact (congrArg OffWindows.col kept).trans (State.setCol_col ..)
    · refine Eq.trans ?_ s.enabled_ctl
      exact congrArg (fun w : Word => bits w.toNat 0 1) (congrArg OffWindows.colCtl kept)
  case clear =>
    intro s h hr hc
    rw [exec_colEnableClear, execColEnableClear_off h hr hc]
    exact ⟨_, rfl, s.colOff_spec⟩
  case clearLowland =>
    intro s h hr hc
    rw [exec_colEnableClear, execColEnableClear_lowland h hr hc]
    obtain ⟨col, enable, drivers, -⟩ := (((s.settle false).leaveService true).voidProps).colOff_spec
    exact ⟨_, rfl, col, enable, drivers⟩
  case release =>
    intro s h hr hc hx hl ht
    rw [exec_colRelease, execColRelease_eq h hr hc hx hl ht]
    obtain ⟨_, chip⟩ := s.released.setColStep_chip .sbUp 0
    refine ⟨_, rfl, State.setCol_col .., congrArg Chip.drivers chip, fun hs => ?_⟩
    have clk : (s.released.setCol .sbUp).chip.clk = s.chip.clk ||| (0x800 &&& ~~~ s.chip.stopped) := congrArg Chip.clk chip
    simp only [State.clkOn, clk, BitVec.getLsbD_or, BitVec.getLsbD_and, BitVec.getLsbD_not, hs]
    simp

end Sys2Proof.Machine
end

section
/-!
PROOFS. What a row's time leaves alone, and TRAIN frames sent periodically and as keepalive (R59, R101, R260).
-/

namespace Sys2Proof.Machine

theorem exec_trainPeriodic (now : Beat) (s : State) : exec (.trainPeriodic now) s = execTrainPeriodic now s := rfl
theorem exec_sbKeepalive (now : Beat) (s : State) : exec (.sbKeepalive now) s = execSbKeepalive now s := rfl

/-! ### A row's time moves the beat counter alone (R59) -/

section
variable (s : State) (now : Beat)

theorem State.at_eq : ∃ b c, s.at now = { s with beat := b, chip := { s.chip with counter := c } } := by
  rcases s.at_cases now with ⟨-, -, h⟩ | ⟨-, h⟩
  · rw [h]
    unfold State.setCount
    split
    · exact ⟨now, s.chip.counter, rfl⟩
    · exact ⟨s.beat, some now, rfl⟩
  · exact ⟨s.beat, s.chip.counter, h⟩

@[simp] theorem State.at_regs : (s.at now).regs = s.regs := by obtain ⟨_, _, h⟩ := s.at_eq now; rw [h]
@[simp] theorem State.at_col : (s.at now).chip.col = s.chip.col := by obtain ⟨_, _, h⟩ := s.at_eq now; rw [h]
@[simp] theorem State.at_step : (s.at now).chip.step = s.chip.step := by obtain ⟨_, _, h⟩ := s.at_eq now; rw [h]
@[simp] theorem State.at_sb : (s.at now).sb = s.sb := by obtain ⟨_, _, h⟩ := s.at_eq now; rw [h]
@[simp] theorem State.at_cal : (s.at now).cal = s.cal := by obtain ⟨_, _, h⟩ := s.at_eq now; rw [h]
@[simp] theorem State.at_rep : (s.at now).rep = s.rep := by obtain ⟨_, _, h⟩ := s.at_eq now; rw [h]
@[simp] theorem State.at_out : (s.at now).out = s.out := by obtain ⟨_, _, h⟩ := s.at_eq now; rw [h]
@[simp] theorem State.at_get (f : Field) : (s.at now).get f = s.get f := State.get_congr (s.at_regs now) f
@[simp] theorem State.at_colIn (l : List ColState) : (s.at now).colIn l = s.colIn l := by simp only [State.colIn, State.at_col]
@[simp] theorem State.at_role : (s.at now).role = s.role := State.role_congr (State.reg_congr (s.at_regs now) _)
@[simp] theorem State.at_wins : (s.at now).wins = s.wins := by simp only [State.wins, State.isH, State.isS, State.at_role, State.at_get]
@[simp] theorem State.at_uiPerBeat : (s.at now).uiPerBeat = s.uiPerBeat := by simp only [State.uiPerBeat, State.at_get]
@[simp] theorem State.at_oneChannel : (s.at now).oneChannel = s.oneChannel := by obtain ⟨_, _, h⟩ := s.at_eq now; rw [h]; rfl
@[simp] theorem State.at_trainPayload : (s.at now).trainPayload = s.trainPayload := by
  simp only [State.trainPayload, State.at_col, State.at_step, State.at_sb]

end

/-! ### TRAIN frames (R100, R101) -/

@[simp] theorem State.sbSend_recOk (s : State) (t : SbType) (pl : Nat) : (s.sbSend t pl).sb.recOk = s.sb.recOk := by
  unfold State.sbSend State.nextFrame State.crossIn
  repeat' split
  all_goals rfl

theorem State.train_recOk (s : State) : s.train.sb.recOk = s.sb.recOk := s.sbSend_recOk ..

theorem State.train_lastTrain (s : State) : s.train.sb.lastTrain = s.beat := s.sbSend_beat ..

theorem State.train_out {s : State} (h : s.sbSends = true) :
    s.train.out = .sb (sbFrame SbType.train.code s.sb.fseq s.trainPayload) (if s.oneChannel then 1 else 7) :: s.out := by
  rw [State.train, s.sbSend_eq h]
  rfl

/-- Outside CAL, and in CAL without a report that is still to be shown, a TRAIN frame judges nothing (R101). -/
theorem State.reportShown_none {s : State} (h : s.chip.col ≠ .cal ∨ s.cal.ownRep = none ∨ s.cal.shown = true) : s.reportShown = s := by
  unfold State.reportShown
  rw [if_neg]
  rcases h with h | h | h <;> simp [h]

theorem execTrainPeriodic_sends {s r : State} {now : Beat} (hr : s.at now = r) (ht : r.trainsOn = true) (hp : r.past r.sb.lastTrain 1000 = true)
    (hi : r.chip.col ≠ .ident ∨ r.sb.recOk = true) (hc : r.chip.col ≠ .cal ∨ r.cal.ownRep = none ∨ r.cal.shown = true) :
    execTrainPeriodic now s = .next r.train := by
  have whole : (decide (r.train.chip.col = .ident) && !r.train.sb.recOk) = false := by
    rw [State.train_col, State.train_recOk]
    rcases hi with hi | hi <;> simp [hi]
  have shown : r.train.reportShown = r.train := State.reportShown_none (by rwa [State.train_col, State.train_cal])
  simp only [execTrainPeriodic, hr, ht, hp, whole, shown, Bool.and_self, Bool.false_eq_true, if_true, if_false]

theorem execSbKeepalive_sends {s : State} {now : Beat} (hc : (s.at now).colIn inService = true)
    (hp : (s.at now).past (s.at now).sb.lastTx 1000 = true) :
    execSbKeepalive now s = .next ((s.at now).sbSend .train ((s.at now).chip.col.code * 2 ^ 36 + (s.at now).chip.step % 16 * 2 ^ 32)) := by
  simp only [execSbKeepalive, hc, hp, Bool.and_self, if_true]

/-- Settles O9: each row sends one TRAIN frame, of the end's state and status, or of its state with STATUS WORKING. -/
theorem periodicFramesAreSent : Obligations.PeriodicFramesAreSent := by
  unfold Obligations.PeriodicFramesAreSent
  refine ⟨?periodic, ?keepalive⟩
  case periodic =>
    intro s now ht hp hs hi hc
    rw [exec_trainPeriodic, execTrainPeriodic_sends rfl ht hp (by simpa using hi) (by simpa using hc)]
    exact ⟨_, rfl, State.train_lastTrain _, by simpa using State.train_out hs⟩
  case keepalive =>
    intro s now hc hp hs
    rw [exec_sbKeepalive, execSbKeepalive_sends hc hp, State.sbSend_eq _ hs]
    exact ⟨_, rfl, rfl, by simp⟩

end Sys2Proof.Machine
end

section
/-!
PROOFS. Scrambler starts: proposed, proposed again, taken by the transmitters and by each group's receiver, and missed (R113, R114).
-/

namespace Sys2Proof.Machine

theorem exec_scramblerRepropose (now : Beat) (s : State) : exec (.scramblerRepropose now) s = execScramblerRepropose now s := rfl
theorem exec_scramblerStartBeat (now : Beat) (s : State) : exec (.scramblerStartBeat now) s = execScramblerStartBeat now s := rfl
theorem exec_validLaneRise (g : Fin 5) (s : State) : exec (.validLaneRise g) s = execValidLaneRise g s := rfl
theorem exec_validRiseTimeout (now : Beat) (s : State) : exec (.validRiseTimeout now) s = execValidRiseTimeout now s := rfl

/-! ### Free values within bounds -/

theorem bounded_between {lo hi : Nat} (h : lo ≤ hi) (raw : Nat) : lo ≤ Config.bounded lo hi raw ∧ Config.bounded lo hi raw ≤ hi := by
  have := Nat.mod_lt raw (show 0 < hi - lo + 1 by omega)
  unfold Config.bounded
  omega

/-! ### The STATUS sent (R100, R101) -/

/-- A frame sent takes an FSEQ and marks the time, and changes nothing else of the sideband. -/
theorem State.sbSend_sb (s : State) (t : SbType) (pl : Nat) : ∃ q b, (s.sbSend t pl).sb = { s.sb with fseq := q, lastTx := b } := by
  unfold State.sbSend
  split
  · exact ⟨(s.sb.fseq + 1) % 16, s.beat, rfl⟩
  · split
    · exact ⟨(s.sb.fseq + 1) % 16, s.beat, by unfold State.crossIn; split <;> rfl⟩
    · exact ⟨s.sb.fseq, s.sb.lastTx, rfl⟩

theorem State.train_status (s : State) : s.train.sb.status = s.sb.status := by
  obtain ⟨_, _, h⟩ := s.sbSend_sb .train s.trainPayload
  exact (congrArg Sideband.status h : (s.sbSend .train s.trainPayload).sb.status = _)

section
variable (s : State) (status arg : Nat)

@[simp] theorem State.setStatus_status : (s.setStatus status arg).sb.status = status := State.train_status _
@[simp] theorem State.setStatus_cal : (s.setStatus status arg).cal = s.cal := State.train_cal _
@[simp] theorem State.setStatus_rep : (s.setStatus status arg).rep = s.rep := State.sbSend_rep ..
@[simp] theorem State.setStatus_step : (s.setStatus status arg).chip.step = s.chip.step := by
  unfold State.setStatus
  obtain ⟨_, h⟩ := State.train_chip { s with sb := { s.sb with status := status, arg := arg } }
  rw [h]

end

/-! ### Proposing a start (R113) -/

/-- What the proposal of a start makes of the calibration: no start is seeded, and no group has risen or failed to. -/
def Cal.unstarted (c : Cal) (wins : Bool) (b : Option Beat) : Cal :=
  { c with startAt := b, starter := wins, ready := false, seeded := false, risen := 0, noRise := 0 }

/-- The end that wins proposes a start within the bounds of its lead. -/
theorem State.proposeStart_wins {s : State} (h : s.wins = true) : ∃ lead, 10000 ≤ lead ∧ lead ≤ 2 ^ 27 ∧
    s.proposeStart.cal = s.cal.unstarted true (some (s.beat + BitVec.ofNat 64 lead)) ∧ s.proposeStart.sb.status = 7 := by
  obtain ⟨low, high⟩ := bounded_between (show 10000 ≤ 2 ^ 27 by decide) (Config.freeBits s.freeCtr)
  refine ⟨_, low, high, ?_, ?_⟩
  · simp only [State.proposeStart, h, if_true, State.setStatus_cal]
    rfl
  · simp only [State.proposeStart, h, if_true, State.setStatus_status]

/-- Every end starts afresh where a start is due, and the end that loses waits for the proposal. -/
theorem State.proposeStart_cal (s : State) : ∃ b, s.proposeStart.cal = s.cal.unstarted s.wins b := by
  cases h : s.wins with
  | true =>
    obtain ⟨_, -, -, cal, -⟩ := State.proposeStart_wins h
    exact ⟨_, cal⟩
  | false => exact ⟨none, by simp only [State.proposeStart, h, Bool.false_eq_true, if_false]; rfl⟩

theorem State.proposeStart_step (s : State) : s.proposeStart.chip.step = s.chip.step := by
  unfold State.proposeStart
  split
  · exact State.setStatus_step ..
  · rfl

theorem execScramblerRepropose_due {s r : State} {now b : Beat} (hr : s.at now = r) (hb : r.cal.startAt = some b) (hs : r.cal.starter = true)
    (hy : r.cal.ready = false) (hp : r.reached (b - 2000) = true) : execScramblerRepropose now s = .next r.proposeStart := by
  simp only [execScramblerRepropose, hr, hb, hs, hy, hp, Bool.not_false, Bool.and_self, if_true]

/-! ### Seeding (R114) -/

/-- The UI of a seeding lies in its beat's or its frame's `uis`, and which is free. -/
theorem State.seedPoint_eq (s : State) (b : Beat) {uis : Nat} (h : 0 < uis) : ∃ ui < uis,
    s.seedPoint b uis = (s.uiNow - (s.count - b).toNat * s.uiPerBeat + ui, { s with freeCtr := s.freeCtr + 1 }) := by
  have := (bounded_between (Nat.zero_le (uis - 1)) (Config.freeBits s.freeCtr)).2
  exact ⟨_, by omega, rfl⟩

theorem execScramblerStartBeat_seeds {s r : State} {now b : Beat} (hr : s.at now = r) (hb : r.cal.startAt = some b) (hy : r.cal.ready = true)
    (hs : r.cal.seeded = false) (hp : r.reached b = true) (hc : r.colIn [.cal, .retrain, .lowland] = true)
    (h3 : ¬ (r.chip.col = .cal ∧ r.chip.step = 3)) :
    execScramblerStartBeat now s = .next ((r.seedPoint b 32).2.setCal fun c => { c with seeded := true, txSeed := some (r.seedPoint b 32).1 }) := by
  have exit : (decide (r.chip.col = .cal) && decide (r.chip.step = 3)) = false := by simpa using h3
  simp only [execScramblerStartBeat, hr, hb, hy, hs, hp, hc, Bool.not_false, Bool.and_self, if_true]
  rw [if_neg]
  exact Bool.eq_false_iff.mp exit

/-- The receiver of a group whose valid lane rises takes its seed at `ui`, and its X02 side is released and clocked. -/
def State.seedRx (s : State) (g ui : Nat) : State :=
  { s with
    cal := { s.cal with risen := s.cal.risen ||| BitVec.ofNat 5 (2 ^ g), rxSeed := Sparse.set g (some ui) s.cal.rxSeed }
    chip := { s.chip with
      rxReleased := s.chip.rxReleased ||| BitVec.ofNat 5 (2 ^ g)
      clk := s.chip.clk ||| BitVec.ofNat 12 (64 * 2 ^ g)
      stopped := s.chip.stopped &&& ~~~ BitVec.ofNat 12 (64 * 2 ^ g)
      lostRun := s.chip.lostRun &&& ~~~ BitVec.ofNat 12 (64 * 2 ^ g) } }

theorem execValidLaneRise_seeds {s : State} {g : Fin 5} (hs : s.cal.seeded = true) (hg : s.cal.candRx.getLsbD g.val = true)
    (hr : s.cal.risen.getLsbD g.val = false) (hn : s.cal.noRise.getLsbD g.val = false) :
    execValidLaneRise g s = .next ((s.seedPoint s.beat s.uiPerBeat).2.seedRx g.val (s.seedPoint s.beat s.uiPerBeat).1) := by
  simp only [execValidLaneRise, hs, hg, hr, hn, Bool.not_false, Bool.and_self, if_true]
  rfl

/-- The groups of the candidate that have neither risen nor failed to are late. -/
def Cal.missed (c : Cal) : Cal := { c with noRise := c.noRise ||| (c.candRx &&& ~~~ c.risen &&& ~~~ c.noRise) }

theorem Cal.missed_of_unrisen {c : Cal} {g : Fin 5} (hg : c.candRx.getLsbD g.val = true) (hr : c.risen.getLsbD g.val = false) :
    c.missed.noRise.getLsbD g.val = true := by
  simp only [Cal.missed, BitVec.getLsbD_or, BitVec.getLsbD_and, BitVec.getLsbD_not, hg, hr, g.isLt, decide_true, Bool.not_false, Bool.true_and,
    Bool.or_not_self]

theorem execValidRiseTimeout_misses {s r : State} {now b : Beat} (h : s.at now = r) (hb : r.cal.startAt = some b) (hs : r.cal.seeded = true)
    (hp : r.reached (b + 4096) = true) (hc : r.chip.col ≠ .repair) : execValidRiseTimeout now s = .next (r.setCal Cal.missed) := by
  simp only [execValidRiseTimeout, h, hb, hs, hp, Bool.and_self, if_true]
  rw [if_neg]
  · rfl
  · exact hc

theorem State.uiPerBeat_pos (s : State) : 0 < s.uiPerBeat := Nat.mul_pos (by decide) (Nat.succ_pos _)

/-- Settles O15: a start is proposed with a lead within its bounds, and seeds the transmitters at its beat, each receiver at its valid
lane's rise, and no group that rises too late. -/
theorem scramblerStartsAreProposedAndTaken : Obligations.ScramblerStartsAreProposedAndTaken := by
  unfold Obligations.ScramblerStartsAreProposedAndTaken
  refine ⟨?repropose, ?start, ?rise, ?late, ?timeout⟩
  case repropose =>
    intro s now b hb hs hy hp hw
    rw [exec_scramblerRepropose, execScramblerRepropose_due rfl (by rwa [State.at_cal]) (by rwa [State.at_cal]) (by rwa [State.at_cal]) hp]
    obtain ⟨lead, low, high, cal, status⟩ := State.proposeStart_wins ((s.at_wins now).trans hw)
    exact ⟨_, lead, rfl, low, high, congrArg Cal.startAt cal, congrArg Cal.ready cal, status⟩
  case start =>
    intro s now b hb hy hs hp hc h3
    rw [exec_scramblerStartBeat, execScramblerStartBeat_seeds rfl (by rwa [State.at_cal]) (by rwa [State.at_cal]) (by rwa [State.at_cal]) hp
      (by rwa [State.at_colIn]) (by rwa [State.at_col, State.at_step])]
    obtain ⟨ui, hui, seed⟩ := (s.at now).seedPoint_eq b (show 0 < 32 by decide)
    rw [seed, State.at_uiPerBeat]
    exact ⟨_, ui, hui, rfl, rfl, rfl, s.at_col now⟩
  case rise =>
    intro s g hs hg hr hn
    obtain ⟨ui, hui, seed⟩ := s.seedPoint_eq s.beat s.uiPerBeat_pos
    rw [exec_validLaneRise, execValidLaneRise_seeds hs hg hr hn, seed]
    refine ⟨_, ui, hui, rfl, ?risen, ?seed, ?released, ?clock⟩
    case risen => exact getLsbD_or_pow _ g.isLt
    case seed => simp only [State.seedRx, Sparse.find_set, if_true]
    case released => exact getLsbD_or_pow _ g.isLt
    case clock =>
      have bit : ∀ g : Fin 5, (BitVec.ofNat 12 (64 * 2 ^ g.val)).getLsbD (6 + g.val) = true := by decide
      simp only [State.clkOn, State.seedRx, BitVec.getLsbD_or, bit, Bool.or_true]
  case late =>
    intro s g hn
    rw [exec_validLaneRise]
    simp only [execValidLaneRise, hn, Bool.not_true, Bool.and_false, Bool.false_eq_true, if_false]
  case timeout =>
    intro s now b g hb hs hp hc hg hr
    have cal := s.at_cal now
    rw [exec_validRiseTimeout, execValidRiseTimeout_misses rfl ((congrArg Cal.startAt cal).trans hb) ((congrArg Cal.seeded cal).trans hs) hp
      (by rwa [State.at_col])]
    refine ⟨_, rfl, Cal.missed_of_unrisen (c := (s.at now).cal) ?_ ?_⟩ <;> rwa [State.at_cal]

end Sys2Proof.Machine
end

section
/-!
PROOFS. The calibration steps of bring-up and of RETRAIN, and the end of REPAIR's verification (R96, R119, R122, R143, R149).
-/

namespace Sys2Proof.Machine

theorem exec_rateStepDone (s : State) : exec .rateStepDone s = execRateStepDone s := rfl
theorem exec_calWindowEnd (r : CalWindow) (s : State) : exec (.calWindowEnd r) s = execCalWindowEnd r s := rfl
theorem exec_retrainGo (s : State) : exec .retrainGo s = execRetrainGo s := rfl
theorem exec_repairVerifyEnd (now : Beat) (m : BitVec 5) (s : State) : exec (.repairVerifyEnd now m) s = execRepairVerifyEnd now m s := rfl

/-! ### Where a calibration pass stands -/

/-- The Col state, its step, and the window of the step. -/
def State.passAt (s : State) : ColState × Nat × Nat := (s.chip.col, s.chip.step, s.cal.window)

@[simp] theorem State.put_passAt (s : State) (f : Field) (v : Nat) : (s.put f v).passAt = s.passAt := by
  simp only [State.passAt, State.put_chip, State.put_cal]

theorem State.setTrims_passAt {w : Nat} (s : State) (k : TrimKind) (l : List (Nat × BitVec w)) : (s.setTrims k l).passAt = s.passAt := by
  induction l generalizing s with
  | nil => rfl
  | cons x l ih => exact (ih _).trans (s.put_passAt _ _)

/-- Centre codes are trims, drives, and what the far drives are known to be. -/
theorem State.centreGroup_passAt (s : State) (g : Nat) : (s.centreGroup g).passAt = s.passAt := by
  have drives : ∀ (t : State) (i : Nat), (t.setCal fun c => { c with farDrive := Sparse.set i none c.farDrive }).passAt = t.passAt := fun _ _ => rfl
  unfold State.centreGroup
  dsimp only
  rw [foldl_keeps State.passAt]
  · simp only [apply_ite State.passAt, State.put_passAt, ite_self]
  · intro t i
    simp only [apply_ite State.passAt, State.put_passAt, drives, ite_self]

theorem State.sbSend_passAt (s : State) (t : SbType) (pl : Nat) : (s.sbSend t pl).passAt = s.passAt := by
  obtain ⟨_, _, _, h⟩ := s.sbSend_frame t pl
  rw [h]
  rfl

/-- The next access to the far page, if it begins, is sent over the sideband. -/
theorem State.rpaNext_passAt (s : State) : s.rpaNext.passAt = s.passAt := by
  unfold State.rpaNext
  split
  · exact (State.sbSend_passAt ..).trans (State.put_passAt ..)
  · rfl

/-! ### A phase begins (R119, R122) -/

theorem execRateStepDone_begins {s : State} (h : s.chip.step = 1) (hc : s.colIn [.cal, .retrain, .lowland] = true) :
    execRateStepDone s = .next ((s.setRate s.targetRate).calStep 2).beginPhase := by
  simp only [execRateStepDone, h, hc, decide_true, Bool.and_self, if_true]

/-- A phase begins in its step, before its first window and before its scrambler start. -/
theorem State.calStep_beginPhase (s : State) (step : Nat) : (s.calStep step).beginPhase.chip.step = step ∧
    (s.calStep step).beginPhase.cal.window = 0 ∧ (s.calStep step).beginPhase.cal.seeded = false := by
  have centred := foldl_keeps State.passAt State.centreGroup_passAt [0, 1, 2, 3, 4] (s.calStep step)
  have window := congrArg (·.2.2) centred
  obtain ⟨_, cal⟩ := State.proposeStart_cal ([0, 1, 2, 3, 4].foldl State.centreGroup (s.calStep step))
  obtain ⟨_, chip⟩ := State.train_chip { s.calFresh with
    chip := { s.calFresh.chip with step := step, stepEntry := s.calFresh.beat }
    sb := { s.calFresh.sb with status := 0, arg := 0, acted := [] } }
  refine ⟨?_, ?_, congrArg Cal.seeded cal⟩
  · exact (State.proposeStart_step _).trans ((congrArg (·.2.1) centred).trans (congrArg Chip.step chip))
  · exact (congrArg Cal.window cal).trans (window.trans (congrArg Cal.window (State.train_cal _)))

/-! ### The windows of a phase -/

theorem execCalWindowEnd_runs {s : State} {r : CalWindow} (hw : r.wf = true) (hs : s.cal.seeded = true) (hr : s.cal.ownRep = none)
    (hc : s.chip.col = .cal) (h0 : s.chip.step = 0) : execCalWindowEnd r s = .next (s.calWindow r) := by
  have phaseA : s.colIn [.cal, .retrain, .lowland] = true := by simp [State.colIn, hc]
  have step : (s.chip.step == 2 || (s.chip.step == 0 && s.chip.col == .cal)) = true := by simp [hc, h0]
  simp only [execCalWindowEnd, hw, hs, hr, phaseA, step, Option.isNone_none, Bool.and_self, if_true]

/-- Each of the first five windows sets trims or drives and makes place for the next. -/
theorem State.calWindow_passAt (s : State) (r : CalWindow) (h : s.cal.window < 5) :
    (s.calWindow r).passAt = (s.chip.col, s.chip.step, s.cal.window + 1) := by
  unfold State.calWindow
  dsimp only
  split
  · rw [State.setTrims_passAt, State.setTrims_passAt]; rfl
  · rw [State.setTrims_passAt]; rfl
  · rw [State.setTrims_passAt]; rfl
  · rw [State.setTrims_passAt]; rfl
  · rw [State.rpaNext_passAt]; rfl
  · omega
  · omega
  · rfl

/-- The third window sets the offset codes it found. -/
theorem State.calWindow_offset {s : State} {r : CalWindow} {i : Nat} {c : BitVec 6} (h : s.cal.window = 2) (hr : r.offset = [(i, c)]) :
    (s.calWindow r).get (CAL.TRIM_OFFSET.CODE i) = c.toNat := by
  have fits : c.toNat < 2 ^ (CAL.TRIM_OFFSET.CODE i).width := c.isLt
  unfold State.calWindow
  simp only [h, hr]
  exact (State.get_put_same _ _ _ (show 0 + 6 ≤ 64 by decide)).trans (Nat.mod_eq_of_lt fits)

/-! ### RETRAIN and the end of REPAIR's verification -/

theorem execRetrainGo_enters {s : State} (h : HostUp s (keyDomains PHY.RETRAIN_CMD.GO.key)) (hr : s.role ≠ 0) (hc : s.chip.col = .active)
    (hp : s.anyPause = false) (hk : s.parked = false) : execRetrainGo s = .next (s.enterRetrain true) := by
  have present : s.present (PHY.RETRAIN_CMD.GO.key / 4096) = true := s.present_of_role hr (by decide)
  have free : s.retrainRefusal = none := by simp [State.retrainRefusal, hc, hp]
  simp only [execRetrainGo, s.command_eq h, present, free, State.askRetrain, hk, Bool.true_eq_false, Bool.false_eq_true, if_false]

theorem State.enterRetrain_spec (s : State) (own : Bool) : (s.enterRetrain own).chip.col = .retrain ∧ (s.enterRetrain own).chip.step = 1 ∧
    (s.enterRetrain own).cal.mode = .retrain ∧ (s.enterRetrain own).cal.fails = 0 := by
  unfold State.enterRetrain
  dsimp only
  generalize s.yieldRetrain.endBurst.unpark.cancelAll.startCut = s0
  obtain ⟨_, chip⟩ := State.setColStep_chip (State.calFresh _) .retrain 1
  refine ⟨congrArg Chip.col chip, congrArg Chip.step chip, ?mode, ?fails⟩
  case mode => exact congrArg Cal.mode (State.train_cal _)
  case fails => exact congrArg Cal.fails (State.train_cal _)

/-- Without a mismatch the verification passes, and STATUS says so. -/
def State.verified (s : State) : State := { s with rep := { s.rep with verify := none, ownReady := true } }.setStatus 10 0

theorem State.verified_rep (s : State) : s.verified.rep = { s.rep with verify := none, ownReady := true } := State.setStatus_rep ..

theorem State.repairDone_waits {s : State} (h : s.rep.farReady = false) : s.repairDone = s := by
  simp only [State.repairDone, h, Bool.and_false, Bool.false_eq_true, if_false]

theorem execRepairVerifyEnd_passes {s r : State} {now b : Beat} (hr : s.at now = r) (hv : r.rep.verify = some b) (hc : r.chip.col = .repair)
    (hp : r.past b 1024 = true) (hf : r.rep.farReady = false) : execRepairVerifyEnd now 0 s = .next r.verified := by
  have waits : r.verified.repairDone = r.verified := State.repairDone_waits (by rw [State.verified_rep]; exact hf)
  have none (n : Nat) : (0 : BitVec 5).toNat &&& n = 0 := Nat.zero_and n
  have bit4 : bit 0 4 = false := rfl
  simp only [execRepairVerifyEnd, hr, hv, hc, hp, none, bit4, ne_eq, not_true_eq_false, Bool.not_true, Bool.false_eq_true, or_self, if_false, if_true]
  exact congrArg Host.Outcome.next waits

/-- Settles O16: a phase begins with its windows and its start to come, each window sets its codes, RETRAIN begins in its rate step, and a
verification without a mismatch is reported. -/
theorem calibrationStepsProceed : Obligations.CalibrationStepsProceed := by
  unfold Obligations.CalibrationStepsProceed
  refine ⟨?rate, ?window, ?offset, ?retrain, ?verify⟩
  case rate =>
    intro s h hc
    rw [exec_rateStepDone, execRateStepDone_begins h hc]
    exact ⟨_, rfl, State.calStep_beginPhase _ 2⟩
  case window =>
    intro s r hw hs hr hc h0 h5
    rw [exec_calWindowEnd, execCalWindowEnd_runs hw hs hr hc h0]
    have passed := s.calWindow_passAt r h5
    exact ⟨_, rfl, congrArg (·.2.2) passed, (congrArg (·.1) passed).trans hc⟩
  case offset =>
    intro s r i c hw hs hr hc h0 h2 ho
    rw [exec_calWindowEnd, execCalWindowEnd_runs hw hs hr hc h0]
    exact ⟨_, rfl, State.calWindow_offset h2 ho⟩
  case retrain =>
    intro s h hr hc hp hk
    rw [exec_retrainGo, execRetrainGo_enters h hr hc hp hk]
    exact ⟨_, rfl, s.enterRetrain_spec true⟩
  case verify =>
    intro s now b hv hc hp hf
    have rep := s.at_rep now
    rw [exec_repairVerifyEnd, execRepairVerifyEnd_passes rfl ((congrArg Repair.verify rep).trans hv) ((s.at_col now).trans hc) hp
      ((congrArg Repair.farReady rep).trans hf)]
    exact ⟨_, rfl, congrArg Repair.ownReady (State.verified_rep _), congrArg Repair.verify (State.verified_rep _), State.setStatus_status ..⟩

end Sys2Proof.Machine
end

section
/-!
PROOFS. Writes of trims and drives, of RATE_CTL, PEEK_CTL and ESC_NEXT (R112, R129, R327, R333, R459).
-/

namespace Sys2Proof.Machine

theorem exec_txDriveWrite (site : Nat) (code : BitVec 4) (s : State) : exec (.txDriveWrite site code) s = execTxDriveWrite site code s := rfl
theorem exec_trimWrite (k : TrimKind) (i : Nat) (code : BitVec 7) (s : State) : exec (.trimWrite k i code) s = execTrimWrite k i code s := rfl
theorem exec_rateCtlWrite (rate : BitVec 2) (s : State) : exec (.rateCtlWrite rate) s = execRateCtlWrite rate s := rfl
theorem exec_peekLineWrite (data : Word) (s : State) : exec (.peekLineWrite data) s = execPeekLineWrite data s [] := rfl
theorem exec_escNextWrite (data : Word) (s : State) : exec (.escNextWrite data) s = execEscNextWrite data s := rfl

/-! ### Registers whose fields take every value (R6, R440) -/

/-- The field serves both ends and takes every value of its width. -/
def RwField.takesAll (f : RwField) : Prop := f.min = 0 ∧ f.max = 2 ^ f.width - 1 ∧ f.serves = .all

theorem RwField.takesAll_range {f : RwField} (h : f.takesAll) (d : Nat) : f.min ≤ bits d f.lo f.width ∧ bits d f.lo f.width ≤ f.max := by
  obtain ⟨low, high, -⟩ := h
  have := bits_lt d f.lo f.width
  omega

theorem State.serves_takesAll (s : State) {f : RwField} (h : f.takesAll) : s.serves f.serves = true := by
  rw [h.2.2]
  rfl

section
variable (s : State) {key : Nat} {row : RegRow} {data : Word} (hp : s.present (key / 4096) = true) (ho : 0x100 ≤ key % 4096)
  (hrow : rowOf key = some row) (hne : row.rw ≠ []) (hst : s.stateRefusal (key / 4096) (key % 4096) data = none)
  (hall : ∀ f ∈ row.rw, f.takesAll)
include hp ho hrow hne hst hall

/-- A write of such a register is accepted where no rule of its own turns it away. -/
theorem State.hostWrite_takesAll (hown : s.ownRefusal (key / 4096) (key % 4096) data = none) :
    s.hostWrite key data = s.acceptWrite (key / 4096) (key % 4096) data row.rw := by
  rw [s.hostWrite_fields hp ho hrow hne hst hown fun f hf => s.serves_takesAll (hall f hf), if_pos]
  exact fun f hf => RwField.takesAll_range (hall f hf) _

/-- A write of such a register is refused as the register's own rule says. -/
theorem State.hostWrite_refused {r : Reason} (hown : s.ownRefusal (key / 4096) (key % 4096) data = some r) :
    s.hostWrite key data = s.refuse key r data := by
  have fields : s.fieldRefusal data row.rw = none := by
    rw [s.fieldRefusal_served _ _ fun f hf => s.serves_takesAll (hall f hf), if_pos]
    exact fun f hf => RwField.takesAll_range (hall f hf) _
  simp only [State.hostWrite, State.writeRefusal, hp, Nat.not_lt.mpr ho, hrow, hne, hst, hown, fields, Bool.not_true, Bool.false_eq_true, if_false]
  rfl

end

/-- An accepted write that makes nothing pend leaves the merged word in the register, and then has its effect. -/
theorem State.acceptWrite_sets (s : State) {key : Nat} (hdrive : key / 4096 = 2 → key % 4096 < 0x200 ∨ s.chip.col = .cal)
    (htrim : key / 4096 ≠ 3) (hthr : key ≠ POWER.THR_CTL.STK_ALWAYS.key) (data : Word) (rw : List RwField) :
    s.acceptWrite (key / 4096) (key % 4096) data rw =
      (s.setReg key (s.mergeRw (s.reg key) data rw)).afterWrite (key / 4096) (key % 4096) := by
  have drive : (decide (key / 4096 = 2) && decide (0x200 ≤ key % 4096) && s.chip.col != .cal) = false := by
    by_cases h2 : key / 4096 = 2
    · rcases hdrive h2 with h | h
      · simp [Nat.not_le.mpr h]
      · simp [h]
    · simp [h2]
  simp only [State.acceptWrite, drive, Nat.div_add_mod, htrim, hthr, Bool.false_eq_true, if_false]

/-- A word merged into a register reads as the data's in each of its fields. -/
theorem State.get_merged (s : State) {f : Field} (data : Word) {rw : List RwField} (hall : ∀ g ∈ rw, g.takesAll) (hw : ∀ g ∈ rw, g.lo + g.width ≤ 64)
    (ha : rw.Pairwise RwField.apart) (hf : { lo := f.lo, width := f.width } ∈ rw) :
    (s.setReg f.key (s.mergeRw (s.reg f.key) data rw)).get f = bits data.toNat f.lo f.width := by
  rw [State.get, State.setReg_reg_same]
  exact s.bits_mergeRw_same _ _ _ (fun g hg => s.serves_takesAll (hall g hg)) hw ha _ hf

/-- A code widened to a register's data word is its value in the register's lowest field. -/
theorem bits_setWidth {n : Nat} (c : BitVec n) (hn : n ≤ 64) {w : Nat} (h : c.toNat < 2 ^ w) : bits (c.setWidth 64).toNat 0 w = c.toNat := by
  rw [BitVec.toNat_setWidth, Nat.mod_eq_of_lt (lt_of_lt_of_le c.isLt (Nat.pow_le_pow_right (by decide) hn)), bits_whole h]

/-! ### The rows of register arrays -/

/-- A row holds nothing at or after its end. -/
theorem RegRow.holds_past {r : RegRow} {off : Nat} (hs : r.stride = 8) (h : r.off + 8 * r.count ≤ off) : r.holds off = false := by
  have past : ¬ (off - r.off) / 8 < r.count := by omega
  simp only [RegRow.holds, hs, past, decide_false, Bool.and_false]

theorem RegRow.holds_place {r : RegRow} {i : Nat} (hs : r.stride = 8) (h : i < r.count) : r.holds (r.off + 8 * i) = true := by
  have start : r.off ≤ r.off + 8 * i := by omega
  have place : (r.off + 8 * i - r.off) / 8 = i := by omega
  have whole : (r.off + 8 * i - r.off) % 8 = 0 := by omega
  simp only [RegRow.holds, hs, start, whole, place, h, decide_true, Bool.and_self]

/-- The row of a register array is found at the key of each of its registers where the rows listed before it end before it. -/
theorem rowOf_array {page key i : Nat} {row : RegRow} (pre post : List RegRow) (hrows : pageRows page = pre ++ row :: post) (hs : row.stride = 8)
    (hpre : ∀ r ∈ pre, r.stride = 8 ∧ r.off + 8 * r.count ≤ row.off) (hi : i < row.count) (hkey : key = 4096 * page + (row.off + 8 * i))
    (hlt : row.off + 8 * i < 4096) : rowOf key = some row := by
  have hpage : key / 4096 = page := by omega
  have hoff : key % 4096 = row.off + 8 * i := by omega
  rw [rowOf, hpage, hoff, hrows, List.find?_eq_some_iff_append]
  refine ⟨RegRow.holds_place hs hi, pre, post, rfl, fun r hr => ?_⟩
  obtain ⟨stride, ends⟩ := hpre r hr
  rw [RegRow.holds_past stride (by omega)]
  rfl

/-- A field of one bit is not 0 where the bit is set. -/
theorem bits_one_ne_zero (n i : Nat) : (bits n i 1 != 0) = n.testBit i := by
  rw [bits, Nat.pow_one, Nat.shiftRight_eq_div_pow, ← Nat.toNat_testBit]
  cases n.testBit i <;> rfl

/-! ### TX_DRIVE (R129) -/

def txDriveRow : RegRow := { off := 0x200, count := 145, reset := 0x8, rw := [{ lo := 0, width := 4 }] }

theorem txDrive_place (i : Nat) (h : i < 145) : (PHY.TX_DRIVE.CODE i).key / 4096 = 2 ∧ (PHY.TX_DRIVE.CODE i).key % 4096 = 0x200 + 8 * i := by
  simp only [PHY.TX_DRIVE.CODE]
  omega

theorem rowOf_txDrive {i : Nat} (h : i < 145) : rowOf (PHY.TX_DRIVE.CODE i).key = some txDriveRow :=
  rowOf_array (page := 2) (PHY.rows.take 7) [] rfl rfl (by decide) h (show 0x2200 + 8 * i = 4096 * 2 + (0x200 + 8 * i) by omega)
    (show 0x200 + 8 * i < 4096 by omega)

theorem txDriveRow_takesAll : ∀ f ∈ txDriveRow.rw, f.takesAll := by
  simp [txDriveRow, RwField.takesAll]

/-- In CAL and in service a drive code is accepted. -/
theorem execTxDriveWrite_accepts {s : State} {site : Nat} {code : BitVec 4} (ho : siteOk site = true)
    (h : HostUp s (keyDomains (PHY.TX_DRIVE.CODE site).key)) (hr : s.role ≠ 0) (hc : s.colIn [.cal, .active, .lowland] = true) :
    execTxDriveWrite site code s = .next (s.acceptWrite ((PHY.TX_DRIVE.CODE site).key / 4096) ((PHY.TX_DRIVE.CODE site).key % 4096)
      (code.setWidth 64) txDriveRow.rw) := by
  have hi : site < 145 := of_decide_eq_true ho
  obtain ⟨page, off⟩ := txDrive_place site hi
  have present : s.present ((PHY.TX_DRIVE.CODE site).key / 4096) = true := s.present_of_role hr (by simp [page])
  have state : s.stateRefusal ((PHY.TX_DRIVE.CODE site).key / 4096) ((PHY.TX_DRIVE.CODE site).key % 4096) (code.setWidth 64) = none := by
    simp only [page, State.stateRefusal, hc, Bool.not_true, Bool.and_false, Bool.false_eq_true, if_false]
  have own : s.ownRefusal ((PHY.TX_DRIVE.CODE site).key / 4096) ((PHY.TX_DRIVE.CODE site).key % 4096) (code.setWidth 64) = none := by
    have : ¬ 0x200 + 8 * site = 0x100 := by omega
    simp only [page, off, State.ownRefusal, this, decide_false, Bool.false_and, Bool.false_eq_true, if_false]
  simp only [execTxDriveWrite, ho, if_true, s.access_eq h.needs]
  rw [s.hostWrite_takesAll present (by omega) (rowOf_txDrive hi) (by decide) state txDriveRow_takesAll own]

/-- In service a drive code pends. -/
theorem State.acceptWrite_txDrive {s : State} {site : Nat} (hi : site < 145) (hc : s.chip.col ≠ .cal) (data : Word) (rw : List RwField) :
    s.acceptWrite ((PHY.TX_DRIVE.CODE site).key / 4096) ((PHY.TX_DRIVE.CODE site).key % 4096) data rw =
      (s.put (PHY.TX_DRIVE.PENDING site) (bits data.toNat 0 4)).put (PHY.TX_DRIVE.PEND_V site) 1 := by
  obtain ⟨page, off⟩ := txDrive_place site hi
  have register : 0x200 ≤ 0x200 + 8 * site := by omega
  have index : (0x200 + 8 * site - 0x200) / 8 = site := by omega
  have service : (s.chip.col != .cal) = true := by simpa using hc
  simp only [State.acceptWrite, page, off, register, service, index, decide_true, Bool.and_self, if_true]

/-! ### Trims (R115, R129) -/

/-- The row of a kind of trims. -/
def trimRow : TrimKind → RegRow
  | .duty => { off := 0x128, count := 5, rw := [{ lo := 0, width := 5 }] }
  | .phase => { off := 0x150, count := 5, reset := 0x40, rw := [{ lo := 0, width := 7 }] }
  | .deskew => { off := 0x200, count := 145, reset := 0x40, rw := [{ lo := 0, width := 7 }] }
  | .offset => { off := 0x690, count := 145, rw := [{ lo := 0, width := 6 }] }

theorem trimCode_key (k : TrimKind) (i : Nat) : (trimCode k i).key = 4096 * 3 + ((trimRow k).off + 8 * i) := by
  cases k with
  | duty => exact Nat.add_assoc (4096 * 3) 0x128 (8 * i)
  | phase => exact Nat.add_assoc (4096 * 3) 0x150 (8 * i)
  | deskew => exact Nat.add_assoc (4096 * 3) 0x200 (8 * i)
  | offset => exact Nat.add_assoc (4096 * 3) 0x690 (8 * i)

theorem trimRow_bounds (k : TrimKind) : 0x100 ≤ (trimRow k).off ∧ (trimRow k).off + 8 * (trimRow k).count ≤ 4096 := by
  cases k <;> decide

theorem trimRow_count {k : TrimKind} {i : Nat} (h : trimOk k i = true) : i < (trimRow k).count := by
  cases k <;> exact of_decide_eq_true h

theorem trimRow_within {k : TrimKind} {i : Nat} (h : trimOk k i = true) :
    i < (trimRow k).count ∧ 0x100 ≤ (trimRow k).off + 8 * i ∧ (trimRow k).off + 8 * i < 4096 := by
  obtain ⟨low, high⟩ := trimRow_bounds k
  have hi := trimRow_count h
  omega

theorem rowOf_trim {k : TrimKind} {i : Nat} (h : trimOk k i = true) : rowOf (trimCode k i).key = some (trimRow k) := by
  obtain ⟨hi, -, hlt⟩ := trimRow_within h
  cases k with
  | duty => exact rowOf_array (CAL.rows.take 5) (CAL.rows.drop 6) rfl rfl (by decide) hi (trimCode_key _ i) hlt
  | phase => exact rowOf_array (CAL.rows.take 6) (CAL.rows.drop 7) rfl rfl (by decide) hi (trimCode_key _ i) hlt
  | deskew => exact rowOf_array (CAL.rows.take 7) (CAL.rows.drop 8) rfl rfl (by decide) hi (trimCode_key _ i) hlt
  | offset => exact rowOf_array (CAL.rows.take 8) (CAL.rows.drop 9) rfl rfl (by decide) hi (trimCode_key _ i) hlt

theorem trimRow_takesAll (k : TrimKind) : ∀ f ∈ (trimRow k).rw, f.takesAll := by
  cases k <;> simp [trimRow, RwField.takesAll]

/-- Each trim's register lies in the range of its kind. -/
theorem trimAt_of_ok {k : TrimKind} {i : Nat} (h : trimOk k i = true) : trimAt ((trimRow k).off + 8 * i) = some (k, i) := by
  cases k with
  | duty =>
    have hi : i < 5 := of_decide_eq_true h
    show trimAt (0x128 + 8 * i) = _
    rw [trimAt, if_pos (by omega), Nat.add_sub_cancel_left, Nat.mul_div_cancel_left _ (by decide)]
  | phase =>
    have hi : i < 5 := of_decide_eq_true h
    show trimAt (0x150 + 8 * i) = _
    rw [trimAt, if_neg (by omega), if_pos (by omega), Nat.add_sub_cancel_left, Nat.mul_div_cancel_left _ (by decide)]
  | deskew =>
    have hi : i < 145 := of_decide_eq_true h
    show trimAt (0x200 + 8 * i) = _
    rw [trimAt, if_neg (by omega), if_neg (by omega), if_pos (by omega), Nat.add_sub_cancel_left, Nat.mul_div_cancel_left _ (by decide)]
  | offset =>
    have hi : i < 145 := of_decide_eq_true h
    show trimAt (0x690 + 8 * i) = _
    rw [trimAt, if_neg (by omega), if_neg (by omega), if_neg (by omega), if_pos (by omega), Nat.add_sub_cancel_left,
      Nat.mul_div_cancel_left _ (by decide)]

/-- In service, with no background run, a trim's code pends if R115 does not exclude it. -/
theorem execTrimWrite_pends {s : State} {k : TrimKind} {i : Nat} {code : BitVec 7} (ho : trimOk k i = true)
    (h : HostUp s (keyDomains (trimCode k i).key)) (hr : s.role ≠ 0) (hc : s.colIn [.active, .lowland] = true) (hn : s.cal.run = none)
    (hw : code.toNat < 2 ^ (trimCode k i).width) (hx : k = .offset → offsetExcluded code.toNat = false) :
    execTrimWrite k i code s = .next (s.pend k i code.toNat) := by
  obtain ⟨-, low, high⟩ := trimRow_within ho
  have key := trimCode_key k i
  have page : (trimCode k i).key / 4096 = 3 := by omega
  have off : (trimCode k i).key % 4096 = (trimRow k).off + 8 * i := by omega
  have present : s.present ((trimCode k i).key / 4096) = true := s.present_of_role hr (by simp [page])
  have state : s.stateRefusal ((trimCode k i).key / 4096) ((trimCode k i).key % 4096) (code.setWidth 64) = none := by
    simp only [page, off, State.stateRefusal, trimAt_of_ok ho, hc, hn, Bool.not_true, Option.isSome_none, Bool.false_eq_true, if_false]
  have own : s.ownRefusal ((trimCode k i).key / 4096) ((trimCode k i).key % 4096) (code.setWidth 64) = none := by
    simp only [page, off, State.ownRefusal, trimAt_of_ok ho]
    cases k with
    | duty | phase | deskew => rfl
    | offset =>
      have six : (code.setWidth 64).toNat % 64 = code.toNat := bits_setWidth code (by decide) hw
      simp only [six, hx rfl, Bool.not_false, if_true]
  simp only [execTrimWrite, ho, if_true, s.access_eq h.needs]
  rw [s.hostWrite_takesAll present (by omega) (rowOf_trim ho) (by cases k <;> decide) state (trimRow_takesAll k) own]
  have notDrive : (decide (3 = 2) && decide (0x200 ≤ (trimRow k).off + 8 * i) && s.chip.col != .cal) = false := rfl
  simp only [State.acceptWrite, page, off, trimAt_of_ok ho, notDrive, Bool.false_eq_true, if_false, if_true, bits_setWidth code (by decide) hw]

/-- What pends is read back, and the code in use stays. -/
theorem State.pend_spec (s : State) (k : TrimKind) (i : Nat) {code : Nat} (h : code < 2 ^ 7) : (s.pend k i code).get (trimPending k i) = code ∧
    (s.pend k i code).get (trimPendV k i) = 1 ∧ (s.pend k i code).get (trimCode k i) = s.get (trimCode k i) := by
  have places : (trimPending k i).lo = 8 ∧ (trimPending k i).width = 7 ∧ (trimPendV k i).lo = 15 ∧ (trimPendV k i).width = 1 := by
    cases k <;> exact ⟨rfl, rfl, rfl, rfl⟩
  have inUse : (trimCode k i).lo = 0 ∧ (trimCode k i).width ≤ 7 := by
    cases k with
    | duty => exact ⟨rfl, show 5 ≤ 7 by decide⟩
    | offset => exact ⟨rfl, show 6 ≤ 7 by decide⟩
    | phase | deskew => exact ⟨rfl, show 7 ≤ 7 by decide⟩
  obtain ⟨lo, width, loV, widthV⟩ := places
  obtain ⟨loC, widthC⟩ := inUse
  unfold State.pend
  refine ⟨?_, ?_, ?_⟩
  · rw [State.get_put_apart _ _ (by omega), State.get_put_same _ _ _ (by omega), width, Nat.mod_eq_of_lt h]
  · rw [State.get_put_same _ _ _ (by omega), widthV]
    rfl
  · rw [State.get_put_apart _ _ (by omega), State.get_put_apart _ _ (by omega)]

/-! ### RATE_CTL (R112) -/

theorem rateCtl_row : rowOf PHY.RATE_CTL.RATE.key = some { off := 0x100, reset := 0x3, rw := [{ lo := 0, width := 2 }] } := by decide

/-- The highest rate takes a rate that is agreed, or any before the ends have agreed. -/
theorem execRateCtlWrite_takes {s : State} {rate : BitVec 2} (h : HostUp s (keyDomains PHY.RATE_CTL.RATE.key)) (hr : s.role ≠ 0)
    (hcap : s.lacksCap rate.toNat = false) : execRateCtlWrite rate s =
      .next (s.setReg PHY.RATE_CTL.RATE.key (s.mergeRw (s.reg PHY.RATE_CTL.RATE.key) (rate.setWidth 64) [{ lo := 0, width := 2 }])) := by
  have two : (rate.setWidth 64).toNat % 4 = rate.toNat := bits_setWidth rate (w := 2) (by decide) rate.isLt
  have own : s.ownRefusal 2 0x100 (rate.setWidth 64) = none := by
    simp only [State.ownRefusal, two, hcap, Bool.and_false, Bool.false_eq_true, if_false]
  simp only [execRateCtlWrite, s.access_eq h.needs]
  rw [s.hostWrite_takesAll (s.present_of_role hr (by decide)) (by decide) rateCtl_row (by decide) rfl (by simp [RwField.takesAll]) own,
    s.acceptWrite_sets (fun _ => .inl (by decide)) (by decide) (by decide)]
  rfl

theorem execRateCtlWrite_refuses {s : State} {rate : BitVec 2} (h : HostUp s (keyDomains PHY.RATE_CTL.RATE.key)) (hr : s.role ≠ 0)
    (hcap : s.lacksCap rate.toNat = true) :
    execRateCtlWrite rate s = .next (s.refuse PHY.RATE_CTL.RATE.key .capability (rate.setWidth 64)) := by
  have two : (rate.setWidth 64).toNat % 4 = rate.toNat := bits_setWidth rate (w := 2) (by decide) rate.isLt
  have own : s.ownRefusal 2 0x100 (rate.setWidth 64) = some .capability := by
    simp only [State.ownRefusal, two, hcap, decide_true, Bool.and_self, if_true]
  simp only [execRateCtlWrite, s.access_eq h.needs]
  rw [s.hostWrite_refused (s.present_of_role hr (by decide)) (by decide) rateCtl_row (by decide) rfl (by simp [RwField.takesAll]) own]

/-! ### PEEK_CTL (R333, R459) -/

theorem peekCtl_row : rowOf BASIN.PEEK_CTL.LINE.key =
    some { off := 0x138, reset := 0x10000, rw := [{ lo := 0, width := 16 }, { lo := 16, width := 1 }] } := by decide

/-- PEEK_CTL as a write of `data` leaves it. -/
def State.peekSet (s : State) (data : Word) : State :=
  s.setReg BASIN.PEEK_CTL.LINE.key (s.mergeRw (s.reg BASIN.PEEK_CTL.LINE.key) data [{ lo := 0, width := 16 }, { lo := 16, width := 1 }])

theorem State.peekSet_get (s : State) (data : Word) : (s.peekSet data).get BASIN.PEEK_CTL.LINE = bits data.toNat 0 16 ∧
    (s.peekSet data).get BASIN.PEEK_CTL.CONV = bits data.toNat 16 1 := by
  constructor
  · exact s.get_merged (f := BASIN.PEEK_CTL.LINE) data (by simp [RwField.takesAll]) (by decide) (by simp [RwField.apart]) (by decide)
  · exact s.get_merged (f := BASIN.PEEK_CTL.CONV) data (by simp [RwField.takesAll]) (by decide) (by simp [RwField.apart]) (by decide)

theorem execPeekLineWrite_peeks {s : State} {data : Word} (h : HostUp s (keyDomains BASIN.PEEK_CTL.LINE.key)) (hm : s.isM = true)
    (hi : s.on BASIN.INIT_STAT.RUNNING = false) : execPeekLineWrite data s [] = .next (s.peekSet data).peek := by
  have state : s.stateRefusal 11 0x138 data = none := by
    simp [State.stateRefusal, hi]
  simp only [execPeekLineWrite, s.access_eq h.needs, State.meet, List.foldl_nil, ite_self]
  rw [s.hostWrite_takesAll (show s.present (BASIN.PEEK_CTL.LINE.key / 4096) = true from hm) (by decide) peekCtl_row (by decide) state (by simp [RwField.takesAll]) rfl,
    s.acceptWrite_sets (fun h => absurd h (by decide)) (by decide) (by decide)]
  rfl

/-! A register set changes no window and no line of the Basin. -/

theorem State.put_line (s : State) (f : Field) (v line : Nat) : (s.put f v).line line = s.line line := rfl

theorem State.put_lineWindow (s : State) (f : Field) (v line : Nat) : (s.put f v).lineWindow line = s.lineWindow line :=
  congrArg (List.find? · (List.range 1024)) (funext fun _ => rfl)

theorem State.put_peekLine (s : State) (f : Field) (v line : Nat) (conv : Bool) : (s.put f v).peekLine line conv = s.peekLine line conv := by
  unfold State.peekLine
  rw [State.put_lineWindow, State.put_line]
  cases s.lineWindow line with
  | none => rfl
  | some n => rfl

/-- PEEK_DATA holds the words copied into it. -/
theorem State.get_peekData (s : State) (v : Nat) {n k : Nat} (h : k < n) :
    ((List.range n).foldl (fun t k => t.put (BASIN.PEEK_DATA.DATA k) (bits v (64 * k) 64)) s).get (BASIN.PEEK_DATA.DATA k) = bits v (64 * k) 64 := by
  induction n with
  | zero => omega
  | succ n ih =>
    rw [List.range_succ, List.foldl_append, List.foldl_cons, List.foldl_nil]
    by_cases hk : k = n
    · subst hk
      exact (State.get_put_same _ _ _ (show 0 + 64 ≤ 64 by decide)).trans (Nat.mod_eq_of_lt (bits_lt _ _ _))
    · rw [State.get_put_ne _ _ (by simp only [BASIN.PEEK_DATA.DATA]; omega), ih (by omega)]

theorem State.peek_line (s : State) : s.peek.get BASIN.PEEK_CTL.LINE = s.get BASIN.PEEK_CTL.LINE := by
  refine foldl_keeps (fun t => t.get BASIN.PEEK_CTL.LINE) (fun t k => ?_) _ _
  exact State.get_put_ne _ _ (by simp only [BASIN.PEEK_DATA.DATA, BASIN.PEEK_CTL.LINE]; omega)

theorem State.peek_peekLine (s : State) (line : Nat) (conv : Bool) : s.peek.peekLine line conv = s.peekLine line conv :=
  foldl_keeps (fun t => t.peekLine line conv) (fun t _ => t.put_peekLine _ _ line conv) _ _

/-! ### ESC_STAT.NEXT (R327) -/

theorem escNext_row : rowOf DEFILE.ESC_STAT.NEXT.key = some { off := 0x160, rw := [{ lo := 0, width := 24 }] } := by decide

theorem execEscNextWrite_sets {s : State} {data : Word} (h : HostUp s (keyDomains DEFILE.ESC_STAT.NEXT.key)) (hm : s.isM = true)
    (hn : bits data.toNat 0 24 ≤ s.get DEFILE.ESC_LIMIT.SLOTS) :
    execEscNextWrite data s = .next { (s.setReg DEFILE.ESC_STAT.NEXT.key (s.mergeRw (s.reg DEFILE.ESC_STAT.NEXT.key) data
      [{ lo := 0, width := 24 }])) with eng := { s.eng with escFull := false } } := by
  have own : s.ownRefusal 10 0x160 data = none := by
    simp [State.ownRefusal, hn]
  simp only [execEscNextWrite, s.access_eq h.needs]
  rw [s.hostWrite_takesAll (show s.present (DEFILE.ESC_STAT.NEXT.key / 4096) = true from hm) (by decide) escNext_row (by decide) rfl (by simp [RwField.takesAll]) own,
    s.acceptWrite_sets (fun h => absurd h (by decide)) (by decide) (by decide)]
  rfl

/-- Settles O30: drive codes and trims pend in service, drive codes are set in CAL, and RATE_CTL, PEEK_CTL and ESC_STAT take the words their
rules allow, with their effects. -/
theorem driveTrimRatePeekAndEscapeWrites : Obligations.DriveTrimRatePeekAndEscapeWrites := by
  unfold Obligations.DriveTrimRatePeekAndEscapeWrites
  refine ⟨?drive, ?driveCal, ?trim, ?rate, ?rateRefused, ?peek, ?esc⟩
  case drive =>
    intro s site code ho h hr hc
    have hi : site < 145 := of_decide_eq_true ho
    have service : s.colIn [.cal, .active, .lowland] = true := (s.colIn_iff _).mpr (List.mem_cons_of_mem _ ((s.colIn_iff _).mp hc))
    rw [exec_txDriveWrite, execTxDriveWrite_accepts ho h hr service, State.acceptWrite_txDrive hi (State.col_ne_of_colIn hc (by decide)),
      bits_setWidth code (by decide) code.isLt]
    refine ⟨_, rfl, ?_, ?_, ?_⟩
    · rw [State.get_put_apart _ _ (by simp only [PHY.TX_DRIVE.PENDING, PHY.TX_DRIVE.PEND_V]; omega)]
      exact (State.get_put_same _ _ _ (show 8 + 4 ≤ 64 by decide)).trans (Nat.mod_eq_of_lt code.isLt)
    · exact State.get_put_same _ _ _ (show 15 + 1 ≤ 64 by decide)
    · rw [State.get_put_apart _ _ (by simp only [PHY.TX_DRIVE.CODE, PHY.TX_DRIVE.PEND_V]; omega),
        State.get_put_apart _ _ (by simp only [PHY.TX_DRIVE.CODE, PHY.TX_DRIVE.PENDING]; omega)]
  case driveCal =>
    intro s site code ho h hr hc
    have hi : site < 145 := of_decide_eq_true ho
    obtain ⟨page, -⟩ := txDrive_place site hi
    rw [exec_txDriveWrite, execTxDriveWrite_accepts ho h hr (by simp [State.colIn, hc]),
      s.acceptWrite_sets (fun _ => .inr hc) (by omega) (by simp only [PHY.TX_DRIVE.CODE, POWER.THR_CTL.STK_ALWAYS]; omega), page]
    refine ⟨_, rfl, ?_⟩
    refine (s.get_merged (f := PHY.TX_DRIVE.CODE site) _ txDriveRow_takesAll (by decide) (by simp [txDriveRow]) List.mem_cons_self).trans ?_
    exact bits_setWidth code (by decide) code.isLt
  case trim =>
    intro s k i code ho h hr hc hn hw hx
    rw [exec_trimWrite, execTrimWrite_pends ho h hr hc hn hw hx]
    exact ⟨_, rfl, s.pend_spec k i code.isLt⟩
  case rate =>
    intro s rate h hr hcap
    have may : s.lacksCap rate.toNat = false := by rcases hcap with hcap | hcap <;> simp [State.lacksCap, hcap]
    rw [exec_rateCtlWrite, execRateCtlWrite_takes h hr may]
    refine ⟨_, rfl, ?_⟩
    refine (s.get_merged (f := PHY.RATE_CTL.RATE) _ (by simp [RwField.takesAll]) (by decide) (by simp) (by decide)).trans ?_
    exact bits_setWidth rate (by decide) rate.isLt
  case rateRefused =>
    intro s rate h hr hv hb
    rw [exec_rateCtlWrite, execRateCtlWrite_refuses h hr (by simp [State.lacksCap, hv, hb])]
    refine ⟨_, rfl, ?_, s.refuse_reason _ _ _⟩
    rw [State.get, State.refuse_reg_ne _ _ _ (by decide), State.get]
  case peek =>
    intro s data h hm hi
    obtain ⟨line, conv⟩ := s.peekSet_get data
    have on : (s.peekSet data).on BASIN.PEEK_CTL.CONV = data.getLsbD 16 := by rw [State.on, conv, bits_one_ne_zero]; rfl
    rw [exec_peekLineWrite, execPeekLineWrite_peeks h hm hi]
    refine ⟨_, rfl, (State.peek_line _).trans line, fun k hk => ?_⟩
    rw [State.peek_peekLine, ← line, ← on]
    exact State.get_peekData _ _ hk
  case esc =>
    intro s data h hm hn
    rw [exec_escNextWrite, execEscNextWrite_sets h hm hn]
    exact ⟨_, rfl, s.get_merged (f := DEFILE.ESC_STAT.NEXT) data (by simp [RwField.takesAll]) (by decide) (by simp) (by decide), rfl⟩

end Sys2Proof.Machine
end

section
/-!
PROOFS. What faults, triggers and wakes leave alone: the calibration state (R96, R135, R147, R151, R207, R208, R400, R435).
-/

namespace Sys2Proof.Machine

/-! ### Frames and proposals -/

section
variable (s : State)

@[simp] theorem State.sendProp_cal (v : Verb) (k : PropKind) (b : Beat) : (s.sendProp v k b).cal = s.cal := by
  cases k <;> exact State.sbSend_cal ..

@[simp] theorem State.setCol_cal (c : ColState) : (s.setCol c).cal = s.cal := State.train_cal _

@[simp] theorem State.wait_cal (t : Trigger) : (s.wait t).cal = s.cal := by
  unfold State.wait
  split
  · rfl
  · rfl

@[simp] theorem State.cancelQuiet_cal : s.cancelQuiet.cal = s.cal :=
  (State.setProps_cal ..).trans (foldl_keeps State.cal (fun (t : State) (p : Proposal) => t.sendProp_cal .cancel p.kind p.beat) _ s)

@[simp] theorem State.propose_cal (k : PropKind) : (s.propose k).cal = s.cal := by
  unfold State.propose
  refine (State.sendProp_cal ..).trans ?_
  cases k.overQuiet with
  | true => exact s.cancelQuiet_cal
  | false => rfl

/-! ### Wakes (R435, R437) -/

@[simp] theorem State.runClocks_cal : s.runClocks.cal = s.cal := rfl

@[simp] theorem State.wake_cal (trigger : Nat) : (s.wake trigger).cal = s.cal := by
  simp only [State.wake, apply_ite State.cal, State.raise_cal, State.runClocks_cal, State.setPwr_cal, State.bump_cal, State.put_cal, ite_self]

@[simp] theorem State.deferProposal_cal (t : Trigger) : (s.deferProposal t).cal = s.cal := State.wake_cal ..

/-! ### What a Col that leaves service settles (R207, R208) -/

@[simp] theorem State.endBurst_cal : s.endBurst.cal = s.cal := by
  rcases s.endBurst_cases with h | ⟨_, h⟩
  · rw [h]
  · rw [h]
    rfl

@[simp] theorem State.discardAhead_cal (gone : Ahead → Bool) : (s.discardAhead gone).cal = s.cal := State.bumpBy_cal ..
@[simp] theorem State.cancelFrom_cal (q : Nat) : (s.cancelFrom q).cal = s.cal := (State.discardAhead_cal _ _).trans (State.setLnk_cal _ _)
@[simp] theorem State.cancelAll_cal : s.cancelAll.cal = s.cal := (State.put_cal ..).trans (s.cancelFrom_cal _)

@[simp] theorem State.dropPartial_cal : s.dropPartial.cal = s.cal := by
  unfold State.dropPartial
  dsimp only
  split
  · split
    · rfl
    · split
      · rfl
      · rfl
  · rfl

@[simp] theorem State.sendCnf_cal (l : List Nat) : (s.sendCnf l).cal = s.cal := by
  obtain ⟨_, _, h⟩ := s.sendCnf_eq l
  rw [h]

@[simp] theorem State.flushLevel_cal : s.flushLevel.cal = s.cal := rfl
@[simp] theorem State.reportLost_cal (c cause : Nat) : (s.reportLost c cause).cal = s.cal :=
  State.cal_of_offWindows (s.reportLost_offWindows c cause)

/-- Undefined data takes free values. -/
theorem State.undefUnits_cal (n : Nat) : (s.undefUnits n).2.cal = s.cal := by
  induction n generalizing s with
  | zero => rfl
  | succ n ih => exact ih _

@[simp] theorem State.answerDie_cal (q : Hdr) (st : Status) (resv : Nat) : (s.answerDie q st resv).cal = s.cal := s.undefUnits_cal _

@[simp] theorem State.settleOne_cal (drain : Bool) (q : Hdr) : (s.settleOne drain q).cal = s.cal := by
  simp only [State.settleOne, apply_ite State.cal, State.answerDie_cal, State.reportLost_cal, State.bump_cal, State.setTxn_cal, ite_self]

@[simp] theorem State.settleDie_cal (drain torn : Bool) : (s.settleDie drain torn).cal = s.cal := by
  have answered (l : List (Nat × Hdr)) (t : State) : (l.foldl (fun t q => t.settleOne drain q.2) t).cal = t.cal :=
    foldl_keeps State.cal (fun t q => t.settleOne_cal drain q.2) l t
  have charged (l : List Hdr) (cause : Nat) (t : State) : (l.foldl (fun t h => t.reportLost h.ctx cause) t).cal = t.cal :=
    foldl_keeps State.cal (f := fun (t : State) (h : Hdr) => t.reportLost h.ctx cause) (fun t h => t.reportLost_cal h.ctx cause) l t
  simp only [State.settleDie, apply_ite State.cal, charged, answered, State.setTxn_cal, State.bumpBy_cal, State.flushLevel_cal, State.sendCnf_cal,
    State.dropPartial_cal, State.cancelAll_cal, ite_self]

@[simp] theorem State.settleWith_cal (drain torn : Bool) : (s.settleWith drain torn).cal = s.cal := by
  simp only [State.settleWith, State.setLnk_cal, apply_ite State.cal, State.raise_cal, State.bumpBy_cal, State.settleDie_cal, ite_self]

@[simp] theorem State.settle_cal (torn : Bool) : (s.settle torn).cal = s.cal := by
  simp only [State.settle, apply_ite State.cal, State.settleWith_cal, ite_self]

/-- In DOWN and FAULT the token is released without a transfer across the Col (R400). -/
@[simp] theorem State.leaveService_cal : (s.leaveService true).cal = s.cal := by
  have windows : s.endWindows.cal = s.cal := State.cal_of_offWindows s.endWindows_offWindows
  have released : (s.releaseToken 1 true).cal = s.cal := State.cal_of_offWindows (s.releaseToken_offWindows 1)
  have role : (s.setProle 6).cal = s.cal := State.cal_of_offWindows (s.setProle_offWindows 6)
  simp only [State.leaveService, apply_ite State.cal, windows, released, role, State.setPair_cal, ite_self]

/-! ### Faults (R96) -/

@[simp] theorem State.faultSumFor_cal (e : Event) : (s.faultSumFor e).cal = s.cal := by
  simp only [State.faultSumFor, State.faultSum, apply_ite State.cal, State.put_cal, ite_self]

@[simp] theorem State.keepCause_cal (code : Nat) : (s.keepCause code).cal = s.cal := by
  simp only [State.keepCause, apply_ite State.cal, State.put_cal, ite_self]

@[simp] theorem State.voidProps_cal : s.voidProps.cal = s.cal := rfl
@[simp] theorem State.announced_cal : s.announced.cal = s.cal := rfl

@[simp] theorem State.goFaultBy_cal (torn : Bool) (e : Event) (v : Nat) : (s.goFaultBy torn e v).cal = s.cal := by
  simp only [State.goFaultBy, apply_ite State.cal, State.raise_cal, State.keepCause_cal, State.setCol_cal, State.voidProps_cal,
    State.leaveService_cal, State.settle_cal, State.faultSumFor_cal, State.endBurst_cal, State.announced_cal, ite_self]

@[simp] theorem State.goFault_cal (e : Event) (v : Nat) : (s.goFault e v).cal = s.cal := s.goFaultBy_cal false e v

/-! ### Triggers (R135, R136, R147, R151) -/

@[simp] theorem State.cgFault_cal : s.cgFault.cal = s.cal := State.goFault_cal ..

@[simp] theorem State.widthTo_cal (rx : Bool) (gs reason site : Nat) : (s.widthTo rx gs reason site).cal = s.cal := by
  simp only [State.widthTo, apply_ite State.cal, State.propose_cal, State.raise_cal, ite_self]

@[simp] theorem State.loseGroup_cal (rx : Bool) (g reason site : Nat) : (s.loseGroup rx g reason site).cal = s.cal := by
  simp only [State.loseGroup, apply_ite State.cal, State.cgFault_cal, State.goFault_cal, State.widthTo_cal, ite_self]

@[simp] theorem State.evalSite_cal (i : Nat) : (s.evalSite i).cal = s.cal := by
  have lost : (s.cgLost i).cal = s.cal := State.goFault_cal ..
  simp only [State.evalSite, apply_ite State.cal, State.wait_cal, State.propose_cal, lost, State.loseGroup_cal, ite_self]

@[simp] theorem State.askLowland_cal (reason : Nat) : (s.askLowland reason).cal = s.cal := by
  simp only [State.askLowland, apply_ite State.cal, State.goFault_cal, State.propose_cal, ite_self]

@[simp] theorem State.evalTrigger_cal (t : Trigger) : (s.evalTrigger t).cal = s.cal := by
  cases t <;> simp only [State.evalTrigger, apply_ite State.cal, State.deferProposal_cal, State.wait_cal, State.evalSite_cal, State.loseGroup_cal,
    State.askLowland_cal, State.propose_cal, ite_self]

@[simp] theorem State.siteFailing_cal (i row : Nat) : (s.siteFailing i row).cal = s.cal :=
  (State.evalTrigger_cal ..).trans (State.raise_cal ..)

@[simp] theorem State.checkLowland_cal : s.checkLowland.cal = s.cal := by
  simp only [State.checkLowland, apply_ite State.cal, State.evalTrigger_cal, ite_self]

/-! ### Accesses of the far page -/

@[simp] theorem State.rpaNext_cal : s.rpaNext.cal = s.cal := by
  unfold State.rpaNext
  split
  · exact (State.sbSend_cal ..).trans (State.put_cal ..)
  · rfl

end

end Sys2Proof.Machine
end

section
/-!
PROOFS. Background calibration: a run starts or waits for the wake, its correction and measurement windows, its application point, and its
end (R124 to R130, R436).
-/

namespace Sys2Proof.Machine

theorem exec_calRunGo (s : State) : exec .calRunGo s = execCalRunGo s := rfl
theorem exec_calCorrectionEnd (counts : List EdgeCounts) (s : State) : exec (.calCorrectionEnd counts) s = execCalCorrectionEnd counts s := rfl
theorem exec_calMeasureEnd (eyes : List EyeMeas) (s : State) : exec (.calMeasureEnd eyes) s = execCalMeasureEnd eyes s := rfl
theorem exec_calApplyProposeRx (c : SbCopies) (s : State) : exec (.calApplyProposeRx c) s = execCalApplyProposeRx c s := rfl
theorem exec_calApplyAcceptRx (c : SbCopies) (s : State) : exec (.calApplyAcceptRx c) s = execCalApplyAcceptRx c s := rfl
theorem exec_calApplyDeclineRx (c : SbCopies) (s : State) : exec (.calApplyDeclineRx c) s = execCalApplyDeclineRx c s := rfl
theorem exec_calProposeRepeat (now : Beat) (s : State) : exec (.calProposeRepeat now) s = execCalProposeRepeat now s := rfl
theorem exec_calApplyBeat (now : Beat) (s : State) : exec (.calApplyBeat now) s = execCalApplyBeat now s := rfl

/-! ### A run starts (R124, R436) -/

theorem execCalRunGo_tries {s : State} (h : HostUp s (keyDomains CAL.RUN_CMD.GO.key)) (hr : s.role ≠ 0) (hn : s.cal.run = none)
    (hc : s.colIn [.active, .lowland] = true) : execCalRunGo s = .next (s.tryRun false) := by
  have present : s.present (CAL.RUN_CMD.GO.key / 4096) = true := s.present_of_role hr (by decide)
  simp only [execCalRunGo, s.command_eq h, present, hn, hc, Option.isSome_none, Bool.not_true, Bool.true_eq_false, Bool.false_eq_true, if_false]

theorem State.startRun_active (s : State) (temp : Bool) : (s.startRun temp).get CAL.RUN_STAT.ACTIVE = 1 := by
  have counted : s.runCounted.get CAL.RUN_STAT.ACTIVE = 1 := by
    rw [State.runCounted, State.get_put_same _ _ _ (by decide)]
    rfl
  rw [State.startRun_eq]
  exact (State.get_congr (s := s.runCounted) (by dsimp only) CAL.RUN_STAT.ACTIVE).trans counted

/-! ### What a run's steps keep: that there is a run -/

/-- A run of the receive direction is under way. -/
def State.runs (s : State) : Bool := s.cal.run.isSome

section
variable (s : State)

theorem State.runs_of_cal {s t : State} (h : t.cal = s.cal) : t.runs = s.runs := congrArg (·.run.isSome) h

theorem State.onRun_run (f : CalRun → CalRun) : (s.onRun f).cal.run = s.cal.run.map f := rfl
@[simp] theorem State.onRun_runs (f : CalRun → CalRun) : (s.onRun f).runs = s.runs := Option.isSome_map

@[simp] theorem State.put_runs (f : Field) (v : Nat) : (s.put f v).runs = s.runs := State.runs_of_cal (State.put_cal ..)
@[simp] theorem State.reject_runs (i : Nat) : (s.reject i).runs = s.runs := State.runs_of_cal ((State.raise_cal ..).trans (State.bump_cal ..))
@[simp] theorem State.setTrim_runs (k : TrimKind) (i code : Nat) : (s.setTrim k i code).runs = s.runs := State.put_runs ..
@[simp] theorem State.pend_runs (k : TrimKind) (i code : Nat) : (s.pend k i code).runs = s.runs := rfl

@[simp] theorem State.newCode_runs (direct : Bool) (k : TrimKind) (i : Nat) (v : Int) : (s.newCode direct k i v).runs = s.runs := by
  simp only [State.newCode, apply_ite State.runs, State.setTrim_runs, State.onRun_runs, State.pend_runs, ite_self]

@[simp] theorem State.siteResult_runs (direct : Bool) (shift : Int) (c : EdgeCounts) : (s.siteResult direct shift c).runs = s.runs := by
  have queued (q : List (Nat × Nat)) : ({ s with sb := { s.sb with rpaQueue := q } } : State).runs = s.runs := rfl
  simp only [State.siteResult, apply_ite State.runs, State.newCode_runs, State.onRun_runs, State.reject_runs, queued, ite_self]

@[simp] theorem State.groupResult_runs (direct : Bool) (counts : List EdgeCounts) (g : Nat) : (s.groupResult direct counts g).runs = s.runs := by
  have sites (shift : Int) (l : List EdgeCounts) (t : State) : (l.foldl (fun t c => t.siteResult direct shift c) t).runs = t.runs :=
    foldl_keeps State.runs (fun (t : State) (c : EdgeCounts) => t.siteResult_runs direct shift c) l t
  simp only [State.groupResult, apply_ite State.runs, sites, State.newCode_runs, State.onRun_runs, State.reject_runs, ite_self]

theorem State.correct_runs (counts : List EdgeCounts) : (s.correct counts).runs = s.runs :=
  foldl_keeps State.runs (fun (t : State) (g : Nat) => t.groupResult_runs false counts g) _ s

theorem State.restoreSite_runs (i : Nat) : (s.restoreSite i).runs = s.runs := by
  have queued (t : State) (q : List (Nat × Nat)) : ({ t with sb := { t.sb with rpaQueue := q } } : State).runs = t.runs := rfl
  unfold State.restoreSite
  split
  · rw [State.onRun_runs, State.pend_runs, State.pend_runs, queued, State.onRun_runs, State.reject_runs]
  · rw [State.onRun_runs, State.reject_runs]

theorem State.publish_cal (l : List EyeMeas) : (s.publish l).cal = s.cal := by
  induction l generalizing s with
  | nil => rfl
  | cons e l ih =>
    unfold State.publish
    rw [ih, State.put_cal, State.put_cal, State.put_cal]

/-! ### The application point (R129) -/

/-- A proposal of an application point leaves the run as it is. -/
theorem State.proposeApply_run : s.proposeApply.cal.run = s.cal.run := by
  unfold State.proposeApply
  dsimp only
  rw [State.sbSend_cal]
  rfl

theorem State.calContinue_run : s.calContinue.cal.run = s.cal.run := by
  unfold State.calContinue
  split
  · simp only [apply_ite State.cal, apply_ite Cal.run, State.proposeApply_run, State.wake_cal, ite_self]
  · rfl

theorem State.dropPended_cal (l : List (TrimKind × Nat × Nat)) : (s.dropPended l).cal = s.cal := by
  induction l generalizing s with
  | nil => rfl
  | cons x l ih =>
    refine (ih _).trans ?_
    simp only [apply_ite State.cal, State.put_cal, ite_self]

theorem State.applyTrim_cal (k : TrimKind) (i : Nat) : (s.applyTrim k i).cal = s.cal := by
  have rejected (t : State) (i : Nat) : (t.reject i).cal = t.cal := (State.raise_cal ..).trans (State.bump_cal ..)
  simp only [State.applyTrim, apply_ite State.cal, rejected, State.setTrim, State.put_cal, ite_self]

theorem State.applyTrims_cal : s.applyTrims.cal = s.cal := by
  have both (k k' : TrimKind) (l : List Nat) (t : State) : (l.foldl (fun t i => (t.applyTrim k i).applyTrim k' i) t).cal = t.cal :=
    foldl_keeps State.cal (fun (t : State) (i : Nat) => ((t.applyTrim k i).applyTrim_cal k' i).trans (t.applyTrim_cal k i)) l t
  rw [State.applyTrims, both, both]

/-! ### A run ends (R128) -/

/-- The run and the application point of the receive direction. -/
def State.runPlan : Option CalRun × Option ApplyPlan := (s.cal.run, s.cal.own)

theorem State.runPlan_of_cal {s t : State} (h : t.cal = s.cal) : t.runPlan = s.runPlan := congrArg (fun c => (c.run, c.own)) h

theorem State.rejectRows_runPlan (l : List Nat) : (s.rejectRows l).runPlan = s.runPlan :=
  (foldl_keeps State.runPlan (fun (t : State) (x : Nat × Nat) => State.runPlan_of_cal (t.siteFailing_cal x.1 1)) _ _).trans rfl

theorem State.runEnd_runPlan {s : State} {r : CalRun} (h : s.cal.run = some r) (noPoint : Bool) : (s.runEnd noPoint).runPlan = (none, none) := by
  have checked (t : State) : t.checkLowland.runPlan = t.runPlan := State.runPlan_of_cal t.checkLowland_cal
  have faulted (t : State) (e : Event) (v : Nat) : (t.goFault e v).runPlan = t.runPlan := State.runPlan_of_cal (t.goFault_cal e v)
  have raised (t : State) (e : Event) (v : Nat) : (t.raise e v).runPlan = t.runPlan := State.runPlan_of_cal (t.raise_cal e v)
  have put (t : State) (f : Field) (v : Nat) : (t.put f v).runPlan = t.runPlan := rfl
  have ended (t : State) : (t.setCal fun c => { c with run := none, own := none }).runPlan = (none, none) := rfl
  have passed (t : State) : (t.setCal fun c => { c with rejects := [] }).runPlan = t.runPlan := rfl
  simp only [State.runEnd, h, apply_ite State.runPlan, checked, faulted, raised, put, ended, passed, State.rejectRows_runPlan, ite_self]

theorem State.runEnd_run (noPoint : Bool) : (s.runEnd noPoint).cal.run = none := by
  cases h : s.cal.run with
  | none => simp only [State.runEnd, h]
  | some r => exact congrArg Prod.fst (State.runEnd_runPlan h noPoint)

end

/-! ### The windows of a run (R125 to R127) -/

/-- The stage of a run that has one. -/
theorem State.onRun_stage {s : State} (h : s.runs = true) (f : CalRun → CalRun) : ∃ r, (s.onRun f).cal.run = some (f r) := by
  obtain ⟨r, hr⟩ := Option.isSome_iff_exists.mp h
  exact ⟨r, by rw [State.onRun_run, hr]; rfl⟩

/-- The run goes on with its drive writes, and then with its application point. -/
theorem State.rpaNext_calContinue_run (s : State) : s.rpaNext.calContinue.cal.run = s.cal.run :=
  (State.calContinue_run _).trans (congrArg Cal.run s.rpaNext_cal)

/-- The drive writes that the run's correction asks for wait for the far page. -/
def State.drivesQueued (s : State) (counts : List EdgeCounts) : State :=
  let s1 := s.correct counts
  { s1 with sb := { s1.sb with rpaQueue := s1.sb.rpaQueue ++ (s1.cal.run.map (·.drive)).getD [] } }

theorem execCalCorrectionEnd_agrees {s : State} {r : CalRun} {counts : List EdgeCounts} (hc : (counts.all fun c => siteOk c.site) = true)
    (hr : s.cal.run = some r) (hs : r.stage = .correct) :
    execCalCorrectionEnd counts s = .next (((s.drivesQueued counts).onRun fun r => { r with stage := .agree, drive := [] }).rpaNext.calContinue) := by
  simp only [execCalCorrectionEnd, hr, hc, hs, and_self, if_true]
  rfl

theorem State.runs_of_run {s : State} {r : CalRun} (h : s.cal.run = some r) : s.runs = true := Option.isSome_iff_exists.mpr ⟨r, h⟩

/-- The worse sites' old codes wait, and the figures of the others are published. -/
def State.measured (s : State) (eyes : List EyeMeas) : State :=
  ((eyes.filter s.worse).map (·.site)).foldl State.restoreSite (s.publish (eyes.filter fun e => !s.worse e))

/-- Sites below 16/64 UI are declared failing. -/
def State.judged (s : State) (good : List EyeMeas) : State :=
  (good.filter fun e => decide (e.width < 16)).foldl (fun t e => t.siteFailing e.site 2) s

theorem State.measured_runs (s : State) (eyes : List EyeMeas) : (s.measured eyes).runs = s.runs :=
  (foldl_keeps State.runs State.restoreSite_runs _ _).trans (State.runs_of_cal (s.publish_cal _))

theorem State.judged_runs (s : State) (good : List EyeMeas) : (s.judged good).runs = s.runs :=
  foldl_keeps State.runs (fun (t : State) (e : EyeMeas) => State.runs_of_cal (t.siteFailing_cal e.site 2)) _ s

section
variable {s : State} {r : CalRun} {eyes : List EyeMeas} (he : (eyes.all fun e => siteOk e.site) = true) (hr : s.cal.run = some r)
  (hs : r.stage = .measure)
include he hr hs

theorem execCalMeasureEnd_ends (hw : eyes.any s.worse = false) :
    execCalMeasureEnd eyes s = .next (((s.measured eyes).judged (eyes.filter fun e => !s.worse e)).runEnd false) := by
  have good : eyes.filter s.worse = [] := by simpa using hw
  simp only [execCalMeasureEnd, hr, he, hs, good, and_self, if_true]
  simp only [State.measured, State.judged, good]

theorem execCalMeasureEnd_restores (hw : eyes.any s.worse = true) :
    execCalMeasureEnd eyes s = .next ((((s.measured eyes).judged (eyes.filter fun e => !s.worse e)).onRun
      fun r => { r with stage := .restore }).rpaNext.calContinue) := by
  have bad : eyes.filter s.worse ≠ [] := by simpa using hw
  simp only [execCalMeasureEnd, hr, he, hs, bad, and_self, if_true, if_false]
  rfl

end

/-! ### CAL_APPLY frames and their repeats (R129) -/

theorem execCalApplyProposeRx_accepts {s r : State} {c : SbCopies} {b : Nat} (h : Heard s c b r) (hb : bodyType b = SbType.calApply.code)
    (hk : bits (bodyPayload b) 36 4 = 1) : ∃ t, execCalApplyProposeRx c s = .next t ∧ t.cal.far =
      some { beat := resolveBeat 32 (bits (bodyPayload b) 0 32) r.beat, run := bits (bodyPayload b) 32 4, accepted := true, lastSent := r.beat } := by
  unfold execCalApplyProposeRx
  rw [State.receive_eq h hb]
  simp only [hk, ne_eq, not_true_eq_false, if_false]
  exact ⟨_, rfl, congrArg Cal.far (State.sbSend_cal ..)⟩

/-- A frame's KIND 2 accepts the own plan that it names, unless the plan is declined. -/
theorem execCalApplyAcceptRx_accepts {s r : State} {c : SbCopies} {b : Nat} {a : ApplyPlan} (h : Heard s c b r)
    (hb : bodyType b = SbType.calApply.code) (hk : bits (bodyPayload b) 36 4 = 2) (ho : r.cal.own = some a)
    (hrun : a.run = bits (bodyPayload b) 32 4) (hbeat : a.beat.toNat % 2 ^ 32 = bits (bodyPayload b) 0 32) (hd : a.declined = false) :
    ∃ t, execCalApplyAcceptRx c s = .next t ∧ t.cal.own = some { a with accepted := true } := by
  unfold execCalApplyAcceptRx
  rw [State.receive_eq h hb]
  simp only [hk, ne_eq, not_true_eq_false, if_false]
  refine ⟨_, rfl, ?_⟩
  simp only [State.setCal_cal, ho, Option.map_some, hrun, hbeat, hd, beq_self_eq_true, Bool.not_false, Bool.and_self, if_true]

/-- The plan is the one that a frame's payload names. -/
def ApplyPlan.named (pl : Nat) (a : ApplyPlan) : Bool := a.run == bits pl 32 4 && a.beat.toNat % 2 ^ 32 == bits pl 0 32

theorem ApplyPlan.named_of {pl : Nat} {a : ApplyPlan} (hrun : a.run = bits pl 32 4) (hbeat : a.beat.toNat % 2 ^ 32 = bits pl 0 32) :
    a.named pl = true := by
  simp only [ApplyPlan.named, hrun, hbeat, beq_self_eq_true, Bool.and_self]

/-- The far plan that is declined is gone. -/
def State.farDeclined (s : State) (pl : Nat) : State := s.setCal fun c => { c with far := c.far.filter fun a => !a.named pl }

/-- A frame's KIND 3 declines the far plan that it names, and ends the run whose plan it names. -/
theorem execCalApplyDeclineRx_eq {s r : State} {c : SbCopies} {b : Nat} (h : Heard s c b r) (hb : bodyType b = SbType.calApply.code)
    (hk : bits (bodyPayload b) 36 4 = 3) : execCalApplyDeclineRx c s = .next
      (match r.cal.own with
        | some a => if a.named (bodyPayload b) then (r.farDeclined (bodyPayload b)).runEnd true else r.farDeclined (bodyPayload b)
        | none => r.farDeclined (bodyPayload b)) := by
  unfold execCalApplyDeclineRx
  rw [State.receive_eq h hb]
  simp only [hk, ne_eq, not_true_eq_false, if_false]
  rfl

theorem execCalProposeRepeat_repeats {s r : State} {now : Beat} {a : ApplyPlan} (hr : s.at now = r) (ho : r.cal.own = some a)
    (ha : a.accepted = false) (hd : r.reached (a.beat - 1024) = false) (hp : r.past a.lastSent 1024 = true) :
    ∃ t, execCalProposeRepeat now s = .next t ∧ t.cal.own = some { a with lastSent := r.beat } := by
  simp only [execCalProposeRepeat, hr, ho, ha, hd, hp, Bool.false_eq_true, if_false, if_true]
  exact ⟨_, rfl, congrArg Cal.own (State.sbSend_cal ..)⟩

/-! ### The beat of an application point (R129, R130) -/

/-- Without a plan of the far end no drive code is applied. -/
theorem State.farApply_none {s : State} (h : s.cal.far = none) : s.farApply = s := by
  simp only [State.farApply, h]

section
variable {s : State} {a : ApplyPlan} (ho : s.cal.own = some a) (hb : s.reached a.beat = true) (ha : a.accepted = true)
include ho hb ha

/-- At a void point the run is abandoned, and runs again. -/
theorem State.ownApply_void (hv : s.applyVoid = true) : s.ownApply.cal.own = none ∧ s.ownApply.cal.run = none ∧ s.ownApply.cal.again = true := by
  have void : (s.setCal fun c => { c with own := none }).applyVoid = true := hv
  simp only [State.ownApply, ho, hb, ha, Bool.and_self, if_true, void, State.put_cal, State.setCal_cal, State.dropPended_cal, and_self]

/-- At the point of its new codes the run applies its trims and begins to measure. -/
theorem State.ownApply_measures {r : CalRun} (hv : s.applyVoid = false) (hr : s.cal.run = some r) (hs : r.stage = .agree) :
    s.ownApply.cal.own = none ∧ s.ownApply.cal.run = some { r with stage := .measure, pended := [] } := by
  have valid : (s.setCal fun c => { c with own := none }).applyVoid = false := hv
  have own (t : State) (f : CalRun → CalRun) : (t.onRun f).cal.own = t.cal.own := rfl
  have applied := State.applyTrims_cal (s.setCal fun c => { c with own := none })
  have run : ((s.setCal fun c => { c with own := none }).applyTrims.onRun fun r => { r with pended := [] }).cal.run =
      some { r with pended := [] } := by
    rw [State.onRun_run, applied, State.setCal_cal, hr]
    rfl
  simp only [State.ownApply, ho, hb, ha, valid, run, hs, Bool.and_self, Bool.false_eq_true, if_true, if_false, reduceCtorEq]
  refine ⟨?_, ?_⟩
  · rw [own, own, applied, State.setCal_cal]
  · rw [State.onRun_run, run]
    rfl

end

/-- Settles O17: a run starts, computes its codes, agrees on its application point frame by frame, and at the point applies them or is
abandoned; its measurement ends it or restores the old codes. -/
theorem backgroundCalibrationRuns : Obligations.BackgroundCalibrationRuns := by
  unfold Obligations.BackgroundCalibrationRuns
  refine ⟨?go, ?goParked, ?correction, ?measured, ?worse, ?propose, ?accept, ?declineFar, ?declineOwn, ?repeats, ?void, ?applies⟩
  case go =>
    intro s h hr hn hc hp
    rw [exec_calRunGo, execCalRunGo_tries h hr hn hc, State.tryRun, if_neg (by rw [hp]; decide)]
    exact ⟨_, rfl, s.startRun_active false, rfl⟩
  case goParked =>
    intro s h hr hn hc hp
    rw [exec_calRunGo, execCalRunGo_tries h hr hn hc, State.tryRun, if_pos hp]
    exact ⟨_, rfl, rfl, rfl⟩
  case correction =>
    intro s r counts hc hr hs
    rw [exec_calCorrectionEnd, execCalCorrectionEnd_agrees hc hr hs]
    obtain ⟨r', h'⟩ := State.onRun_stage (s := s.drivesQueued counts) ((s.correct_runs counts).trans (State.runs_of_run hr))
      fun r => { r with stage := .agree, drive := [] }
    exact ⟨_, _, rfl, (State.rpaNext_calContinue_run _).trans h', rfl, rfl⟩
  case measured =>
    intro s r eyes he hr hs hw
    rw [exec_calMeasureEnd, execCalMeasureEnd_ends he hr hs hw]
    exact ⟨_, rfl, State.runEnd_run _ false⟩
  case worse =>
    intro s r eyes he hr hs hw _
    rw [exec_calMeasureEnd, execCalMeasureEnd_restores he hr hs hw]
    have runs := ((s.measured eyes).judged_runs (eyes.filter fun e => !s.worse e)).trans
      ((s.measured_runs eyes).trans (State.runs_of_run hr))
    obtain ⟨r', h'⟩ := State.onRun_stage runs fun r => { r with stage := .restore }
    exact ⟨_, _, rfl, (State.rpaNext_calContinue_run _).trans h', rfl⟩
  case propose =>
    intro s c b r h hb hk
    rw [exec_calApplyProposeRx]
    exact execCalApplyProposeRx_accepts h hb hk
  case accept =>
    intro s c b r a h hb hk ho hrun hbeat hd
    rw [exec_calApplyAcceptRx]
    exact execCalApplyAcceptRx_accepts h hb hk ho hrun hbeat hd
  case declineFar =>
    intro s c b r a h hb hk hf ho hrun hbeat
    rw [exec_calApplyDeclineRx, execCalApplyDeclineRx_eq h hb hk, ho]
    refine ⟨_, rfl, ?_⟩
    simp only [State.farDeclined, State.setCal_cal, hf, Option.filter_some, ApplyPlan.named_of hrun hbeat, Bool.not_true, Bool.false_eq_true, if_false]
  case declineOwn =>
    intro s c b r a u h hb hk ho hu hrun hbeat
    rw [exec_calApplyDeclineRx, execCalApplyDeclineRx_eq h hb hk, ho]
    dsimp only
    rw [if_pos (ApplyPlan.named_of hrun hbeat)]
    have ended := State.runEnd_runPlan (s := r.farDeclined (bodyPayload b)) hu true
    exact ⟨_, rfl, congrArg Prod.snd ended, congrArg Prod.fst ended⟩
  case repeats =>
    intro s now a ho ha hd hp
    rw [exec_calProposeRepeat]
    exact execCalProposeRepeat_repeats rfl ((congrArg Cal.own (s.at_cal now)).trans ho) ha hd hp
  case void =>
    intro s now a ho ha hb hf hc
    have cal := s.at_cal now
    rw [exec_calApplyBeat, execCalApplyBeat, State.farApply_none ((congrArg Cal.far cal).trans hf)]
    exact ⟨_, rfl, State.ownApply_void ((congrArg Cal.own cal).trans ho) hb ha (by simp [State.applyVoid, hc])⟩
  case applies =>
    intro s now a r ho ha hb hf hc hprops hr hs
    have cal := s.at_cal now
    rw [exec_calApplyBeat, execCalApplyBeat, State.farApply_none ((congrArg Cal.far cal).trans hf)]
    exact ⟨_, rfl, State.ownApply_measures ((congrArg Cal.own cal).trans ho) hb ha (by simp [State.applyVoid, hc, hprops])
      ((congrArg Cal.run cal).trans hr) hs⟩

end Sys2Proof.Machine
end

section
/-!
PROOFS. Proposals of lane repair, width changes, Lowland entry and parks: the frames that are sent about them, what is proposed, and what
proposing leaves alone (R137 to R139, R146, R433).
-/

namespace Sys2Proof.Machine

/-! ### Frames sent and proposals held, and nothing else -/

/-- From `s` to `t` frames have been sent, free values drawn and proposals changed, and nothing else. -/
def ProposalsOnly (s t : State) : Prop :=
  ∃ ps ctr sb out fill, t =
    { s with freeCtr := ctr, sb := sb, out := out, chip := { s.chip with fill := fill }, rep := { s.rep with props := ps } }

section
variable {s t u : State}

theorem ProposalsOnly.refl (s : State) : ProposalsOnly s s := ⟨_, _, _, _, _, rfl⟩
theorem ProposalsOnly.trans (h : ProposalsOnly s t) (h' : ProposalsOnly t u) : ProposalsOnly s u := by
  obtain ⟨_, _, _, _, _, rfl⟩ := h
  obtain ⟨_, _, _, _, _, rfl⟩ := h'
  exact ⟨_, _, _, _, _, rfl⟩

theorem ProposalsOnly.regs (h : ProposalsOnly s t) : t.regs = s.regs := by obtain ⟨_, _, _, _, _, rfl⟩ := h; rfl
theorem ProposalsOnly.beat (h : ProposalsOnly s t) : t.beat = s.beat := by obtain ⟨_, _, _, _, _, rfl⟩ := h; rfl
theorem ProposalsOnly.cal (h : ProposalsOnly s t) : t.cal = s.cal := by obtain ⟨_, _, _, _, _, rfl⟩ := h; rfl
theorem ProposalsOnly.pwr (h : ProposalsOnly s t) : t.pwr = s.pwr := by obtain ⟨_, _, _, _, _, rfl⟩ := h; rfl
theorem ProposalsOnly.chip (h : ProposalsOnly s t) : ∃ fill, t.chip = { s.chip with fill := fill } := by
  obtain ⟨_, _, _, _, fill, rfl⟩ := h; exact ⟨fill, rfl⟩
theorem ProposalsOnly.col (h : ProposalsOnly s t) : t.chip.col = s.chip.col := by obtain ⟨_, _, _, _, _, rfl⟩ := h; rfl
theorem ProposalsOnly.rep (h : ProposalsOnly s t) : t.rep = { s.rep with props := t.rep.props } := by obtain ⟨_, _, _, _, _, rfl⟩ := h; rfl
theorem ProposalsOnly.get (h : ProposalsOnly s t) (f : Field) : t.get f = s.get f := State.get_congr h.regs f

end

theorem State.setProps_proposalsOnly (s : State) (l : List Proposal) : ProposalsOnly s (s.setProps l) := ⟨_, _, _, _, _, rfl⟩

theorem State.sendProp_frame (s : State) (v : Verb) (k : PropKind) (b : Beat) :
    ∃ sb out fill, s.sendProp v k b = { s with sb := sb, out := out, chip := { s.chip with fill := fill } } := by
  cases k <;> exact s.sbSend_frame _ _

theorem State.sendProp_proposalsOnly (s : State) (v : Verb) (k : PropKind) (b : Beat) : ProposalsOnly s (s.sendProp v k b) := by
  obtain ⟨_, _, _, h⟩ := s.sendProp_frame v k b
  exact ⟨_, _, _, _, _, h⟩

@[simp] theorem State.sendProp_rep (s : State) (v : Verb) (k : PropKind) (b : Beat) : (s.sendProp v k b).rep = s.rep := by
  obtain ⟨_, _, _, h⟩ := s.sendProp_frame v k b
  rw [h]

/-- What is sent does not depend on the proposals held. -/
theorem State.sbSend_setProps (s : State) (l : List Proposal) (t : SbType) (pl : Nat) : (s.setProps l).sbSend t pl = (s.sbSend t pl).setProps l := by
  have sends : (s.setProps l).sbSends = s.sbSends := rfl
  have runs : (s.setProps l).sbRuns = s.sbRuns := rfl
  have room : (s.setProps l).crossRoom 12 = s.crossRoom 12 := rfl
  have clk : (s.setProps l).clkOn 11 = s.clkOn 11 := rfl
  simp only [State.sbSend, sends, runs, room, clk, State.setProps_chip, apply_ite (fun u : State => u.setProps l)]
  split
  · rfl
  split
  · have e : (s.setProps l).nextFrame = s.nextFrame.setProps l := rfl
    rw [e, State.crossIn, State.crossIn, apply_ite (fun u : State => u.setProps l)]
    rfl
  · rfl

theorem State.sendProp_setProps (s : State) (l : List Proposal) (v : Verb) (k : PropKind) (b : Beat) :
    (s.setProps l).sendProp v k b = (s.sendProp v k b).setProps l := by
  cases k <;> exact s.sbSend_setProps l _ _

/-! ### CANCEL of quiet proposals (R139, R150) -/

theorem State.cancelQuiet_proposalsOnly (s : State) : ProposalsOnly s s.cancelQuiet := by
  unfold State.cancelQuiet
  refine .trans ?_ (State.setProps_proposalsOnly _ _)
  generalize List.filter _ s.rep.props = l
  exact List.foldlRecOn (motive := ProposalsOnly s) l _ (.refl s) fun t h p _ => h.trans (t.sendProp_proposalsOnly ..)

/-- Without proposals no CANCEL goes. -/
theorem State.cancelQuiet_nil {s : State} (h : s.rep.props = []) : s.cancelQuiet = s := by
  simp only [State.cancelQuiet, h, List.filter_nil, List.foldl_nil, List.map_nil]
  rw [State.setProps, ← h]

/-- Which proposals are cancelled depends on the proposals held alone. -/
theorem State.cancelQuiet_props_congr {s t : State} (h : t.rep.props = s.rep.props) : t.cancelQuiet.rep.props = s.cancelQuiet.rep.props := by
  simp only [State.cancelQuiet, State.setProps_rep, h]

/-! ### Proposing (R138) -/

/-- The state in which a proposal is added: the quiet ones that it proceeds against are cancelled (R150). -/
def State.cleared (s : State) (k : PropKind) : State := if k.overQuiet then s.cancelQuiet else s

theorem State.cleared_proposalsOnly (s : State) (k : PropKind) : ProposalsOnly s (s.cleared k) := by
  unfold State.cleared
  split
  · exact s.cancelQuiet_proposalsOnly
  · exact .refl s

theorem State.cleared_nil {s : State} (h : s.rep.props = []) (k : PropKind) : s.cleared k = s := by
  simp only [State.cleared, State.cancelQuiet_nil h, ite_self]

/-- The lead of the next proposal: a free value between the bounds of R138. -/
def State.nextLead (s : State) : Nat := Config.bounded 8192 (2 ^ 21) (Config.freeBits s.freeCtr)

/-- The proposal of this end that `k` adds. -/
def State.proposed (s : State) (k : PropKind) : Proposal :=
  { kind := k, beat := s.ahead s.nextLead, own := true, accepted := false, lastSent := s.beat }

/-- The state with the proposal held, before its frame goes. -/
def State.holding (s : State) (k : PropKind) : State := { s with freeCtr := s.freeCtr + 1 }.setProps (s.rep.props ++ [s.proposed k])

theorem State.propose_eq (s : State) (k : PropKind) :
    s.propose k = ((s.cleared k).holding k).sendProp .propose k ((s.cleared k).proposed k).beat := rfl

theorem State.propose_proposalsOnly (s : State) (k : PropKind) : ProposalsOnly s (s.propose k) := by
  rw [State.propose_eq]
  exact ((s.cleared_proposalsOnly k).trans ⟨_, _, _, _, _, rfl⟩).trans (State.sendProp_proposalsOnly ..)

theorem State.propose_proposes (s : State) (k : PropKind) : Proposes k (s.cleared k) (s.propose k) := by
  obtain ⟨low, high⟩ := bounded_between (show 8192 ≤ 2 ^ 21 by decide) (Config.freeBits (s.cleared k).freeCtr)
  refine ⟨(s.cleared k).nextLead, low, high, ?_⟩
  rw [State.propose_eq, State.sendProp_rep]
  rfl

/-- A proposal is added to what its state holds, for a beat ahead of its own: nothing else of the state matters. -/
theorem Proposes.congr {k : PropKind} {s s' t : State} (h : Proposes k s' t) (hp : s'.rep.props = s.rep.props) (hb : s'.beat = s.beat) :
    Proposes k s t := by
  obtain ⟨lead, low, high, props⟩ := h
  exact ⟨lead, low, high, by rw [props, hp, State.ahead, State.ahead, hb]⟩

/-- What proposes after changes that keep the proposals held and the beat proposes from before them. -/
theorem State.propose_proposes_from {s s' : State} (k : PropKind) (hp : s'.rep.props = s.rep.props) (hb : s'.beat = s.beat) :
    Proposes k (s.cleared k) (s'.propose k) := by
  refine (s'.propose_proposes k).congr ?_ ?_
  · unfold State.cleared
    split
    · exact State.cancelQuiet_props_congr hp
    · exact hp
  · rw [(s'.cleared_proposalsOnly k).beat, hb, (s.cleared_proposalsOnly k).beat]

/-! ### Events that have left their mark -/

/-- A mark of an event stays while its registers and its crossing do. -/
theorem Raised.kept {e : Event} {s t : State} (h : Raised e s) (hs : t.get (PAGE.EVT_STAT e.page) = s.get (PAGE.EVT_STAT e.page))
    (ho : t.get RESET.XING_STAT.OVERRUN = s.get RESET.XING_STAT.OVERRUN) (hp : t.chip.evtPend = s.chip.evtPend) (ht : t.chip.torn = s.chip.torn) :
    Raised e t := by
  rwa [Raised, hs, ho, hp, ht]

theorem ProposalsOnly.raised {e : Event} {s t : State} (h : ProposalsOnly s t) (hr : Raised e s) : Raised e t := by
  obtain ⟨_, chip⟩ := h.chip
  exact hr.kept (h.get _) (h.get _) (by rw [chip]) (by rw [chip])

end Sys2Proof.Machine
end

section
/-!
PROOFS. How the end is set and which sites and groups are in use: the registers that events, counters, reports and role changes leave alone.
-/

namespace Sys2Proof.Machine

/-- Registers that report: events, overruns, the STATUS sent, counts of repairs, what Level delivery needs, and the pair role. -/
def reportKey (k : Nat) : Bool :=
  [0x018, 0x020, 0x038].contains (k % 4096) ||
    [RESET.XING_STAT.OVERRUN.key, IDENT.IDENT_STAT.OWN_STATUS.key, REPAIR.RPR_STAT.QR_DONE.key, TIME.LEVEL_STAT.L_MIN.key,
      PAIR.ROLE_STAT.PROLE.key].contains k

/-- From `s` to `t` every field stays that is not of a register that reports. -/
def KeepsSettings (s t : State) : Prop := ∀ f : Field, reportKey f.key = false → t.get f = s.get f

section
variable {s t u : State}

theorem KeepsSettings.trans (h : KeepsSettings s t) (h' : KeepsSettings t u) : KeepsSettings s u := fun f hf => (h' f hf).trans (h f hf)
theorem KeepsSettings.of_regs (h : t.regs = s.regs) : KeepsSettings s t := fun f _ => State.get_congr h f

theorem ProposalsOnly.keepsSettings (h : ProposalsOnly s t) : KeepsSettings s t := .of_regs h.regs

theorem State.put_keepsSettings (s : State) {f : Field} (h : reportKey f.key = true) (v : Nat) : KeepsSettings s (s.put f v) := fun g hg =>
  s.get_put_ne v fun e => by rw [← e, h] at hg; cases hg

theorem State.bump_keepsSettings (s : State) {f : Field} (h : reportKey f.key = true) : KeepsSettings s (s.bump f) := s.put_keepsSettings h _

theorem State.raise_keepsSettings (s : State) (e : Event) (v : Nat) : KeepsSettings s (s.raise e v) := fun f hf => by
  simp only [reportKey, Bool.or_eq_false_iff, List.contains_cons, List.contains_nil, beq_eq_false_iff_ne, ne_eq] at hf
  obtain ⟨⟨count, stat, first, -⟩, overrun, -⟩ := hf
  exact s.raise_get e v f ⟨count, stat, first, overrun⟩

/-- The masks of bad sites are settings. -/
theorem reportKey_maskField (rx : Bool) (g : Nat) : reportKey (maskField rx g).key = false := by
  have lane : ∀ g < 4, reportKey (REPAIR.BAD_SITES_LG.MASK g).key = false ∧ reportKey (REPAIR.BAD_SITES_TX_LG.MASK g).key = false := by decide
  unfold maskField
  split
  · split
    · exact (lane g ‹_›).1
    · decide
  · split
    · exact (lane g ‹_›).2
    · decide

section
variable (h : KeepsSettings s t)
include h

theorem KeepsSettings.isBad (rx : Bool) (g k : Nat) : t.isBad rx g k = s.isBad rx g k := by
  rw [State.isBad, State.isBad, h _ (reportKey_maskField rx g)]
theorem KeepsSettings.clearSites (rx : Bool) (g : Nat) : t.clearSites rx g = s.clearSites rx g := by simp only [State.clearSites, h.isBad]
theorem KeepsSettings.freeSite (rx : Bool) (g : Nat) : t.freeSite rx g = s.freeSite rx g := by simp only [State.freeSite, h.clearSites]
theorem KeepsSettings.carriesLane (rx : Bool) (g k : Nat) : t.carriesLane rx g k = s.carriesLane rx g k := by
  simp only [State.carriesLane, h.clearSites]
theorem KeepsSettings.groups (rx : Bool) : t.groups rx = s.groups rx := by
  cases rx
  · exact h REPAIR.WIDTH_STAT.TX_GROUPS (by decide)
  · exact h REPAIR.WIDTH_STAT.RX_GROUPS (by decide)
theorem KeepsSettings.cap (b : Nat) : t.cap b = s.cap b := by
  simp only [State.cap, State.on, h IDENT.CAP_AGREED.VALID (by decide), h IDENT.CAP_AGREED.CAP (by decide)]
theorem KeepsSettings.levelAgreed : t.levelAgreed = s.levelAgreed := h.cap 6
theorem KeepsSettings.parked : t.parked = s.parked := by simp only [State.parked, h POWER.PWR_STAT.STATE (by decide)]
theorem KeepsSettings.sparesSpent : t.sparesSpent = s.sparesSpent := by simp only [State.sparesSpent, h.groups, h.freeSite]
theorem KeepsSettings.lMinFor (rx tx : Nat) : t.lMinFor rx tx = s.lMinFor rx tx := by simp only [State.lMinFor, h PHY.RATE_STAT.RATE (by decide)]

end

end

/-! ### A row's time changes no setting -/

theorem State.at_keepsSettings (s : State) (now : Beat) : KeepsSettings s (s.at now) := .of_regs (s.at_regs now)

@[simp] theorem State.at_susp (s : State) (now : Beat) : (s.at now).susp = s.susp := by obtain ⟨_, _, h⟩ := s.at_eq now; rw [h]
@[simp] theorem State.at_pwr (s : State) (now : Beat) : (s.at now).pwr = s.pwr := by obtain ⟨_, _, h⟩ := s.at_eq now; rw [h]

end Sys2Proof.Machine
end

section
/-!
PROOFS. What triggers of R135 come to: a quiet repair, a width change, a Lowland entry, or a wait for the wake (R135, R147, R151, R435).
-/

namespace Sys2Proof.Machine

@[simp] theorem State.raise_rep (s : State) (e : Event) (v : Nat) : (s.raise e v).rep = s.rep := by
  obtain ⟨_, _, h⟩ := s.raise_eq e v
  rw [h]

/-! ### Triggers while the end is parked (R435) -/

theorem State.evalTrigger_parked {s : State} {t : Trigger} (h : s.parked = true) (ht : t ≠ .park) : s.evalTrigger t = s.deferProposal t := by
  simp only [State.evalTrigger, h, if_true, ht, if_false]

@[simp] theorem State.wake_rep (s : State) (trigger : Nat) : (s.wake trigger).rep = s.rep := by
  simp only [State.wake, apply_ite State.rep, State.raise_rep, State.runClocks, State.setPwr_rep, State.bump_rep, State.put_rep, ite_self]

/-- A parked end that is woken begins its wake, or waits for ECLK with it (R435, R437). -/
theorem State.wake_parked {s : State} (h : s.parked = true) (trigger : Nat) :
    (s.wake trigger).pwr.waking = true ∨ (s.wake trigger).pwr.waitEclk ≠ none := by
  unfold State.wake
  split
  · rename_i hw
    exact .inl (by simpa only [h, Bool.not_true, Bool.false_or] using hw)
  split
  · exact .inr (Option.some_ne_none _)
  · exact .inl (congrArg Power.waking (State.raise_pwr ..))

theorem State.wake_afterWake (s : State) (trigger : Nat) : (s.wake trigger).pwr.afterWake = s.pwr.afterWake := by
  simp only [State.wake, apply_ite State.pwr, apply_ite Power.afterWake, State.raise_pwr, State.runClocks, State.setPwr_pwr, State.bump_pwr, State.put_pwr,
    ite_self]

/-- A proposal that must wait for the wake is remembered, and wakes the end. -/
theorem State.deferProposal_spec {s : State} (h : s.parked = true) (t : Trigger) :
    (s.deferProposal t).rep = s.rep ∧ t ∈ (s.deferProposal t).pwr.afterWake ∧
    ((s.deferProposal t).pwr.waking = true ∨ (s.deferProposal t).pwr.waitEclk ≠ none) := by
  rw [State.deferProposal]
  refine ⟨State.wake_rep .., ?_, State.wake_parked (by rwa [State.parked, State.get_setPwr]) 5⟩
  rw [State.wake_afterWake, State.setPwr_pwr]
  dsimp only
  split
  · exact List.contains_iff_mem.mp ‹_›
  · exact List.mem_append_right _ List.mem_cons_self

/-! ### A failing site (R135, R136) -/

section
variable {s : State}

theorem State.evalTrigger_site (hp : s.parked = false) (hb : s.dirBusy true = false) (hw : s.wideAsked = false) (i : Nat) :
    s.evalTrigger (.site i) = s.evalSite i := by
  simp only [State.evalTrigger, hp, hb, hw, Bool.or_self, Bool.false_eq_true, if_false]

/-- With a free site in its group a site is repaired quietly, with a pause if it carries a lane. -/
theorem State.evalSite_quiet {i : Nat} (hbad : s.isBad true (siteGroup i) (sitePlace i) = false) (hfree : s.freeSite true (siteGroup i) = true)
    (hcap : s.cap 8 = true) (hown : ∀ p ∈ s.rep.props, p.own = false) (hc : s.chip.col ≠ .repair) :
    s.evalSite i = s.propose (.quiet (siteGroup i) (sitePlace i)
      (if s.carriesLane true (siteGroup i) (sitePlace i) then s.get REPAIR.QR_CTL.PAUSE else 0)) := by
  have col : (s.chip.col != .repair) = true := bne_iff_ne.mpr hc
  simp only [State.evalSite, hbad, hfree, hcap, col, Bool.and_self, Bool.and_true, Bool.false_eq_true, if_true, if_false]
  refine if_neg (Bool.eq_false_iff.mp (List.any_eq_false.mpr fun p hp => ?_))
  rw [hown p hp, Bool.false_and]
  decide

/-- Without a free site a lane group is lost. -/
theorem State.evalSite_loses {i : Nat} (hbad : s.isBad true (siteGroup i) (sitePlace i) = false) (hfree : s.freeSite true (siteGroup i) = false)
    (hg : siteGroup i ≠ 4) : s.evalSite i = s.loseGroup true (siteGroup i) 1 i := by
  simp only [State.evalSite, hbad, hfree, hg, Bool.false_and, Bool.false_eq_true, if_false]

/-- Without Level delivery a direction that keeps other groups proposes to lose one. -/
theorem State.loseGroup_width {rx : Bool} {g : Nat} (hg : g < 4) (hc : s.chip.col ≠ .lowland) (hk : clearBit (s.groups rx) g ≠ 0)
    (hcap : s.cap 7 = true) (hl : s.levelAgreed = false) (reason site : Nat) :
    s.loseGroup rx g reason site = s.propose (.width rx (BitVec.ofNat 4 (clearBit (s.groups rx) g)) false reason) := by
  simp only [State.loseGroup, Nat.not_le.mpr hg, hc, hk, hcap, ne_eq, not_false_eq_true, and_self, if_false, if_true]
  rw [State.widthTo]
  simp only [hl, Bool.false_and, Bool.not_false, if_true]

theorem siteGroup_lt {i : Nat} (h : i ≤ 135) : siteGroup i < 4 := by
  unfold siteGroup
  split <;> omega

/-! ### Commands for width changes and Lowland entry (R147, R151) -/

theorem State.evalTrigger_widthCmd (hp : s.parked = false) (hc : s.chip.col = .active) (ha : s.anyPause = false) (rx : Bool) (gs : BitVec 4)
    (force : Bool) : s.evalTrigger (.widthCmd rx gs force) = s.propose (.width rx gs force 0) := by
  simp only [State.evalTrigger, hp, hc, ha, and_self, Bool.false_eq_true, if_false, if_true]

theorem State.evalTrigger_lowland (hp : s.parked = false) (hc : s.chip.col = .active) (hcap : s.cap 1 = true) (hn : s.rep.props = [])
    (reason : Nat) : s.evalTrigger (.lowland reason) = s.propose (.lowland (BitVec.ofNat 4 (s.groups true &&& s.groups false)) reason) := by
  simp only [State.evalTrigger, State.askLowland, hp, hc, hcap, hn, ne_eq, not_true_eq_false, Bool.not_true, List.any_nil, Bool.false_eq_true, if_false]

end

end Sys2Proof.Machine
end

section
/-!
PROOFS. MARK_SITE, WIDTH_CMD and LOWLAND_CMD (R132, R135, R137, R138, R147, R151).
-/

namespace Sys2Proof.Machine

theorem exec_markSite (site : BitVec 8) (s : State) : exec (.markSite site) s = execMarkSite site s := rfl
theorem exec_widthCmd (dir : Bool) (gs : BitVec 4) (force : Bool) (s : State) : exec (.widthCmd dir gs force) s = execWidthCmd dir gs force s := rfl
theorem exec_lowlandCmd (s : State) : exec .lowlandCmd s = execLowlandCmd s := rfl

/-! ### Commands of the REPAIR page (R440, R443) -/

@[simp] theorem State.refuse_rep (s : State) (key : Nat) (r : Reason) (data : Word) : (s.refuse key r data).rep = s.rep := by
  simp only [State.refuse, State.refuseCode, State.bump_rep, State.put_rep]

section
variable {s : State} {key : Nat} (h : HostUp s (keyDomains key)) (hr : s.role ≠ 0) (hk : key / 4096 = 4) {data : Word}
  {check : State → Option Reason} {act : State → State}
include h hr hk

theorem State.command_acts (hc : check s = none) : s.command key data check act = act s := by
  have present : s.present (key / 4096) = true := s.present_of_role hr (by rw [hk]; decide)
  simp only [s.command_eq h, present, hc, Bool.true_eq_false, if_false]

/-- A command that is refused leaves the repairs alone and logs its reason in the page. -/
theorem State.command_refuses {r : Reason} (hc : check s = some r) :
    (s.command key data check act).rep = s.rep ∧ (s.command key data check act).get (PAGE.REFUSED.REASON 4) = r.code := by
  have present : s.present (key / 4096) = true := s.present_of_role hr (by rw [hk]; decide)
  have reason := s.refuse_reason key r data
  rw [hk] at reason
  simp only [s.command_eq h, present, hc, Bool.true_eq_false, if_false, State.refuse_rep, reason, and_self]

end

/-! ### MARK_SITE (R132, R135) -/

section
variable {s : State} {site : BitVec 8} (h : HostUp s (keyDomains REPAIR.MARK_CMD.GO.key)) (hr : s.role ≠ 0)
include h hr

theorem execMarkSite_marks (hc : s.colIn [.active, .lowland] = true) (hi : site.toNat ≤ 144)
    (hbad : s.isBad true (siteGroup site.toNat) (sitePlace site.toNat) = false) : execMarkSite site s = .next (s.siteFailing site.toNat 3) := by
  rw [execMarkSite, State.command_acts h hr (by decide)]
  simp only [hc, hbad, Nat.not_lt.mpr hi, Bool.not_true, Bool.or_self, decide_false, Bool.false_eq_true, if_false]

theorem execMarkSite_refusesState (hc : s.colIn [.active, .lowland] = false) :
    ∃ t, execMarkSite site s = .next t ∧ t.rep = s.rep ∧ t.get (PAGE.REFUSED.REASON 4) = 1 :=
  ⟨_, rfl, State.command_refuses h hr (by decide) (r := .state) (by simp only [hc, Bool.not_false, if_true])⟩

theorem execMarkSite_refusesRange (hc : s.colIn [.active, .lowland] = true)
    (hi : 144 < site.toNat ∨ s.isBad true (siteGroup site.toNat) (sitePlace site.toNat) = true) :
    ∃ t, execMarkSite site s = .next t ∧ t.rep = s.rep ∧ t.get (PAGE.REFUSED.REASON 4) = 2 := by
  have out : (decide (144 < site.toNat) || s.isBad true (siteGroup site.toNat) (sitePlace site.toNat)) = true := by simpa using hi
  exact ⟨_, rfl, State.command_refuses h hr (by decide) (r := .range) (by simp only [hc, out, Bool.not_true, Bool.false_eq_true, if_false, if_true])⟩

end

/-- A site that is declared failing is looked at in a state that differs from the present one in what reports events. -/
theorem State.siteFailing_quiet {s : State} {i : Nat} (row : Nat) (hbad : s.isBad true (siteGroup i) (sitePlace i) = false)
    (hp : s.parked = false) (hb : s.dirBusy true = false) (hfree : s.freeSite true (siteGroup i) = true) (hcap : s.cap 8 = true)
    (hown : ∀ p ∈ s.rep.props, p.own = false) (hc : s.chip.col ≠ .repair) :
    s.siteFailing i row = (s.raise EV.REPAIR.SITE_FAILING (i + row * 2 ^ 8)).propose (.quiet (siteGroup i) (sitePlace i)
      (if s.carriesLane true (siteGroup i) (sitePlace i) then s.get REPAIR.QR_CTL.PAUSE else 0)) := by
  have kept := s.raise_keepsSettings EV.REPAIR.SITE_FAILING (i + row * 2 ^ 8)
  have asked : s.wideAsked = false := List.any_eq_false.mpr fun p hp => by rw [hown p hp, Bool.false_and, Bool.false_and]; decide
  rw [State.siteFailing, State.evalTrigger_site (kept.parked.trans hp) (by rwa [State.dirBusy, State.raise_rep])
      (by rwa [State.wideAsked, State.raise_rep]),
    State.evalSite_quiet ((kept.isBad ..).trans hbad) ((kept.freeSite ..).trans hfree) ((kept.cap 8).trans hcap) (by rwa [State.raise_rep])
      (by rwa [State.raise_col]), kept.carriesLane, kept REPAIR.QR_CTL.PAUSE (by decide)]

theorem State.siteFailing_width {s : State} {i : Nat} (row : Nat) (hi : i ≤ 135) (hbad : s.isBad true (siteGroup i) (sitePlace i) = false)
    (hp : s.parked = false) (hb : s.dirBusy true = false) (hw : s.wideAsked = false) (hfree : s.freeSite true (siteGroup i) = false)
    (hk : clearBit (s.groups true) (siteGroup i) ≠ 0) (hcap : s.cap 7 = true) (hl : s.levelAgreed = false) (hc : s.chip.col ≠ .lowland) :
    s.siteFailing i row = (s.raise EV.REPAIR.SITE_FAILING (i + row * 2 ^ 8)).propose
      (.width true (BitVec.ofNat 4 (clearBit (s.groups true) (siteGroup i))) false 1) := by
  have kept := s.raise_keepsSettings EV.REPAIR.SITE_FAILING (i + row * 2 ^ 8)
  have lane := siteGroup_lt hi
  rw [State.siteFailing, State.evalTrigger_site (kept.parked.trans hp) (by rwa [State.dirBusy, State.raise_rep])
      (by rwa [State.wideAsked, State.raise_rep]),
    State.evalSite_loses ((kept.isBad ..).trans hbad) ((kept.freeSite ..).trans hfree) (Nat.ne_of_lt lane),
    State.loseGroup_width lane (by rwa [State.raise_col]) (by rwa [kept.groups]) ((kept.cap 7).trans hcap) (kept.levelAgreed.trans hl), kept.groups]

/-! ### WIDTH_CMD (R147) -/

/-- L_min of the Col with the groups `gs` left in a direction. -/
def State.lMinLeft (s : State) (dir : Bool) (gs : Nat) : Nat := if dir then s.lMinFor gs (s.groups false) else s.lMinFor (s.groups true) gs

/-- Why the checks of WIDTH_CMD refuse it, in their order. -/
def State.widthCmdRefusal (s : State) (dir force : Bool) (gs : Nat) : Option Reason :=
  if s.chip.col ≠ .active then some .state
  else if s.anyPause then some .busy
  else if gs = 0 || gs &&& s.groups dir != gs || gs == s.groups dir then some .range
  else if s.levelAgreed && !force && s.get TIME.LEVEL_CTL.L_LEVEL < s.lMinLeft dir gs then some .level
  else if !s.cap 7 then some .capability else none

theorem execWidthCmd_eq (dir force : Bool) (gs : BitVec 4) (s : State) :
    execWidthCmd dir gs force s =
      .next (s.command REPAIR.WIDTH_CMD.GO.key (BitVec.ofNat 64 (1 + 2 * b2n dir + 4 * gs.toNat + 64 * b2n force))
        (fun s => s.widthCmdRefusal dir force gs.toNat) (fun s => s.evalTrigger (.widthCmd dir gs force))) := rfl

section
variable {s : State} {dir force : Bool} {gs : BitVec 4} (hc : s.chip.col = .active) (ha : s.anyPause = false) (hz : gs ≠ 0)
  (hsub : gs.toNat &&& s.groups dir = gs.toNat) (hne : gs.toNat ≠ s.groups dir)
include hc ha hz hsub hne

/-- Past the checks of the state and of the groups Level delivery and the capability decide. -/
theorem State.widthCmdRefusal_eq : s.widthCmdRefusal dir force gs.toNat =
    if s.levelAgreed && !force && s.get TIME.LEVEL_CTL.L_LEVEL < s.lMinLeft dir gs.toNat then some .level
    else if !s.cap 7 then some .capability else none := by
  have nonzero : gs.toNat ≠ 0 := fun h => hz (BitVec.eq_of_toNat_eq h)
  have inRange : (decide (gs.toNat = 0) || gs.toNat &&& s.groups dir != gs.toNat || gs.toNat == s.groups dir) = false := by
    simp only [hsub, nonzero, beq_eq_false_iff_ne.mpr hne, decide_false, bne_self_eq_false, Bool.or_self]
  simp only [State.widthCmdRefusal, hc, ha, inRange, ne_eq, not_true_eq_false, Bool.false_eq_true, if_false]

theorem State.widthCmdRefusal_none (hcap : s.cap 7 = true)
    (hl : s.levelAgreed = false ∨ force = true ∨ s.lMinLeft dir gs.toNat ≤ s.get TIME.LEVEL_CTL.L_LEVEL) :
    s.widthCmdRefusal dir force gs.toNat = none := by
  have level : (s.levelAgreed && !force && decide (s.get TIME.LEVEL_CTL.L_LEVEL < s.lMinLeft dir gs.toNat)) = false := by
    rcases hl with hl | hl | hl
    · rw [hl, Bool.false_and, Bool.false_and]
    · rw [hl, Bool.not_true, Bool.and_false, Bool.false_and]
    · rw [decide_eq_false (Nat.not_lt.mpr hl), Bool.and_false]
  rw [State.widthCmdRefusal_eq hc ha hz hsub hne, level, hcap]
  rfl

end

/-! ### LOWLAND_CMD (R151) -/

theorem execLowlandCmd_asks {s : State} (h : HostUp s (keyDomains REPAIR.LOWLAND_CMD.GO.key)) (hr : s.role ≠ 0) (hc : s.chip.col = .active) :
    execLowlandCmd s = .next (s.evalTrigger (.lowland 6)) := by
  rw [execLowlandCmd, State.command_acts h hr (by decide) (by rw [if_pos hc])]

/-- Settles O31: each command is refused for its reason, or evaluates a trigger that proposes or waits for the wake. -/
theorem repairCommandsPropose : Obligations.RepairCommandsPropose := by
  unfold Obligations.RepairCommandsPropose
  refine ⟨?quiet, ?width, ?markState, ?markRange, ?widthCmd, ?widthParked, ?widthLevel, ?lowland, ?lowlandParked, ?lowlandState⟩
  case quiet =>
    rintro s site _ _ h hr hc hi rfl rfl hbad hp hb hfree hcap hown
    have col : s.chip.col ≠ .repair := State.col_ne_of_colIn hc (by decide)
    rw [exec_markSite, execMarkSite_marks h hr hc hi hbad, State.siteFailing_quiet 3 hbad hp hb hfree hcap hown col]
    exact ⟨_, rfl, State.propose_proposes_from (s := s) _ (by rw [State.raise_rep]) (State.raise_beat ..),
      (State.propose_proposalsOnly ..).raised (State.raise_raised _ _ _ (by decide))⟩
  case width =>
    rintro s site _ h hr hc hi rfl hbad hp hb hw hfree hk hcap hl
    rw [exec_markSite, execMarkSite_marks h hr (by rw [State.colIn, hc]; rfl) (Nat.le_trans hi (by decide)) hbad,
      State.siteFailing_width 3 hi hbad hp hb hw hfree hk hcap hl (by rw [hc]; decide)]
    exact ⟨_, rfl, State.propose_proposes_from (s := s) (.width true _ false 1) (by rw [State.raise_rep]) (State.raise_beat ..)⟩
  case markState => exact fun s site h hr hc => execMarkSite_refusesState h hr hc
  case markRange => exact fun s site h hr hc hi => execMarkSite_refusesRange h hr hc hi
  case widthCmd =>
    intro s dir force gs h hr hc hp ha hz hsub hne hcap hl
    rw [exec_widthCmd, execWidthCmd_eq, State.command_acts h hr (by decide) (State.widthCmdRefusal_none hc ha hz hsub hne hcap hl),
      State.evalTrigger_widthCmd hp hc ha]
    exact ⟨_, rfl, s.propose_proposes (.width dir gs force 0)⟩
  case widthParked =>
    intro s dir force gs h hr hc hp ha hz hsub hne hcap hl
    rw [exec_widthCmd, execWidthCmd_eq, State.command_acts h hr (by decide)
      (State.widthCmdRefusal_none hc ha hz hsub hne hcap (hl.imp_right .inl)), State.evalTrigger_parked (t := .widthCmd dir gs force) hp nofun]
    exact ⟨_, rfl, State.deferProposal_spec hp _⟩
  case widthLevel =>
    intro s dir gs h hr hc ha hz hsub hne hl hlow
    have low : s.get TIME.LEVEL_CTL.L_LEVEL < s.lMinLeft dir gs.toNat := hlow
    rw [exec_widthCmd, execWidthCmd_eq]
    refine ⟨_, rfl, State.command_refuses h hr (by decide) (r := .level) ?_⟩
    rw [State.widthCmdRefusal_eq hc ha hz hsub hne, hl, decide_eq_true low]
    rfl
  case lowland =>
    intro s h hr hc hp hcap hn
    rw [exec_lowlandCmd, execLowlandCmd_asks h hr hc, State.evalTrigger_lowland hp hc hcap hn]
    have proposes := s.propose_proposes (.lowland (BitVec.ofNat 4 (s.groups true &&& s.groups false)) 6)
    rw [State.cleared_nil hn] at proposes
    exact ⟨_, rfl, proposes⟩
  case lowlandParked =>
    intro s h hr hc hp
    rw [exec_lowlandCmd, execLowlandCmd_asks h hr hc, State.evalTrigger_parked (t := .lowland 6) hp nofun]
    exact ⟨_, rfl, State.deferProposal_spec hp _⟩
  case lowlandState =>
    intro s h hr hc
    rw [exec_lowlandCmd, execLowlandCmd]
    exact ⟨_, rfl, State.command_refuses h hr (by decide) (r := .state) (if_neg hc)⟩

end Sys2Proof.Machine
end

section
/-!
PROOFS. Answers to proposals, and the frames of REPAIR and WIDTH that bring and answer them (R137 to R139, R146, R147, R150, R152).
-/

namespace Sys2Proof.Machine

theorem exec_repairProposeRx (c : SbCopies) (s : State) : exec (.repairProposeRx c) s = execRepairProposeRx c s := rfl
theorem exec_repairAcceptRx (c : SbCopies) (s : State) : exec (.repairAcceptRx c) s = execRepairAcceptRx c s := rfl
theorem exec_repairDeclineRx (c : SbCopies) (s : State) : exec (.repairDeclineRx c) s = execRepairDeclineRx c s := rfl
theorem exec_repairCancelRx (c : SbCopies) (s : State) : exec (.repairCancelRx c) s = execRepairCancelRx c s := rfl
theorem exec_widthProposeRx (c : SbCopies) (s : State) : exec (.widthProposeRx c) s = execWidthProposeRx c s := rfl
theorem exec_widthAcceptRx (c : SbCopies) (s : State) : exec (.widthAcceptRx c) s = execWidthAcceptRx c s := rfl
theorem exec_widthDeclineRx (c : SbCopies) (s : State) : exec (.widthDeclineRx c) s = execWidthDeclineRx c s := rfl
theorem exec_widthLowlandRx (c : SbCopies) (s : State) : exec (.widthLowlandRx c) s = execWidthLowlandRx c s := rfl
theorem exec_widthCancelRx (c : SbCopies) (s : State) : exec (.widthCancelRx c) s = execWidthCancelRx c s := rfl

/-! ### Answers (R139) -/

theorem State.known_nil {s : State} (h : s.rep.props = []) (k : PropKind) (beat : Beat) : s.known k beat = false := by
  rw [State.known, h, List.any_nil]

theorem State.acceptFar_accepts {s : State} (h : s.rep.props = []) (k : PropKind) (beat : Beat) : AcceptsFar k beat s (s.acceptFar k beat) := by
  have held : s.acceptFar k beat = (s.sendProp .accept k beat).setProps [{ kind := k, beat := beat, own := false, accepted := true, lastSent := s.beat }] := by
    simp only [State.acceptFar, h, List.any_nil, Bool.false_eq_true, if_false, List.nil_append]
    exact State.sendProp_setProps ..
  rw [held]
  exact ⟨rfl, rfl⟩

/-- DECLINE answers a proposal of which this end holds no copy. -/
theorem State.declineFar_declines {s : State} (h : ∀ p ∈ s.rep.props, p.own = true) (k : PropKind) (beat : Beat) :
    DeclinesFar k beat s (s.declineFar k beat) := by
  have kept : s.rep.props.filter (fun p => !(!p.own && p.stage == 0 && p.kind == k && p.beat == beat)) = s.rep.props :=
    List.filter_eq_self.mpr fun p hp => by rw [h p hp]; rfl
  have same : s.dropProps (fun p => !p.own && p.stage == 0 && p.kind == k && p.beat == beat) = s := by rw [State.dropProps, kept, State.setProps]
  rw [State.declineFar, same]
  exact ⟨State.sendProp_rep .., rfl⟩

section
variable {s : State} {p : Proposal} (h : s.rep.props = [p]) {f : Proposal → Bool}
include h

theorem State.acceptOwn_single (ho : p.own = true) (hf : f p = true) :
    (s.acceptOwn f).rep.props = [if p.cancels = 0 then { p with accepted := true } else p] := by
  simp only [State.acceptOwn, State.setProps_rep, h, List.map_cons, List.map_nil, ho, hf, Bool.true_and, Bool.and_true, beq_iff_eq]

theorem State.dropProps_single (hf : f p = true) : (s.dropProps f).rep = { s.rep with props := [] } := by
  simp only [State.dropProps, State.setProps_rep, h, List.filter_cons, List.filter_nil, hf, Bool.not_true, Bool.false_eq_true, if_false]

theorem State.declinedBy_single (hf : f p = true) : (s.declinedBy f).rep =
    { s.rep with props := [], declined := s.rep.declined ++ ((p.trigger (s.groups true)).toList).map (fun t => (t, s.beat)) } := by
  simp only [State.declinedBy, State.dropProps_single h hf, h, List.filter_cons_of_pos hf, List.filter_nil, List.filterMap_cons, List.filterMap_nil]
  cases p.trigger (s.groups true) <;> rfl

end

/-! ### REPAIR frames (R137 to R139) -/

/-- R139 names what a quiet repair of the far end must satisfy where no proposal is held. -/
theorem State.quietOk_nil {s : State} (h : s.rep.props = []) (g k n : Nat) (p : Proposal) :
    s.quietOk g k n p = true ↔ s.colIn [.active, .quietRepair, .lowland, .repair] = true ∧ g ≤ 4 ∧ k < groupSites g ∧
      (n = 0 ∨ (20 ≤ n ∧ n ≤ 31)) ∧ s.isBad false g k = false := by
  simp [State.quietOk, State.known_nil h, h, and_assoc]

/-- Settles O32: what each REPAIR frame does to the proposals held. -/
theorem repairFramesAreAnswered : Obligations.RepairFramesAreAnswered := by
  unfold Obligations.RepairFramesAreAnswered
  refine ⟨?accepts, ?declines, ?accepted, ?declined, ?cancelled⟩
  case accepts =>
    rintro s c b r _ _ _ _ h ht rfl hk rfl rfl rfl hc hg hs hn hbad hp
    rw [exec_repairProposeRx, execRepairProposeRx, State.receive_eq h ht]
    simp only [hk, ne_eq, not_true_eq_false, if_false, (State.quietOk_nil hp _ _ _ _).mpr ⟨hc, hg, hs, hn, hbad⟩, if_true]
    exact ⟨_, rfl, State.acceptFar_accepts hp ..⟩
  case declines =>
    rintro s c b r _ _ _ _ h ht rfl hk rfl rfl rfl hp hno
    have refused (p : Proposal) : ¬ r.quietOk (bits (bodyPayload b) 33 3) (bits (bodyPayload b) 27 6) (bits (bodyPayload b) 22 5) p = true := by
      rw [State.quietOk_nil hp]
      rintro ⟨hc, hg, hs, hn, hbad⟩
      rcases hno with hc' | hg' | hs' | hn' | hbad'
      · rw [hc] at hc'; cases hc'
      · omega
      · omega
      · omega
      · rw [hbad] at hbad'; cases hbad'
    rw [exec_repairProposeRx, execRepairProposeRx, State.receive_eq h ht]
    simp only [hk, ne_eq, not_true_eq_false, if_false, refused]
    exact ⟨_, rfl, State.declineFar_declines (by rw [hp]; nofun) ..⟩
  case accepted =>
    rintro s c b r _ p h ht rfl hk hp ho hq
    rw [exec_repairAcceptRx, execRepairAcceptRx, State.receive_eq h ht]
    simp only [hk, ne_eq, not_true_eq_false, if_false]
    exact ⟨_, rfl, State.acceptOwn_single hp ho hq⟩
  case declined =>
    rintro s c b r _ g k n p h ht rfl hk hp ho hst hkind hq
    rw [exec_repairDeclineRx, execRepairDeclineRx, State.receive_eq h ht]
    simp only [hk, ne_eq, not_true_eq_false, if_false]
    have rep := State.declinedBy_single hp (f := fun p => p.own && p.stage == 0 && quietIs (bodyPayload b) p) (by simp [ho, hst, hq])
    have trigger : p.trigger (r.groups true) = some (.site (siteIndex g k)) := by rw [Proposal.trigger, hkind, ho]; rfl
    rw [trigger] at rep
    refine ⟨_, rfl, ?_⟩
    rw [rep]
    exact ⟨rfl, List.mem_append_right _ List.mem_cons_self, rfl⟩
  case cancelled =>
    rintro s c b r _ p h ht rfl hk hp ho hst hq
    rw [exec_repairCancelRx, execRepairCancelRx, State.receive_eq h ht]
    simp only [hk, ne_eq, not_true_eq_false, if_false]
    refine ⟨_, rfl, ?_⟩
    rw [State.dropProps_single hp (by simp [ho, hst, hq])]
    exact ⟨rfl, rfl⟩

/-! ### WIDTH frames (R139, R146, R147, R150, R152) -/

theorem State.ownWide_nil {s : State} (h : s.rep.props = []) : s.ownWide = [] := by rw [State.ownWide, h, List.filter_nil]

/-- Without a WIDTH proposal of its own an end withdraws none. -/
theorem State.yieldWide_nil {s : State} (h : s.rep.props = []) (w : Option (PropKind × Beat)) : s.yieldWide w = s := by
  rw [State.yieldWide, State.ownWide_nil h]

theorem State.voidForLowland_nil {s : State} (h : s.rep.props = []) : s.voidForLowland = s := by
  simp only [State.voidForLowland, State.withdraw, State.dropProps, h, List.filter_nil, List.filterMap_nil, List.foldl_nil]
  rw [State.setProps, ← h]

/-- A Lowland entry that is the only proposal held stays when it is accepted. -/
theorem State.voidForLowland_lowland {s : State} {p : Proposal} (h : s.rep.props = [p]) {gs : BitVec 4} {re : Nat} (hk : p.kind = .lowland gs re) :
    s.voidForLowland = s := by
  simp only [State.voidForLowland, State.withdraw, State.dropProps, h, List.filter_cons, List.filter_nil, hk, Bool.and_false, Bool.not_false,
    Bool.false_eq_true, if_false, if_true, List.filterMap_nil, List.foldl_nil]
  rw [State.setProps, ← h]

theorem State.widthOk_nil {s : State} (h : s.rep.props = []) {rx force : Bool} {gs : Nat} (hz : gs ≠ 0) (hsub : gs &&& s.groups rx = gs)
    (hcap : s.cap 7 = true) (hl : s.levelAgreed = false ∨ force = true) (p : Proposal) : s.widthOk rx gs force p = true := by
  have level : (s.levelAgreed && !force) = false := by
    rcases hl with hl | hl
    · rw [hl, Bool.false_and]
    · rw [hl, Bool.not_true, Bool.and_false]
  simp only [State.widthOk, h, hsub, hcap, level, bne_iff_ne.mpr hz, beq_self_eq_true, List.any_nil, Bool.false_and, Bool.not_false, Bool.and_self]

theorem isWide_of_widthIs {pl : Nat} {p : Proposal} (h : widthIs pl p = true) : p.isWide = true := by
  unfold widthIs at h
  unfold Proposal.isWide
  cases hk : p.kind <;> simp [hk] at h ⊢

/-- Settles O33: what each WIDTH frame does to the proposals held. -/
theorem widthFramesAreAnswered : Obligations.WidthFramesAreAnswered := by
  unfold Obligations.WidthFramesAreAnswered
  refine ⟨?accepts, ?declines, ?accepted, ?declined, ?lowland, ?lowlandDeclined, ?cancelled⟩
  case accepts =>
    rintro s c b r _ _ _ h ht rfl hk rfl rfl hc hz hsub hcap hl hp
    rw [exec_widthProposeRx, execWidthProposeRx, State.receive_eq h ht]
    simp only [hk, hc, State.known_nil hp, State.ownWide_nil hp, State.widthOk_nil hp hz hsub hcap hl, State.yieldWide_nil hp, State.cancelQuiet_nil hp,
      ne_eq, not_true_eq_false, false_and, Bool.not_true, Bool.false_eq_true, if_false, if_true, ite_self]
    exact ⟨_, rfl, State.acceptFar_accepts hp ..⟩
  case declines =>
    rintro s c b r _ h ht rfl hk hw hwin hown
    have known (k : PropKind) (beat : Beat) : r.known k beat = false :=
      List.any_eq_false.mpr fun p hp => by simp [hown p hp]
    rw [exec_widthProposeRx, execWidthProposeRx, State.receive_eq h ht]
    simp only [hk, known, hw, hwin, ne_eq, not_true_eq_false, not_false_eq_true, and_self, Bool.false_eq_true, if_false, if_true, ite_self]
    exact ⟨_, rfl, State.declineFar_declines hown ..⟩
  case accepted =>
    rintro s c b r _ p h ht rfl hk hp ho hw
    have held := State.acceptOwn_single hp (f := fun p => p.isWide && widthIs (bodyPayload b) p) ho (by simp [isWide_of_widthIs hw, hw])
    rw [exec_widthAcceptRx, execWidthAcceptRx, State.receive_eq h ht]
    simp only [hk, ne_eq, not_true_eq_false, if_false]
    refine ⟨_, rfl, ?_⟩
    split
    · rename_i hlow
      rw [held, List.any_cons, List.any_nil, Bool.or_false] at hlow
      obtain ⟨gs, re, kind⟩ : ∃ gs re, (if p.cancels = 0 then { p with accepted := true } else p).kind = .lowland gs re := by
        revert hlow
        generalize (if p.cancels = 0 then { p with accepted := true } else p) = q
        cases hq : q.kind <;> simp
      rw [State.voidForLowland_lowland held kind, held]
    · exact held
  case declined =>
    rintro s c b r _ p rx f gs h ht rfl hk hp ho hst hkind hw
    rw [exec_widthDeclineRx, execWidthDeclineRx, State.receive_eq h ht]
    simp only [hk, ne_eq, not_true_eq_false, if_false]
    refine ⟨_, rfl, ?_⟩
    rw [State.declinedBy_single hp (by simp [ho, hst, isWide_of_widthIs hw, hw])]
    exact ⟨rfl, rfl⟩
  case lowland =>
    rintro s c b r _ h ht rfl hk hc hcap hp
    rw [exec_widthLowlandRx, execWidthLowlandRx, State.receive_eq h ht]
    simp only [hk, hc, hcap, State.known_nil hp, State.ownWide_nil hp, State.yieldWide_nil hp, State.cancelQuiet_nil hp, State.voidForLowland_nil hp,
      ne_eq, not_true_eq_false, false_and, Bool.and_self, Bool.not_true, Bool.false_eq_true, if_false]
    exact ⟨_, rfl, State.acceptFar_accepts hp ..⟩
  case lowlandDeclined =>
    rintro s c b r _ h ht rfl hk hc hp
    rw [exec_widthLowlandRx, execWidthLowlandRx, State.receive_eq h ht]
    simp only [hk, hc, ne_eq, not_true_eq_false, Bool.false_and, Bool.not_false, if_false, if_true]
    exact ⟨_, rfl, State.declineFar_declines (by rw [hp]; nofun) ..⟩
  case cancelled =>
    rintro s c b r _ p h ht rfl hk hp ho hst hw
    rw [exec_widthCancelRx, execWidthCancelRx, State.receive_eq h ht]
    simp only [hk, ne_eq, not_true_eq_false, if_false]
    refine ⟨_, rfl, ?_⟩
    rw [State.dropProps_single hp (by simp [ho, hst, isWide_of_widthIs hw, hw])]

end Sys2Proof.Machine
end

section
/-!
PROOFS. Repeats and cancels of proposals, and the triggers that wait (R134, R139, R433).
-/

namespace Sys2Proof.Machine

theorem exec_proposalRepeat (now : Beat) (s : State) : exec (.proposalRepeat now) s = execProposalRepeat now s := rfl
theorem exec_proposalCancelDue (now : Beat) (s : State) : exec (.proposalCancelDue now) s = execProposalCancelDue now s := rfl
theorem exec_attrWindowExpiry (idx : Nat) (now : Beat) (grp : Bool) (s : State) :
    exec (.attrWindowExpiry idx now grp) s = execAttrWindowExpiry idx now s grp := rfl

/-! ### Triggers that wait (R136, R139) -/

/-- The end acts on triggers that wait. -/
def State.acts (s : State) : Bool := s.colIn [.active, .quietRepair, .widthChange, .repair] || (s.chip.col == .lowland && s.chip.step == 0)

/-- The state with no trigger left that waits. -/
def State.noneWaiting (s : State) : State := { s with rep := { s.rep with waiting := [] } }

theorem State.reevaluate_outside {s : State} (h : s.acts = false) : s.reevaluate = s := if_neg (Bool.eq_false_iff.mp h)

section
variable {s : State} (hw : s.rep.waiting = []) (hy : s.rep.yielded = [])
include hw hy

/-- Without a trigger that waits or is due nothing is evaluated. -/
theorem State.reevaluate_idle (hd : ∀ d ∈ s.rep.declined, s.past d.2 1024 = false) : s.reevaluate = s := by
  have due : s.rep.declined.filter (fun d => s.past d.2 1024) = [] := List.filter_eq_nil_iff.mpr fun d h => by rw [hd d h]; decide
  have kept : s.rep.declined.filter (fun d => !s.past d.2 1024) = s.rep.declined := List.filter_eq_self.mpr fun d h => by rw [hd d h]; rfl
  have rep : { s.rep with waiting := [], yielded := [] } = s.rep := by rw [← hw, ← hy]
  unfold State.reevaluate
  split
  · simp only [due, kept, hw, hy, List.filter_nil, List.map_nil, List.append_nil, State.evalTriggers, rep]
  · rfl

omit hy in
theorem State.wait_first (t : Trigger) : s.wait t = { s with rep := { s.rep with waiting := [t] } } := by
  simp only [State.wait, hw, List.contains_nil, Bool.false_eq_true, if_false, List.nil_append]

omit hw in
/-- One trigger that waits is evaluated where the end acts on triggers. -/
theorem State.reevaluate_one {t : Trigger} (hw : s.rep.waiting = [t]) (hd : s.rep.declined = []) :
    s.reevaluate = if s.acts then s.noneWaiting.evalTrigger t else s := by
  unfold State.reevaluate
  simp only [hw, hd, hy, List.filter_nil, List.map_nil, List.append_nil, State.evalTriggers, State.noneWaiting]
  rfl

theorem State.reevaluate_wait (hd : s.rep.declined = []) (t : Trigger) :
    (s.wait t).reevaluate = if s.acts then s.evalTrigger t else s.wait t := by
  have rep : { s.rep with waiting := [] } = s.rep := by rw [← hw]
  have none : { s with rep := { s.rep with waiting := [t] } }.noneWaiting = s := by simp only [State.noneWaiting, rep]
  rw [State.wait_first hw, State.reevaluate_one (s := { s with rep := { s.rep with waiting := [t] } }) hy rfl hd, none]
  rfl

end

/-! ### Repeats (R139) -/

/-- A proposal that is not repeated leaves the state alone. -/
theorem execProposalRepeat_idle {s : State} {now : Beat} (hw : s.rep.waiting = []) (hy : s.rep.yielded = [])
    (hd : ∀ d ∈ s.rep.declined, (s.at now).past d.2 1024 = false)
    (h : (s.at now).mapProps State.repeatOne s.rep.props = (s.at now, s.rep.props)) : execProposalRepeat now s = .next (s.at now) := by
  have same : (s.at now).setProps s.rep.props = s.at now := by rw [← s.at_rep now]; rfl
  simp only [execProposalRepeat, State.at_rep, h, same]
  rw [State.reevaluate_idle (by rwa [State.at_rep]) (by rwa [State.at_rep]) (by rwa [State.at_rep])]

/-! ### Cancels (R139, R433) -/

/-- The checks on a park look at the Col state, what is agreed, and the pauses, changes and runs that are accepted (R433). -/
theorem State.parkRefusal_congr {s t : State} (hcol : t.chip.col = s.chip.col) (hplan : t.chip.plan = s.chip.plan) (hregs : t.regs = s.regs)
    (hcal : t.cal = s.cal) (hprops : t.rep.props = s.rep.props) : t.parkRefusal = s.parkRefusal := by
  have agreed : t.cap 9 = s.cap 9 := (KeepsSettings.of_regs hregs).cap 9
  rw [State.parkRefusal, State.parkRefusal, State.parkBlocked, State.parkBlocked, State.anyPause, State.anyPause, hcol, agreed, hplan, hcal, hprops]

section
variable {s : State} {now : Beat} {p : Proposal} (ho : p.own = true) (ha : p.accepted = false) (hs : p.stage = 0)
include ho ha hs

theorem State.cancelOne_due (hc : p.cancels < 4) (hb : p.beat.toNat ≤ (s.at now).beat.toNat + (1024 - 256 * p.cancels)) :
    (s.at now).cancelOne p = ((s.at now).sendProp .cancel p.kind p.beat, { p with cancels := p.cancels + 1 }) := by
  simp only [State.cancelOne, ho, ha, hs, hc, hb, beq_self_eq_true, decide_true, Bool.not_false, Bool.and_self, if_true]

/-- A CANCEL that is not the last counts, and goes out. -/
theorem execProposalCancelDue_early (hp : s.rep.props = [p]) (hw : s.rep.waiting = []) (hy : s.rep.yielded = []) (hd : s.rep.declined = [])
    (hc : p.cancels < 3) (hb : p.beat.toNat ≤ (s.at now).beat.toNat + (1024 - 256 * p.cancels)) :
    execProposalCancelDue now s =
      .next (((s.at now).sendProp .cancel p.kind p.beat).setProps [{ p with cancels := p.cancels + 1 }]) := by
  have more : decide (p.cancels + 1 < 4) = true := decide_eq_true (by omega)
  have notLast : decide (4 ≤ p.cancels + 1) = false := decide_eq_false (by omega)
  simp only [execProposalCancelDue, State.at_rep, hp, State.mapProps, State.cancelOne_due ho ha hs (by omega) hb, List.filter_cons,
    List.filter_nil, more, notLast, Bool.false_eq_true, if_true, if_false, List.foldl_nil]
  rw [State.reevaluate_idle]
  · rwa [State.setProps_rep, State.sendProp_rep, State.at_rep]
  · rwa [State.setProps_rep, State.sendProp_rep, State.at_rep]
  · rw [State.setProps_rep, State.sendProp_rep, State.at_rep, hd]; nofun

/-- The last CANCEL ends the proposal, and what it was for is proposed again. -/
theorem execProposalCancelDue_last (hp : s.rep.props = [p]) (hc : p.cancels = 3)
    (hb : p.beat.toNat ≤ (s.at now).beat.toNat + 256) :
    execProposalCancelDue now s =
      .next ((((s.at now).sendProp .cancel p.kind p.beat).setProps []).proposeAgain { p with cancels := 4 }).reevaluate := by
  simp only [execProposalCancelDue, State.at_rep, hp, State.mapProps,
    State.cancelOne_due ho ha hs (by omega) (by rw [hc]; exact hb), hc, List.filter_cons, List.filter_nil, Nat.reduceAdd, Nat.le_refl,
    Nat.lt_irrefl, decide_true, decide_false, Bool.false_eq_true, if_true, if_false, List.foldl_cons, List.foldl_nil]

end

section
variable {s : State} {now : Beat} {k : PropKind} {b : Beat}

/-- What the last CANCEL of a proposal leaves of the state: nothing is proposed. -/
theorem State.cancelled_rep : (((s.at now).sendProp .cancel k b).setProps []).rep = { s.rep with props := [] } := by
  rw [State.setProps_rep, State.sendProp_rep, State.at_rep]

theorem State.cancelled_proposalsOnly : ProposalsOnly (s.at now) (((s.at now).sendProp .cancel k b).setProps []) :=
  ((s.at now).sendProp_proposalsOnly ..).trans (State.setProps_proposalsOnly ..)

/-- A park is refused or declined after its last CANCEL as before it, without the proposal. -/
theorem State.cancelled_parkRefusal : (((s.at now).sendProp .cancel k b).setProps []).parkRefusal = (s.setProps []).parkRefusal := by
  have only := State.cancelled_proposalsOnly (s := s) (now := now) (k := k) (b := b)
  obtain ⟨_, chip⟩ := only.chip
  obtain ⟨_, _, time⟩ := s.at_eq now
  refine State.parkRefusal_congr ?_ ?_ (only.regs.trans (s.at_regs now)) (only.cal.trans (s.at_cal now)) rfl
  · rw [only.col, State.at_col, State.setProps_chip]
  · rw [chip, time, State.setProps_chip]

/-- A park is looked at again after its last CANCEL: it waits or is proposed. -/
theorem State.cancelled_evalTrigger (hp : s.parked = false) (hs : s.pwr.stopping = false) :
    (((s.at now).sendProp .cancel k b).setProps []).evalTrigger .park =
      if (s.setProps []).parkRefusal.isSome then (((s.at now).sendProp .cancel k b).setProps []).wait .park
      else (((s.at now).sendProp .cancel k b).setProps []).propose .park := by
  have only := State.cancelled_proposalsOnly (s := s) (now := now) (k := k) (b := b)
  have parked := (only.keepsSettings.parked.trans (s.at_keepsSettings now).parked).trans hp
  have stopping : (((s.at now).sendProp .cancel k b).setProps []).pwr.stopping = false := by rw [only.pwr, State.at_pwr, hs]
  have pending : (((s.at now).sendProp .cancel k b).setProps []).parkPending = false := by
    rw [State.parkPending, parked, stopping, State.cancelled_rep]; rfl
  simp only [State.evalTrigger, parked, pending, State.cancelled_parkRefusal, Bool.false_eq_true, if_false]

end

/-! ### The attribution window (R134) -/

section
variable {s : State} {now : Beat}

theorem execAttrWindowExpiry_site {i : Nat} (hs : siteOk i = true) (hn : s.get (REPAIR.SITE_ERR.COUNT i) ≠ 0)
    (hw : s.get REPAIR.ATTR_CTL.WINDOW ≤ (s.at now).beat.toNat - (s.at now).firstBeat i) :
    execAttrWindowExpiry i now s = .next (((s.at now).put (REPAIR.SITE_ERR.COUNT i) 0).put (REPAIR.SITE_ERR.FIRST i) 0) := by
  simp only [execAttrWindowExpiry, State.on, State.at_get, hs, bne_iff_ne.mpr hn, hw, decide_true, Bool.and_self, Bool.false_eq_true, if_false, if_true]

theorem execAttrWindowExpiry_group {g : Nat} {b : Beat} (hg : g < 5) (hn : s.get (REPAIR.GROUP_ERR.COUNT g) ≠ 0)
    (hf : Sparse.find s.rep.grpFirst g = some b) (hw : (s.at now).past b (s.get REPAIR.ATTR_CTL.WINDOW) = true) :
    execAttrWindowExpiry g now s true = .next { (s.at now).put (REPAIR.GROUP_ERR.COUNT g) 0 with
      rep := { s.rep with grpFirst := Sparse.set g none s.rep.grpFirst } } := by
  simp only [execAttrWindowExpiry, State.on, State.at_get, State.at_rep, hg, bne_iff_ne.mpr hn, hf, Option.getD_some, hw, and_self, if_true]

end

/-- Settles O35: a proposal without answer is repeated, then cancelled four times, and what it was for is looked at again. -/
theorem proposalsAreRepeatedAndCancelled : Obligations.ProposalsAreRepeatedAndCancelled := by
  unfold Obligations.ProposalsAreRepeatedAndCancelled
  refine ⟨?repeated, ?answered, ?declined, ?cancelled, ?parkWaits, ?parkAgain, ?widthAgain, ?site, ?group⟩
  case repeated =>
    intro s now p hp hw hy hd ho ha hc hpast hb
    have one : (s.at now).repeatOne p = ((s.at now).sendProp .propose p.kind p.beat, { p with lastSent := (s.at now).beat }) := by
      simp only [State.repeatOne, ho, ha, hc, hpast, hb, beq_self_eq_true, decide_true, Bool.not_false, Bool.and_self, if_true]
    rw [exec_proposalRepeat]
    simp only [execProposalRepeat, State.at_rep, hp, State.mapProps, one]
    rw [State.reevaluate_idle]
    · exact ⟨_, rfl, rfl, rfl⟩
    · rwa [State.setProps_rep, State.sendProp_rep, State.at_rep]
    · rwa [State.setProps_rep, State.sendProp_rep, State.at_rep]
    · rw [State.setProps_rep, State.sendProp_rep, State.at_rep, hd]; nofun
  case answered =>
    intro s now p hp hw hy ho hd
    have done : (p.own && !p.accepted) = false := by
      rcases ho with h | h
      · rw [h, Bool.false_and]
      · rw [h, Bool.not_true, Bool.and_false]
    rw [exec_proposalRepeat]
    refine execProposalRepeat_idle hw hy (by rw [hd]; nofun) ?_
    simp only [hp, State.mapProps, State.repeatOne, done, Bool.false_and, Bool.false_eq_true, if_false]
  case declined =>
    intro s now i b hp hw hy hd hpast
    rw [exec_proposalRepeat]
    refine execProposalRepeat_idle hw hy ?_ (by rw [hp]; rfl)
    rw [hd]
    exact List.forall_mem_singleton.mpr hpast
  case cancelled =>
    intro s now p hp hw hy hd ho ha hs hc hb
    rw [exec_proposalCancelDue, execProposalCancelDue_early ho ha hs hp hw hy hd hc hb]
    exact ⟨_, rfl, rfl, rfl⟩
  case parkWaits =>
    intro s now p hp hw hy hd ho ha hs hc hb hk hcol hparked hstop
    have refused : (s.setProps []).parkRefusal.isSome = true := by
      rw [State.parkRefusal, if_pos (by rwa [State.setProps_chip])]; rfl
    rw [exec_proposalCancelDue, execProposalCancelDue_last ho ha hs hp hc hb, hk]
    simp only [State.proposeAgain]
    rw [State.reevaluate_wait (by rwa [State.cancelled_rep]) (by rwa [State.cancelled_rep]) (by rwa [State.cancelled_rep]),
      State.cancelled_evalTrigger hparked hstop, if_pos refused, ite_self,
      State.wait_first (by rwa [State.cancelled_rep])]
    exact ⟨_, rfl, rfl, rfl, rfl⟩
  case parkAgain =>
    intro s now p hp hw hy hd ho ha hs hc hb hk hparked hstop hnone
    have active : s.chip.col = .active := by
      by_contra h
      rw [State.parkRefusal, if_pos (by rwa [State.setProps_chip])] at hnone
      cases hnone
    have acts : (((s.at now).sendProp .cancel .park p.beat).setProps []).acts = true := by
      rw [State.acts, State.colIn, State.cancelled_proposalsOnly.col, State.at_col, active]; rfl
    rw [exec_proposalCancelDue, execProposalCancelDue_last ho ha hs hp hc hb, hk]
    simp only [State.proposeAgain]
    rw [State.reevaluate_wait (by rwa [State.cancelled_rep]) (by rwa [State.cancelled_rep]) (by rwa [State.cancelled_rep]), if_pos acts,
      State.cancelled_evalTrigger hparked hstop, hnone]
    refine ⟨_, rfl, ?_⟩
    have proposes := (((s.at now).sendProp .cancel .park p.beat).setProps []).propose_proposes .park
    rw [State.cleared_nil rfl] at proposes
    exact proposes.congr rfl State.cancelled_proposalsOnly.beat
  case widthAgain =>
    intro s now p rx f gs re hp hw hy hd ho ha hs hc hb hk
    rw [exec_proposalCancelDue, execProposalCancelDue_last ho ha hs hp hc hb]
    simp only [State.proposeAgain, hk]
    have only := (((s.at now).sendProp .cancel (.width rx gs f re) p.beat).setProps []).propose_proposalsOnly (.width rx gs f re)
    rw [State.reevaluate_idle]
    · refine ⟨_, rfl, ?_⟩
      have proposes := (((s.at now).sendProp .cancel (.width rx gs f re) p.beat).setProps []).propose_proposes (.width rx gs f re)
      rw [State.cleared_nil rfl] at proposes
      exact proposes.congr rfl State.cancelled_proposalsOnly.beat
    · rw [only.rep, State.cancelled_rep]; exact hw
    · rw [only.rep, State.cancelled_rep]; exact hy
    · rw [only.rep, State.cancelled_rep, hd]; nofun
  case site =>
    intro s now i hs hn hw
    rw [exec_attrWindowExpiry, execAttrWindowExpiry_site hs hn hw]
    refine ⟨_, rfl, ?_, ?_, fun k hk => ?_⟩
    · rw [State.get_put_apart _ _ ⟨by simp [REPAIR.SITE_ERR.COUNT], by simp [REPAIR.SITE_ERR.COUNT, REPAIR.SITE_ERR.FIRST]⟩,
        State.get_put_same _ _ _ (by simp [REPAIR.SITE_ERR.COUNT]), Nat.zero_mod]
    · rw [State.get_put_same _ _ _ (by simp [REPAIR.SITE_ERR.FIRST]), Nat.zero_mod]
    · have first : (REPAIR.SITE_ERR.FIRST i).key ≠ k := Ne.symm hk
      rw [State.put_reg_ne _ _ first, State.put_reg_ne _ _ (Ne.symm hk), State.reg_congr (s.at_regs now)]
  case group =>
    intro s now b g hg hn hf hw
    rw [exec_attrWindowExpiry, execAttrWindowExpiry_group hg hn hf hw]
    have regs : ∀ r, { (s.at now).put (REPAIR.GROUP_ERR.COUNT g) 0 with rep := r }.regs = ((s.at now).put (REPAIR.GROUP_ERR.COUNT g) 0).regs :=
      fun _ => rfl
    refine ⟨_, rfl, ?_, ?_, fun k hk => ?_⟩
    · rw [State.get_congr (regs _), State.get_put_same _ _ _ (by simp [REPAIR.GROUP_ERR.COUNT]), Nat.zero_mod]
    · rw [Sparse.find_set, if_pos rfl]
    · rw [State.reg_congr (regs _), State.put_reg_ne _ _ (Ne.symm hk), State.reg_congr (s.at_regs now)]

end Sys2Proof.Machine
end

section
/-!
PROOFS. Marks of events that stay when others are raised (R248, R249, R444), and what entering a state, the pair role and the end of a
burst leave alone (R96, R158, R398).
-/

namespace Sys2Proof.Machine

/-! ### Marks of events (R248, R249, R444) -/

theorem bit_setBit_of_bit {n j : Nat} (i : Nat) (h : bit n j = true) : bit (setBit n i) j = true := by
  unfold setBit
  split
  · exact h
  rename_i clear
  rw [bit_eq] at h clear ⊢
  rcases Nat.lt_trichotomy j i with below | rfl | above
  · rwa [Nat.add_comm, Nat.testBit_two_pow_add_gt below]
  · exact absurd h clear
  · obtain ⟨d, rfl⟩ : ∃ d, j = i + 1 + d := ⟨j - (i + 1), by omega⟩
    rw [Nat.testBit_eq_decide_div_mod_eq] at h clear ⊢
    have even : (n / 2 ^ i + 1) / 2 = n / 2 ^ i / 2 := by
      have : ¬ n / 2 ^ i % 2 = 1 := by simpa using clear
      omega
    rw [Nat.pow_add, ← Nat.div_div_eq_div_mul, Nat.pow_succ, ← Nat.div_div_eq_div_mul] at h ⊢
    rwa [Nat.add_div_right _ (Nat.two_pow_pos i), even]

/-- A field in which one more bit is set keeps the bits it had. -/
theorem State.put_setBit_bit (s : State) {f : Field} (hf : f.lo + f.width ≤ 64) {i j : Nat} (h : bit (s.get f) j = true) :
    bit ((s.put f (setBit (s.get f) i)).get f) j = true := by
  have below : j < f.width := by
    by_contra hj
    rw [bit_eq, State.get, Nat.testBit_lt_two_pow (Nat.lt_of_lt_of_le (bits_lt ..) (Nat.pow_le_pow_right (by decide) (Nat.not_lt.mp hj)))] at h
    cases h
  have kept := bit_setBit_of_bit i h
  rw [State.get_put_same _ _ _ hf]
  rw [bit_eq] at kept ⊢
  rw [Nat.testBit_mod_two_pow, kept, decide_eq_true below]
  rfl

/-- A delivered event leaves every status bit that was set. -/
theorem State.deliver_keepsStat (s : State) (q b v : Nat) (fo : Bool) {p j : Nat} (h : bit (s.get (PAGE.EVT_STAT p)) j = true) :
    bit ((s.deliver q b v fo).get (PAGE.EVT_STAT p)) j = true := by
  have other (t : State) (f : Field) (w : Nat) (hf : f.key % 4096 ≠ 0x020) : (t.put f w).get (PAGE.EVT_STAT p) = t.get (PAGE.EVT_STAT p) :=
    t.get_put_ne w fun e => hf (by rw [e]; simp [PAGE.EVT_STAT])
  have stat : bit ((s.put (PAGE.EVT_STAT q) (setBit (s.get (PAGE.EVT_STAT q)) b)).get (PAGE.EVT_STAT p)) j = true := by
    by_cases hq : q = p
    · subst hq
      exact s.put_setBit_bit (by simp [PAGE.EVT_STAT]) h
    · rwa [State.get_put_ne _ _ (by simp only [PAGE.EVT_STAT]; omega)]
  simp only [State.deliver]
  split
  · rwa [State.bump, State.bumpBy, other _ _ _ (by simp [PAGE.PAGE_STAT.EVT_COUNT])]
  · rwa [other _ _ _ (by simp [PAGE.EVT_FIRST.VALUE]), other _ _ _ (by simp [PAGE.EVT_FIRST.FORCED]), other _ _ _ (by simp [PAGE.EVT_FIRST.VALID]),
      other _ _ _ (by simp [PAGE.EVT_FIRST.BIT]), State.bump, State.bumpBy, other _ _ _ (by simp [PAGE.PAGE_STAT.EVT_COUNT])]

theorem State.deliver_overrun (s : State) (q b v : Nat) (fo : Bool) :
    (s.deliver q b v fo).get RESET.XING_STAT.OVERRUN = s.get RESET.XING_STAT.OVERRUN := by
  have key : RESET.XING_STAT.OVERRUN.key % 4096 = 0x148 := rfl
  rw [State.get, State.deliver_reg _ _ _ _ _ _ (by omega) (by omega) (by omega), ← State.get]

theorem Raised.deliver {e : Event} {s : State} (h : Raised e s) (q b v : Nat) (fo : Bool) : Raised e (s.deliver q b v fo) := by
  rw [Raised, State.deliver_overrun, State.deliver_chip]
  exact h.imp_left (s.deliver_keepsStat q b v fo)

/-- An event that is raised later leaves the marks of those before it. -/
theorem Raised.raise {e : Event} {s : State} (h : Raised e s) (e' : Event) (v : Nat) : Raised e (s.raise e' v) := by
  unfold State.raise
  split
  · exact h.deliver ..
  split
  · exact h
  split
  · split
    · rename_i waits
      refine Raised.deliver ?_ ..
      have apart : RESET.XING_STAT.OVERRUN.key ≠ (PAGE.EVT_STAT e.page).key := by simp only [RESET.XING_STAT.OVERRUN, PAGE.EVT_STAT]; omega
      rw [Raised, State.get_put_ne _ _ apart, State.put_chip]
      exact h.imp_right (Or.imp_right (Or.imp_left (s.put_setBit_bit (by decide))))
    · rename_i free
      refine h.imp_right (Or.imp_left ?_)
      rintro ⟨p, found, hp⟩
      refine ⟨p, ?_, hp⟩
      rw [Sparse.find_set, if_neg fun he => free (by rw [he, found]; exact Bool.or_true _)]
      exact found
  · exact Raised.deliver (s := { s with chip := { s.chip with evtBusy := s.chip.evtBusy ||| BitVec.ofNat 12 (2 ^ e'.dom) } }) h ..

/-! ### Entering a state (R96, R398) -/

/-- What entering a state leaves alone, besides the registers and the resets, clocks and drivers. -/
theorem State.setColStep_frame (s : State) (c : ColState) (step : Nat) : ∃ regs sb out chip, s.setColStep c step =
    { s with regs := regs, sb := sb, out := out, chip := chip } := by
  obtain ⟨sb, out, fill, h⟩ := State.sbSend_frame ({ s with
    chip := { s.chip with col := c, entry := s.beat, step := step, stepEntry := s.beat }
    sb := { s.sb with status := 0, arg := 0, acted := [] } }) .train (State.trainPayload { s with
    chip := { s.chip with col := c, entry := s.beat, step := step, stepEntry := s.beat }
    sb := { s.sb with status := 0, arg := 0, acted := [] } })
  rw [State.setColStep, State.train, h]
  exact ⟨_, _, _, _, rfl⟩

@[simp] theorem State.setCol_rep (s : State) (c : ColState) : (s.setCol c).rep = s.rep := by
  obtain ⟨_, _, _, _, h⟩ := s.setColStep_frame c 0
  rw [State.setCol, h]
@[simp] theorem State.setCol_susp (s : State) (c : ColState) : (s.setCol c).susp = s.susp := by
  obtain ⟨_, _, _, _, h⟩ := s.setColStep_frame c 0
  rw [State.setCol, h]
@[simp] theorem State.setCol_beat (s : State) (c : ColState) : (s.setCol c).beat = s.beat := by
  obtain ⟨_, _, _, _, h⟩ := s.setColStep_frame c 0
  rw [State.setCol, h]

/-- A HEARTBEAT word changes the message queue, the pair's own counts and what goes out (R393, R395). -/
theorem State.sendWord_frame (s : State) : ∃ lnk pair out, s.sendWord = { s with lnk := lnk, pair := pair, out := out } := by
  have message (w : Nat) : ∃ lnk, s.hbMessage w = { s with lnk := lnk } := by
    unfold State.hbMessage
    split
    · exact ⟨s.lnk, rfl⟩
    · exact ⟨_, rfl⟩
  have strap (t : State) (w : Nat) : ∃ pair out, t.hbStrap w = { t with pair := pair, out := out } := by
    unfold State.hbStrap
    split
    · exact ⟨t.pair, t.out, rfl⟩
    · exact ⟨_, _, rfl⟩
  unfold State.sendWord
  dsimp only
  obtain ⟨_, h⟩ := message (hbWord s.orig 0 s.pair.seq s.prole s.ownLease)
  rw [h]
  obtain ⟨_, _, h'⟩ := strap { s with lnk := _ } (hbWord s.orig 0 s.pair.seq s.prole s.ownLease)
  rw [h']
  exact ⟨_, _, _, rfl⟩

/-- An end that enters RESYNC changes its pair role, the pair's own state, the message queue and what goes out (R398). -/
theorem State.pairEnter_frame (s : State) : ∃ t lnk pair out, (t = s ∨ t = s.put PAIR.ROLE_STAT.PROLE 1) ∧
    s.pairEnter = { t with lnk := lnk, pair := pair, out := out } := by
  unfold State.pairEnter
  split
  · rw [State.setProle, if_neg (by decide)]
    obtain ⟨_, _, _, h⟩ := State.sendWord_frame ((((s.setPair _).put PAIR.ROLE_STAT.PROLE 1).setPair _))
    rw [h]
    exact ⟨_, _, _, _, .inr rfl, rfl⟩
  · exact ⟨s, _, _, _, .inl rfl, rfl⟩

/-- Only in ACTIVE does an end enter RESYNC (R398). -/
theorem State.pairEnter_none {s : State} (h : s.chip.col ≠ .active) : s.pairEnter = s := by
  unfold State.pairEnter
  rw [beq_eq_false_iff_ne.mpr h, Bool.and_false]
  rfl

end Sys2Proof.Machine
end

section
/-!
PROOFS. Pauses of quiet repairs and width changes at their beats (R136, R140, R142, R143, R145, R148, R149, R151).
-/

namespace Sys2Proof.Machine

theorem exec_qrPauseBeat (now : Beat) (s : State) : exec (.qrPauseBeat now) s = execQrPauseBeat now s := rfl
theorem exec_qrMaskSwitch (now : Beat) (s : State) : exec (.qrMaskSwitch now) s = execQrMaskSwitch now s := rfl
theorem exec_qrResume (now : Beat) (mismatch : Bool) (s : State) : exec (.qrResume now mismatch) s = execQrResume now mismatch s := rfl
theorem exec_widthChangeBeat (now : Beat) (s : State) : exec (.widthChangeBeat now) s = execWidthChangeBeat now s := rfl
theorem exec_widthSwitch (now : Beat) (s : State) : exec (.widthSwitch now) s = execWidthSwitch now s := rfl
theorem exec_widthResume (now : Beat) (s : State) : exec (.widthResume now) s = execWidthResume now s := rfl

/-! ### Sweeps of the proposals -/

/-- One proposal that is swept is kept as it becomes, or ends. -/
theorem State.sweepAll_single {s s1 : State} {f : State → Proposal → State × Option Proposal} {p : Proposal} {o : Option Proposal}
    (hp : s.rep.props = [p]) (hf : f s p = (s1, o)) : s.sweepAll f = s1.setProps o.toList := by
  simp only [State.sweepAll, hp, State.sweep, hf, List.append_nil]

/-- A sweep that keeps every proposal as it is leaves the state alone. -/
theorem State.sweepAll_idle {s : State} {f : State → Proposal → State × Option Proposal} (hf : ∀ p, f s p = (s, some p)) : s.sweepAll f = s := by
  have all (l : List Proposal) : s.sweep f l = (s, l) := by
    induction l with
    | nil => rfl
    | cons p ps ih => simp only [State.sweep, hf, ih, Option.toList_some, List.singleton_append]
  simp only [State.sweepAll, all]
  rfl

/-! ### The state that pauses call for (R136) -/

/-- The Col state that the running pauses call for. -/
def State.pauseWants (s : State) : ColState :=
  let running := s.rep.props.filter (fun p => decide (1 ≤ p.stage))
  if running.any Proposal.isWidth then .widthChange
  else if running.any Proposal.isQuiet || (s.chip.col == .quietRepair && s.rep.props.any (fun p => p.accepted && (p.isQuiet || p.isWidth))) then
    .quietRepair
  else .active

theorem State.pauseState_eq (s : State) : s.pauseState =
    if s.colIn [.active, .quietRepair, .widthChange] then if s.pauseWants = s.chip.col then s else (s.setCol s.pauseWants).runAgain.pairEnter else s :=
  rfl

section
variable {s : State}

theorem State.pauseWants_nil (h : s.rep.props = []) : s.pauseWants = .active := by
  simp only [State.pauseWants, h, List.filter_nil, List.any_nil, Bool.and_false, Bool.or_self, Bool.false_eq_true, if_false]

theorem State.pauseWants_quiet {p : Proposal} (h : s.rep.props = [p]) (hs : 1 ≤ p.stage) {g k n : Nat} (hk : p.kind = .quiet g k n) :
    s.pauseWants = .quietRepair := by
  simp only [State.pauseWants, h, List.filter_cons, List.filter_nil, hs, decide_true, if_true, List.any_cons, List.any_nil, Proposal.isWidth,
    Proposal.isQuiet, hk, Bool.or_false, Bool.true_or, Bool.false_eq_true, if_false]

theorem State.pauseWants_width {p : Proposal} (h : s.rep.props = [p]) (hs : 1 ≤ p.stage) {rx f : Bool} {gs : BitVec 4} {re : Nat}
    (hk : p.kind = .width rx gs f re) : s.pauseWants = .widthChange := by
  simp only [State.pauseWants, h, List.filter_cons, List.filter_nil, hs, decide_true, if_true, List.any_cons, List.any_nil, Proposal.isWidth, hk,
    Bool.or_false]

/-- Outside ACTIVE and the states of pauses no pause decides the state. -/
theorem State.pauseState_none (h : s.colIn [.active, .quietRepair, .widthChange] = false) : s.pauseState = s := by
  rw [State.pauseState_eq, h]
  rfl

theorem State.pauseState_stays (h : s.pauseWants = s.chip.col) : s.pauseState = s := by
  rw [State.pauseState_eq, if_pos h, ite_self]

/-- A pause begins in ACTIVE: its state is entered, and nothing else waits for that. -/
theorem State.pauseState_begins (hc : s.chip.col = .active) {c : ColState} (hw : s.pauseWants = c) (h : c = .quietRepair ∨ c = .widthChange) :
    s.pauseState = s.setCol c := by
  have ne : c ≠ .active := by rcases h with rfl | rfl <;> decide
  have noRun : (s.setCol c).colIn [.active, .lowland] = false := by
    rw [State.colIn, State.setCol_col]
    rcases h with rfl | rfl <;> rfl
  rw [State.pauseState_eq, hw, hc, if_neg ne, if_pos (by rw [State.colIn, hc]; rfl), State.runAgain_none noRun,
    State.pairEnter_none (by rwa [State.setCol_col])]

/-- The last pause ends: ACTIVE is entered, and an M-end enters its pair. -/
theorem State.pauseState_ends (hc : s.colIn [.quietRepair, .widthChange] = true) (hp : s.rep.props = []) (ha : s.cal.again = false) :
    s.pauseState = (s.setCol .active).pairEnter := by
  have paused : s.colIn [.active, .quietRepair, .widthChange] = true :=
    (s.colIn_iff _).mpr (List.mem_cons_of_mem _ ((s.colIn_iff _).mp hc))
  have ne : ColState.active ≠ s.chip.col := Ne.symm (State.col_ne_of_colIn hc (by decide))
  have noRun : (s.setCol .active).runAgain = s.setCol .active := by
    rw [State.runAgain, State.setCol_cal, ha, Bool.false_and, Bool.false_and, Bool.false_and]
    rfl
  rw [State.pauseState_eq, if_pos paused, State.pauseWants_nil hp, if_neg ne, noRun]

end

/-! ### After the last pause (R136, R151) -/

/-- From `s` the Col went back to ACTIVE: the repairs, the beat and the marks of events stay, and the registers but the STATUS sent and the
pair role. -/
structure Resumed (s t : State) : Prop where
  rep : t.rep = s.rep
  col : t.chip.col = .active
  beat : t.beat = s.beat
  pend : t.chip.evtPend = s.chip.evtPend
  torn : t.chip.torn = s.chip.torn
  get : ∀ f : Field, IDENT.IDENT_STAT.OWN_STATUS.key ≠ f.key → PAIR.ROLE_STAT.PROLE.key ≠ f.key → t.get f = s.get f

theorem State.setCol_resumed (s : State) : Resumed s (s.setCol .active) := by
  obtain ⟨_, chip⟩ := s.setColStep_chip .active 0
  exact ⟨s.setCol_rep _, s.setCol_col _, s.setCol_beat _, by rw [State.setCol, chip], by rw [State.setCol, chip], fun f hf _ => s.setCol_get _ hf⟩

theorem Resumed.prole {s t : State} (h : Resumed s t) (v : Nat) : Resumed s (t.put PAIR.ROLE_STAT.PROLE v) :=
  ⟨h.rep, h.col, h.beat, h.pend, h.torn, fun f hf hr => (t.get_put_ne v hr).trans (h.get f hf hr)⟩

theorem Resumed.streams {s t : State} (h : Resumed s t) (lnk : Link) (pair : Pair) (out : List Out) :
    Resumed s { t with lnk := lnk, pair := pair, out := out } := ⟨h.rep, h.col, h.beat, h.pend, h.torn, h.get⟩

theorem State.setCol_pairEnter_resumed (s : State) : Resumed s (s.setCol .active).pairEnter := by
  obtain ⟨_, _, _, _, rfl | rfl, h⟩ := (s.setCol .active).pairEnter_frame
  · rw [h]
    exact s.setCol_resumed.streams ..
  · rw [h]
    exact (s.setCol_resumed.prole 1).streams ..

theorem Resumed.keepsSettings {s t : State} (h : Resumed s t) : KeepsSettings s t := fun f hf =>
  h.get f (fun e => by rw [← e] at hf; revert hf; decide) (fun e => by rw [← e] at hf; revert hf; decide)

theorem Resumed.raised {s t : State} (h : Resumed s t) {e : Event} (hr : Raised e s) : Raised e t := by
  refine hr.kept (h.get _ ?_ ?_) (h.get _ (by decide) (by decide)) h.pend h.torn
  · simp only [IDENT.IDENT_STAT.OWN_STATUS, PAGE.EVT_STAT]; omega
  · simp only [PAIR.ROLE_STAT.PROLE, PAGE.EVT_STAT]; omega

/-- With a free site left and no failed run R151 asks for nothing. -/
theorem State.checkLowland_idle {s : State} (h : s.sparesSpent = false) (hf : s.get CAL.RUN_STAT.FAILS ≠ 3) : s.checkLowland = s := by
  simp only [State.checkLowland, h, hf, Bool.false_eq_true, if_false, ite_self]

theorem State.checkLowland_outside {s : State} (h : s.chip.col ≠ .active) : s.checkLowland = s := if_pos h

/-- Verification begins, if it does, without a change of anything else (R143). -/
theorem State.maybeVerify_frame (s : State) : ∃ v, s.maybeVerify = { s with rep := { s.rep with verify := v } } := by
  unfold State.maybeVerify
  split
  · exact ⟨_, rfl⟩
  · exact ⟨s.rep.verify, rfl⟩

theorem State.maybeVerify_regs (s : State) : s.maybeVerify.regs = s.regs := by
  obtain ⟨_, h⟩ := s.maybeVerify_frame
  rw [h]
theorem State.maybeVerify_props (s : State) : s.maybeVerify.rep.props = s.rep.props := by
  obtain ⟨_, h⟩ := s.maybeVerify_frame
  rw [h]

theorem State.maybeVerify_outside {s : State} (h : s.chip.col ≠ .repair) : s.maybeVerify = s := by
  simp only [State.maybeVerify, decide_eq_false h, Bool.false_and, Bool.false_eq_true, if_false]

section
variable {s : State} (hc : s.colIn [.quietRepair, .widthChange] = true) (hp : s.rep.props = []) (ha : s.cal.again = false)
include hc hp ha

/-- Where nothing waits and R151 asks for nothing, the end of the last pause is all that happens. -/
theorem State.resumes_idle (hw : s.rep.waiting = []) (hy : s.rep.yielded = []) (hd : s.rep.declined = []) (hs : s.sparesSpent = false)
    (hf : s.get CAL.RUN_STAT.FAILS ≠ 3) : Resumed s s.pauseState.reevaluate.checkLowland := by
  have resumed := s.setCol_pairEnter_resumed
  rw [State.pauseState_ends hc hp ha, State.reevaluate_idle (by rwa [resumed.rep]) (by rwa [resumed.rep]) (by rw [resumed.rep, hd]; nofun),
    State.checkLowland_idle (resumed.keepsSettings.sparesSpent.trans hs) (by rwa [resumed.keepsSettings _ (by decide)])]
  exact resumed

end

/-! ### P of quiet repairs, W of width changes (R140, R142, R148) -/

theorem State.endBurst_frame (s : State) : ∃ lnk out, s.endBurst = { s with lnk := lnk, out := out } := by
  rcases s.endBurst_cases with h | ⟨_, h⟩
  · exact ⟨s.lnk, s.out, h⟩
  · exact ⟨_, _, h⟩

/-- A direction is suspended, and the transmitting end ends its burst first. -/
theorem State.suspend_silenced (s : State) (quiet rx : Bool) (start : Beat) (len : Nat) :
    ((if quiet then s else s.endBurst).suspend rx start len).susp = s.susp ++ [⟨rx, start, start + BitVec.ofNat 64 len⟩] ∧
    ((if quiet then s else s.endBurst).suspend rx start len).chip = s.chip := by
  obtain ⟨_, _, h⟩ := s.endBurst_frame
  rw [h]
  cases quiet <;> exact ⟨rfl, rfl⟩

/-- What was asked for waits, and nothing else changes. -/
theorem State.voided_frame (s : State) (p : Proposal) : ∃ w, s.voided p = { s with rep := { s.rep with waiting := w } } := by
  unfold State.voided State.wait
  split
  · split
    · exact ⟨s.rep.waiting, rfl⟩
    · exact ⟨_, rfl⟩
  · exact ⟨s.rep.waiting, rfl⟩

theorem State.voided_susp (s : State) (p : Proposal) : (s.voided p).susp = s.susp := by
  obtain ⟨_, h⟩ := s.voided_frame p
  rw [h]
theorem State.voided_chip (s : State) (p : Proposal) : (s.voided p).chip = s.chip := by
  obtain ⟨_, h⟩ := s.voided_frame p
  rw [h]

section
variable {s : State} {p : Proposal} (hs : p.stage = 0) (hb : s.reached p.beat = true)
include hs hb

theorem State.quietBegin_pause (hc : s.chip.col = .active) {g k n : Nat} (hk : p.kind = .quiet g k n) (hn : n ≠ 0) (ha : p.accepted = true) :
    s.quietBegin p = ((if p.own then s else s.endBurst).suspend p.own p.beat (64 * n + s.get TIME.LEVEL_CTL.L_LEVEL), some { p with stage := 1 }) := by
  have here : s.colIn [.active, .quietRepair, .widthChange, .lowland, .repair] = true := by rw [State.colIn, hc]; rfl
  simp only [State.quietBegin, hk, hs, hb, ha, here, hn, and_self, Bool.and_self, if_true, if_false]

theorem State.quietBegin_void {g k n : Nat} (hk : p.kind = .quiet g k n) (ha : p.accepted = false) : s.quietBegin p = (s.voided p, none) := by
  simp only [State.quietBegin, hk, hs, hb, ha, and_self, Bool.false_and, Bool.false_eq_true, if_true, if_false]

theorem State.widthBegin_pause (hc : s.chip.col = .active) {rx f : Bool} {gs : BitVec 4} {re : Nat} (hk : p.kind = .width rx gs f re) (ha : p.accepted = true) :
    s.widthBegin p = ((if rx then s else s.endBurst).suspend rx p.beat (512 + s.get TIME.LEVEL_CTL.L_LEVEL), some { p with stage := 1 }) := by
  have here : s.colIn [.active, .quietRepair, .widthChange, .repair] = true := by rw [State.colIn, hc]; rfl
  simp only [State.widthBegin, hk, hs, hb, ha, here, and_self, Bool.and_self, if_true]

end

/-! ### The mask switch (R140, R143) -/

theorem maskField_width (rx : Bool) {g : Nat} (h : g ≤ 4) : (maskField rx g).lo = 0 ∧ (maskField rx g).width = groupSites g := by
  have all : ∀ rx : Bool, ∀ g ≤ 4, (maskField rx g).lo = 0 ∧ (maskField rx g).width = groupSites g := by decide
  exact all rx g h

theorem groupSites_le (g : Nat) : groupSites g ≤ 64 := by unfold groupSites; split <;> decide

/-- The mask of a group with one more site bad. -/
def State.maskSite (s : State) (rx : Bool) (g k : Nat) : State := s.put (maskField rx g) (setBit (s.get (maskField rx g)) k)

theorem State.maskSite_get (s : State) (rx : Bool) (g k : Nat) {f : Field} (h : f.key ≠ (maskField rx g).key) : (s.maskSite rx g k).get f = s.get f :=
  State.get_put_ne _ _ (Ne.symm h)

theorem State.maskSite_isBad (s : State) (rx : Bool) {g k : Nat} (hg : g ≤ 4) (hk : k < groupSites g) : (s.maskSite rx g k).isBad rx g k = true := by
  obtain ⟨lo, width⟩ := maskField_width rx hg
  have set := bit_setBit (s.get (maskField rx g)) k
  rw [State.isBad, State.maskSite, State.get_put_same _ _ _ (by rw [lo, width, Nat.zero_add]; exact groupSites_le g)]
  rw [bit_eq] at set ⊢
  rw [Nat.testBit_mod_two_pow, set, width, decide_eq_true hk]
  rfl

section
variable {s : State} {p : Proposal} {g k n : Nat} (hk : p.kind = .quiet g k n) (hs : p.stage = 1) (hb : s.reached (p.beat + 64) = true)
  (hc : s.colIn [.quietRepair, .widthChange, .lowland, .repair] = true)
include hk hs hb hc

theorem State.quietSwitch_mask (hn : n ≠ 0) : s.quietSwitch p = (s.maskSite p.own g k, some { p with stage := 2 }) := by
  simp only [State.quietSwitch, hk, hs, hb, hc, hn, and_self, if_true, if_false]
  rfl

theorem State.quietSwitch_done (hn : n = 0) : s.quietSwitch p = ((s.maskSite p.own g k).quietDone p.own g k, none) := by
  simp only [State.quietSwitch, hk, hs, hb, hc, hn, and_self, if_true]
  rfl

end

theorem State.quietSwitch_outside {s : State} (h : s.colIn [.quietRepair, .widthChange, .lowland, .repair] = false) (p : Proposal) :
    s.quietSwitch p = (s, some p) := by
  simp only [State.quietSwitch, h, and_false, Bool.false_eq_true, if_false]
  split <;> rfl

/-! ### The end of a quiet repair (R140) -/

/-- A count compares one field before and after. -/
theorem CountedOne.congr {f : Field} {s s' t t' : State} (h : CountedOne f s t) (hs : s.get f = s'.get f) (ht : t'.get f = t.get f) :
    CountedOne f s' t' := by
  rwa [CountedOne, ht, ← hs]

section
variable (s : State) (own : Bool) (g k : Nat)

@[simp] theorem State.quietDone_rep : (s.quietDone own g k).rep = s.rep := by
  simp only [State.quietDone, apply_ite State.rep, State.raise_rep, State.bump_rep, ite_self]
@[simp] theorem State.quietDone_cal : (s.quietDone own g k).cal = s.cal := by
  simp only [State.quietDone, apply_ite State.cal, State.raise_cal, State.bump_cal, ite_self]
@[simp] theorem State.quietDone_col : (s.quietDone own g k).chip.col = s.chip.col := by
  simp only [State.quietDone, apply_ite State.chip, apply_ite Chip.col, State.raise_col, State.bump_chip, ite_self]

theorem State.quietDone_keepsSettings : KeepsSettings s (s.quietDone own g k) := by
  have counted := s.bump_keepsSettings (f := REPAIR.RPR_STAT.QR_DONE) (by decide)
  unfold State.quietDone
  split
  · exact counted.trans (State.raise_keepsSettings _ _ _)
  · exact counted

theorem State.quietDone_counts : CountedOne REPAIR.RPR_STAT.QR_DONE s (s.quietDone own g k) := by
  have counted := s.get_bump_same REPAIR.RPR_STAT.QR_DONE (by decide)
  unfold State.quietDone CountedOne
  split
  · rw [State.raise_get _ _ _ _ (by decide), counted]
  · exact counted

theorem State.quietDone_raised : Raised EV.REPAIR.QR_DONE (s.quietDone true g k) := State.raise_raised _ _ _ (by decide)

end

section
variable {s : State} {p : Proposal} {g k n : Nat} (hk : p.kind = .quiet g k n) (hs : p.stage = 2)
  (hb : s.reached (p.beat + BitVec.ofNat 64 (64 * n)) = true)
include hk hs hb

theorem State.quietEnd_done {mismatch : Bool} (h : p.own = false ∨ mismatch = false) :
    State.quietEnd mismatch s p = (s.quietDone p.own g k, none) := by
  have pass : (p.own && mismatch) = false := by
    rcases h with h | h
    · rw [h, Bool.false_and]
    · rw [h, Bool.and_false]
  simp only [State.quietEnd, hk, hs, hb, pass, and_self, Bool.false_eq_true, if_true, if_false]

theorem State.quietEnd_fails (h : p.own = true) : State.quietEnd true s p =
    (((s.bump REPAIR.RPR_STAT.QR_FAIL).raise EV.REPAIR.QR_VERIFY_FAIL g).wait (.group g 3 true), none) := by
  simp only [State.quietEnd, hk, hs, hb, h, and_self, Bool.and_self, if_true]

end

end Sys2Proof.Machine
end

section
/-!
PROOFS. Pauses of quiet repairs and width changes at their beats, row by row (R136, R140, R142, R143, R145, R148, R149, R151).
-/

namespace Sys2Proof.Machine

section
variable {s : State} {now : Beat}

/-! ### QR_PAUSE_BEAT -/

theorem execQrPauseBeat_begins {p : Proposal} (hp : s.rep.props = [p]) {g k n : Nat} (hk : p.kind = .quiet g k n) (hn : n ≠ 0) (hs : p.stage = 0)
    (ha : p.accepted = true) (hb : (s.at now).reached p.beat = true) (hc : s.chip.col = .active) :
    ∃ t, execQrPauseBeat now s = .next t ∧ t.rep.props = [{ p with stage := 1 }] ∧ t.chip.col = .quietRepair ∧
      t.susp = s.susp ++ [⟨p.own, p.beat, p.beat + BitVec.ofNat 64 (64 * n + s.get TIME.LEVEL_CTL.L_LEVEL)⟩] := by
  have col : (s.at now).chip.col = .active := (s.at_col now).trans hc
  obtain ⟨susp, chip⟩ := (s.at now).suspend_silenced p.own p.own p.beat (64 * n + (s.at now).get TIME.LEVEL_CTL.L_LEVEL)
  refine ⟨_, rfl, ?_⟩
  rw [State.sweepAll_single ((s.at_rep now).symm ▸ hp) (State.quietBegin_pause hs hb col hk hn ha)]
  rw [State.pauseState_begins (by rw [State.setProps_chip, chip, col]) (State.pauseWants_quiet (p := { p with stage := 1 }) rfl (Nat.le_refl 1) hk)
    (.inl rfl), State.setCol_rep, State.setCol_col, State.setCol_susp, State.setProps_susp, susp, State.at_susp, State.at_get]
  exact ⟨rfl, rfl, rfl⟩

theorem execQrPauseBeat_void {p : Proposal} (hp : s.rep.props = [p]) {g k n : Nat} (hk : p.kind = .quiet g k n) (hs : p.stage = 0)
    (ha : p.accepted = false) (hb : (s.at now).reached p.beat = true) (hc : s.chip.col = .active) :
    ∃ t, execQrPauseBeat now s = .next t ∧ t.rep.props = [] ∧ t.chip.col = .active ∧ t.susp = s.susp := by
  have col : (s.at now).chip.col = .active := (s.at_col now).trans hc
  have kept : (((s.at now).voided p).setProps []).chip.col = .active := by rw [State.setProps_chip, State.voided_chip, col]
  refine ⟨_, rfl, ?_⟩
  rw [State.sweepAll_single ((s.at_rep now).symm ▸ hp) (State.quietBegin_void hs hb hk ha), Option.toList_none,
    State.pauseState_stays ((State.pauseWants_nil rfl).trans kept.symm)]
  exact ⟨rfl, kept, by rw [State.setProps_susp, State.voided_susp, State.at_susp]⟩

/-! ### WIDTH_CHANGE_BEAT -/

theorem execWidthChangeBeat_begins {p : Proposal} (hp : s.rep.props = [p]) {rx f : Bool} {gs : BitVec 4} {re : Nat}
    (hk : p.kind = .width rx gs f re) (hs : p.stage = 0) (ha : p.accepted = true) (hb : (s.at now).reached p.beat = true)
    (hc : s.chip.col = .active) :
    ∃ t, execWidthChangeBeat now s = .next t ∧ t.rep.props = [{ p with stage := 1 }] ∧ t.chip.col = .widthChange ∧
      t.susp = s.susp ++ [⟨rx, p.beat, p.beat + BitVec.ofNat 64 (512 + s.get TIME.LEVEL_CTL.L_LEVEL)⟩] := by
  have col : (s.at now).chip.col = .active := (s.at_col now).trans hc
  obtain ⟨susp, chip⟩ := (s.at now).suspend_silenced rx rx p.beat (512 + (s.at now).get TIME.LEVEL_CTL.L_LEVEL)
  refine ⟨_, rfl, ?_⟩
  rw [State.sweepAll_single ((s.at_rep now).symm ▸ hp) (State.widthBegin_pause hs hb col hk ha)]
  rw [State.pauseState_begins (by rw [State.setProps_chip, chip, col]) (State.pauseWants_width (p := { p with stage := 1 }) rfl (Nat.le_refl 1) hk)
    (.inr rfl), State.setCol_rep, State.setCol_col, State.setCol_susp, State.setProps_susp, susp, State.at_susp, State.at_get]
  exact ⟨rfl, rfl, rfl⟩

/-! ### QR_MASK_SWITCH -/

/-- Where the sweep's outcome calls for nothing further, verification alone may follow. -/
theorem execQrMaskSwitch_settles {u : State} (swept : (s.at now).sweepAll State.quietSwitch = u) (stays : u.pauseState = u)
    (idle : u.reevaluate = u) (low : u.rep.props.length < s.rep.props.length → u.checkLowland = u) :
    execQrMaskSwitch now s = .next u.maybeVerify := by
  simp only [execQrMaskSwitch, swept, stays, idle, State.at_rep]
  split
  · rw [low ‹_›]
  · rfl

theorem execQrMaskSwitch_mask {p : Proposal} (hp : s.rep.props = [p]) (hw : s.rep.waiting = []) (hy : s.rep.yielded = []) {g k n : Nat}
    (hk : p.kind = .quiet g k n) (hn : n ≠ 0) (hg : g ≤ 4) (hsite : k < groupSites g) (hs : p.stage = 1)
    (hb : (s.at now).reached (p.beat + 64) = true) (hd : s.rep.declined = []) (hc : s.colIn [.quietRepair, .lowland, .repair] = true) :
    ∃ t, execQrMaskSwitch now s = .next t ∧ t.rep.props = [{ p with stage := 2 }] ∧ t.isBad p.own g k = true ∧
      ∀ f : Field, f.key ≠ (maskField p.own g).key → t.get f = s.get f := by
  have states : s.chip.col = .quietRepair ∨ s.chip.col = .lowland ∨ s.chip.col = .repair := by simpa using (s.colIn_iff _).mp hc
  have here : (s.at now).colIn [.quietRepair, .widthChange, .lowland, .repair] = true := by
    rw [State.at_colIn, State.colIn]
    rcases states with h | h | h <;> rw [h] <;> rfl
  obtain ⟨u, swept, rep, regs, col⟩ : ∃ u, (s.at now).sweepAll State.quietSwitch = u ∧ u.rep = { s.rep with props := [{ p with stage := 2 }] } ∧
      u.regs = ((s.at now).maskSite p.own g k).regs ∧ u.chip.col = s.chip.col :=
    ⟨_, State.sweepAll_single ((s.at_rep now).symm ▸ hp) (State.quietSwitch_mask hk hs hb here hn),
      by rw [State.setProps_rep, State.maskSite, State.put_rep, State.at_rep]; rfl, State.setProps_regs .., s.at_col now⟩
  have stays : u.pauseState = u := by
    rcases states with h | h | h
    · refine State.pauseState_stays ?_
      rw [State.pauseWants_quiet (p := { p with stage := 2 }) (by rw [rep]) (Nat.le_succ 1) hk, col, h]
    · exact State.pauseState_none (by rw [State.colIn, col, h]; rfl)
    · exact State.pauseState_none (by rw [State.colIn, col, h]; rfl)
  have idle := State.reevaluate_idle (s := u) (by rwa [rep]) (by rwa [rep]) (by rw [rep, hd]; nofun)
  have same : ¬ u.rep.props.length < s.rep.props.length := by rw [rep, hp]; exact Nat.lt_irrefl 1
  have verified := u.maybeVerify_regs.trans regs
  refine ⟨_, execQrMaskSwitch_settles swept stays idle fun h => absurd h same, by rw [State.maybeVerify_props, rep],
    ((KeepsSettings.of_regs verified).isBad ..).trans ((s.at now).maskSite_isBad p.own hg hsite), fun f hf => ?_⟩
  rw [State.get_congr verified, State.maskSite_get _ _ _ _ hf, State.at_get]

theorem execQrMaskSwitch_outside (hc : s.colIn [.drain, .down, .fault] = true) : execQrMaskSwitch now s = .next (s.at now) := by
  have col : (s.at now).chip.col = .drain ∨ (s.at now).chip.col = .down ∨ (s.at now).chip.col = .fault := by
    simpa using (s.colIn_iff _).mp hc
  have outside {l : List ColState} (h1 : .drain ∉ l) (h2 : .down ∉ l) (h3 : .fault ∉ l) : (s.at now).colIn l = false :=
    Bool.eq_false_iff.mpr fun h => by
      have here := (State.colIn_iff _ _).mp h
      rcases col with e | e | e <;> rw [e] at here <;> contradiction
  have swept : (s.at now).sweepAll State.quietSwitch = s.at now :=
    State.sweepAll_idle (State.quietSwitch_outside (outside (by decide) (by decide) (by decide)))
  have notLow : ((s.at now).chip.col == .lowland) = false := by rcases col with h | h | h <;> rw [h] <;> rfl
  have idle : (s.at now).reevaluate = s.at now :=
    State.reevaluate_outside (by rw [State.acts, outside (by decide) (by decide) (by decide), notLow]; rfl)
  rw [execQrMaskSwitch_settles swept (State.pauseState_none (outside (by decide) (by decide) (by decide))) idle
      fun h => absurd h (by rw [State.at_rep]; exact Nat.lt_irrefl _),
    State.maybeVerify_outside (by rcases col with h | h | h <;> rw [h] <;> decide)]

/-- With N = 0 the mask switch ends the repair (R143). -/
theorem execQrMaskSwitch_done {p : Proposal} (hp : s.rep.props = [p]) (hw : s.rep.waiting = []) (hy : s.rep.yielded = []) {g k : Nat}
    (hk : p.kind = .quiet g k 0) (hg : g ≤ 4) (hsite : k < groupSites g) (hs : p.stage = 1)
    (hb : (s.at now).reached (p.beat + 64) = true) (hc : s.chip.col = .repair) (hd : s.rep.declined = []) :
    ∃ t, execQrMaskSwitch now s = .next t ∧ t.rep.props = [] ∧ t.isBad p.own g k = true ∧ CountedOne REPAIR.RPR_STAT.QR_DONE s t := by
  have here : (s.at now).colIn [.quietRepair, .widthChange, .lowland, .repair] = true := by rw [State.at_colIn, State.colIn, hc]; rfl
  obtain ⟨u, swept, rep, regs, col⟩ : ∃ u, (s.at now).sweepAll State.quietSwitch = u ∧ u.rep = { s.rep with props := [] } ∧
      u.regs = (((s.at now).maskSite p.own g k).quietDone p.own g k).regs ∧ u.chip.col = .repair :=
    ⟨_, State.sweepAll_single ((s.at_rep now).symm ▸ hp) (State.quietSwitch_done hk hs hb here rfl),
      by rw [State.setProps_rep, State.quietDone_rep, State.maskSite, State.put_rep, State.at_rep]; rfl, State.setProps_regs ..,
      by rw [State.setProps_chip, State.quietDone_col, State.maskSite, State.put_chip, State.at_col, hc]⟩
  have stays := State.pauseState_none (s := u) (by rw [State.colIn, col]; rfl)
  have idle := State.reevaluate_idle (s := u) (by rwa [rep]) (by rwa [rep]) (by rw [rep, hd]; nofun)
  have low := State.checkLowland_outside (s := u) (by rw [col]; decide)
  have verified := u.maybeVerify_regs.trans regs
  have bad := (((s.at now).maskSite p.own g k).quietDone_keepsSettings p.own g k).isBad p.own g k
  have apart : REPAIR.RPR_STAT.QR_DONE.key ≠ (maskField p.own g).key := fun e => by
    have := reportKey_maskField p.own g
    rw [← e] at this
    revert this
    decide
  have before := ((s.at now).maskSite_get p.own g k apart).trans (s.at_get now _)
  exact ⟨_, execQrMaskSwitch_settles swept stays idle fun _ => low, by rw [State.maybeVerify_props, rep],
    ((KeepsSettings.of_regs verified).isBad ..).trans (bad.trans ((s.at now).maskSite_isBad p.own hg hsite)),
    (((s.at now).maskSite p.own g k).quietDone_counts p.own g k).congr before (State.get_congr verified _)⟩

/-! ### QR_RESUME -/

theorem execQrResume_done {p : Proposal} (hp : s.rep.props = [p]) (hw : s.rep.waiting = []) (hy : s.rep.yielded = []) {g k n : Nat}
    {mismatch : Bool} (hk : p.kind = .quiet g k n) (hs : p.stage = 2) (hb : (s.at now).reached (p.beat + BitVec.ofNat 64 (64 * n)) = true)
    (hm : p.own = false ∨ mismatch = false) (hc : s.chip.col = .quietRepair) (ha : s.cal.again = false) (hsp : s.sparesSpent = false)
    (hd : s.rep.declined = []) (hf : s.get CAL.RUN_STAT.FAILS ≠ 3) :
    ∃ t, execQrResume now mismatch s = .next t ∧ t.rep.props = [] ∧ t.chip.col = .active ∧ CountedOne REPAIR.RPR_STAT.QR_DONE s t ∧
      (p.own = true → Raised EV.REPAIR.QR_DONE t) := by
  have swept := State.sweepAll_single ((s.at_rep now).symm ▸ hp) (State.quietEnd_done hk hs hb hm)
  have doneRep : (((s.at now).quietDone p.own g k).setProps []).rep = { s.rep with props := [] } := by
    rw [State.setProps_rep, State.quietDone_rep, State.at_rep]
  have doneCol : (((s.at now).quietDone p.own g k).setProps []).colIn [.quietRepair, .widthChange] = true := by
    rw [State.colIn, State.setProps_chip, State.quietDone_col, State.at_col, hc]; rfl
  have kept : KeepsSettings s (((s.at now).quietDone p.own g k).setProps []) :=
    (s.at_keepsSettings now).trans (((s.at now).quietDone_keepsSettings p.own g k).trans (.of_regs rfl))
  have resumed := State.resumes_idle doneCol rfl (by rw [State.setProps_cal, State.quietDone_cal, State.at_cal, ha]) (by rwa [doneRep])
    (by rwa [doneRep]) (by rwa [doneRep]) (kept.sparesSpent.trans hsp) (by rwa [kept _ (by decide)])
  refine ⟨_, rfl, ?_⟩
  simp only [swept, Option.toList_none, State.at_rep, hp, doneRep, List.length_nil, List.length_singleton, Nat.zero_lt_one, if_true]
  refine ⟨by rw [resumed.rep, doneRep], resumed.col, ?_, fun ho => resumed.raised ?_⟩
  · exact ((s.at now).quietDone_counts p.own g k).congr (s.at_get now _) (resumed.get _ (by decide) (by decide))
  · rw [ho]
    exact (State.quietDone_raised (s.at now) g k).kept rfl rfl rfl rfl

end

end Sys2Proof.Machine
end

section
/-!
PROOFS. A quiet repair whose verification fails, and the switch and the end of width changes (R135, R136, R140, R145, R148, R149).
-/

namespace Sys2Proof.Machine

/-! ### QR_RESUME with a mismatch (R136, R140) -/

/-- A group that waited is lost once no pause of its direction is left (R136). -/
theorem State.evalTrigger_group {s : State} {g : Nat} (hp : s.parked = false) (hn : s.rep.props = []) {rx : Bool} (hg : bit (s.groups rx) g = true)
    (reason : Nat) : s.evalTrigger (.group g reason rx) = s.loseGroup rx g reason (siteIndex g 0) := by
  simp only [State.evalTrigger, hp, State.dirBusy, hn, List.any_nil, hg, Bool.true_or, Bool.false_eq_true, if_false, if_true]

section
variable {s : State} {now : Beat}

/-- The state in which a repair has failed its verification. -/
def State.failed (s : State) (g : Nat) : State :=
  (((s.bump REPAIR.RPR_STAT.QR_FAIL).raise EV.REPAIR.QR_VERIFY_FAIL g).wait (.group g 3 true)).setProps []

theorem State.failed_frame (s : State) (g : Nat) (hw : s.rep.waiting = []) :
    (s.failed g).rep = { s.rep with props := [], waiting := [.group g 3 true] } ∧ (s.failed g).cal = s.cal ∧
    (s.failed g).chip.col = s.chip.col ∧ (s.failed g).beat = s.beat ∧ (s.failed g).regs =
      ((s.bump REPAIR.RPR_STAT.QR_FAIL).raise EV.REPAIR.QR_VERIFY_FAIL g).regs ∧
    (s.failed g).chip = ((s.bump REPAIR.RPR_STAT.QR_FAIL).raise EV.REPAIR.QR_VERIFY_FAIL g).chip := by
  have rep : ((s.bump REPAIR.RPR_STAT.QR_FAIL).raise EV.REPAIR.QR_VERIFY_FAIL g).rep = s.rep := by rw [State.raise_rep, State.bump_rep]
  rw [State.failed, State.wait_first (by rwa [rep])]
  refine ⟨?_, ?_, ?_, ?_, rfl, rfl⟩
  · rw [State.setProps_rep, rep]
  · exact (State.raise_cal ..).trans (State.bump_cal ..)
  · exact (State.raise_col ..).trans (congrArg Chip.col (State.bump_chip ..))
  · exact (State.raise_beat ..).trans (State.bump_beat ..)

theorem execQrResume_fails {p : Proposal} (hp : s.rep.props = [p]) (hw : s.rep.waiting = []) (hy : s.rep.yielded = []) {g k n : Nat}
    (hk : p.kind = .quiet g k n) (hs : p.stage = 2) (hb : (s.at now).reached (p.beat + BitVec.ofNat 64 (64 * n)) = true) (ho : p.own = true)
    (hg : g < 4) (hin : bit (s.groups true) g = true) (hleft : clearBit (s.groups true) g ≠ 0) (hcap : s.cap 7 = true)
    (hl : s.levelAgreed = false) (hpark : s.parked = false) (hc : s.chip.col = .quietRepair) (ha : s.cal.again = false)
    (hsp : s.sparesSpent = false) (hd : s.rep.declined = []) (hf : s.get CAL.RUN_STAT.FAILS ≠ 3) :
    ∃ t, execQrResume now true s = .next t ∧ CountedOne REPAIR.RPR_STAT.QR_FAIL s t ∧ Raised EV.REPAIR.QR_VERIFY_FAIL t ∧
      Proposes (.width true (BitVec.ofNat 4 (clearBit (s.groups true) g)) false 3) { s.at now with rep := { s.rep with props := [] } } t := by
  have swept : (s.at now).sweepAll (State.quietEnd true) = (s.at now).failed g :=
    State.sweepAll_single ((s.at_rep now).symm ▸ hp) (State.quietEnd_fails hk hs hb ho)
  obtain ⟨rep, cal, col, beat, regs, chip⟩ := (s.at now).failed_frame g (by rwa [State.at_rep])
  rw [State.at_rep] at rep
  have kept : KeepsSettings s ((s.at now).failed g) := (s.at_keepsSettings now).trans
    (((s.at now).bump_keepsSettings (by decide)).trans ((State.raise_keepsSettings _ _ _).trans (.of_regs regs)))
  have ends := State.pauseState_ends (s := (s.at now).failed g) (by rw [State.colIn, col, State.at_col, hc]; rfl) (by rw [rep])
    (by rw [cal, State.at_cal, ha])
  have resumed := ((s.at now).failed g).setCol_pairEnter_resumed
  revert ends resumed
  generalize (((s.at now).failed g).setCol .active).pairEnter = u
  intro ends resumed
  have settings := kept.trans resumed.keepsSettings
  have acts : u.acts = true := by rw [State.acts, State.colIn, resumed.col]; rfl
  have freed : KeepsSettings s u.noneWaiting := settings.trans (.of_regs rfl)
  have freedRep : u.noneWaiting.rep = { s.rep with props := [] } := by rw [State.noneWaiting, resumed.rep, rep, ← hw]
  have freedCol : u.noneWaiting.chip.col = .active := resumed.col
  have evaluated : u.reevaluate = u.noneWaiting.propose (.width true (BitVec.ofNat 4 (clearBit (s.groups true) g)) false 3) := by
    rw [State.reevaluate_one (t := .group g 3 true) (by rwa [resumed.rep, rep]) (by rw [resumed.rep, rep]) (by rwa [resumed.rep, rep]),
      if_pos acts, State.evalTrigger_group (freed.parked.trans hpark) (by rw [freedRep]) (by rwa [freed.groups]),
      State.loseGroup_width hg (by rw [freedCol]; decide) (by rwa [freed.groups]) ((freed.cap 7).trans hcap)
        (freed.levelAgreed.trans hl),
      freed.groups]
  generalize PropKind.width true (BitVec.ofNat 4 (clearBit (s.groups true) g)) false 3 = kind at evaluated ⊢
  have only := u.noneWaiting.propose_proposalsOnly kind
  have after := freed.trans only.keepsSettings
  have low := State.checkLowland_idle (after.sparesSpent.trans hsp) (by rwa [after _ (by decide)])
  refine ⟨_, rfl, ?_⟩
  simp only [swept, ends, evaluated, low, rep, State.at_rep, hp, List.length_nil, List.length_singleton, Nat.zero_lt_one, if_true]
  have got {f : Field} (h1 : IDENT.IDENT_STAT.OWN_STATUS.key ≠ f.key) (h2 : PAIR.ROLE_STAT.PROLE.key ≠ f.key) :=
    (only.get f).trans ((resumed.get f h1 h2).trans (State.get_congr regs f))
  refine ⟨?_, ?_, ?_⟩
  · have counted := (s.at now).get_bump_same REPAIR.RPR_STAT.QR_FAIL (by decide)
    rw [CountedOne, got (by decide) (by decide), State.raise_get _ _ _ _ (by decide), counted, State.at_get]
  · have mark := ((s.at now).bump REPAIR.RPR_STAT.QR_FAIL).raise_raised EV.REPAIR.QR_VERIFY_FAIL g (by decide)
    have before : Raised EV.REPAIR.QR_VERIFY_FAIL ((s.at now).failed g) :=
      mark.kept (State.get_congr regs _) (State.get_congr regs _) (by rw [chip]) (by rw [chip])
    exact only.raised (Raised.kept (resumed.raised before) rfl rfl rfl rfl)
  · have proposes := u.noneWaiting.propose_proposes kind
    rw [State.cleared_nil (by rw [freedRep])] at proposes
    exact proposes.congr (by rw [freedRep]) (resumed.beat.trans beat)

/-! ### WIDTH_SWITCH (R135, R148, R149) -/

theorem State.groups_lt (s : State) (rx : Bool) : s.groups rx < 2 ^ 4 := by
  cases rx
  · exact bits_lt ..
  · exact bits_lt ..

theorem State.setGroups_groups (s : State) (rx : Bool) {gs : Nat} (h : gs < 2 ^ 4) : (s.setGroups rx gs).groups rx = gs := by
  cases rx
  · exact (s.get_put_same REPAIR.WIDTH_STAT.TX_GROUPS gs (by decide)).trans (Nat.mod_eq_of_lt h)
  · exact (s.get_put_same REPAIR.WIDTH_STAT.RX_GROUPS gs (by decide)).trans (Nat.mod_eq_of_lt h)

theorem State.setGroups_other (s : State) (rx : Bool) (gs : Nat) : (s.setGroups rx gs).groups (!rx) = s.groups (!rx) := by
  cases rx
  · exact s.get_put_apart (f := REPAIR.WIDTH_STAT.TX_GROUPS) (g := REPAIR.WIDTH_STAT.RX_GROUPS) gs (by decide)
  · exact s.get_put_apart (f := REPAIR.WIDTH_STAT.RX_GROUPS) (g := REPAIR.WIDTH_STAT.TX_GROUPS) gs (by decide)

theorem State.setGroups_rep (s : State) (rx : Bool) (gs : Nat) : (s.setGroups rx gs).rep = s.rep := by cases rx <;> rfl
theorem State.setGroups_col (s : State) (rx : Bool) (gs : Nat) : (s.setGroups rx gs).chip.col = s.chip.col := by cases rx <;> rfl

/-- Either direction may be the one that is left without a group. -/
theorem State.noGroup_comm (s : State) (rx : Bool) : (s.groups true == 0 || s.groups false == 0) = (s.groups rx == 0 || s.groups (!rx) == 0) := by
  cases rx
  · exact Bool.or_comm ..
  · rfl

/-- The groups that a command of firmware removes are remembered for RETRAIN (R149). -/
def State.remember (s : State) (rx : Bool) (removed : BitVec 4) : State :=
  if rx then { s with rep := { s.rep with cmdRx := s.rep.cmdRx ||| removed } } else { s with rep := { s.rep with cmdTx := s.rep.cmdTx ||| removed } }

theorem State.remember_cmd (s : State) (rx : Bool) (removed : BitVec 4) :
    (if rx then (s.remember rx removed).rep.cmdRx else (s.remember rx removed).rep.cmdTx) =
      (if rx then s.rep.cmdRx else s.rep.cmdTx) ||| removed := by cases rx <;> rfl
theorem State.remember_regs (s : State) (rx : Bool) (removed : BitVec 4) : (s.remember rx removed).regs = s.regs := by cases rx <;> rfl
theorem State.remember_chip (s : State) (rx : Bool) (removed : BitVec 4) : (s.remember rx removed).chip = s.chip := by cases rx <;> rfl

section
variable {p : Proposal} {rx f : Bool} {gs : BitVec 4} {re : Nat} (hp : s.rep.props = [p]) (hk : p.kind = .width rx gs f re) (hs : p.stage = 1)
  (hb : (s.at now).reached (p.beat + 64) = true)

/-- The state with the groups switched. -/
def State.switched (s : State) (rx : Bool) (gs : BitVec 4) (re : Nat) : State :=
  if re ≠ 0 then s.setGroups rx (s.groups rx &&& gs.toNat)
  else (s.setGroups rx (s.groups rx &&& gs.toNat)).remember rx (BitVec.ofNat 4 (s.groups rx) &&& ~~~ gs)

theorem State.switched_regs (s : State) (rx : Bool) (gs : BitVec 4) (re : Nat) :
    (s.switched rx gs re).regs = (s.setGroups rx (s.groups rx &&& gs.toNat)).regs := by
  simp only [State.switched, apply_ite State.regs, State.remember_regs, ite_self]
theorem State.switched_col (s : State) (rx : Bool) (gs : BitVec 4) (re : Nat) : (s.switched rx gs re).chip.col = s.chip.col := by
  simp only [State.switched, apply_ite State.chip, State.remember_chip, ite_self, State.setGroups_col]

theorem State.groups_congr {s t : State} (h : t.regs = s.regs) (rx : Bool) : t.groups rx = s.groups rx := (KeepsSettings.of_regs h).groups rx

theorem State.switched_groups (s : State) (rx : Bool) (gs : BitVec 4) (re : Nat) :
    (s.switched rx gs re).groups rx = s.groups rx &&& gs.toNat ∧ (s.switched rx gs re).groups (!rx) = s.groups (!rx) := by
  have regs := s.switched_regs rx gs re
  rw [State.groups_congr regs, State.groups_congr regs]
  exact ⟨s.setGroups_groups rx (Nat.lt_of_le_of_lt Nat.and_le_left (s.groups_lt rx)), s.setGroups_other rx _⟩

include hp hk hs hb

theorem widthSwitch_sweep : (s.at now).sweepAll State.widthSwitch = ((s.at now).switched rx gs re).setProps [{ p with stage := 2 }] := by
  refine State.sweepAll_single ((s.at_rep now).symm ▸ hp) (o := some _) ?_
  simp only [State.widthSwitch, hk, hs, hb, and_self, if_true]
  rfl

theorem execWidthSwitch_switches (hleft : s.groups rx &&& gs.toNat ≠ 0) (hother : s.groups (!rx) ≠ 0) :
    ∃ t, execWidthSwitch now s = .next t ∧ t.rep.props = [{ p with stage := 2 }] ∧ t.groups rx = s.groups rx &&& gs.toNat ∧
      t.groups (!rx) = s.groups (!rx) ∧
      (re ≠ 0 → t.rep.cmdRx = s.rep.cmdRx ∧ t.rep.cmdTx = s.rep.cmdTx) ∧
      (re = 0 → (if rx then t.rep.cmdRx else t.rep.cmdTx) =
        (if rx then s.rep.cmdRx else s.rep.cmdTx) ||| (BitVec.ofNat 4 (s.groups rx) &&& ~~~ gs)) := by
  have now_groups := (s.at_keepsSettings now).groups
  obtain ⟨same, other⟩ := (s.at now).switched_groups rx gs re
  rw [now_groups] at same other
  have held : ((((s.at now).switched rx gs re).setProps [{ p with stage := 2 }]).groups true == 0 ||
      (((s.at now).switched rx gs re).setProps [{ p with stage := 2 }]).groups false == 0) = false := by
    rw [State.noGroup_comm _ rx, State.groups_congr (State.setProps_regs ..), State.groups_congr (State.setProps_regs ..), same, other,
      beq_eq_false_iff_ne.mpr hleft, beq_eq_false_iff_ne.mpr hother]
    rfl
  refine ⟨_, rfl, ?_⟩
  simp only [widthSwitch_sweep hp hk hs hb, held, Bool.and_false, Bool.false_eq_true, if_false]
  rw [State.groups_congr (State.setProps_regs ..), State.groups_congr (State.setProps_regs ..), State.setProps_rep]
  refine ⟨rfl, same, other, fun h => ?_, fun h => ?_⟩
  · rw [State.switched, if_pos h, State.setGroups_rep, State.at_rep]
    exact ⟨rfl, rfl⟩
  · rw [State.switched, if_neg (not_not.mpr h)]
    refine (State.remember_cmd _ rx _).trans ?_
    rw [State.setGroups_rep, State.at_rep, now_groups]

/-- Without a group left the Col ends (R135). -/
theorem execWidthSwitch_ends (hnone : s.groups rx &&& gs.toNat = 0) (hc : s.chip.col = .widthChange) :
    ∃ t, execWidthSwitch now s = .next t ∧ t.chip.col = .fault := by
  obtain ⟨same, -⟩ := (s.at now).switched_groups rx gs re
  rw [(s.at_keepsSettings now).groups, hnone] at same
  have col : (((s.at now).switched rx gs re).setProps [{ p with stage := 2 }]).chip.col = .widthChange := by
    rw [State.setProps_chip, State.switched_col, State.at_col, hc]
  have lost : ((((s.at now).switched rx gs re).setProps [{ p with stage := 2 }]).groups true == 0 ||
      (((s.at now).switched rx gs re).setProps [{ p with stage := 2 }]).groups false == 0) = true := by
    rw [State.noGroup_comm _ rx, State.groups_congr (State.setProps_regs ..), same]
    rfl
  refine ⟨_, rfl, ?_⟩
  rw [widthSwitch_sweep hp hk hs hb, lost, if_pos (by rw [State.colIn, col]; rfl)]
  exact State.goFault_col _ _ _ (by rw [col]; decide)

end

/-! ### WIDTH_RESUME (R136, R145, R148) -/

theorem State.setLevelStat_lMin (s : State) (a b : Nat) :
    (s.setLevelStat a b).get TIME.LEVEL_STAT.L_MIN = a % 2 ^ 8 ∧ (s.setLevelStat a b).get TIME.LEVEL_STAT.L_RPL = b % 2 ^ 8 := by
  refine ⟨?_, State.get_put_same _ _ _ (by decide)⟩
  rw [State.setLevelStat, State.get_put_apart _ _ (by decide)]
  exact State.get_put_same _ _ _ (by decide)

/-- The state with a width change ended, before LEVEL_STAT follows. -/
def State.widthDone (s : State) (v : Nat) : State := ((s.bump REPAIR.RPR_STAT.WIDTH).raise EV.REPAIR.WIDTH_CHANGED v).setProps []

section
variable (s : State) (v : Nat)

theorem State.widthDone_rep : (s.widthDone v).rep = { s.rep with props := [] } := by
  rw [State.widthDone, State.setProps_rep, State.raise_rep, State.bump_rep]
theorem State.widthDone_cal : (s.widthDone v).cal = s.cal := by rw [State.widthDone, State.setProps_cal, State.raise_cal, State.bump_cal]
theorem State.widthDone_col : (s.widthDone v).chip.col = s.chip.col := by
  rw [State.widthDone, State.setProps_chip, State.raise_col, State.bump_chip]
theorem State.widthDone_regs : (s.widthDone v).regs = ((s.bump REPAIR.RPR_STAT.WIDTH).raise EV.REPAIR.WIDTH_CHANGED v).regs := State.setProps_regs ..

theorem State.widthDone_keepsSettings : KeepsSettings s (s.widthDone v) :=
  (s.bump_keepsSettings (by decide)).trans ((State.raise_keepsSettings _ _ _).trans (.of_regs (s.widthDone_regs v)))

theorem State.widthDone_counts : CountedOne REPAIR.RPR_STAT.WIDTH s (s.widthDone v) := by
  rw [CountedOne, State.get_congr (s.widthDone_regs v), State.raise_get _ _ _ _ (by decide), State.get_bump_same _ _ (by decide)]

theorem State.widthDone_raised : Raised EV.REPAIR.WIDTH_CHANGED (s.widthDone v) :=
  Raised.kept (State.raise_raised (s.bump REPAIR.RPR_STAT.WIDTH) _ v (by decide)) rfl rfl rfl rfl

end

/-- From `s` to `t` LEVEL_STAT has taken its values, with L_MIN at `lmin`, and perhaps an event of Level delivery was raised (R368, R369). -/
structure Levelled (lmin : Nat) (s t : State) : Prop where
  rep : t.rep = s.rep
  cal : t.cal = s.cal
  col : t.chip.col = s.chip.col
  settings : KeepsSettings s t
  lMin : t.get TIME.LEVEL_STAT.L_MIN = lmin
  counted : t.get REPAIR.RPR_STAT.WIDTH = s.get REPAIR.RPR_STAT.WIDTH
  raised : ∀ e, Raised e s → Raised e t

/-- LEVEL_STAT follows the groups in use, and L_MIN is what they need. -/
theorem State.setLevelStat_levelled (s : State) (a b : Nat) : Levelled (a % 2 ^ 8) s (s.setLevelStat a b) where
  rep := rfl
  cal := rfl
  col := rfl
  settings := (s.put_keepsSettings (f := TIME.LEVEL_STAT.L_MIN) (by decide) a).trans (State.put_keepsSettings _ (by decide) b)
  lMin := (s.setLevelStat_lMin a b).1
  counted := (State.get_put_ne _ _ (by decide)).trans (State.get_put_ne _ _ (by decide))
  raised e h := by
    have apart (t : State) (f : Field) (w : Nat) (hf : f.key = 0x9110) : (t.put f w).get (PAGE.EVT_STAT e.page) = t.get (PAGE.EVT_STAT e.page) :=
      t.get_put_ne w (by rw [hf]; simp only [PAGE.EVT_STAT]; omega)
    exact h.kept ((apart _ _ _ rfl).trans (apart _ _ _ rfl)) ((State.get_put_ne _ _ (by decide)).trans (State.get_put_ne _ _ (by decide))) rfl rfl

theorem Levelled.levelBelow {lmin : Nat} {s t : State} (h : Levelled lmin s t) : Levelled lmin s t.levelBelow := by
  unfold State.levelBelow
  split
  · exact ⟨(State.raise_rep ..).trans h.rep, (State.raise_cal ..).trans h.cal, (State.raise_col ..).trans h.col,
      h.settings.trans (State.raise_keepsSettings _ _ _), (State.raise_get _ _ _ _ (by decide)).trans h.lMin,
      (State.raise_get _ _ _ _ (by decide)).trans h.counted, fun e he => (h.raised e he).raise _ _⟩
  · exact h

theorem State.refreshLevel_levelled {s : State} (hc : s.chip.col ≠ .lowland) :
    Levelled (s.lMinFor (s.groups true) (s.groups false) % 2 ^ 8) s s.refreshLevel := by
  unfold State.refreshLevel
  rw [if_neg hc]
  exact s.setLevelStat_levelled ..

theorem State.widthEnd_done {s : State} {p : Proposal} {rx f : Bool} {gs : BitVec 4} {re : Nat} (hk : p.kind = .width rx gs f re) (hs : p.stage = 2)
    (hb : s.reached (p.beat + 512) = true) :
    s.widthEnd p = ((s.bump REPAIR.RPR_STAT.WIDTH).raise EV.REPAIR.WIDTH_CHANGED (b2n rx + s.groups rx * 2), none) := by
  simp only [State.widthEnd, hk, hs, hb, and_self, if_true]

theorem execWidthResume_ends {p : Proposal} (hp : s.rep.props = [p]) (hw : s.rep.waiting = []) (hy : s.rep.yielded = []) {rx f : Bool}
    {gs : BitVec 4} {re : Nat} (hk : p.kind = .width rx gs f re) (hs : p.stage = 2) (hb : (s.at now).reached (p.beat + 512) = true)
    (hc : s.chip.col = .widthChange) (ha : s.cal.again = false) (hsp : s.sparesSpent = false) (hd : s.rep.declined = [])
    (hf : s.get CAL.RUN_STAT.FAILS ≠ 3) :
    ∃ t, execWidthResume now s = .next t ∧ t.rep.props = [] ∧ t.chip.col = .active ∧ CountedOne REPAIR.RPR_STAT.WIDTH s t ∧
      Raised EV.REPAIR.WIDTH_CHANGED t ∧ t.get TIME.LEVEL_STAT.L_MIN = s.lMinFor (s.groups true) (s.groups false) % 2 ^ 8 := by
  obtain ⟨v, swept⟩ : ∃ v, (s.at now).sweepAll State.widthEnd = (s.at now).widthDone v :=
    ⟨_, State.sweepAll_single ((s.at_rep now).symm ▸ hp) (State.widthEnd_done hk hs hb)⟩
  have rep := (s.at now).widthDone_rep v
  rw [State.at_rep] at rep
  have col : ((s.at now).widthDone v).chip.col = .widthChange := by rw [State.widthDone_col, State.at_col, hc]
  have kept : KeepsSettings s ((s.at now).widthDone v) := (s.at_keepsSettings now).trans ((s.at now).widthDone_keepsSettings v)
  have levelled := (State.refreshLevel_levelled (s := (s.at now).widthDone v) (by rw [col]; decide)).levelBelow
  rw [kept.groups, kept.groups, kept.lMinFor] at levelled
  have settings := kept.trans levelled.settings
  have resumed := State.resumes_idle (s := ((s.at now).widthDone v).refreshLevel.levelBelow)
    (by rw [State.colIn, levelled.col, col]; rfl) (by rw [levelled.rep, rep]) (by rw [levelled.cal, State.widthDone_cal, State.at_cal, ha])
    (by rw [levelled.rep, rep]; exact hw) (by rw [levelled.rep, rep]; exact hy) (by rw [levelled.rep, rep]; exact hd)
    (settings.sparesSpent.trans hsp) (by rwa [settings _ (by decide)])
  refine ⟨_, rfl, ?_⟩
  simp only [swept, rep, State.at_rep, hp, List.length_nil, List.length_singleton, Nat.zero_lt_one, if_true]
  rw [State.maybeVerify_outside (by rw [resumed.col]; decide)]
  refine ⟨by rw [resumed.rep, levelled.rep, rep], resumed.col, ?_, resumed.raised (levelled.raised _ ((s.at now).widthDone_raised v)), ?_⟩
  · exact ((s.at now).widthDone_counts v).congr (s.at_get now _) ((resumed.get _ (by decide) (by decide)).trans levelled.counted)
  · rw [resumed.get _ (by decide) (by decide), levelled.lMin]

end

end Sys2Proof.Machine
end

section
/-!
PROOFS. What leaves the Col state and its step alone: the engine, the windows, the token, the DMA channels, and the register writes of an
overlay (R155, R389, R391, R400, R468, R469).
-/

namespace Sys2Proof.Machine

/-- The Col state and its step. -/
def State.place (s : State) : ColState × Nat := (s.chip.col, s.chip.step)

theorem State.col_of_place {s : State} {c : ColState} {n : Nat} (h : s.place = (c, n)) : s.chip.col = c := congrArg Prod.fst h
theorem State.step_of_place {s : State} {c : ColState} {n : Nat} (h : s.place = (c, n)) : s.chip.step = n := congrArg Prod.snd h

theorem State.place_congr {s t : State} (h : t.chip = s.chip) : t.place = s.place := by rw [State.place, State.place, h]

/-! ### Shared operations -/

section
variable (s : State)

@[simp] theorem State.setReg_place (k : Nat) (w : Word) : (s.setReg k w).place = s.place := State.place_congr (s.setReg_chip k w)
@[simp] theorem State.put_place (f : Field) (v : Nat) : (s.put f v).place = s.place := State.place_congr (s.put_chip f v)
@[simp] theorem State.bump_place (f : Field) : (s.bump f).place = s.place := State.place_congr (s.bump_chip f)
@[simp] theorem State.bumpBy_place (f : Field) (n : Nat) : (s.bumpBy f n).place = s.place := State.place_congr (s.bumpBy_chip f n)
@[simp] theorem State.deliver_place (p b v : Nat) (fo : Bool) : (s.deliver p b v fo).place = s.place := State.place_congr (s.deliver_chip p b v fo)
@[simp] theorem State.emit_place (o : Out) : (s.emit o).place = s.place := State.place_congr (s.emit_chip o)
@[simp] theorem State.setTxn_place (f : Txns → Txns) : (s.setTxn f).place = s.place := State.place_congr (s.setTxn_chip f)
@[simp] theorem State.setLnk_place (f : Link → Link) : (s.setLnk f).place = s.place := State.place_congr (s.setLnk_chip f)
@[simp] theorem State.setPair_place (f : Pair → Pair) : (s.setPair f).place = s.place := State.place_congr (s.setPair_chip f)
@[simp] theorem State.setChan_place (n : Nat) (f : DmaChan → DmaChan) : (s.setChan n f).place = s.place := State.place_congr (s.setChan_chip n f)
@[simp] theorem State.setPwr_place (f : Power → Power) : (s.setPwr f).place = s.place := State.place_congr (s.setPwr_chip f)
@[simp] theorem State.draw_place : s.draw.2.place = s.place := rfl
@[simp] theorem State.dropWinWork_place (n : Nat) : (s.dropWinWork n).place = s.place := rfl

@[simp] theorem State.raise_place (e : Event) (v : Nat) : (s.raise e v).place = s.place := by
  obtain ⟨_, _, h⟩ := s.raise_chip e v
  rw [State.place, h]
  rfl

@[simp] theorem State.setTblPart_place (i : Nat) (w : Word) : (s.setTblPart i w).place = s.place := by
  obtain ⟨_, _, h⟩ := s.setTblPart_eq i w
  rw [h]
  rfl

/-! ### Run-ahead results, answers and credits (R203, R225, R231) -/

@[simp] theorem State.discardAhead_place (gone : Ahead → Bool) : (s.discardAhead gone).place = s.place := by
  simp only [State.discardAhead, State.bumpBy_place, State.dropReads, State.setPrefetch, State.setTxn_place]
@[simp] theorem State.cancelAll_place : s.cancelAll.place = s.place := by
  simp only [State.cancelAll, State.cancelFrom, State.put_place, State.discardAhead_place, State.setLnk_place, State.emit_place]

theorem State.undefUnits_place (n : Nat) : (s.undefUnits n).2.place = s.place := by
  induction n generalizing s with
  | zero => rfl
  | succ n ih => exact (ih _).trans s.draw_place

@[simp] theorem State.respond_place (q : Hdr) (st : Status) (vfmt : Nat) (units : List Nat) : (s.respond q st vfmt units).place = s.place := by
  simp only [State.respond, apply_ite State.place, apply_ite Prod.snd, State.bump_place, State.setTxn_place, State.setLnk_place,
    State.undefUnits_place, ite_self]
@[simp] theorem State.freeRequest_place (h : Hdr) : (s.freeRequest h).place = s.place := by
  unfold State.freeRequest
  split
  · exact foldl_keeps State.place (fun t c => by simp only [State.freeCredit, apply_ite State.place, State.put_place, ite_self]) _ s
  · rfl
@[simp] theorem State.retryToken_place : s.retryToken.place = s.place :=
  (foldl_keeps State.place (fun t q => by rw [State.freeRequest_place, State.respond_place]) _ _).trans
    ((State.setTxn_place ..).trans (State.discardAhead_place ..))

/-! ### Windows and the token (R343, R400, R456) -/

@[simp] theorem State.endWindows_place : s.endWindows.place = s.place := by
  have fails (t : State) (n : Nat) : (t.failWindow n [4] false).place = t.place := by
    simp only [State.failWindow, Bool.false_eq_true, if_false, List.foldl_cons, List.foldl_nil, State.raise_place, State.setOutcome, State.setWin,
      State.setTblPart_place, State.dropWinWork_place]
  have frees (t : State) (n : Nat) : (t.freeWindow n).place = t.place := by
    simp only [State.freeWindow, State.setWin, State.setTblPart_place, State.dropWinWork_place]
  exact (foldl_keeps State.place frees _ _).trans (foldl_keeps State.place fails _ s)

theorem State.reportLost_place (c cause : Nat) : (s.reportLost c cause).place = s.place := by
  have marked : (s.markLost c).place = s.place := by simp only [State.markLost, apply_ite State.place, State.setTblPart_place, ite_self]
  unfold State.reportLost
  dsimp only
  rw [State.raise_place]
  split
  · exact marked
  · exact marked

@[simp] theorem State.releaseWindows_place : s.releaseWindows.place = s.place :=
  (foldl_keeps State.place (fun t c => t.reportLost_place c 7) _ _).trans s.endWindows_place

@[simp] theorem State.sendWord_place : s.sendWord.place = s.place := by
  obtain ⟨_, _, _, h⟩ := s.sendWord_frame
  rw [h]
  rfl
@[simp] theorem State.setProle_place (r : Nat) : (s.setProle r).place = s.place := by
  simp only [State.setProle, State.sendWord_place, State.setPair_place, State.put_place, apply_ite State.place, State.readAgain, State.setPrefetch,
    State.setTxn_place, ite_self]
@[simp] theorem State.pairEnter_place : s.pairEnter.place = s.place := by
  simp only [State.pairEnter, apply_ite State.place, State.setProle_place, State.setPair_place, ite_self]
@[simp] theorem State.releaseToken_place (cause : Nat) (settled : Bool) : (s.releaseToken cause settled).place = s.place := by
  simp only [State.releaseToken, State.raise_place, State.setProle_place, State.setPair_place, State.bump_place, apply_ite State.place,
    State.releaseWindows_place, State.retryToken_place, ite_self]
@[simp] theorem State.leaveService_place (settled : Bool) : (s.leaveService settled).place = s.place := by
  simp only [State.leaveService, apply_ite State.place, State.endWindows_place, State.setPair_place, State.releaseToken_place, State.setProle_place,
    ite_self]

/-! ### The DMA channels (R379, R383, R386, R389) -/

@[simp] theorem State.seeRoute_place (r : Route) : (s.seeRoute r).place = s.place := by
  cases r with
  | bad p c => simp only [State.seeRoute, State.bindBad, State.raise_place, State.put_place, State.bump_place]
  | direct | engine | answer => rfl
theorem State.noteWrite_place (g : Nat) : (s.noteWrite g).place = s.place := by
  simp only [State.noteWrite, apply_ite State.place, State.setTxn_place, State.bump_place, ite_self]

variable (n : Nat)

@[simp] theorem State.setAcc_place (l : List DmaAccess) : (s.setAcc n l).place = s.place := by
  simp only [State.setAcc, State.put_place, State.setChan_place]
@[simp] theorem State.addAcc_place (a : DmaAccess) : (s.addAcc n a).place = s.place := s.setAcc_place n _
@[simp] theorem State.endAcc_place (a : DmaAccess) : (s.endAcc n a).place = s.place := s.setAcc_place n _
@[simp] theorem State.chWait_place (on : Nat) : (s.chWait n on).place = s.place := by simp only [State.chWait, State.put_place]
@[simp] theorem State.chRun_place : (s.chRun n).place = s.place := by simp only [State.chRun, apply_ite State.place, State.put_place, ite_self]
@[simp] theorem State.cqIssue_place (kind err user : Nat) : (s.cqIssue n kind err user).place = s.place := by
  have noted (t : State) (a k : Nat) : (t.noteWrites a k).place = t.place := foldl_keeps State.place State.noteWrite_place _ t
  simp only [State.cqIssue, State.put_place, State.addAcc_place, noted, State.emit_place]
@[simp] theorem State.haltRecord_place : (s.haltRecord n).place = s.place := by
  simp only [State.haltRecord, apply_ite State.place, State.raise_place, State.put_place, State.setChan_place, State.cqIssue_place, State.seeRoute_place,
    ite_self]
@[simp] theorem State.haltFinish_place : (s.haltFinish n).place = s.place := by
  unfold State.haltFinish
  split
  · simp only [apply_ite State.place, State.haltRecord_place, State.put_place, State.setChan_place, ite_self]
  · rfl
@[simp] theorem State.chHalt_place (err : Nat) : (s.chHalt n err).place = s.place := by
  simp only [State.chHalt, State.haltFinish_place, State.chRun_place, State.setAcc_place, State.setChan_place]
theorem State.fetchGroup_place (g : Nat) : (s.fetchGroup n g).place = s.place := by
  unfold State.fetchGroup
  dsimp only
  split
  · simp only [State.accFails, apply_ite State.place, State.chHalt_place, State.haltFinish_place, State.setAcc_place, State.endAcc_place,
      State.seeRoute_place, State.addAcc_place, ite_self]
  · simp only [State.addAcc_place, State.emit_place]
@[simp] theorem State.chFetch_place : (s.chFetch n).place = s.place := by
  unfold State.chFetch
  split
  · exact foldl_keeps State.place (fun t g => by simp only [apply_ite State.place, State.fetchGroup_place, ite_self]) _ s
  · rfl
@[simp] theorem State.chNext_place (pc : Nat) : (s.chNext n pc).place = s.place := by
  simp only [State.chNext, apply_ite State.place, State.chHalt_place, State.chFetch_place, State.put_place, State.chRun_place, State.setChan_place,
    ite_self]
@[simp] theorem State.signalEnd_place (u : Nat) : (s.signalEnd n u).place = s.place := by
  simp only [State.signalEnd, apply_ite State.place, State.chNext_place, State.put_place, State.chRun_place, State.setAcc_place, State.setChan_place,
    State.raise_place, State.cqIssue_place, ite_self]
@[simp] theorem State.headMoved_place : (s.headMoved n).place = s.place := by
  have tries : (s.signalTry n).place = s.place := by
    unfold State.signalTry
    dsimp only
    repeat' split
    all_goals simp only [State.raise_place, State.chWait_place, State.chHalt_place, State.seeRoute_place, State.chRun_place, State.signalEnd_place]
  simp only [State.headMoved, apply_ite State.place, State.haltRecord_place, tries, ite_self]

end

/-! ### What Lowland entry does at once (R155, R391, R400) -/

theorem State.lowlandEffects_place (s : State) : s.lowlandEffects.place = s.place := by
  have halts (t : State) (n : Nat) : (t.lowlandHalt n).place = t.place := by
    simp only [State.lowlandHalt, apply_ite State.place, State.setChan_place, State.chHalt_place, ite_self]
  refine (foldl_keeps State.place halts _ _).trans ?_
  exact (State.place_congr rfl).trans ((State.leaveService_place ..).trans ((State.setLnk_place ..).trans s.cancelAll_place))

/-! ### Register writes and overlays (R440, R443, R468, R469) -/

section
variable (s : State)

theorem State.refuse_place (key : Nat) (r : Reason) (data : Word) : (s.refuse key r data).place = s.place := by
  simp only [State.refuse, State.refuseCode, State.bump_place, State.put_place]

theorem State.afterWrite_place (page off : Nat) : (s.afterWrite page off).place = s.place := by
  have peeks : s.peek.place = s.place := foldl_keeps State.place (fun t k => t.put_place _ _) _ s
  have hot : s.hotCheck.place = s.place := by
    simp only [State.hotCheck, apply_ite State.place, State.put_place, State.raise_place, State.setPwr_place, ite_self]
  have gate (n : Nat) : (s.gateUpdate n).place = s.place := State.setChan_place ..
  unfold State.afterWrite
  split
  · split <;> rfl
  · simp only [apply_ite State.place, peeks]
    split
    · rfl
    · split <;> rfl
  · simp only [apply_ite State.place, State.headMoved_place, gate, State.put_place, ite_self]
  · simp only [apply_ite State.place, State.pairEnter_place, ite_self]
  · simp only [apply_ite State.place, hot, ite_self]
  · rfl

theorem State.acceptWrite_place (page off : Nat) (data : Word) (rw : List RwField) : (s.acceptWrite page off data rw).place = s.place := by
  have accrues : s.accrue.place = s.place := by
    simp only [State.accrue, State.setPwr_place, apply_ite State.place, foldl_keeps State.place (fun (t : State) k => t.bumpBy_place (stkHeldField k) _),
      ite_self]
  unfold State.acceptWrite
  dsimp only
  split
  · simp only [State.put_place]
  split
  · simp only [State.pend, State.put_place]
  · simp only [State.afterWrite_place, State.setReg_place, apply_ite State.place, accrues, ite_self]

theorem State.writeCommon_place (page off : Nat) (data : Word) : (s.writeCommon page off data).place = s.place := by
  have forced (mask : Word) : (s.forceEvents page mask).place = s.place := foldl_keeps State.place (fun t b => t.deliver_place _ _ _ _) _ s
  unfold State.writeCommon
  split
  · exact s.setReg_place ..
  · exact s.setReg_place ..
  · exact forced data
  · simp only [apply_ite State.place, State.put_place, ite_self]
  · rfl

theorem State.hostWrite_place (key : Nat) (data : Word) : (s.hostWrite key data).place = s.place := by
  unfold State.hostWrite State.takeWrite
  split
  · exact s.refuse_place ..
  dsimp only
  split
  · exact s.writeCommon_place ..
  split
  · rfl
  · simp only [apply_ite State.place, State.acceptWrite_place, ite_self]

theorem State.applyEntry_place (w0 data : Word) : (s.applyEntry w0 data).place = s.place := by
  simp only [State.applyEntry, apply_ite State.place, State.refuse_place, State.hostWrite_place, State.put_place, ite_self]

theorem State.applyEntries_place (slot j n : Nat) : (s.applyEntries slot j n).place = s.place := by
  induction n generalizing s j with
  | zero => rfl
  | succ n ih => simp only [State.applyEntries, apply_ite State.place, ih, State.applyEntry_place, ite_self]

theorem State.applyOverlay_place (slot : Nat) : (s.applyOverlay slot).place = s.place := by
  simp only [State.applyOverlay, apply_ite State.place, State.applyEntries_place, State.raise_place, State.put_place, ite_self]

end

end Sys2Proof.Machine
end

section
/-!
PROOFS. Lowland entry at E, and the rows of repairs at their beats together (R152, R155, R369, R457).
-/

namespace Sys2Proof.Machine

theorem exec_lowlandEntryBeat (now : Beat) (s : State) : exec (.lowlandEntryBeat now) s = execLowlandEntryBeat now s := rfl

theorem State.setColStep_place (s : State) (c : ColState) (step : Nat) : (s.setColStep c step).place = (c, step) := by
  obtain ⟨_, h⟩ := s.setColStep_chip c step
  rw [State.place, h]

theorem State.setLevelStat_place (s : State) (a b : Nat) : (s.setLevelStat a b).place = s.place := by
  rw [State.setLevelStat, State.put_place, State.put_place]

/-- LOWLAND is entered in its rate step, whatever O0 writes. -/
theorem State.enterLowland_place (s : State) (mode : CalMode) : (s.enterLowland mode).place = (.lowland, 1) := by
  have suspended (t : State) : t.suspendForGood.place = t.place := rfl
  simp only [State.enterLowland, State.setLevelStat_place, State.put_place, State.lowlandEffects_place, State.applyOverlay_place, suspended,
    State.setColStep_place]

/-- LEVEL_STAT reads 0 in LOWLAND (R155, R369, R457). -/
theorem State.enterLowland_levelStat (s : State) (mode : CalMode) :
    (s.enterLowland mode).get TIME.LEVEL_STAT.L_MIN = 0 ∧ (s.enterLowland mode).get TIME.LEVEL_STAT.L_RPL = 0 :=
  State.setLevelStat_lMin _ 0 0

section
variable {s : State} {now : Beat} {p : Proposal} {gs : BitVec 4} {re : Nat} (hp : s.rep.props = [p]) (hk : p.kind = .lowland gs re)
  (hb : (s.at now).reached p.beat = true)
include hp hk hb

theorem execLowlandEntryBeat_eq : execLowlandEntryBeat now s = .next
    (if p.accepted && ((s.at now).setProps []).colIn [.active, .quietRepair, .widthChange] then
      ((((s.at now).setProps []).setProps []).put REPAIR.LOWLAND_STAT.CAUSE re).enterLowland .lowEntry
    else (s.at now).setProps []) := by
  have ended : [p].filter (fun q => q != p) = [] := by simp
  simp only [execLowlandEntryBeat, State.at_rep, hp, List.find?_cons, hk, hb, ended]

theorem execLowlandEntryBeat_enters (ha : p.accepted = true) (hc : s.colIn [.active, .quietRepair, .widthChange] = true) :
    ∃ t, execLowlandEntryBeat now s = .next t ∧ t.chip.col = .lowland ∧ t.chip.step = 1 ∧ t.get TIME.LEVEL_STAT.L_MIN = 0 ∧
      t.get TIME.LEVEL_STAT.L_RPL = 0 := by
  have here : ((s.at now).setProps []).colIn [.active, .quietRepair, .widthChange] = true := (s.at_colIn now _).trans hc
  rw [execLowlandEntryBeat_eq hp hk hb, ha, here, Bool.and_self, if_pos rfl]
  have place := State.enterLowland_place ((((s.at now).setProps []).setProps []).put REPAIR.LOWLAND_STAT.CAUSE re) .lowEntry
  exact ⟨_, rfl, State.col_of_place place, State.step_of_place place, State.enterLowland_levelStat ..⟩

theorem execLowlandEntryBeat_void (ha : p.accepted = false) :
    ∃ t, execLowlandEntryBeat now s = .next t ∧ t.rep.props = [] ∧ t.chip.col = s.chip.col := by
  rw [execLowlandEntryBeat_eq hp hk hb, ha]
  exact ⟨_, rfl, rfl, s.at_col now⟩

end

/-- Settles O36: an accepted repair, width change or Lowland entry begins, switches and ends at its beats, and one without ACCEPT ends. -/
theorem repairsRunAtTheirBeats : Obligations.RepairsRunAtTheirBeats := by
  unfold Obligations.RepairsRunAtTheirBeats
  refine ⟨?pause, ?void, ?mask, ?maskOutside, ?maskDone, ?resume, ?fails, ?change, ?switch, ?noGroup, ?changed, ?lowland, ?lowlandVoid⟩
  case pause =>
    intro s now p g k n hp hk hn hs ha hb hc
    rw [exec_qrPauseBeat]
    exact execQrPauseBeat_begins hp hk hn hs ha hb hc
  case void =>
    intro s now p g k n hp hk hs ha hb hc
    rw [exec_qrPauseBeat]
    exact execQrPauseBeat_void hp hk hs ha hb hc
  case mask =>
    intro s now p g k n hp hw hy hk hn hg hsite hs hb hd hc
    rw [exec_qrMaskSwitch]
    exact execQrMaskSwitch_mask hp hw hy hk hn hg hsite hs hb hd hc
  case maskOutside =>
    intro s now hc
    rw [exec_qrMaskSwitch]
    exact execQrMaskSwitch_outside hc
  case maskDone =>
    intro s now p g k hp hw hy hk hg hsite hs hb hc hd
    rw [exec_qrMaskSwitch]
    exact execQrMaskSwitch_done hp hw hy hk hg hsite hs hb hc hd
  case resume =>
    intro s now p g k n mismatch hp hw hy hk hs hb hm hc ha hsp hd hf
    rw [exec_qrResume]
    exact execQrResume_done hp hw hy hk hs hb hm hc ha hsp hd hf
  case fails =>
    intro s now p g k n hp hw hy hk hs hb ho hg hin hleft hcap hl hpark hc ha hsp hd hf
    rw [exec_qrResume]
    exact execQrResume_fails hp hw hy hk hs hb ho hg hin hleft hcap hl hpark hc ha hsp hd hf
  case change =>
    intro s now p rx f gs re hp hk hs ha hb hc
    rw [exec_widthChangeBeat]
    exact execWidthChangeBeat_begins hp hk hs ha hb hc
  case switch =>
    intro s now p rx f gs re hp hk hs hb hleft hother
    rw [exec_widthSwitch]
    exact execWidthSwitch_switches hp hk hs hb hleft hother
  case noGroup =>
    intro s now p rx f gs re hp hk hs hb hnone hc
    rw [exec_widthSwitch]
    exact execWidthSwitch_ends hp hk hs hb hnone hc
  case changed =>
    intro s now p rx f gs re hp hw hy hk hs hb hc ha hsp hd hf
    rw [exec_widthResume]
    exact execWidthResume_ends hp hw hy hk hs hb hc ha hsp hd hf
  case lowland =>
    intro s now p gs re hp hk ha hb hc
    rw [exec_lowlandEntryBeat]
    exact execLowlandEntryBeat_enters hp hk hb ha hc
  case lowlandVoid =>
    intro s now p gs re hp hk ha hb
    rw [exec_lowlandEntryBeat]
    exact execLowlandEntryBeat_void hp hk hb ha

end Sys2Proof.Machine
end

section
/-!
PROOFS. The control stream (R174 to R176, R182, R185, R195, R196): what a control flit carries as it leaves, what a replay sends, and what a
flit received changes.
-/

namespace Sys2Proof.Machine

theorem exec_ctrlFlitStart (ue : Option (BitVec 1)) (s : State) : exec (.ctrlFlitStart ue) s = execCtrlFlitStart s ue := rfl
theorem exec_ackOnlySend (s : State) : exec .ackOnlySend s = execAckOnlySend s := rfl
theorem exec_ackOnlyKeepalive (cycles : Nat) (s : State) : exec (.ackOnlyKeepalive cycles) s = execAckOnlyKeepalive cycles s := rfl
theorem exec_ctrlReplayTimeout (cycles : Nat) (s : State) : exec (.ctrlReplayTimeout cycles) s = execCtrlReplayTimeout cycles s := rfl
theorem exec_ctrlFlitRx (flit : CtrlFlit) (s : State) : exec (.ctrlFlitRx flit) s = execCtrlFlitRx flit s := rfl

/-! ### Where the control stream flows (R141, R185) -/

theorem State.colDead_of_ctrlFlows {s : State} {rx : Bool} (h : s.ctrlFlows rx = true) : s.colDead = false := by
  simp only [State.ctrlFlows, Bool.and_eq_true, Bool.not_eq_true'] at h
  exact h.1.1.2

/-- In OFF nothing flows. -/
theorem State.col_of_ctrlFlows {s : State} {rx : Bool} (h : s.ctrlFlows rx = true) : s.chip.col ≠ .off := by
  rw [State.ctrlFlows, Bool.and_eq_true] at h
  exact State.col_ne_of_colIn h.2 (by decide)

/-- A count of an array's uncorrectable word leaves the Col state. -/
theorem State.countUe_col (s : State) (a index : Nat) : (s.countUe a index).chip.col = s.chip.col := by
  unfold State.countUe
  dsimp only
  rw [State.raise_col]
  split
  · rfl
  · rfl

/-- An uncorrectable word of a replay buffer ends in FAULT (R422). -/
theorem State.replayUe_col (s : State) (a index : Nat) (h : s.chip.col ≠ .off) : (s.replayUe a index).chip.col = .fault :=
  State.goFault_col _ _ _ (by rwa [State.countUe_col])

/-! ### Control flits sent (R174, R175, R185, R192) -/

/-- The fields of a control flit that leaves now: the present acknowledges, and a pending NAK. -/
def State.ctrlFields (s : State) (cseq cft : Nat) (msgs : List Nat) : CtrlHdr :=
  { cseq := cseq, cack := s.get CTRL.SEQ_STAT.NEXT_RX, back := s.get BULK.SEQ_STAT.NEXT_RX, backt := if s.lnk.nakMark then 2 else 1, cft := cft
    msgs := msgs }

/-- They rest on the two receive sequences and the pending NAK. -/
theorem State.ctrlFields_congr {s t : State} (hc : t.get CTRL.SEQ_STAT.NEXT_RX = s.get CTRL.SEQ_STAT.NEXT_RX)
    (hb : t.get BULK.SEQ_STAT.NEXT_RX = s.get BULK.SEQ_STAT.NEXT_RX) (hn : t.lnk.nakMark = s.lnk.nakMark) (cseq cft : Nat) (msgs : List Nat) :
    t.ctrlFields cseq cft msgs = s.ctrlFields cseq cft msgs := by
  rw [State.ctrlFields, State.ctrlFields, hc, hb, hn]

section
variable (s : State) (cseq cft : Nat) (msgs : List Nat)

theorem State.sendCtrl_out : (s.sendCtrl cseq cft msgs).out = .ctrl (buildCtrl (s.ctrlFields cseq cft msgs)) :: s.out := by
  unfold State.sendCtrl
  cases h : s.lnk.nakMark <;> simp [State.ctrlFields, State.emit, h]

theorem State.sendCtrl_lnk : (s.sendCtrl cseq cft msgs).lnk =
    { s.lnk with nakMark := false, carriedB := s.get BULK.SEQ_STAT.NEXT_RX, carriedC := s.get CTRL.SEQ_STAT.NEXT_RX } := by
  unfold State.sendCtrl
  cases h : s.lnk.nakMark <;> rfl

/-- A control flit that leaves counts at most a NAK. -/
theorem State.sendCtrl_get {f : Field} (hf : f.lo + f.width ≤ 64 ∧ (BULK.RX_STAT.NAKS.key ≠ f.key ∨
    BULK.RX_STAT.NAKS.lo + BULK.RX_STAT.NAKS.width ≤ f.lo ∨ f.lo + f.width ≤ BULK.RX_STAT.NAKS.lo)) :
    (s.sendCtrl cseq cft msgs).get f = s.get f := by
  unfold State.sendCtrl
  rw [State.get_emit, State.get_setLnk]
  split
  · exact s.get_bump_apart hf
  · rfl

end

/-- The state in which new messages leave: their sequence is taken, and the replay buffer holds them (R175, R195). -/
def State.ctrlLoaded (s : State) : State :=
  let seq := s.get CTRL.SEQ_STAT.NEXT_TX
  ((s.put CTRL.SEQ_STAT.NEXT_TX (seq + 1)).wordsWritten 2 (seq % 64 * 2) 2).setLnk fun l =>
    { l with msgQ := l.msgQ.drop 3, crpl := l.crpl ++ [(seq, s.lnk.msgQ.take 3)], cptr := (seq + 1) % 256 }

theorem State.ctrlLoaded_spec (s : State) : s.ctrlLoaded.out = s.out ∧
    s.ctrlLoaded.lnk = { s.lnk with
      msgQ := s.lnk.msgQ.drop 3, crpl := s.lnk.crpl ++ [(s.get CTRL.SEQ_STAT.NEXT_TX, s.lnk.msgQ.take 3)]
      cptr := (s.get CTRL.SEQ_STAT.NEXT_TX + 1) % 256 } ∧
    ∀ f, s.ctrlLoaded.get f = (s.put CTRL.SEQ_STAT.NEXT_TX (s.get CTRL.SEQ_STAT.NEXT_TX + 1)).get f := by
  unfold State.ctrlLoaded
  obtain ⟨_, h⟩ := (s.put CTRL.SEQ_STAT.NEXT_TX (s.get CTRL.SEQ_STAT.NEXT_TX + 1)).wordsWritten_eq 2 (s.get CTRL.SEQ_STAT.NEXT_TX % 64 * 2) 2
  dsimp only
  rw [h]
  exact ⟨rfl, rfl, fun _ => rfl⟩

/-- A MSG flit of new messages, with the acknowledges of before (R175). -/
theorem State.ctrlFields_ctrlLoaded (s : State) (cseq cft : Nat) (msgs : List Nat) :
    s.ctrlLoaded.ctrlFields cseq cft msgs = s.ctrlFields cseq cft msgs := by
  obtain ⟨-, hl, hg⟩ := s.ctrlLoaded_spec
  exact State.ctrlFields_congr ((hg _).trans (s.get_put_apart _ (by decide))) ((hg _).trans (s.get_put_apart _ (by decide))) (by rw [hl]) ..

theorem execCtrlFlitStart_new {s : State} (hf : s.ctrlFlows false = true) (hp : s.lnk.cptr = s.get CTRL.SEQ_STAT.NEXT_TX)
    (hm : s.lnk.msgQ ≠ []) (hr : s.outC < 64) (ue : Option (BitVec 1)) :
    execCtrlFlitStart s ue = .next (s.ctrlLoaded.sendCtrl (s.get CTRL.SEQ_STAT.NEXT_TX) 1 (s.lnk.msgQ.take 3)) := by
  have ready : s.msgReady = true := by simp [State.msgReady, hm, hr]
  simp only [execCtrlFlitStart, hf, hp, ready, Bool.not_true, Bool.false_eq_true, if_false, ne_eq, not_true_eq_false, if_true]
  rfl

theorem execCtrlFlitStart_replay {s : State} (hf : s.ctrlFlows false = true) (hp : s.lnk.cptr ≠ s.get CTRL.SEQ_STAT.NEXT_TX)
    {f : Nat × List Nat} (hb : s.lnk.crpl.find? (fun x => x.1 == s.lnk.cptr) = some f) (hm : s.lnk.cMarked.contains f.1 = false) :
    execCtrlFlitStart s none = .next ((s.setLnk fun l => { l with cptr := (f.1 + 1) % 256 }).sendCtrl f.1 1 f.2) := by
  simp only [execCtrlFlitStart, hf, hp, hb, hm, Bool.not_true, Bool.false_eq_true, if_false, ne_eq, not_false_eq_true, if_true]

/-- A replayed flit with a word known or found uncorrectable ends in FAULT (R422). -/
theorem execCtrlFlitStart_marked {s : State} (hf : s.ctrlFlows false = true) (hp : s.lnk.cptr ≠ s.get CTRL.SEQ_STAT.NEXT_TX)
    {f : Nat × List Nat} (hb : s.lnk.crpl.find? (fun x => x.1 == s.lnk.cptr) = some f) {ue : Option (BitVec 1)}
    (hm : s.lnk.cMarked.contains f.1 = true ∨ ue.isSome = true) :
    ∃ t, execCtrlFlitStart s ue = .next t ∧ t.chip.col = .fault := by
  simp only [execCtrlFlitStart, hf, hp, hb, Bool.not_true, Bool.false_eq_true, if_false, ne_eq, not_false_eq_true, if_true]
  refine ⟨_, rfl, ?_⟩
  have on := State.col_of_ctrlFlows hf
  split
  · exact s.goFault_col _ _ on
  · rename_i clean
    obtain ⟨w, rfl⟩ := Option.isSome_iff_exists.mp (hm.resolve_left clean)
    exact s.replayUe_col _ _ on

/-! ### Acknowledges alone (R175, R185) -/

theorem State.ackOnly_spec (s : State) :
    s.ackOnly.out = .ctrl (buildCtrl (s.ctrlFields (s.get CTRL.SEQ_STAT.NEXT_TX) 2 [])) :: s.out ∧ CountedOne CTRL.TX_STAT.ACK_ONLY s s.ackOnly := by
  have fields : (s.bump CTRL.TX_STAT.ACK_ONLY).ctrlFields = s.ctrlFields := by
    funext cseq cft msgs
    exact State.ctrlFields_congr (s.get_bump_apart (by decide)) (s.get_bump_apart (by decide)) (by rw [State.bump_lnk]) ..
  constructor
  · rw [State.ackOnly, State.sendCtrl_out, State.bump_out, fields]
  · exact (State.sendCtrl_get _ _ _ _ (by decide)).trans (s.get_bump_same _ (by decide))

/-! ### Timeouts (R195) -/

/-- The replay that a timeout starts: from OLDEST, counted towards the limit. -/
def State.ctrlReplays (s : State) : State :=
  (s.bump CTRL.TX_STAT.TIMEOUTS).setLnk fun l => { l with cptr := s.get CTRL.SEQ_STAT.OLDEST, cNoProgress := s.lnk.cNoProgress + 1 }

theorem execCtrlReplayTimeout_eq {s : State} {cycles : Nat} (ht : s.ctrlTimers = true) (ho : s.outC ≠ 0) (hc : s.get CTRL.RPL_CTL.TIMEOUT ≤ cycles) :
    execCtrlReplayTimeout cycles s = .next (if s.lnk.cNoProgress + 1 = s.get CTRL.RPL_CTL.LIMIT then
      s.ctrlReplays.goFault EV.CTRL.CTRL_REPLAY_LIMIT (s.get CTRL.SEQ_STAT.OLDEST) else s.ctrlReplays) := by
  simp only [execCtrlReplayTimeout, ht, hc, bne_iff_ne.mpr ho, decide_true, Bool.and_self, if_true]
  rfl

/-! ### Control flits received (R180, R183, R184, R196) -/

/-- An acknowledge of OLDEST frees nothing (R183). -/
theorem classifyAck_oldest (m limit out a : Nat) : classifyAck m limit a out a = (some 0, true) := by
  simp only [classifyAck, Nat.add_sub_cancel_left, Nat.mod_self, Nat.zero_le, if_true]

theorem State.get_lt (s : State) (f : Field) : s.get f < 2 ^ f.width := bits_lt ..

theorem State.ackCtrl_oldest (s : State) : s.ackCtrl (s.get CTRL.SEQ_STAT.OLDEST) = s := by
  simp only [State.ackCtrl, classifyAck_oldest, if_true]

theorem State.ackBulk_oldest (s : State) : s.ackBulk (s.get BULK.SEQ_STAT.OLDEST) false = s := by
  simp only [State.ackBulk, classifyAck_oldest, if_true, Bool.false_eq_true, if_false]

/-- Out of CREDIT_INIT nothing remains to be completed (R200). -/
theorem State.creditInitMaybe_past {s : State} (h : s.chip.col ≠ .creditInit) : s.creditInitMaybe = s := if_pos (.inl h)

theorem State.attributeCtrl_none {s : State} (h : s.rep.keptCtrl = none) (good : CtrlFlit) : s.attributeCtrl good = s := by
  rw [State.attributeCtrl, h]

/-- What a sound control flit does whose acknowledges bring nothing new (R196). -/
theorem execCtrlFlitRx_sound {s : State} {flit : CtrlFlit} {h : CtrlHdr} (hf : s.ctrlFlows true = true) (hk : ctrlOk flit.toNat = true)
    (hh : h = ctrlHdr flit.toNat) (hb : ctrlBad h = false) (hc : h.cack = s.get CTRL.SEQ_STAT.OLDEST) (ha : h.back = s.get BULK.SEQ_STAT.OLDEST)
    (ht : h.backt = 1) :
    execCtrlFlitRx flit s = .next (
      if h.cft = 1 ∧ h.cseq = s.get CTRL.SEQ_STAT.NEXT_RX then
        (h.msgs.foldl State.deliverMsg ((s.attributeCtrl flit).put CTRL.SEQ_STAT.NEXT_RX (h.cseq + 1))).creditInitMaybe
      else if h.cft = 2 then (s.bumpBy CTRL.RX_STAT.RSVD_NONZERO (h.msgs.map msgRsvd).sum).creditInitMaybe
      else s.creditInitMaybe) := by
  have acked : (s.ackCtrl h.cack).ackBulk h.back (h.backt == 2) = s := by
    rw [hc, State.ackCtrl_oldest, ha, ht]
    exact s.ackBulk_oldest
  subst hh
  simp only [execCtrlFlitRx, hf, hk, hb, acked, State.colDead_of_ctrlFlows hf, Bool.not_true, Bool.false_eq_true, if_false]

/-- A delivered message goes to the end's own queue where it is a link message, and otherwise to the die's (R176). -/
theorem State.deliverMsg_sound (s : State) {m : Nat} (hc : msgClass m ≠ 7) (hb : msgBad m = false) :
    s.deliverMsg m = (s.bumpBy CTRL.RX_STAT.RSVD_NONZERO (msgRsvd m)).setLnk fun k =>
      { k with linkQ := if msgClass m = 2 then k.linkQ ++ [m] else k.linkQ, msgOut := if msgClass m = 2 then k.msgOut else k.msgOut ++ [m] } := by
  simp only [State.deliverMsg, hb, Bool.false_eq_true, if_false]
  split
  · rename_i h7
    exact absurd h7 hc
  · rename_i h2
    simp only [h2, if_true]
  · rename_i h2
    simp only [show msgClass m ≠ 2 from h2, if_false]

/-- An EMPTY slot delivers nothing. -/
theorem State.deliverMsg_empty (s : State) : s.deliverMsg emptyMsg = s.bumpBy CTRL.RX_STAT.RSVD_NONZERO 0 := rfl

/-- A MSG flit whose other slots are EMPTY delivers its one message and keeps the flit's sequence. -/
theorem State.deliverOne_spec (s : State) {m : Nat} (hc : msgClass m ≠ 7) (hb : msgBad m = false) :
    ∃ t, [m, emptyMsg, emptyMsg].foldl State.deliverMsg s = t ∧ t.chip = s.chip ∧ t.get CTRL.SEQ_STAT.NEXT_RX = s.get CTRL.SEQ_STAT.NEXT_RX ∧
      t.lnk.linkQ = (if msgClass m = 2 then s.lnk.linkQ ++ [m] else s.lnk.linkQ) ∧
      t.lnk.msgOut = (if msgClass m = 2 then s.lnk.msgOut else s.lnk.msgOut ++ [m]) := by
  refine ⟨_, rfl, ?_⟩
  rw [List.foldl_cons, List.foldl_cons, List.foldl_cons, List.foldl_nil, s.deliverMsg_sound hc hb, State.deliverMsg_empty, State.deliverMsg_empty]
  refine ⟨?_, ?_, ?_, ?_⟩
  · rw [State.bumpBy_chip, State.bumpBy_chip, State.setLnk_chip, State.bumpBy_chip]
  · rw [State.bumpBy, State.get_put_apart _ _ (by decide), State.bumpBy, State.get_put_apart _ _ (by decide), State.get_setLnk, State.bumpBy,
      State.get_put_apart _ _ (by decide)]
  · rw [State.bumpBy_lnk, State.bumpBy_lnk, State.setLnk_lnk, State.bumpBy_lnk]
  · rw [State.bumpBy_lnk, State.bumpBy_lnk, State.setLnk_lnk, State.bumpBy_lnk]

/-- Settles O47: a control flit carries the present acknowledges with up to three messages or none, a replay what the buffer holds, and one
received in sequence delivers its messages. -/
theorem controlFlitsCarryMessagesInSequence : Obligations.ControlFlitsCarryMessagesInSequence := by
  unfold Obligations.ControlFlitsCarryMessagesInSequence
  refine ⟨?new, ?replay, ?marked, ?ackOnly, ?keepalive, ?timeout, ?limit, ?crcBad, ?malformed, ?message, ?nothingNew⟩
  case new =>
    rintro s _ ue hf rfl hp hm hr
    rw [exec_ctrlFlitStart, execCtrlFlitStart_new hf hp hm hr]
    obtain ⟨ho, hl, hg⟩ := s.ctrlLoaded_spec
    refine ⟨_, s.ctrlFields (s.get CTRL.SEQ_STAT.NEXT_TX) 1 (s.lnk.msgQ.take 3), rfl, ?_, rfl, rfl, rfl, rfl, rfl, rfl, ?_, ?_, ?_⟩
    · rw [State.sendCtrl_out, State.ctrlFields_ctrlLoaded, ho]
    · rw [State.sendCtrl_get _ _ _ _ (by decide), hg, State.get_put_same _ _ _ (by decide)]
      rfl
    · rw [State.sendCtrl_lnk, hl]
    · rw [State.sendCtrl_lnk, hl]
  case replay =>
    intro s f hf hp hb hm
    rw [exec_ctrlFlitStart, execCtrlFlitStart_replay hf hp hb hm]
    exact ⟨_, s.ctrlFields f.1 1 f.2, rfl, State.sendCtrl_out .., rfl, rfl, rfl, by rw [State.sendCtrl_lnk]; rfl,
      by rw [State.sendCtrl_lnk]; rfl, State.sendCtrl_get _ _ _ _ (by decide)⟩
  case marked =>
    intro s f ue hf hp hb hm
    exact execCtrlFlitStart_marked hf hp hb hm
  case ackOnly =>
    intro s hf hr hn
    obtain ⟨ho, hc⟩ := s.ackOnly_spec
    refine ⟨_, s.ctrlFields (s.get CTRL.SEQ_STAT.NEXT_TX) 2 [], ?_, ho, rfl, rfl, rfl, rfl, rfl, hc⟩
    simp only [exec_ackOnlySend, execAckOnlySend, hf, hr, Bool.not_false, Bool.and_self, Bool.true_and, Bool.or_eq_true, bne_iff_ne, if_pos hn]
  case keepalive =>
    intro s cycles hf hc
    obtain ⟨ho, hone⟩ := s.ackOnly_spec
    refine ⟨_, s.ctrlFields (s.get CTRL.SEQ_STAT.NEXT_TX) 2 [], ?_, ho, rfl, rfl, hone⟩
    simp only [exec_ackOnlyKeepalive, execAckOnlyKeepalive, hf, hc, decide_true, Bool.and_self, if_true]
  case timeout =>
    intro s cycles ht ho hc hn
    rw [exec_ctrlReplayTimeout, execCtrlReplayTimeout_eq ht ho hc, if_neg hn]
    exact ⟨_, rfl, rfl, s.get_bump_same _ (by decide), rfl⟩
  case limit =>
    intro s cycles ht ho hc hn
    rw [exec_ctrlReplayTimeout, execCtrlReplayTimeout_eq ht ho hc, if_pos hn]
    exact ⟨_, rfl, State.goFault_col _ _ _ (State.col_of_ctrlFlows (Bool.and_eq_true_iff.mp ht).1)⟩
  case crcBad =>
    intro s flit hf hk
    simp only [exec_ctrlFlitRx, execCtrlFlitRx, hf, hk, Bool.not_true, Bool.not_false, Bool.false_eq_true, if_false, if_true]
    have counted := s.get_bump_same CTRL.RX_STAT.CRC_BAD (by decide)
    have next : (s.bump CTRL.RX_STAT.CRC_BAD).get CTRL.SEQ_STAT.NEXT_RX = s.get CTRL.SEQ_STAT.NEXT_RX := s.get_bump_apart (by decide)
    refine ⟨_, rfl, ?_⟩
    split
    · exact ⟨counted, rfl, next⟩
    · exact ⟨counted, rfl, next⟩
  case malformed =>
    intro s flit hf hk hb
    simp only [exec_ctrlFlitRx, execCtrlFlitRx, hf, hk, hb, Bool.not_true, Bool.false_eq_true, if_false, if_true]
    exact ⟨_, rfl, State.goFault_col _ _ _ (State.col_of_ctrlFlows hf)⟩
  case message =>
    intro s flit h m hf hk hh h1 hc ha ht hkept hcol hseq hm hm7 hmb
    have sound : ctrlBad h = false := by simp [ctrlBad, h1, ht, hm, hm7]
    rw [exec_ctrlFlitRx, execCtrlFlitRx_sound hf hk hh sound hc ha ht, if_pos ⟨h1, hseq⟩, hm, State.attributeCtrl_none hkept]
    obtain ⟨t, ht, hchip, hnext, hlink, hout⟩ := (s.put CTRL.SEQ_STAT.NEXT_RX (h.cseq + 1)).deliverOne_spec hm7 hmb
    rw [ht, State.creditInitMaybe_past (by rwa [hchip])]
    exact ⟨t, rfl, hnext.trans (s.get_put_same _ _ (by decide)), hlink, hout⟩
  case nothingNew =>
    intro s flit h hf hk hh hb hc ha ht hcol hnew
    rw [exec_ctrlFlitRx, execCtrlFlitRx_sound hf hk hh hb hc ha ht]
    by_cases h2 : h.cft = 2
    · rw [if_neg (by omega), if_pos h2, if_pos h2, State.creditInitMaybe_past (by rwa [State.bumpBy_chip])]
      refine ⟨_, rfl, State.bumpBy_lnk .., State.bumpBy_out .., State.bumpBy_chip .., fun k hk => State.put_reg_ne _ _ (Ne.symm hk), ?_⟩
      exact (State.get_put_same _ _ _ (by decide)).trans (Nat.mod_eq_of_lt (by have := Nat.two_pow_pos CTRL.RX_STAT.RSVD_NONZERO.width; omega))
    · rw [if_neg fun h' => (hnew.resolve_left h2) h'.2, if_neg h2, if_neg h2, State.creditInitMaybe_past hcol]
      refine ⟨_, rfl, rfl, rfl, rfl, fun _ _ => rfl, ?_⟩
      exact (Nat.min_eq_left (Nat.le_sub_one_of_lt (s.get_lt _))).symm

end Sys2Proof.Machine
end

section
/-!
PROOFS. Atomic operations without the token (R203, R324, R397): the statement leaves the class of a request's header free, and R203 counts its
credits by that class.
-/

namespace Sys2Proof.Machine

/-- A request whose class is not one of the four (R169), and for which a count of freed credits is the word of TOKEN_STAT. -/
def strayClassHdr : Hdr := { op := Op.atCas.code, tc := 3057, tag := 3, ctx := 5, len := 1 }

/-- It is at the engine, for a storage page of every tenant. -/
def strayClassReq : EngReq := ⟨strayClassHdr, [0], none, false, some 1, 0, false, []⟩

/-- An M-end in service with a valid context, which is not the owner of its pair, and that one request. -/
def strayClassState : State :=
  { ((State.reset.put IDENT.FUSE_STAT.ROLE 1).setTbl 0 1).setTbl (ctxIdx 5 1) (BitVec.ofNat 64 (2 ^ 55)) with
    beat := 2 ^ 28
    chip := { dieRst := false, col := .active, clk := 0xFFF, released := 5, rxReleased := 0x1F, drivers := true }
    tblZeroed := true
    txn.engQ := [strayClassReq] }

/-- The count of credits freed for that class is TOKEN_STAT.RETRY. -/
theorem strayClass_key : (CREDIT.RX_STAT.RETURNED strayClassHdr.tc).key = PAIR.TOKEN_STAT.RETRY.key := by decide

theorem strayClass_commits : Commits strayClassState (EngReq.isOp .atCas) noWait strayClassReq := by
  unfold Commits
  decide +kernel
theorem strayClass_wanted : AnswerWanted strayClassState strayClassReq.hdr := by
  unfold AnswerWanted
  decide +kernel
theorem strayClass_checks : (strayClassState.pageCheck strayClassHdr.ctx strayClassReq.page strayClassReq.bind).sts = [] ∧
    (Binding.of strayClassReq.bind).kind ≠ some .view ∧ strayClassState.isOwner = false := by
  decide +kernel

/-- Where an outcome goes on, TOKEN_STAT.RETRY counts two from 0 on. -/
theorem strayClass_counts : strayClassState.get PAIR.TOKEN_STAT.RETRY = 0 ∧
    ((match exec .atCas strayClassState with | .next t => some (t.get PAIR.TOKEN_STAT.RETRY) | _ => none) = some 2) := by
  decide +kernel

/-- Refutes O53: the statement leaves the class of the request's header free. A request of class 3057, which no header on the wire spells (R169),
that an end without the token answers RETRY counts the credit that it frees in the word of TOKEN_STAT too, so RETRY counts two. -/
theorem not_atomicsUpdateOneWordAndReturnTheOld : ¬ Obligations.AtomicsUpdateOneWordAndReturnTheOld := by
  unfold Obligations.AtomicsUpdateOneWordAndReturnTheOld
  rintro ⟨-, -, -, h⟩
  obtain ⟨hsts, hview, howner⟩ := strayClass_checks
  obtain ⟨t, ht, -, -, hone⟩ := (h strayClassState strayClassReq .atCas .atCas (by decide) strayClass_commits strayClass_wanted).1
    (fun st hst => by rw [show strayClassReq.hdr = strayClassHdr from rfl, hsts] at hst; cases hst) hview howner
  obtain ⟨hzero, htwo⟩ := strayClass_counts
  rw [ht] at htwo
  rw [CountedOne, hzero, Option.some.inj htwo] at hone
  exact absurd hone (by decide)

end Sys2Proof.Machine
end

section
/-!
PROOFS. What every commit of the engine has in common (R203, R225, R228): the tables that its checks read, what the engine's quiet
operations keep, the state in which a request is performed, what the end of a commit leaves alone, and the answer that it queues.
-/

namespace Sys2Proof.Machine

/-! ### The tables that the checks of a commit read -/

/-- What the binding entries, context records and recipes are read from, and the capabilities agreed. -/
structure Tables where
  tbl : List (Nat × Word)
  zeroed : Bool
  epoch : Nat
  badBinds : List Nat
  badSlots : List Nat
  agreed : Word

/-- The tables of a state. -/
def State.tables (s : State) : Tables := ⟨s.tbl, s.tblZeroed, s.epoch, s.txn.badBinds, s.eng.badSlots, s.reg IDENT.CAP_AGREED.CAP.key⟩

section
variable {s t : State}

theorem State.tbl_of_tables (h : t.tables = s.tables) : t.tbl = s.tbl := congrArg Tables.tbl h
theorem State.tblWord_tables (h : t.tables = s.tables) (i : Nat) : t.tblWord i = s.tblWord i :=
  State.tblWord_congr (State.tbl_of_tables h) (congrArg Tables.zeroed h) (congrArg Tables.epoch h) i
theorem State.cap_tables (h : t.tables = s.tables) (b : Nat) : t.cap b = s.cap b := by
  have hr : t.reg IDENT.CAP_AGREED.CAP.key = s.reg IDENT.CAP_AGREED.CAP.key := congrArg Tables.agreed h
  have hv : t.reg IDENT.CAP_AGREED.VALID.key = s.reg IDENT.CAP_AGREED.VALID.key := hr
  simp only [State.cap, State.on, State.get, hr, hv]
theorem State.ctxOf_tables (h : t.tables = s.tables) (c : Nat) : t.ctxOf c = s.ctxOf c := by
  simp only [State.ctxOf, State.tblWord_tables h]
theorem State.badBind_tables (h : t.tables = s.tables) (b : Binding) : t.badBind b = s.badBind b := by
  simp only [State.badBind, State.fmtAgreed, State.cap_tables h]
  cases b.kind <;> rfl
theorem State.pageCheck_tables (h : t.tables = s.tables) (c p : Nat) (e : Option Word) : t.pageCheck c p e = s.pageCheck c p e := by
  simp only [State.pageCheck, State.badBind_tables h, State.ctxDenied, State.ctxOf_tables h]
theorem State.recipe_tables (h : t.tables = s.tables) (n : Nat) : t.recipe n = s.recipe n := by
  have hb : t.eng.badSlots = s.eng.badSlots := congrArg Tables.badSlots h
  simp only [State.recipe, State.tblWord_tables h, hb]
theorem EngReq.entry_tables (h : t.tables = s.tables) (q : EngReq) (p : Nat) : q.entry t p = q.entry s p := by
  have hb : t.txn.badBinds = s.txn.badBinds := congrArg Tables.badBinds h
  simp only [EngReq.entry, State.entryOf, State.bindingOf, State.tblWord_tables h, hb]

end

/-! ### What the quiet operations of the engine keep -/

/-- The link, memory, the Basin, what tells a dead Col, the pair, the requests that wait, and the escape area: what counters, captures and
events leave alone. -/
structure Calm where
  lnk : Link
  mem : List (Nat × Byte)
  basin : List (Nat × Line)
  col : ColState
  plan : Option ResetPlan
  pair : Pair
  engQ : List EngReq
  squashed : List Nat
  escBase : Nat
  escSlots : Nat
  escNext : Nat

/-- That part of a state. -/
def State.calm (s : State) : Calm :=
  { lnk := s.lnk, mem := s.mem, basin := s.basin, col := s.chip.col, plan := s.chip.plan, pair := s.pair, engQ := s.txn.engQ
    squashed := s.txn.squashed, escBase := s.get DEFILE.ESC_BASE.ADDR, escSlots := s.get DEFILE.ESC_LIMIT.SLOTS
    escNext := s.get DEFILE.ESC_STAT.NEXT }

/-- The registers of the escape area. -/
def escKeys : List Nat := [DEFILE.ESC_BASE.ADDR.key, DEFILE.ESC_LIMIT.SLOTS.key, DEFILE.ESC_STAT.NEXT.key]

section
variable {s t : State}

theorem State.memByte_calm (h : t.calm = s.calm) (a : Nat) : t.memByte a = s.memByte a := by
  have hm : t.mem = s.mem := congrArg Calm.mem h
  simp only [State.memByte, hm]

/-- Registers other than those of the escape area do not count. -/
theorem RegsOnly.calm (h : RegsOnly s t) (hr : ∀ k ∈ escKeys, t.reg k = s.reg k) : t.calm = s.calm := by
  have hb : t.get DEFILE.ESC_BASE.ADDR = s.get DEFILE.ESC_BASE.ADDR := by
    simp only [State.get, hr DEFILE.ESC_BASE.ADDR.key (by decide)]
  have hl : t.get DEFILE.ESC_LIMIT.SLOTS = s.get DEFILE.ESC_LIMIT.SLOTS := by
    simp only [State.get, hr DEFILE.ESC_LIMIT.SLOTS.key (by decide)]
  have hn : t.get DEFILE.ESC_STAT.NEXT = s.get DEFILE.ESC_STAT.NEXT := by
    simp only [State.get, hr DEFILE.ESC_STAT.NEXT.key (by decide)]
  simp only [State.calm, hb, hl, hn]
  obtain ⟨r, rfl⟩ := h
  rfl

end

@[simp] theorem State.put_calm (s : State) {f : Field} (h : f.key ∉ escKeys) (v : Nat) : (s.put f v).calm = s.calm :=
  ((RegsOnly.refl s).put f v).calm fun _ hk => s.put_reg_ne v fun e => h (e ▸ hk)
@[simp] theorem State.bump_calm (s : State) {f : Field} (h : f.key ∉ escKeys) : (s.bump f).calm = s.calm := s.put_calm h _
@[simp] theorem State.emit_calm (s : State) (o : Out) : (s.emit o).calm = s.calm := rfl
@[simp] theorem State.setPwr_calm (s : State) (f : Power → Power) : (s.setPwr f).calm = s.calm := rfl
@[simp] theorem State.setPrefetch_calm (s : State) (l : List Prefetch) : (s.setPrefetch l).calm = s.calm := rfl
@[simp] theorem State.runClocks_calm (s : State) : s.runClocks.calm = s.calm := rfl

@[simp] theorem State.raise_calm (s : State) (e : Event) (v : Nat) : (s.raise e v).calm = s.calm := by
  obtain ⟨_, _, hc⟩ := s.raise_chip e v
  obtain ⟨r, c, h⟩ := s.raise_eq e v
  have hcol : c.col = s.chip.col := by rw [show c = (s.raise e v).chip by rw [h], hc]
  have hplan : c.plan = s.chip.plan := by rw [show c = (s.raise e v).chip by rw [h], hc]
  have get : ∀ f : Field, f.key ∈ escKeys → (s.raise e v).get f = s.get f := fun f hf =>
    s.raise_get e v f (by revert hf; simp only [escKeys]; generalize f.key = k; revert k; decide)
  simp only [State.calm, get DEFILE.ESC_BASE.ADDR (by decide), get DEFILE.ESC_LIMIT.SLOTS (by decide), get DEFILE.ESC_STAT.NEXT (by decide)]
  rw [h]
  simp only [hcol, hplan]

@[simp] theorem State.wake_calm (s : State) (trigger : Nat) : (s.wake trigger).calm = s.calm := by
  simp +decide only [State.wake, apply_ite State.calm, State.raise_calm, State.runClocks_calm, State.setPwr_calm, State.bump_calm, State.put_calm, ite_self]

/-- Memory, the Basin, the pair and the requests that wait. -/
structure Core where
  mem : List (Nat × Byte)
  basin : List (Nat × Line)
  pair : Pair
  engQ : List EngReq

/-- That part of a state. -/
def State.core (s : State) : Core := ⟨s.mem, s.basin, s.pair, s.txn.engQ⟩

theorem State.core_of_calm {s t : State} (h : t.calm = s.calm) : t.core = s.core :=
  congrArg (fun c : Calm => Core.mk c.mem c.basin c.pair c.engQ) h

/-! ### The state in which a request is performed (R228, R325) -/

/-- A request leaves the queue of the engine and the run-ahead buffer. -/
def State.taken (s : State) (q : EngReq) : State :=
  let s1 := s.busy.setTxn fun t =>
    { t with engQ := t.engQ.erase q, runAhead := t.runAhead.filter (fun e => !(e.seq == q.seq && e.hdr.tag == q.hdr.tag)) }
  if q.ahead then s1.bump TXN.SPEC_STAT.RUNAHEAD_COMMITTED else s1

/-- It is performed in the state in which its operands are used. -/
def State.readied (s : State) (q : EngReq) : State := (s.taken q).asUsed q

section
variable (s : State) (q : EngReq)

theorem State.busy_regsOnly : RegsOnly s s.busy ∧ OnPages [14] s s.busy := by
  unfold State.busy
  split
  · exact ⟨(RegsOnly.refl s).put .., s.put_onPages _ (by decide)⟩
  · exact ⟨.refl s, .refl _ s⟩

/-- The request leaves the two lists that hold it. -/
def State.without (s : State) (q : EngReq) : State :=
  s.setTxn fun t => { t with engQ := t.engQ.erase q, runAhead := t.runAhead.filter (fun e => !(e.seq == q.seq && e.hdr.tag == q.hdr.tag)) }

/-- Besides, a request that is taken changes registers of the pages TXN and POWER. -/
theorem State.taken_regsOnly : RegsOnly (s.without q) (s.taken q) ∧ OnPages [8, 14] s (s.taken q) := by
  obtain ⟨⟨r, hb⟩, ho⟩ := s.busy_regsOnly
  have lists : RegsOnly (s.without q) (s.busy.without q) := ⟨r, by rw [hb]; rfl⟩
  have off : OnPages [8, 14] s (s.busy.without q) := (ho.mono (by decide)).trans (.of_regs rfl)
  have counted : s.taken q = if q.ahead then (s.busy.without q).bump TXN.SPEC_STAT.RUNAHEAD_COMMITTED else s.busy.without q := rfl
  rw [counted]
  split
  · exact ⟨lists.bump _, off.trans (State.put_onPages _ _ (by decide))⟩
  · exact ⟨lists, off⟩

theorem State.readied_onPages : OnPages [8, 14] s (s.readied q) := by
  exact (s.taken_regsOnly q).2.trans (.of_regs rfl)

theorem State.readied_tables : (s.readied q).tables = s.tables := by
  have hr : (s.readied q).reg IDENT.CAP_AGREED.CAP.key = s.reg IDENT.CAP_AGREED.CAP.key := s.readied_onPages q _ (by decide)
  simp only [State.tables, hr]
  obtain ⟨⟨_, h⟩, -⟩ := s.taken_regsOnly q
  rw [State.readied, h]
  rfl

theorem State.readied_calm : (s.readied q).calm = { s.calm with engQ := s.txn.engQ.erase q } := by
  have hg : ∀ f : Field, f.key / 4096 = 10 → (s.readied q).get f = s.get f := fun f hf =>
    (s.readied_onPages q).get (by rw [hf]; decide)
  simp only [State.calm, hg DEFILE.ESC_BASE.ADDR (by decide), hg DEFILE.ESC_LIMIT.SLOTS (by decide), hg DEFILE.ESC_STAT.NEXT (by decide)]
  obtain ⟨⟨_, h⟩, -⟩ := s.taken_regsOnly q
  rw [State.readied, h]
  rfl

/-- The reads that were issued, and poison, are those of the state in which the operands count as used. -/
theorem State.readied_prefetch : (s.readied q).txn.prefetch = (s.asUsed q).txn.prefetch := by
  obtain ⟨⟨_, h⟩, -⟩ := s.taken_regsOnly q
  rw [State.readied, h]
  rfl
theorem State.readied_poison : (s.readied q).poison = s.poison := by
  obtain ⟨⟨_, h⟩, -⟩ := s.taken_regsOnly q
  rw [State.readied, h]
  rfl
theorem State.readied_mem : (s.readied q).mem = s.mem := congrArg Calm.mem (s.readied_calm q)
theorem State.readied_pageCheck (c p : Nat) (e : Option Word) : (s.readied q).pageCheck c p e = s.pageCheck c p e :=
  State.pageCheck_tables (s.readied_tables q) c p e
theorem State.readied_ctxOf (c : Nat) : (s.readied q).ctxOf c = s.ctxOf c := State.ctxOf_tables (s.readied_tables q) c

end

/-! ### The end of a commit -/

/-- From `u` to `t` operands of the engine are fetched and reads end, and nothing else. -/
def Finished (u t : State) : Prop :=
  ∃ o p ra aw w, t = { u with out := o, txn := { u.txn with prefetch := p, runAhead := ra, aheadWait := aw, written := w } }

theorem Finished.refl (u : State) : Finished u u := ⟨u.out, u.txn.prefetch, u.txn.runAhead, u.txn.aheadWait, u.txn.written, rfl⟩
theorem Finished.trans {u v w : State} (h : Finished u v) (h' : Finished v w) : Finished u w := by
  obtain ⟨_, _, _, _, _, rfl⟩ := h
  obtain ⟨o, p, ra, aw, w, rfl⟩ := h'
  exact ⟨o, p, ra, aw, w, rfl⟩

theorem State.setPrefetch_finished (s : State) (l : List Prefetch) : Finished s (s.setPrefetch l) :=
  ⟨s.out, l, s.txn.runAhead, s.txn.aheadWait, (s.setPrefetch l).txn.written, rfl⟩
theorem State.emit_finished (s : State) (o : Out) : Finished s (s.emit o) :=
  ⟨o :: s.out, s.txn.prefetch, s.txn.runAhead, s.txn.aheadWait, s.txn.written, rfl⟩

theorem State.issueReads_finished (s : State) (q : EngReq) : Finished s (s.issueReads q) :=
  List.foldlRecOn (motive := Finished s) _ _ (.refl s) fun t ht _ _ => ht.trans ((t.emit_finished _).trans (State.setPrefetch_finished ..))

theorem State.fillFrom_finished (s : State) (l : List Ahead) : Finished s (s.fillFrom l) := by
  induction l generalizing s with
  | nil => exact ⟨s.out, s.txn.prefetch, s.txn.runAhead, [], s.txn.written, rfl⟩
  | cons a rest ih =>
    unfold State.fillFrom
    split
    · exact (Finished.trans ⟨s.out, s.txn.prefetch, s.txn.runAhead ++ [a], s.txn.aheadWait, s.txn.written, rfl⟩ (State.issueReads_finished _ _)).trans (ih _)
    · exact ⟨s.out, s.txn.prefetch, s.txn.runAhead, a :: rest, s.txn.written, rfl⟩

theorem State.fillAhead_finished (s : State) : Finished s s.fillAhead := by
  unfold State.fillAhead
  split
  · exact .refl s
  · exact s.fillFrom_finished _

theorem State.dropReads_finished (s : State) (f : Prefetch → Bool) : Finished s (s.dropReads f) := State.setPrefetch_finished ..

theorem Finished.pair {u t : State} (h : Finished u t) : t.pair = u.pair := by
  obtain ⟨_, _, _, _, _, rfl⟩ := h
  rfl
theorem Finished.core {u t : State} (h : Finished u t) : t.core = u.core := by
  obtain ⟨_, _, _, _, _, rfl⟩ := h
  rfl
theorem Finished.lnk {u t : State} (h : Finished u t) : t.lnk = u.lnk := by
  obtain ⟨_, _, _, _, _, rfl⟩ := h
  rfl

/-- A commit performs its request in the state readied for it; what follows fetches and ends reads (R225, R228, R400). -/
theorem Commits.next {s : State} {mine waits : EngReq → Bool} {q : EngReq} (h : Commits s mine waits q) (act : EngReq → State → State)
    (hl : (act q (s.readied q)).pair.leaving = false) : ∃ t, s.commitNext mine waits act = .next t ∧ Finished (act q (s.readied q)) t := by
  obtain ⟨hm, hd, h1, h2, hheld, hfind, hstop, -⟩ := h
  let u := ((act q (s.readied q)).dropReads (fun p => p.owner == some (q.seq, q.hdr.tag) && p.now)).fillAhead
  have run : s.commitNext mine waits act = .next u.leaveDone := by
    simp only [State.commitNext, hstop, State.commit, hm, hd, h1, h2, hheld, hfind, Bool.not_true, Bool.or_self, Bool.false_eq_true, if_false]
    rfl
  have fin : Finished (act q (s.readied q)) u := (State.dropReads_finished ..).trans (State.fillAhead_finished _)
  have stays : u.leaveDone = u := by
    rw [State.leaveDone, fin.pair, hl, Bool.false_and, Bool.false_and, if_neg (by decide)]
  exact ⟨u, by rw [run, stays], fin⟩

/-! ### The answer of a commit (R172, R203, R228) -/

section
variable {s : State} {h : Hdr}

/-- Undefined units are drawn from the free values. -/
theorem State.undefUnits_eq (s : State) (n : Nat) : ∃ c, (s.undefUnits n).2 = { s with freeCtr := c } := by
  induction n generalizing s with
  | zero => exact ⟨s.freeCtr, rfl⟩
  | succ n ih =>
    obtain ⟨c, hc⟩ := ih s.draw.2
    exact ⟨c, hc⟩

theorem State.freeRequest_core (s : State) (h : Hdr) : (s.freeRequest h).core = s.core := by
  obtain ⟨_, e⟩ := s.freeRequest_regsOnly h
  rw [e]
  rfl

theorem State.undefUnits_core (s : State) (n : Nat) : (s.undefUnits n).2.core = s.core := by
  obtain ⟨_, e⟩ := s.undefUnits_eq n
  rw [e]
  rfl

theorem State.setLnk_core (s : State) (f : Link → Link) : (s.setLnk f).core = s.core := rfl

theorem State.respond_core (s : State) (h : Hdr) (st : Status) (vfmt : Nat) (units : List Nat) : (s.respond h st vfmt units).core = s.core := by
  unfold State.respond
  dsimp only
  generalize hs : (if (s.txn.squashed.contains h.tag && h.operation == some .rd) = true then _ else s) = s0
  have h0 : s0.core = s.core := by
    rw [← hs]
    split <;> rfl
  split
  · exact h0
  · rw [State.setLnk_core, apply_ite Prod.snd, apply_ite State.core, State.undefUnits_core, ite_self, h0]

theorem State.answerEng_core (s : State) (h : Hdr) (st : Status) (vfmt : Nat) (units : List Nat) : (s.answerEng h st vfmt units).core = s.core := by
  unfold State.answerEng
  split
  · exact s.freeRequest_core h
  · rw [State.core_of_calm (State.wake_calm ..), State.freeRequest_core, State.respond_core]

/-- The answer to a request whose sender waits is queued, with its units where it is OK. -/
theorem State.answerEng_txQ {s : State} {h : Hdr} (hw : AnswerWanted s h) (st : Status) (vfmt : Nat) (units : List Nat) :
    ∃ us, (s.answerEng h st vfmt units).lnk.txQ = s.lnk.txQ ++
      [{ hdr := { respHdr h st with opd := if st = .ok && (respHdr h st).op == Op.cplD.code then vfmt else 0 }, slots := us }] ∧
      (st = .ok → us = units.take ((lenBytes (respHdr h st).len).getD 0 / 16)) := by
  obtain ⟨hd, hp, hs⟩ := hw
  have hl : ∀ t : State, ((t.freeRequest h).wake 2).lnk = t.lnk := fun t =>
    (congrArg Calm.lnk ((t.freeRequest h).wake_calm 2)).trans (t.freeRequest_regsOnly h).lnk
  simp only [State.answerEng, hp, Bool.false_eq_true, if_false, hl, State.respond, hs, Bool.false_and, hd]
  by_cases hst : st = .ok
  · exact ⟨_, by rw [if_pos hst]; rfl, fun _ => rfl⟩
  · obtain ⟨_, e⟩ := s.undefUnits_eq ((lenBytes (respHdr h st).len).getD 0 / 16)
    refine ⟨_, by rw [if_neg hst, State.setLnk_lnk, e], fun h' => absurd h' hst⟩

theorem State.answerEng_ok {s : State} {h : Hdr} (hw : AnswerWanted s h) (vfmt : Nat) (units : List Nat) :
    AnsweredOk s (s.answerEng h .ok vfmt units) h vfmt units := by
  obtain ⟨us, hq, hu⟩ := State.answerEng_txQ hw .ok vfmt units
  rw [AnsweredOk, hq, hu rfl]
  simp

theorem State.answerEng_with {s : State} {h : Hdr} (hw : AnswerWanted s h) {st : Status} (hst : st ≠ .ok) (vfmt : Nat) (units : List Nat) :
    AnsweredWith s (s.answerEng h st vfmt units) h st := by
  obtain ⟨us, hq, -⟩ := State.answerEng_txQ hw st vfmt units
  refine ⟨us, ?_⟩
  rw [hq]
  simp [hst, respHdr]

end

end Sys2Proof.Machine
end

section
/-!
PROOFS. What the engine writes (R302, R319 to R322, R327): its counts, captures, reports and reads leave the calm part alone, and a job
changes memory in the escape area and in the ranges of its rows alone.
-/

namespace Sys2Proof.Machine

/-! ### Quiet operations -/

@[simp] theorem State.setTblPart_calm (s : State) (i : Nat) (w : Word) : (s.setTblPart i w).calm = s.calm := by
  obtain ⟨_, _, h⟩ := s.setTblPart_eq i w
  rw [h]
  rfl
@[simp] theorem State.setCtx_calm (s : State) (c w lo wd v : Nat) : (s.setCtx c w lo wd v).calm = s.calm := State.setTblPart_calm ..
@[simp] theorem State.ctxCount_calm (s : State) (c w lo : Nat) : (s.ctxCount c w lo).calm = s.calm := State.setCtx_calm ..

@[simp] theorem State.markLost_calm (s : State) (c : Nat) : (s.markLost c).calm = s.calm := by
  simp only [State.markLost, apply_ite State.calm, State.setTblPart_calm, ite_self]
@[simp] theorem State.reportLost_calm (s : State) (c cause : Nat) : (s.reportLost c cause).calm = s.calm := by
  unfold State.reportLost
  dsimp only
  rw [State.raise_calm, apply_ite State.calm]
  exact (ite_self _).trans (s.markLost_calm c)

@[simp] theorem State.bindBad_calm (s : State) (p c : Nat) : (s.bindBad p c).calm = s.calm := by
  simp +decide only [State.bindBad, State.raise_calm, State.put_calm, State.bump_calm]
@[simp] theorem State.pageBad_calm (s : State) (st : Status) (p : Nat) (c : PageCheck) : (s.pageBad st p c).calm = s.calm := by
  unfold State.pageBad
  split
  · simp only [apply_ite State.calm, State.bindBad_calm, ite_self]
  · rfl
@[simp] theorem State.recipeBad_calm (s : State) (slot c : Nat) : (s.recipeBad slot c).calm = s.calm := by
  simp +decide only [State.recipeBad, State.raise_calm, State.put_calm, State.bump_calm]
@[simp] theorem State.postedFx_calm (s : State) (h : Hdr) (fx : PostedFx) : (s.postedFx h fx).calm = s.calm := by
  cases fx <;> simp +decide only [State.postedFx, State.reportLost_calm, State.bump_calm]

@[simp] theorem State.safeCapture_calm (s : State) (c e : Nat) : (s.safeCapture c e).calm = s.calm := by
  simp +decide only [State.safeCapture, State.put_calm]
@[simp] theorem State.budget_calm (s b : State) (c : Nat) : (s.budget b c).calm = s.calm := by
  simp only [State.budget, apply_ite State.calm, State.raise_calm, State.safeCapture_calm, ite_self]
@[simp] theorem State.countSat_calm (s : State) (c : Nat) : (s.countSat c).calm = s.calm := by
  simp only [State.countSat, State.budget_calm, State.ctxCount_calm]
@[simp] theorem State.countEsc_calm (s : State) (c : Nat) : (s.countEsc c).calm = s.calm := by
  simp only [State.countEsc, State.budget_calm, State.ctxCount_calm]
@[simp] theorem State.countNf_calm (s : State) (c : Nat) : (s.countNf c).calm = s.calm := State.ctxCount_calm ..
@[simp] theorem State.satBlock_calm (s : State) (c : Nat) : (s.satBlock c).calm = s.calm := by
  simp +decide only [State.satBlock, State.countSat_calm, State.bump_calm]
@[simp] theorem State.satOnce_calm (s : State) (c : Nat) (b : Bool) : (s.satOnce c b).calm = s.calm := by
  simp only [State.satOnce, apply_ite State.calm, State.countSat_calm, ite_self]
@[simp] theorem State.scaleRange_calm (s : State) (c : Nat) (h : Bool) : (s.scaleRange c h).calm = s.calm := by
  cases h <;> simp +decide only [State.scaleRange, State.raise_calm, State.safeCapture_calm, State.bump_calm, if_true, if_false]

/-- The guard unit's block is written, whatever the encoder gives (R329). -/
theorem State.guardSample_guard (s : State) (c a : Nat) (g : Encoded) : (s.guardSample c a g).1 = g := by
  have differs : g.scale ^^^ 1 ≠ g.scale := fun h => by
    have := Nat.xor_xor_cancel_left g.scale 1
    simp [h] at this
  unfold State.guardSample State.guardCompare
  cases s.eng.encErr <;> simp only [apply_ite Prod.fst, differs, Bool.false_eq_true, false_and, and_self, if_true, if_false, ite_self]
@[simp] theorem State.guardCompare_calm (s : State) (c a : Nat) (e g : Encoded) : (s.guardCompare c a e g).2.calm = s.calm := by
  simp +decide only [State.guardCompare, apply_ite Prod.snd, apply_ite State.calm, State.raise_calm, State.put_calm, State.bump_calm, ite_self]
@[simp] theorem State.guardSample_calm (s : State) (c a : Nat) (g : Encoded) : (s.guardSample c a g).2.calm = s.calm := by
  unfold State.guardSample
  dsimp only
  split
  · rfl
  split
  · exact (State.guardCompare_calm ..).trans (s.bump_calm (by decide))
  · rfl

/-! ### Reads of operands -/

@[simp] theorem State.noteWrite_calm (s : State) (g : Nat) : (s.noteWrite g).calm = s.calm := by
  unfold State.noteWrite
  dsimp only
  repeat' split
  · rfl
  · rfl
  · rfl
  · exact State.bump_calm _ (by decide)

@[simp] theorem State.useRanges_calm (s : State) (rs : List (Nat × Nat)) : (s.useRanges rs).calm = s.calm := by
  unfold State.useRanges State.endReads
  dsimp only
  rw [State.setPrefetch_calm, apply_ite State.calm, foldl_keeps State.calm fun t g => t.emit_calm _, State.bump_calm _ (by decide), ite_self]

@[simp] theorem State.readBlock_calm (s : State) (r : Run) (g : Nat) (x : Int) : (s.readBlock r g x).2.calm = s.calm := by
  simp only [State.readBlock, apply_ite Prod.snd, apply_ite State.calm, State.raise_calm, ite_self]
@[simp] theorem State.readBlocks_calm (s : State) (r : Run) (x : Int) (gs : List Nat) : (s.readBlocks r x gs).2.calm = s.calm := by
  induction gs generalizing s with
  | nil => rfl
  | cons g gs ih => exact (ih _).trans (s.readBlock_calm r g x)
@[simp] theorem Target.read_calm (t : Target) (s : State) (n : Nat) (ks : List Nat) (x : Int) : (t.read s n ks x).2.calm = s.calm := by
  unfold Target.read
  dsimp only
  split
  · exact (State.readBlocks_calm ..).trans (s.useRanges_calm _)
  · exact s.useRanges_calm _

/-! ### Writes of memory -/

theorem State.setMemBytes_eq (s : State) (a : Nat) (bs : List Byte) : ∃ m, s.setMemBytes a bs = { s with mem := m } := by
  induction bs generalizing s a with
  | nil => exact ⟨s.mem, rfl⟩
  | cons b bs ih =>
    obtain ⟨m, h⟩ := ih (s.setMem a b) (a + 1)
    exact ⟨m, h⟩

/-- A write of the engine changes memory in the calm part. -/
theorem State.engWrite_calm (s : State) (a : Nat) (bs : List Byte) : (s.engWrite a bs).calm = { s.calm with mem := (s.engWrite a bs).mem } := by
  have notes : ∀ t : State, (t.noteWrites a bs.length).calm = t.calm := fun t => foldl_keeps State.calm State.noteWrite_calm _ t
  rw [s.engWrite_mem, State.engWrite, State.memTake, notes, ← (s.emit_setMemBytes (.memWrite a bs) a bs)]
  obtain ⟨_, h⟩ := (s.emit (.memWrite a bs)).setMemBytes_eq a bs
  rw [h]
  rfl

/-! ### Works of the engine (R302, R327) -/

/-- The escape slots that are still free: an address and a length (R327). -/
def State.escRange (s : State) : Nat × Nat :=
  (64 * s.get DEFILE.ESC_BASE.ADDR + 64 * s.get DEFILE.ESC_STAT.NEXT, 64 * (s.get DEFILE.ESC_LIMIT.SLOTS - s.get DEFILE.ESC_STAT.NEXT))

/-- From `s` to `t` memory changes in the free escape slots and in some ranges, escape slots are taken, and the rest of the calm part is kept. -/
structure Works (rs : List (Nat × Nat)) (s t : State) : Prop where
  calm : t.calm = { s.calm with mem := t.mem, escNext := t.get DEFILE.ESC_STAT.NEXT }
  next : s.get DEFILE.ESC_STAT.NEXT ≤ t.get DEFILE.ESC_STAT.NEXT
  kept : MemoryKeptOutside s t (s.escRange :: rs)

section
variable {rs : List (Nat × Nat)} {s t u : State}

theorem State.escNext_calm (h : t.calm = s.calm) : t.get DEFILE.ESC_STAT.NEXT = s.get DEFILE.ESC_STAT.NEXT := congrArg Calm.escNext h
theorem State.mem_calm (h : t.calm = s.calm) : t.mem = s.mem := congrArg Calm.mem h

theorem Works.of_calm (h : t.calm = s.calm) : Works rs s t where
  calm := by rw [h, State.mem_calm h, State.escNext_calm h]; rfl
  next := (State.escNext_calm h).ge
  kept := fun a _ => State.memByte_calm h a
theorem Works.refl (rs : List (Nat × Nat)) (s : State) : Works rs s s := .of_calm rfl

theorem Works.trans (h : Works rs s t) (h' : Works rs t u) : Works rs s u where
  calm := by rw [h'.calm, h.calm]
  next := h.next.trans h'.next
  kept := fun a ha => by
    have hb : t.get DEFILE.ESC_BASE.ADDR = s.get DEFILE.ESC_BASE.ADDR := congrArg Calm.escBase h.calm
    have hl : t.get DEFILE.ESC_LIMIT.SLOTS = s.get DEFILE.ESC_LIMIT.SLOTS := congrArg Calm.escSlots h.calm
    have hn := h.next
    refine (h'.kept a fun r hr => ?_).trans (h.kept a ha)
    rcases List.mem_cons.mp hr with rfl | hr
    · have := ha _ List.mem_cons_self
      simp only [State.escRange, hb, hl] at this ⊢
      omega
    · exact ha r (List.mem_cons_of_mem _ hr)

theorem Works.mono {qs : List (Nat × Nat)} (h : Works rs s t) (hs : ∀ r ∈ rs, r ∈ qs) : Works qs s t where
  calm := h.calm
  next := h.next
  kept := fun a ha => h.kept a fun r hr => by
    rcases List.mem_cons.mp hr with rfl | hr
    · exact ha _ List.mem_cons_self
    · exact ha r (List.mem_cons_of_mem _ (hs r hr))

theorem Works.foldl {α : Type} {f : State → α → State} {l : List α} (hf : ∀ x ∈ l, ∀ t, Works rs t (f t x)) (s : State) :
    Works rs s (l.foldl f s) :=
  List.foldlRecOn (motive := Works rs s) l f (.refl rs s) fun t ht x hx => ht.trans (hf x hx t)

end

/-- Bytes written change memory where they lie. -/
theorem State.memByte_engWrite_apart (s : State) {a : Nat} {bs : List Byte} {b : Nat} (h : b < a ∨ a + bs.length ≤ b) :
    (s.engWrite a bs).memByte b = s.memByte b := by
  rw [State.memByte_engWrite]
  split
  · rw [List.getD_eq_default _ _ (by omega)]
  · rfl

theorem natBytes_length (v n : Nat) : (natBytes v n).length = n := by
  induction n generalizing v with
  | zero => rfl
  | succ n ih => rw [natBytes, List.length_cons, ih]

section
variable {rs : List (Nat × Nat)} (s : State)

theorem State.engWrite_works {a : Nat} {bs : List Byte} (h : (a, bs.length) ∈ rs) : Works rs s (s.engWrite a bs) where
  calm := by
    have hn : (s.engWrite a bs).get DEFILE.ESC_STAT.NEXT = s.get DEFILE.ESC_STAT.NEXT := congrArg Calm.escNext (s.engWrite_calm a bs)
    rw [hn, s.engWrite_calm]
    rfl
  next := (congrArg Calm.escNext (s.engWrite_calm a bs)).ge
  kept := fun b hb => s.memByte_engWrite_apart (hb _ (List.mem_cons_of_mem _ h))

theorem State.natWrite_works {a n : Nat} (h : (a, n) ∈ rs) (v : Nat) : Works rs s (s.engWrite a (natBytes v n)) :=
  s.engWrite_works (by rwa [natBytes_length])

end

/-- A slot of the escape area is written, the next one if it is free (R327). -/
theorem State.escSlot_works (rs : List (Nat × Nat)) (s : State) (hn : s.get DEFILE.ESC_STAT.NEXT < s.get DEFILE.ESC_LIMIT.SLOTS) (v : Nat) :
    Works rs s (s.engWrite (64 * s.get DEFILE.ESC_BASE.ADDR + 64 * s.get DEFILE.ESC_STAT.NEXT) (natBytes v 64)) := by
  have w := s.natWrite_works (rs := [(64 * s.get DEFILE.ESC_BASE.ADDR + 64 * s.get DEFILE.ESC_STAT.NEXT, 64)]) List.mem_cons_self v
  refine ⟨w.calm, w.next, fun a ha => w.kept a fun r hr => ?_⟩
  have free := ha _ List.mem_cons_self
  rcases List.mem_cons.mp hr with rfl | hr
  · exact free
  · rw [List.mem_singleton.mp hr]
    simp only [State.escRange] at free ⊢
    omega

theorem State.escNext_works (rs : List (Nat × Nat)) (s : State) (hn : s.get DEFILE.ESC_STAT.NEXT < s.get DEFILE.ESC_LIMIT.SLOTS) :
    Works rs s (s.put DEFILE.ESC_STAT.NEXT (s.get DEFILE.ESC_STAT.NEXT + 1)) := by
  have hb : (s.put DEFILE.ESC_STAT.NEXT (s.get DEFILE.ESC_STAT.NEXT + 1)).get DEFILE.ESC_BASE.ADDR = s.get DEFILE.ESC_BASE.ADDR :=
    s.get_put_apart _ (by decide)
  have hl : (s.put DEFILE.ESC_STAT.NEXT (s.get DEFILE.ESC_STAT.NEXT + 1)).get DEFILE.ESC_LIMIT.SLOTS = s.get DEFILE.ESC_LIMIT.SLOTS :=
    s.get_put_apart _ (by decide)
  refine ⟨by simp only [State.calm, hb, hl]; rfl, ?_, fun a _ => rfl⟩
  have hw : s.get DEFILE.ESC_LIMIT.SLOTS < 2 ^ 24 := s.get_lt _
  rw [State.get_put_same _ _ _ (by decide), Nat.mod_eq_of_lt (by simp only [DEFILE.ESC_STAT.NEXT] at *; omega)]
  exact Nat.le_succ _

/-- The ranges of a block of a run (R283). -/
def Run.ranges (r : Run) (g : Nat) : List (Nat × Nat) := [(r.elemAddr g, elemBytes r.fmt), (r.scaleAddr g, scaleBytes r.fmt)]

section
variable {rs : List (Nat × Nat)} {r : Run} {g : Nat} (h : ∀ x ∈ r.ranges g, x ∈ rs) (s : State)
include h

theorem State.putBlock_works (scale z field : Nat) : Works rs s (s.putBlock r g scale z field) :=
  (s.natWrite_works (h _ (by simp [Run.ranges])) _).trans (State.natWrite_works _ (h _ (by simp [Run.ranges])) _)

theorem State.poisonWrite_works (ctx : Nat) : Works rs s (s.poisonWrite ctx r g) :=
  (Works.of_calm (by simp +decide only [State.countNf_calm, State.bump_calm])).trans (State.putBlock_works h _ ..)

/-- A block that goes to the escape area takes the next slot. -/
theorem State.escapeBlock_works (ctx : Nat) (enc esc : Encoded) : Works rs s (s.escapeBlock ctx r g enc esc) := by
  unfold State.escapeBlock
  dsimp only
  have put : ∀ t sc z f, Works rs t (t.putBlock r g sc z f) := State.putBlock_works h
  split
  · have sat : ∀ t : State, Works rs t (t.satBlock ctx) := fun t => .of_calm (t.satBlock_calm ctx)
    split
    · exact (put ..).trans (sat _)
    · exact ((put ..).trans (sat _)).trans (.of_calm ((State.raise_calm ..).trans (State.safeCapture_calm ..)))
  split
  · exact (put ..).trans (.of_calm ((State.reportLost_calm ..).trans (State.countNf_calm ..)))
  · rename_i full _
    have hn : s.get DEFILE.ESC_STAT.NEXT < s.get DEFILE.ESC_LIMIT.SLOTS := by
      have := not_or.mp full
      omega
    let t := (s.engWrite (64 * s.get DEFILE.ESC_BASE.ADDR + 64 * s.get DEFILE.ESC_STAT.NEXT) (natBytes (escSlot (r.ident g 0) r.fmt esc) 64)).putBlock r g
      (poisonScale r.fmt) 0 ((64 * s.get DEFILE.ESC_BASE.ADDR + 64 * s.get DEFILE.ESC_STAT.NEXT) / 64)
    have kept : t.calm = { s.calm with mem := t.mem } := by
      simp only [t, State.putBlock, State.engWrite_calm]
    have hnext : t.get DEFILE.ESC_STAT.NEXT = s.get DEFILE.ESC_STAT.NEXT := congrArg Calm.escNext kept
    have hslots : t.get DEFILE.ESC_LIMIT.SLOTS = s.get DEFILE.ESC_LIMIT.SLOTS := congrArg Calm.escSlots kept
    have taken := t.escNext_works rs (by rw [hnext, hslots]; exact hn)
    rw [hnext] at taken
    exact (((State.escSlot_works rs s hn _).trans (put ..)).trans taken).trans (.of_calm ((State.countEsc_calm ..).trans (State.bump_calm _ (by decide))))

/-- A block written under the safeguards is put in its place, or poisoned with its contents in an escape slot (R326, R327). -/
theorem State.encodeWrite_works (ctx : Nat) (mode : Rnd) (vs : List Nat) (clamped : Bool) :
    Works rs s (s.encodeWrite ctx r g mode vs clamped) := by
  have put : ∀ t sc z f, Works rs t (t.putBlock r g sc z f) := State.putBlock_works h
  unfold State.encodeWrite
  dsimp only
  generalize henc : s.guardSample ctx (r.elemAddr g) _ = p
  have hp : p.2.calm = s.calm := by rw [← henc, State.guardSample_calm]
  obtain ⟨enc, s0⟩ := p
  dsimp only at hp ⊢
  split
  · exact Works.trans (.of_calm (by simp +decide only [State.countNf_calm, State.bump_calm, hp])) (put ..)
  · generalize h3 : ite (enc.high = true) _ _ = s3
    have quiet : s3.calm = s.calm := by
      rw [← h3]
      simp +decide only [apply_ite State.calm, State.countSat_calm, State.scaleRange_calm, State.bump_calm, ite_self, hp]
    generalize h4 : ite ((_ && _) = true) _ _ = s4
    have written : Works rs s3 s4 := by
      rw [← h4]
      split
      · exact State.escapeBlock_works h s3 ..
      · split
        · exact (put ..).trans (.of_calm (State.satBlock_calm ..))
        · exact put ..
    refine (Works.of_calm quiet).trans (written.trans (.of_calm ?_))
    rw [apply_ite State.calm, State.countSat_calm, ite_self]

/-- A block of which some elements are new is read, merged and written again (R320, R321). -/
theorem State.writeBlock_works (ctx : Nat) (mode : Rnd) (vals : List (Nat × Nat)) (clamped : List Nat) :
    Works rs s (s.writeBlock ctx r g mode vals clamped) := by
  unfold State.writeBlock
  dsimp only
  split
  · exact State.encodeWrite_works h s ..
  · refine Works.trans (.of_calm ?_) (State.encodeWrite_works h _ ..)
    simp +decide only [State.bump_calm, State.readBlock_calm, State.useRanges_calm]

end

/-! ### Rows (R302, R316) -/

theorem State.writeScalars_one (s : State) (c f a : Nat) (m : Rnd) (v : Nat) : (s.writeScalars c f a m [v]).2 =
    s.engWrite a (natBytes ((scalarFmt f).convert m ((s.ctxOf c).rnd (scalarIdent a (fmtBytes f)) 7) (f32 v)).1 (fmtBytes f)) := rfl

/-- The ranges of a row of a view are those of its blocks. -/
theorem Target.ranges_block {t : Target} (hv : t.view = true) {ks : List Nat} {g : Nat} (hg : g ∈ t.blocks ks) :
    ∀ x ∈ t.run.ranges g, x ∈ t.ranges ks := fun x hx => by
  rw [Target.ranges, if_pos hv]
  exact List.mem_flatten.mpr ⟨_, List.mem_map_of_mem hg, hx⟩

/-- The elements written to a view's run lie in the blocks of the row. -/
theorem Target.blocks_map (t : Target) (vals : List (Nat × Nat)) :
    dedup ((vals.map (fun v => (t.e0 + v.1, v.2))).map (fun v => v.1 / blockSize t.run.fmt)) = t.blocks (vals.map (·.1)) := by
  rw [Target.blocks, List.map_map, List.map_map]
  rfl

/-- The elements of a row are written in its ranges. -/
theorem Target.write_works (t : Target) (s : State) (c : Nat) (m : Rnd) (vals : List (Nat × Nat)) (cl : List Nat) {rs : List (Nat × Nat)}
    (h : ∀ x ∈ t.ranges (vals.map (·.1)), x ∈ rs) : Works rs s (t.write s c m vals cl).2 := by
  unfold Target.write
  split
  · rename_i hv
    dsimp only
    rw [State.writeRun, t.blocks_map]
    exact Works.foldl (fun g hg u => State.writeBlock_works (fun x hx => h x (Target.ranges_block hv hg x hx)) u ..) s
  · rename_i hv
    have place : ∀ v ∈ vals, (t.addr + v.1 * fmtBytes t.fmt, fmtBytes t.fmt) ∈ rs := fun v hm =>
      h _ (by rw [Target.ranges, if_neg hv]; exact List.mem_map_of_mem (List.mem_map_of_mem hm))
    refine List.foldlRecOn (motive := fun p : Bool × State => Works rs s p.2) vals _ (.refl rs s) fun p hp v hm => hp.trans ?_
    exact State.natWrite_works _ (place v hm) _

end Sys2Proof.Machine
end

section
/-!
PROOFS. Jobs of the engine (R172, R304 to R306, R316, R319 to R323): the checks before a job, what one that is turned away answers, and what one
that runs writes.
-/

namespace Sys2Proof.Machine

/-! ### The order of answers (R172) -/

section
variable {l : List Status}

theorem firstStatus_nil : firstStatus [] = .ok := rfl

theorem firstStatus_drained (h : Status.drained ∈ l) (hs : Status.squashed ∉ l) : firstStatus l = .drained := by
  simp [firstStatus, precedence, h, hs]

theorem firstStatus_denied (h : Status.denied ∈ l) (hd : Status.drained ∉ l) (hs : Status.squashed ∉ l) : firstStatus l = .denied := by
  simp [firstStatus, precedence, h, hd, hs]

theorem mem_stIf {b : Bool} {st st' : Status} : st ∈ stIf b st' ↔ b = true ∧ st = st' := by
  cases b <;> simp [stIf]

end

/-- What a page and its context record give a request: DRAINED alone, or DENIED, RETRY or both as they apply (R304 to R306). -/
theorem State.pageCheck_sts (s : State) (c p : Nat) (e : Option Word) :
    (s.pageCheck c p e).sts = [.drained] ∨ ∃ a b, (s.pageCheck c p e).sts = stIf a .denied ++ stIf b .retry := by
  have denied : ∃ a b, [Status.denied] = stIf a .denied ++ stIf b .retry := ⟨true, false, rfl⟩
  unfold State.pageCheck
  dsimp only
  split
  · exact .inr denied
  split
  · exact .inr denied
  split
  · exact .inr denied
  dsimp only
  split
  · exact .inl rfl
  split
  · exact .inr denied
  · exact .inr ⟨_, _, rfl⟩

theorem State.pageCheck_bind (s : State) (c p : Nat) (e : Option Word) : (s.pageCheck c p e).bind = Binding.of e := by
  unfold State.pageCheck
  dsimp only
  repeat' split
  all_goals rfl

/-- A page never answers SQUASHED. -/
theorem State.squashed_not_mem_pageCheck (s : State) (c p : Nat) (e : Option Word) : Status.squashed ∉ (s.pageCheck c p e).sts := by
  rcases s.pageCheck_sts c p e with h | ⟨a, b, h⟩ <;> simp [h, mem_stIf]

/-- What turns a request away, other than RETRY, is DRAINED alone or DENIED without it. -/
theorem State.pageCheck_refuses {s : State} {c p : Nat} {e : Option Word} {st : Status} (hm : st ∈ (s.pageCheck c p e).sts) (hr : st ≠ .retry) :
    (st = .drained ∧ (s.pageCheck c p e).sts = [.drained]) ∨ (st = .denied ∧ Status.drained ∉ (s.pageCheck c p e).sts) := by
  rcases s.pageCheck_sts c p e with h | ⟨a, b, h⟩
  · exact .inl ⟨by simpa [h] using hm, h⟩
  · refine .inr ⟨?_, by simp [h, mem_stIf]⟩
    rw [h, List.mem_append, mem_stIf, mem_stIf] at hm
    exact (hm.resolve_right fun x => hr x.2).2

/-! ### The parts of a job -/

section
variable (s : State) (q : EngReq) (j : XfJob)

/-- The rows of a job on the page of its request. -/
def State.jobRows : XfRows := s.rowsOf q (s.pageCheck q.hdr.ctx q.page q.bind).bind j

/-- The check of the z page. -/
def State.jobZ : PageCheck :=
  if !(s.jobRows q j).usesZ || decide (131072 ≤ q.page) then ⟨⟨0⟩, [], none⟩ else match (s.jobRows q j).zp with
    | some p => s.pageCheck q.hdr.ctx p (q.entry s p)
    | none => ⟨⟨0⟩, [.denied], none⟩

/-- Why its recipe is refused. -/
def State.jobBad : Option Nat :=
  if j.rcp.isSome then (j.rcp.getD ⟨0, [], []⟩).refusal j.use (!(s.pageCheck q.hdr.ctx q.page q.bind).bind.isView &&
    ((s.jobRows q j).readsY || (s.jobRows q j).writesY || q.hdr.vfmt == 0)) ((s.jobRows q j).usesZ && !(s.jobRows q j).zb.isView) else none

/-- Its VFMT is refused. -/
def State.jobVfmt : Bool :=
  if j.use = .viewWrite then q.hdr.vfmt != 0 && q.hdr.vfmt != (s.pageCheck q.hdr.ctx q.page q.bind).bind.vfmt else vfmtBad q.hdr.vfmt

/-- It would write part of an element, or of a block that its page does not let it write in part. -/
def State.jobCut : Bool :=
  j.split || ((s.jobRows q j).writesY && (s.jobRows q j).y.refuses j.ks) || ((s.jobRows q j).writesZ && (s.jobRows q j).z.refuses j.ks) ||
    (j.use == .viewWrite && s.jobVfmt q j)

/-- The statuses that the checks before a job give. -/
def State.jobSts : List Status :=
  (s.pageCheck q.hdr.ctx q.page q.bind).sts ++ (s.jobZ q j).sts ++
    stIf ((s.jobRows q j).known && decide (2 ^ 23 < q.off + j.n * fmtBytes (s.jobRows q j).y.fmt)) .denied ++
    stIf ((s.jobRows q j).usesZ && fmtScalar (s.jobRows q j).z.fmt && decide (pageElems (s.jobRows q j).z.fmt < (s.jobRows q j).j0 + j.n)) .denied ++
    stIf (s.jobCut q j || s.jobVfmt q j || (s.jobBad q j).isSome) Status.fmtRefused ++ stIf (s.ctxOf q.hdr.ctx).lost .poison

/-- A job that is turned away with a status counts what is bad. -/
def State.jobRefuse (st : Status) : State :=
  ((match s.jobBad q j with
    | some cause => if st = Status.fmtRefused then s.recipeBad j.slot cause else s
    | none => s).pageBad st q.page (s.pageCheck q.hdr.ctx q.page q.bind)).pageBad st ((s.jobRows q j).zp.getD 0) (s.jobZ q j)

/-- A poisoned view write poisons its blocks. -/
def State.jobPoison : State :=
  if j.use = .viewWrite then
    let s1 := if (s.jobRows q j).writesY then ((s.jobRows q j).y.blocks j.ks).foldl (fun t g => t.poisonWrite q.hdr.ctx (s.jobRows q j).y.run g) s else s
    if (s.jobRows q j).writesZ && (s.jobRows q j).z.view then
      ((s.jobRows q j).z.blocks j.ks).foldl (fun t g => t.poisonWrite q.hdr.ctx (s.jobRows q j).z.run g) s1
    else s1
  else s

/-- What memory answers to the operands of a job. -/
def State.jobAnswers : List Status :=
  (if j.use == .viewWrite && !(s.jobRows q j).readsY && (s.jobRows q j).y.answer s ((s.jobRows q j).needY j) == .poison then []
    else ansStatus ((s.jobRows q j).y.answer s ((s.jobRows q j).needY j))) ++ ansStatus ((s.jobRows q j).z.answer s ((s.jobRows q j).needZ j))

/-- The values of y and of z that a job reads, and the state after. -/
def State.jobYs : List (Nat × Bool) × State :=
  if (s.jobRows q j).readsY then (s.jobRows q j).y.read s j.n j.ks (s.ctxOf q.hdr.ctx).texp else ([], s)
def State.jobZs : List (Nat × Bool) × State :=
  if (s.jobRows q j).readsZ then (s.jobRows q j).z.read (s.jobYs q j).2 j.n j.ks (s.ctxOf q.hdr.ctx).texp else ([], (s.jobYs q j).2)

/-- The recipe run on an element. -/
def State.jobEnv (x : Nat × Nat) : RcpEnv :=
  (j.rcp.getD ⟨0, [], []⟩).run (fun p => (s.ctxOf q.hdr.ctx).rnd ((s.jobRows q j).y.ident x.1) p) x.2 ((s.jobYs q j).1.getD x.1 (0, false)).1
    ((s.jobZs q j).1.getD x.1 (0, false)).1 ((s.jobYs q j).1.getD x.1 (0, false)).1
def State.jobEnvs : List (Nat × RcpEnv) := j.xs.map (fun x => (x.1, s.jobEnv q j x))
def State.jobClamped : List Nat := ((s.jobEnvs q j).filter (fun e => e.2.guard)).map (·.1)

/-- The values written to y. -/
def State.jobYv : List (Nat × Nat) :=
  if j.rcp.isSome then (s.jobEnvs q j).map (fun e => (e.1, (j.rcp.getD ⟨0, [], []⟩).yOut j.use e.2)) else j.xs

/-- y is written, and then z. -/
def State.jobY : Bool × State :=
  if (s.jobRows q j).writesY then
    (s.jobRows q j).y.write (s.jobZs q j).2 q.hdr.ctx (if j.rcp.isSome then rndOf (j.rcp.getD ⟨0, [], []⟩).rndY else .rne) (s.jobYv q j) (s.jobClamped q j)
  else (false, (s.jobZs q j).2)
def State.jobWritten : Bool × State :=
  if (s.jobRows q j).writesZ then
    (s.jobRows q j).z.write (s.jobY q j).2 q.hdr.ctx (rndOf (j.rcp.getD ⟨0, [], []⟩).rndZ)
      ((s.jobEnvs q j).map (fun e => (e.1, e.2.sel (j.rcp.getD ⟨0, [], []⟩).outZ))) (s.jobClamped q j)
  else (false, (s.jobY q j).2)

/-- The values returned. -/
def State.jobRets : List Nat × Bool :=
  if j.use = .applyR then
    retCodes (s.ctxOf q.hdr.ctx) (s.jobRows q j).y j.xFmt (rndOf (j.rcp.getD ⟨0, [], []⟩).rndRet)
      ((s.jobEnvs q j).map (fun e => e.2.sel (j.rcp.getD ⟨0, [], []⟩).ret))
  else ([], false)

/-- A job is turned away by its checks, poisons blocks, is turned away by memory, or runs. -/
theorem State.runJob_eq : s.runJob q j =
    if firstStatus (s.jobSts q j) ≠ .ok then
      (⟨firstStatus (s.jobSts q j), [], jobFx (firstStatus (s.jobSts q j)) (s.jobCut q j) (s.jobZ q j)⟩, s.jobRefuse q j (firstStatus (s.jobSts q j)))
    else if q.hdr.poison then (⟨.poison, [], .none⟩, s.jobPoison q j)
    else if firstStatus (s.jobAnswers q j) ≠ .ok then
      (⟨firstStatus (s.jobAnswers q j), [], jobFx (firstStatus (s.jobAnswers q j)) false (s.jobZ q j)⟩, s)
    else
      (⟨.ok, (s.jobRets q j).1, .none⟩,
        (s.jobWritten q j).2.satOnce q.hdr.ctx ((s.jobY q j).1 || (s.jobWritten q j).1 || (s.jobRets q j).2)) := rfl

/-! ### A job that is turned away -/

/-- It keeps the calm part, whatever it counts. -/
theorem State.jobRefuse_calm (st : Status) : (s.jobRefuse q j st).calm = s.calm := by
  rw [State.jobRefuse, State.pageBad_calm, State.pageBad_calm]
  split
  · rw [apply_ite State.calm, State.recipeBad_calm, ite_self]
  · rfl

variable {s q j}

theorem State.runJob_refused {st : Status} (h : firstStatus (s.jobSts q j) = st) (hst : st ≠ .ok) :
    (s.runJob q j).1.st = st ∧ (s.runJob q j).2.calm = s.calm := by
  rw [State.runJob_eq, h, if_pos hst]
  exact ⟨rfl, s.jobRefuse_calm q j st⟩

/-- The checks before a job never answer SQUASHED. -/
theorem State.squashed_not_mem_jobSts : Status.squashed ∉ s.jobSts q j := by
  have hz : Status.squashed ∉ (s.jobZ q j).sts := by
    unfold State.jobZ
    repeat' split
    · exact List.not_mem_nil
    · exact s.squashed_not_mem_pageCheck _ _ _
    · decide
  simp [State.jobSts, mem_stIf, hz, s.squashed_not_mem_pageCheck]

/-- A page that denies a job, or is drained, turns it away with DENIED or DRAINED. -/
theorem State.jobSts_denied (h : ∃ st ∈ (s.pageCheck q.hdr.ctx q.page q.bind).sts, st = .denied ∨ st = .drained) :
    firstStatus (s.jobSts q j) ∈ [Status.denied, .drained] := by
  obtain ⟨st, hm, hst⟩ := h
  have hj : st ∈ s.jobSts q j := by simp [State.jobSts, hm]
  by_cases hd : Status.drained ∈ s.jobSts q j
  · rw [firstStatus_drained hd State.squashed_not_mem_jobSts]
    decide
  · rcases hst with rfl | rfl
    · rw [firstStatus_denied hj hd State.squashed_not_mem_jobSts]
      decide
    · exact absurd hj hd

/-- A view write without a recipe uses no z page, so that its page alone says what turns it away. -/
theorem State.jobSts_refuses (hr : j.rcp = none) {st : Status} (hm : st ∈ (s.pageCheck q.hdr.ctx q.page q.bind).sts) (hst : st ≠ .retry) :
    firstStatus (s.jobSts q j) = st := by
  have hj : st ∈ s.jobSts q j := by simp [State.jobSts, hm]
  have noZ : (s.jobZ q j).sts = [] := by
    have unused : (s.jobRows q j).usesZ = false := by simp [State.jobRows, State.rowsOf, XfRows.usesZ, hr]
    rw [State.jobZ, unused]
    rfl
  rcases State.pageCheck_refuses hm hst with ⟨rfl, -⟩ | ⟨rfl, hd⟩
  · exact firstStatus_drained hj State.squashed_not_mem_jobSts
  · exact firstStatus_denied hj (by simp [State.jobSts, noZ, hd, mem_stIf]) State.squashed_not_mem_jobSts

/-! ### A job that runs -/

theorem State.runJob_run (hs : s.jobSts q j = []) (hp : q.hdr.poison = false) (ha : s.jobAnswers q j = []) :
    s.runJob q j = (⟨.ok, (s.jobRets q j).1, .none⟩,
      (s.jobWritten q j).2.satOnce q.hdr.ctx ((s.jobY q j).1 || (s.jobWritten q j).1 || (s.jobRets q j).2)) := by
  rw [State.runJob_eq, hs, hp, ha]
  rfl

/-- The ranges that a job writes. -/
def State.jobRanges (s : State) (q : EngReq) (j : XfJob) : List (Nat × Nat) :=
  (if (s.jobRows q j).writesY then (s.jobRows q j).y.ranges j.ks else []) ++ if (s.jobRows q j).writesZ then (s.jobRows q j).z.ranges j.ks else []

theorem State.jobRanges_y (hy : (s.jobRows q j).writesY = true) : ∀ x ∈ (s.jobRows q j).y.ranges j.ks, x ∈ s.jobRanges q j := fun x hx => by
  simp [State.jobRanges, hy, hx]
theorem State.jobRanges_z (hz : (s.jobRows q j).writesZ = true) : ∀ x ∈ (s.jobRows q j).z.ranges j.ks, x ∈ s.jobRanges q j := fun x hx => by
  simp [State.jobRanges, hz, hx]

theorem State.jobEnvs_ks : (s.jobEnvs q j).map (·.1) = j.ks := by
  rw [State.jobEnvs, List.map_map]
  rfl
theorem State.jobYv_ks : (s.jobYv q j).map (·.1) = j.ks := by
  unfold State.jobYv
  split
  · rw [List.map_map, ← s.jobEnvs_ks (q := q) (j := j)]
    rfl
  · rfl
theorem State.jobZv_ks (f : RcpEnv → Nat) : ((s.jobEnvs q j).map (fun e => (e.1, f e.2))).map (·.1) = j.ks := by
  rw [List.map_map, ← s.jobEnvs_ks (q := q) (j := j)]
  rfl

theorem State.jobYs_calm : (s.jobYs q j).2.calm = s.calm := by
  rw [State.jobYs, apply_ite Prod.snd, apply_ite State.calm, Target.read_calm, ite_self]
theorem State.jobZs_calm : (s.jobZs q j).2.calm = s.calm := by
  rw [State.jobZs, apply_ite Prod.snd, apply_ite State.calm, Target.read_calm, State.jobYs_calm, ite_self]

/-- A job that runs writes its rows, and escape slots. -/
theorem State.jobWritten_works : Works (s.jobRanges q j) s (s.jobWritten q j).2 := by
  have read : Works (s.jobRanges q j) s (s.jobZs q j).2 := .of_calm State.jobZs_calm
  have y : Works (s.jobRanges q j) s (s.jobY q j).2 := by
    unfold State.jobY
    split
    · rename_i hy
      exact read.trans (Target.write_works _ _ _ _ _ _ (by rw [State.jobYv_ks]; exact State.jobRanges_y hy))
    · exact read
  unfold State.jobWritten
  split
  · rename_i hz
    exact y.trans (Target.write_works _ _ _ _ _ _ (by rw [State.jobZv_ks fun e => e.sel _]; exact State.jobRanges_z hz))
  · exact y

/-- A poisoned view write poisons blocks of its rows. -/
theorem State.jobPoison_works (hv : j.use = .viewWrite → (s.jobRows q j).y.view = true) : Works (s.jobRanges q j) s (s.jobPoison q j) := by
  have blocks : ∀ (t : Target), t.view = true → (∀ x ∈ t.ranges j.ks, x ∈ s.jobRanges q j) → ∀ u : State,
      Works (s.jobRanges q j) u ((t.blocks j.ks).foldl (fun u g => u.poisonWrite q.hdr.ctx t.run g) u) := fun t ht hr u =>
    Works.foldl (fun g hg v => State.poisonWrite_works (fun x hx => hr x (Target.ranges_block ht hg x hx)) v _) u
  unfold State.jobPoison
  dsimp only
  split
  · rename_i hu
    have y : Works (s.jobRanges q j) s (if (s.jobRows q j).writesY = true then
        ((s.jobRows q j).y.blocks j.ks).foldl (fun t g => t.poisonWrite q.hdr.ctx (s.jobRows q j).y.run g) s else s) := by
      split
      · rename_i hy
        exact blocks _ (hv hu) (State.jobRanges_y hy) s
      · exact .refl _ s
    split
    · rename_i hz
      obtain ⟨hz, hzv⟩ := Bool.and_eq_true_iff.mp hz
      exact y.trans (blocks _ hzv (State.jobRanges_z hz) _)
    · exact y
  · exact .refl _ s

/-- Whatever comes of a job, it writes nothing but its rows, and escape slots. -/
theorem State.runJob_works (hv : j.use = .viewWrite → (s.jobRows q j).y.view = true) : Works (s.jobRanges q j) s (s.runJob q j).2 := by
  rw [State.runJob_eq]
  split
  · exact .of_calm (s.jobRefuse_calm q j _)
  split
  · exact State.jobPoison_works hv
  split
  · exact .refl _ s
  · exact State.jobWritten_works.trans (.of_calm (State.satOnce_calm ..))

end

end Sys2Proof.Machine
end

section
/-!
PROOFS. View reads and writes (R302, R305, R306, R318 to R321, R325, R327): data that returns for the engine, what a read and the write of a
whole block answer and leave, and what a request that is turned away leaves.
-/

namespace Sys2Proof.Machine

theorem exec_engineMemoryData (a : BitVec 40) (d : BitVec 512) (ans : MemAnswer) (s : State) :
    exec (.engineMemoryData a d ans) s = execEngineMemoryData a d ans s := rfl
theorem exec_viewWrite (s : State) : exec .viewWrite s = execViewWrite s := rfl

/-! ### Operands as memory holds them (R318, R325) -/

section
variable {s t : State}

theorem State.memByte_congr (h : t.mem = s.mem) (a : Nat) : t.memByte a = s.memByte a := by rw [State.memByte, h]; rfl
theorem State.memNat_congr (h : t.mem = s.mem) (a n : Nat) : t.memNat a n = s.memNat a n := by
  induction n generalizing a with
  | zero => rfl
  | succ n ih => rw [State.memNat, State.memNat, State.memByte_congr h, ih]

theorem State.setMemBytes_congr (h : t.mem = s.mem) (a : Nat) (bs : List Byte) : (t.setMemBytes a bs).mem = (s.setMemBytes a bs).mem := by
  induction bs generalizing s t a with
  | nil => exact h
  | cons b bs ih => exact ih (by simp only [State.setMem, h]) (a + 1)

theorem State.memAnswer_congr (hp : t.poison = s.poison) (hr : t.txn.prefetch = s.txn.prefetch) (a n : Nat) :
    t.memAnswer a n = s.memAnswer a n := by
  rw [State.memAnswer, State.memAnswer, State.rangePoisoned, State.rangePoisoned, hp, hr]

/-- What a block reads as rests on memory. -/
theorem State.readBlock_vals (h : t.mem = s.mem) (r : Run) (g : Nat) (x : Int) :
    (t.readBlock r g x).1.vals = (s.readBlock r g x).1.vals ∧ (t.readBlock r g x).1.special = (s.readBlock r g x).1.special := by
  simp only [State.readBlock, State.memNat_congr h]
  split
  · split
    · exact ⟨rfl, rfl⟩
    · exact ⟨rfl, rfl⟩
  · exact ⟨rfl, rfl⟩

/-- What memory answers to a read of it rests on poison and the reads issued, besides. -/
theorem State.readBlock_ans (h : t.mem = s.mem) (hp : t.poison = s.poison) (hr : t.txn.prefetch = s.txn.prefetch) (r : Run) (g : Nat) (x : Int) :
    (t.readBlock r g x).1.ans = (s.readBlock r g x).1.ans := by
  simp only [State.readBlock, State.memNat_congr h, State.memAnswer_congr hp hr]
  split
  · split
    · rfl
    · rfl
  · rfl

theorem Target.answer_congr (h : t.mem = s.mem) (hp : t.poison = s.poison) (hr : t.txn.prefetch = s.txn.prefetch) (tg : Target) (ks : List Nat) :
    tg.answer t ks = tg.answer s ks := by
  simp only [Target.answer, State.runAnswer, State.readBlock_ans h hp hr, State.memAnswer_congr hp hr]

theorem Run.value_cons (r : Run) (g : Nat) (b : BlockRead) (bs : List (Nat × BlockRead)) (e : Nat) : r.value ((g, b) :: bs) e =
    if g = e / blockSize r.fmt then (b.vals.getD (e % blockSize r.fmt) 0, b.special) else r.value bs e := by
  by_cases h : g = e / blockSize r.fmt
  · simp [Run.value, h]
  · simp [Run.value, h]

theorem State.readBlocks_value (h : t.mem = s.mem) (r : Run) (x : Int) (gs : List Nat) (e : Nat) :
    r.value (t.readBlocks r x gs).1 e = r.value (s.readBlocks r x gs).1 e := by
  induction gs generalizing s t with
  | nil => rfl
  | cons g gs ih =>
    obtain ⟨hv, hs⟩ := State.readBlock_vals h r g x
    have rest := ih (s := (s.readBlock r g x).2) (t := (t.readBlock r g x).2)
      (by rw [State.mem_calm (t.readBlock_calm r g x), State.mem_calm (s.readBlock_calm r g x), h])
    simp only [State.readBlocks, Run.value_cons, hv, hs, rest]

/-- The values of a row rest on memory. -/
theorem Target.read_vals (h : t.mem = s.mem) (tg : Target) (n : Nat) (ks : List Nat) (x : Int) : (tg.read t n ks x).1 = (tg.read s n ks x).1 := by
  have used : (t.useRanges (tg.ranges ks)).mem = (s.useRanges (tg.ranges ks)).mem := by
    rw [State.mem_calm (t.useRanges_calm _), State.mem_calm (s.useRanges_calm _), h]
  simp only [Target.read, State.readScalar, State.memNat_congr used]
  split
  · simp only [State.readBlocks_value used]
  · rfl

end

/-! ### Data that returns for the engine (R225, R325) -/

theorem natBytes_getD {i n : Nat} (h : i < n) (v : Nat) (d : Byte) : (natBytes v n).getD i d = BitVec.ofNat 8 (v / 256 ^ i) := by
  induction n generalizing i v with
  | zero => exact absurd h (Nat.not_lt_zero _)
  | succ n ih =>
    cases i with
    | zero => simp [natBytes]
    | succ i =>
      rw [natBytes, List.getD_cons_succ, ih (Nat.lt_of_succ_lt_succ h), Nat.div_div_eq_div_mul, Nat.pow_succ, Nat.mul_comm]

section
variable (s : State) (g data : Nat) (ans : MemAnswer)

/-- A granule whose data is OK holds it; every other answer leaves memory alone. -/
theorem State.showGranule_mem : (s.showGranule g data ans).mem = (if ans = .ok then s.setMemBytes (64 * g) (natBytes data 64) else s).mem := rfl

theorem State.showGranule_kept : MemoryKeptOutside s (s.showGranule g data ans) (if ans = .ok then [(64 * g, 64)] else []) := by
  intro a ha
  rw [State.memByte_congr (s.showGranule_mem g data ans)]
  split
  · rename_i ok
    rw [if_pos ok] at ha
    have out := ha _ List.mem_cons_self
    rw [State.memByte_setMemBytes]
    split
    · exact List.getD_eq_default _ _ (by rw [natBytes_length]; omega)
    · rfl
  · rfl

theorem State.showGranule_byte {i : Nat} (hi : i < 64) :
    (s.showGranule g data .ok).memByte (64 * g + i) = BitVec.ofNat 8 (data / 256 ^ i) := by
  rw [State.memByte_congr (s.showGranule_mem g data .ok), if_pos rfl, State.memByte_setMemBytes, if_pos (Nat.le_add_right ..), Nat.add_sub_cancel_left,
    natBytes_getD hi]

/-- Its poison is what the answer says, and that of every other granule stays. -/
theorem State.showGranule_poison : (∀ g', g' ≠ g → (g' ∈ (s.showGranule g data ans).poison ↔ g' ∈ s.poison)) ∧
    (ans = .poison → g ∈ (s.showGranule g data ans).poison) ∧ (ans = .ok → g ∉ (s.showGranule g data ans).poison) := by
  have kept : (if ans = .ok then s.setMemBytes (64 * g) (natBytes data 64) else s).poison = s.poison := by
    obtain ⟨_, h⟩ := s.setMemBytes_eq (64 * g) (natBytes data 64)
    rw [h]
    split <;> rfl
  simp only [State.showGranule, kept]
  cases ans <;> simp +contextual

/-- Both rest on what memory and poison were. -/
theorem State.showGranule_congr {t : State} (hm : t.mem = s.mem) (hp : t.poison = s.poison) :
    (t.showGranule g data ans).mem = (s.showGranule g data ans).mem ∧ (t.showGranule g data ans).poison = (s.showGranule g data ans).poison := by
  obtain ⟨_, ht⟩ := t.setMemBytes_eq (64 * g) (natBytes data 64)
  obtain ⟨_, hs⟩ := s.setMemBytes_eq (64 * g) (natBytes data 64)
  have hw := State.setMemBytes_congr hm (64 * g) (natBytes data 64)
  constructor
  · rw [State.showGranule_mem, State.showGranule_mem, apply_ite State.mem, apply_ite State.mem, hm, hw]
  · simp only [State.showGranule, ht, hs, apply_ite State.poison, hp, ite_self]

theorem State.showGranule_txn : (s.showGranule g data ans).txn = s.txn := by
  obtain ⟨_, h⟩ := s.setMemBytes_eq (64 * g) (natBytes data 64)
  simp only [State.showGranule, apply_ite State.txn, h, ite_self]

theorem State.showGranule_regs : (s.showGranule g data ans).regs = s.regs := by
  obtain ⟨_, h⟩ := s.setMemBytes_eq (64 * g) (natBytes data 64)
  simp only [State.showGranule, apply_ite State.regs, h, ite_self]

end

/-- Data for a read that waits takes its place, and is shown unless the read is cancelled or stale. -/
theorem execEngineMemoryData_waited {s : State} {a : BitVec 40} {p : Prefetch} (hm : s.isM = true) (hd : s.chip.dieRst = false) (h2 : s.clkOn 2 = true)
    (hp : s.txn.prefetch.find? (fun p => p.granule == a.toNat / 64 && p.ans.isNone) = some p) (d : BitVec 512) (ans : MemAnswer) :
    execEngineMemoryData a d ans s = .next (
      let s1 := s.setPrefetch (s.txn.prefetch.erase p ++ (if p.dropped then [] else [{ p with ans := some ans }]))
      if p.dropped || p.stale then s1 else s1.showGranule (a.toNat / 64) d.toNat ans) := by
  simp only [execEngineMemoryData, hm, hd, h2, hp, Bool.not_true, Bool.or_self, Bool.false_eq_true, if_false]

/-- Data for which no read waits is shown. -/
theorem execEngineMemoryData_asked {s : State} {a : BitVec 40} (hm : s.isM = true) (hd : s.chip.dieRst = false) (h2 : s.clkOn 2 = true)
    (hp : s.txn.prefetch.find? (fun p => p.granule == a.toNat / 64 && p.ans.isNone) = none) (d : BitVec 512) (ans : MemAnswer) :
    ∃ l, execEngineMemoryData a d ans s = .next ((s.showGranule (a.toNat / 64) d.toNat ans).setPrefetch l) := by
  simp only [execEngineMemoryData, hm, hd, h2, hp, Bool.not_true, Bool.or_self, Bool.false_eq_true, if_false]
  exact ⟨_, rfl⟩

/-- Where the oldest read that waits is neither cancelled nor stale, or none waits, the data is shown. -/
theorem execEngineMemoryData_shows {s : State} {a : BitVec 40} (hm : s.isM = true) (hd : s.chip.dieRst = false) (h2 : s.clkOn 2 = true)
    (hp : ∀ p, s.txn.prefetch.find? (fun p => p.granule == a.toNat / 64 && p.ans.isNone) = some p → p.dropped = false ∧ p.stale = false)
    (d : BitVec 512) (ans : MemAnswer) : ∃ t, execEngineMemoryData a d ans s = .next t ∧ t.regs = s.regs ∧
      t.mem = (s.showGranule (a.toNat / 64) d.toNat ans).mem ∧ t.poison = (s.showGranule (a.toNat / 64) d.toNat ans).poison := by
  cases hf : s.txn.prefetch.find? (fun p => p.granule == a.toNat / 64 && p.ans.isNone) with
  | none =>
    obtain ⟨l, h⟩ := execEngineMemoryData_asked hm hd h2 hf d ans
    exact ⟨_, h, s.showGranule_regs .., rfl, rfl⟩
  | some p =>
    obtain ⟨hdrop, hstale⟩ := hp p hf
    rw [execEngineMemoryData_waited hm hd h2 hf, hdrop, hstale]
    exact ⟨_, rfl, State.showGranule_regs .., s.showGranule_congr _ _ _ rfl rfl⟩


/-! ### Commits of requests for memory -/

section
variable {s : State} {mine waits : EngReq → Bool} {q : EngReq}

theorem Commits.leaving (h : Commits s mine waits q) : s.pair.leaving = false := h.2.2.2.2.2.2.2

/-- A commit that performs `w` and answers: what is kept, and the answer queued, are those of `w`. -/
theorem Commits.answered (h : Commits s mine waits q) {act : EngReq → State → State} {w : State} {st : Status} {vfmt : Nat} {units : List Nat}
    (ha : act q (s.readied q) = w.answerEng q.hdr st vfmt units) (hp : w.pair = s.pair) :
    ∃ t, s.commitNext mine waits act = .next t ∧ t.core = w.core ∧ t.lnk = (w.answerEng q.hdr st vfmt units).lnk := by
  have hc := w.answerEng_core q.hdr st vfmt units
  obtain ⟨t, ht, hf⟩ := h.next act (by rw [ha, show (w.answerEng q.hdr st vfmt units).pair = w.pair from congrArg Core.pair hc, hp]; exact h.leaving)
  rw [ha] at hf
  exact ⟨t, ht, hf.core.trans hc, hf.lnk⟩

/-- What is kept of the calm part, once the request is performed. -/
theorem Works.of_readied {rs : List (Nat × Nat)} {w : State} (h : Works rs (s.readied q) w) :
    w.calm = { s.calm with mem := w.mem, engQ := s.txn.engQ.erase q, escNext := w.get DEFILE.ESC_STAT.NEXT } := by
  rw [h.calm, s.readied_calm]

/-- Memory is kept outside the ranges, as it was before the request was taken. -/
theorem Works.memory {rs : List (Nat × Nat)} {w t : State} (h : Works rs (s.readied q) w) (ht : t.mem = w.mem) :
    MemoryKeptOutside s t (s.escRange :: rs) := by
  have range : (s.readied q).escRange = s.escRange := by
    have hc := s.readied_calm q
    have hb : (s.readied q).get DEFILE.ESC_BASE.ADDR = s.get DEFILE.ESC_BASE.ADDR := congrArg Calm.escBase hc
    have hl : (s.readied q).get DEFILE.ESC_LIMIT.SLOTS = s.get DEFILE.ESC_LIMIT.SLOTS := congrArg Calm.escSlots hc
    have hn : (s.readied q).get DEFILE.ESC_STAT.NEXT = s.get DEFILE.ESC_STAT.NEXT := congrArg Calm.escNext hc
    rw [State.escRange, State.escRange, hb, hl, hn]
  intro a ha
  rw [State.memByte_congr ht, h.kept a (by rwa [range]), State.memByte_congr (s.readied_mem q)]

/-- Its sender still waits for the answer. -/
theorem AnswerWanted.works {rs : List (Nat × Nat)} {w : State} {h : Hdr} (hw : AnswerWanted s h) (hk : Works rs (s.readied q) w) : AnswerWanted w h := by
  obtain ⟨hd, hp, hs⟩ := hw
  have hcol : w.chip.col = s.chip.col := congrArg Calm.col hk.of_readied
  have hplan : w.chip.plan = s.chip.plan := congrArg Calm.plan hk.of_readied
  have hsq : w.txn.squashed = s.txn.squashed := congrArg Calm.squashed hk.of_readied
  refine ⟨?_, hp, by rwa [hsq]⟩
  rw [← hd, State.colDead, State.colDead, State.colIn, State.colIn, State.preReset, State.preReset, hcol, hplan]

/-- A commit that performs works of the engine and answers leaves what they leave. -/
theorem Commits.worked (h : Commits s mine waits q) {act : EngReq → State → State} {w : State} {rs : List (Nat × Nat)} {st : Status} {vfmt : Nat}
    {units : List Nat} (ha : act q (s.readied q) = w.answerEng q.hdr st vfmt units) (hk : Works rs (s.readied q) w) :
    ∃ t, s.commitNext mine waits act = .next t ∧ t.mem = w.mem ∧ t.basin = s.basin ∧ t.txn.engQ = s.txn.engQ.erase q ∧
      t.lnk = (w.answerEng q.hdr st vfmt units).lnk := by
  obtain ⟨t, ht, hcore, hlnk⟩ := h.answered ha (congrArg Calm.pair hk.of_readied)
  exact ⟨t, ht, congrArg Core.mem hcore, (congrArg Core.basin hcore).trans (congrArg Calm.basin hk.of_readied),
    (congrArg Core.engQ hcore).trans (congrArg Calm.engQ hk.of_readied), hlnk⟩

/-- Where the answer is OK, it is queued with its units. -/
theorem Commits.done (h : Commits s mine waits q) (hw : AnswerWanted s q.hdr) {act : EngReq → State → State} {w : State} {rs : List (Nat × Nat)}
    {vfmt : Nat} {units : List Nat} (ha : act q (s.readied q) = w.answerEng q.hdr .ok vfmt units) (hk : Works rs (s.readied q) w) :
    ∃ t, s.commitNext mine waits act = .next t ∧ AnsweredOk s t q.hdr vfmt units ∧ t.mem = w.mem ∧ t.basin = s.basin ∧
      t.txn.engQ = s.txn.engQ.erase q := by
  obtain ⟨t, ht, hm, hb, hq, hlnk⟩ := h.worked ha hk
  refine ⟨t, ht, ?_, hm, hb, hq⟩
  rw [AnsweredOk, hlnk, ← show w.lnk = s.lnk from congrArg Calm.lnk hk.of_readied]
  exact State.answerEng_ok (hw.works hk) ..

/-- A request that is turned away keeps memory, and is answered with what turns it away. -/
theorem Commits.refused (h : Commits s mine waits q) (hw : AnswerWanted s q.hdr) {act : EngReq → State → State} {w : State} {st : Status}
    {vfmt : Nat} {units : List Nat} (ha : act q (s.readied q) = w.answerEng q.hdr st vfmt units) (hc : w.calm = (s.readied q).calm) (hst : st ≠ .ok) :
    ∃ t, s.commitNext mine waits act = .next t ∧ t.mem = s.mem ∧ AnsweredWith s t q.hdr st := by
  have hk : Works [] (s.readied q) w := .of_calm hc
  obtain ⟨t, ht, hm, -, -, hlnk⟩ := h.worked ha hk
  refine ⟨t, ht, hm.trans ((State.mem_calm hc).trans (s.readied_mem q)), ?_⟩
  obtain ⟨us, hu⟩ := State.answerEng_with (hw.works hk) hst vfmt units
  exact ⟨us, by rw [hlnk, hu, show w.lnk = s.lnk from congrArg Calm.lnk hk.of_readied]⟩

end

end Sys2Proof.Machine
end

section
/-!
PROOFS. View reads and writes at commit (R302, R305, R306, R318 to R321, R325, R327).
-/

namespace Sys2Proof.Machine

/-! ### View reads (R318) -/

section
variable (s : State) (q : EngReq) (n : Nat)

/-- Why the recipe of a view is refused. -/
def State.viewBad : Option Nat :=
  if (s.pageCheck q.hdr.ctx q.page q.bind).bind.rcpEn then (s.recipe (s.pageCheck q.hdr.ctx q.page q.bind).bind.recipe).refusal .viewRead false false
  else none

/-- The statuses that the checks before a view read give. -/
def State.viewSts : List Status :=
  (s.pageCheck q.hdr.ctx q.page q.bind).sts.filter (· != .retry) ++ stIf ((s.viewBad q).isSome || (q.hdr.vfmt != 0 &&
    q.hdr.vfmt != (s.pageCheck q.hdr.ctx q.page q.bind).bind.vfmt)) .fmtRefused ++ stIf (s.ctxOf q.hdr.ctx).lost .poison

/-- A view read that is turned away counts what is bad. -/
def State.viewRefuse (st : Status) : State :=
  match s.viewBad q with
  | some cause => if st = .fmtRefused then s.recipeBad (s.pageCheck q.hdr.ctx q.page q.bind).bind.recipe cause
      else s.pageBad st q.page (s.pageCheck q.hdr.ctx q.page q.bind)
  | none => s.pageBad st q.page (s.pageCheck q.hdr.ctx q.page q.bind)

theorem State.viewRefuse_calm (st : Status) : (s.viewRefuse q st).calm = s.calm := by
  unfold State.viewRefuse
  split
  · rw [apply_ite State.calm, State.recipeBad_calm, State.pageBad_calm, ite_self]
  · exact s.pageBad_calm ..

variable {s q n}

theorem State.runViewRead_refused {st : Status} (h : firstStatus (s.viewSts q) = st) (hst : st ≠ .ok) :
    s.runViewRead q n = (st, [], s.viewRefuse q st) := by
  subst h
  exact if_pos hst

/-- The page alone says what turns a view read away, but for RETRY. -/
theorem State.viewSts_refuses {st : Status} (hm : st ∈ (s.pageCheck q.hdr.ctx q.page q.bind).sts) (hst : st ≠ .retry) :
    firstStatus (s.viewSts q) = st := by
  have hj : st ∈ s.viewSts q := by simp [State.viewSts, hm, hst]
  have hsq : Status.squashed ∉ s.viewSts q := by simp [State.viewSts, mem_stIf, s.squashed_not_mem_pageCheck]
  rcases State.pageCheck_refuses hm hst with ⟨rfl, -⟩ | ⟨rfl, hd⟩
  · exact firstStatus_drained hj hsq
  · exact firstStatus_denied hj (by simp [State.viewSts, hd, mem_stIf]) hsq

/-- A sound view read without a recipe returns what the row holds, and keeps the calm part. -/
theorem State.runViewRead_ok (hs : s.viewSts q = []) (hr : (Binding.of q.bind).rcpEn = false) (ha : q.viewRow.answer s (List.range n) = .ok)
    (hn : ∀ k, k < n → ((q.viewRow.read s n (List.range n) (s.ctxOf q.hdr.ctx).texp).1.getD k (0, false)).2 = false) :
    ∃ w, s.runViewRead q n = (.ok, (retCodes (s.ctxOf q.hdr.ctx) q.viewRow (Binding.of q.bind).vfmt .rne
      ((List.range n).map fun k => ((q.viewRow.read s n (List.range n) (s.ctxOf q.hdr.ctx).texp).1.getD k (0, false)).1)).1, w) ∧ w.calm = s.calm := by
  have noNan : ∀ vs : List Nat, (List.range n).any (fun k =>
      ((q.viewRow.read s n (List.range n) (s.ctxOf q.hdr.ctx).texp).1.getD k (0, false)).2 && isNanF (vs.getD k 0)) = false := fun vs => by
    rw [List.any_eq_false]
    intro k hk
    rw [hn k (List.mem_range.mp hk), Bool.false_and]
    decide
  have hs' : firstStatus (s.viewSts q) = .ok := by rw [hs]; rfl
  unfold State.viewSts State.viewBad at hs'
  simp only [State.pageCheck_bind, hr, Bool.false_eq_true, if_false] at hs'
  simp only [State.runViewRead, State.pageCheck_bind, hr, Bool.false_eq_true, if_false, hs', ha, ansStatus, firstStatus_nil, ne_eq, not_true_eq_false, noNan,
    Bool.false_and]
  exact ⟨_, rfl, (State.satOnce_calm ..).trans (Target.read_calm ..)⟩

end

theorem withErrs_nil (act : EngReq → State → State) (q : EngReq) (s : State) : withErrs [] act q s = act q s := rfl

section
variable {s : State} {q : EngReq}

/-- A view read that its page turns away. -/
theorem execViewRead_refused (h : Commits s EngReq.isRead noWait q) (hw : AnswerWanted s q.hdr) {st : Status}
    (hm : st ∈ (s.pageCheck q.hdr.ctx q.page q.bind).sts) (hst : st ≠ .retry) (hok : st ≠ .ok) :
    ∃ t, execViewRead s = .next t ∧ t.mem = s.mem ∧ AnsweredWith s t q.hdr st := by
  rw [← s.readied_pageCheck q] at hm
  have run := State.runViewRead_refused (n := q.hdr.bytes / fmtBytes (Binding.of q.bind).vfmt) (State.viewSts_refuses hm hst) hok
  refine h.refused hw (w := (s.readied q).viewRefuse q st) ?_ (State.viewRefuse_calm ..) hok (vfmt := 0) (units := [])
  rw [withErrs_nil, State.doViewRead, run]
  simp only [hok, if_false]

/-- What a page gives is never OK. -/
theorem State.ok_not_mem_pageCheck (s : State) (c p : Nat) (e : Option Word) : Status.ok ∉ (s.pageCheck c p e).sts := by
  rcases s.pageCheck_sts c p e with h | ⟨a, b, h⟩ <;> simp [h, mem_stIf]

/-- A sound view read is answered with what its row holds. -/
theorem execViewRead_ok (h : Commits s EngReq.isRead noWait q) (hw : AnswerWanted s q.hdr) {b : Binding} {n : Nat} {tg : Target}
    (hb : b = Binding.of q.bind) (hn : n = q.hdr.bytes / fmtBytes b.vfmt) (ht : tg = q.viewRow)
    (hp : ∀ st ∈ (s.pageCheck q.hdr.ctx q.page q.bind).sts, st = .retry) (hv : q.hdr.vfmt = 0 ∨ q.hdr.vfmt = b.vfmt)
    (hl : (s.ctxOf q.hdr.ctx).lost = false) (ha : tg.answer (s.asUsed q) (List.range n) = .ok) (hr : b.rcpEn = false)
    (hv2 : ∀ k, k < n → ((tg.read s n (List.range n) (s.ctxOf q.hdr.ctx).texp).1.getD k (0, false)).2 = false) :
    ∃ t, execViewRead s = .next t ∧ t.mem = s.mem ∧ t.txn.engQ = s.txn.engQ.erase q ∧
      AnsweredOk s t q.hdr b.vfmt (packUnits b.vfmt (retCodes (s.ctxOf q.hdr.ctx) tg b.vfmt .rne
        ((List.range n).map fun k => ((tg.read s n (List.range n) (s.ctxOf q.hdr.ctx).texp).1.getD k (0, false)).1)).1 q.hdr.bytes) := by
  subst hb ht
  have sts : (s.readied q).viewSts q = [] := by
    have kept : (s.pageCheck q.hdr.ctx q.page q.bind).sts.filter (· != .retry) = [] := by
      rw [List.filter_eq_nil_iff]
      intro st hst
      simp [hp st hst]
    have fmt : (q.hdr.vfmt != 0 && q.hdr.vfmt != (Binding.of q.bind).vfmt) = false := by rcases hv with h | h <;> simp [h]
    simp only [State.viewSts, State.viewBad, State.readied_pageCheck, State.readied_ctxOf, State.pageCheck_bind, hr, kept, fmt, hl]
    rfl
  have vals := Target.read_vals (s.readied_mem q) q.viewRow n (List.range n) (s.ctxOf q.hdr.ctx).texp
  have ans : q.viewRow.answer (s.readied q) (List.range n) = .ok := by
    rw [← ha]
    exact Target.answer_congr (s := s.asUsed q) (s.readied_mem q) (s.readied_poison q) (s.readied_prefetch q) ..
  obtain ⟨w, run, hc⟩ := State.runViewRead_ok (n := n) sts hr ans (by rwa [State.readied_ctxOf, vals])
  rw [State.readied_ctxOf, vals] at run
  obtain ⟨t, hx, hans, hm, -, hq⟩ := h.done hw (act := withErrs [] fun q t => t.doViewRead q) (w := w) (rs := [])
    (by rw [withErrs_nil, State.doViewRead, ← hn, run]) (.of_calm hc)
  exact ⟨t, hx, hm.trans ((State.mem_calm hc).trans (s.readied_mem q)), hq, hans⟩

end

/-! ### View writes (R305, R306, R319 to R321) -/

theorem fmtBytes_pos (f : Nat) : 0 < fmtBytes f := by
  unfold fmtBytes
  split <;> decide
theorem blockSize_pos (f : Nat) : 0 < blockSize f := by
  unfold blockSize
  split <;> decide

/-- The row that a view write writes. -/
def EngReq.writeRow (q : EngReq) : Target :=
  targetAt (Binding.of q.bind) q.page (q.off / fmtBytes (Binding.of q.bind).vfmt) (Binding.of q.bind).vfmt

section
variable (s : State) (q : EngReq) {j : XfJob}

/-- A job without a recipe on a view page writes its row, and nothing else. -/
theorem State.jobRows_plain (hj : j.rcp = none) (hv : (Binding.of q.bind).isView = true) : (s.jobRows q j).y = q.writeRow ∧
    (s.jobRows q j).writesY = true ∧ (s.jobRows q j).readsY = false ∧ (s.jobRows q j).writesZ = false ∧ (s.jobRows q j).readsZ = false ∧
    (s.jobRows q j).usesZ = false := by
  simp only [State.jobRows, State.pageCheck_bind, State.rowsOf, hj, hv, EngReq.writeRow, XfRows.usesZ]
  exact ⟨rfl, rfl, rfl, rfl, rfl, rfl⟩

theorem State.jobRanges_plain (hj : j.rcp = none) (hv : (Binding.of q.bind).isView = true) : s.jobRanges q j = q.writeRow.ranges j.ks := by
  obtain ⟨hy, hwy, -, hwz, -, -⟩ := s.jobRows_plain q hj hv
  simp [State.jobRanges, hy, hwy, hwz]

end

section
variable {s : State} {q : EngReq}

/-- The state before a view write is answered. -/
def State.viewWritten (s : State) (q : EngReq) : State :=
  let r := s.runJob q (s.writeJob q (Binding.of q.bind))
  if q.hdr.isPosted then r.2.postedFx q.hdr r.1.fx else r.2

theorem State.doViewWrite_eq (s : State) (q : EngReq) : s.doViewWrite q =
    (s.viewWritten q).answerEng q.hdr (s.runJob q (s.writeJob q (Binding.of q.bind))).1.st 0 [] := rfl

theorem State.viewWritten_calm (s : State) (q : EngReq) :
    (s.viewWritten q).calm = (s.runJob q (s.writeJob q (Binding.of q.bind))).2.calm := by
  simp only [State.viewWritten, apply_ite State.calm, State.postedFx_calm, ite_self]

/-- What a view write without a recipe writes lies in its row and in escape slots. -/
theorem State.viewWritten_works (hv : (Binding.of q.bind).isView = true) (hr : (Binding.of q.bind).rcpEn = false) (u : State) :
    Works (q.writeRow.ranges (s.writeJob q (Binding.of q.bind)).ks) u (u.viewWritten q) := by
  have plain : (u.writeJob q (Binding.of q.bind)).rcp = none := by simp [State.writeJob, hr]
  have w := State.runJob_works (s := u) (q := q) (j := u.writeJob q (Binding.of q.bind)) fun _ => by
    rw [(u.jobRows_plain q plain hv).1]
    exact hv
  rw [u.jobRanges_plain q plain hv, show (u.writeJob q (Binding.of q.bind)).ks = (s.writeJob q (Binding.of q.bind)).ks from rfl] at w
  exact w.trans (.of_calm (u.viewWritten_calm q))

/-- A view write that is turned away. -/
theorem execViewWrite_refused (h : Commits s EngReq.isWrite noWait q) (hw : AnswerWanted s q.hdr) {st : Status}
    (hj : firstStatus ((s.readied q).jobSts q ((s.readied q).writeJob q (Binding.of q.bind))) = st) (hst : st ≠ .ok) :
    ∃ t, execViewWrite s = .next t ∧ t.mem = s.mem ∧ AnsweredWith s t q.hdr st := by
  obtain ⟨hs, hc⟩ := State.runJob_refused hj hst
  refine h.refused hw (w := (s.readied q).viewWritten q) ?_ ((State.viewWritten_calm ..).trans hc) hst (vfmt := 0) (units := [])
  rw [← hs]
  rfl

theorem execViewWrite_kept (h : Commits s EngReq.isWrite noWait q) (hv : (Binding.of q.bind).isView = true) (hr : (Binding.of q.bind).rcpEn = false) :
    ∃ t, execViewWrite s = .next t ∧ t.basin = s.basin ∧
      MemoryKeptOutside s t (s.escRange :: q.writeRow.ranges (s.writeJob q (Binding.of q.bind)).ks) := by
  have hk := State.viewWritten_works (s := s) hv hr (s.readied q)
  obtain ⟨t, ht, hm, hb, -, -⟩ := h.worked (act := withErrs [] fun q t => t.withMiss false (fun t => t.doViewWrite q))
    (State.doViewWrite_eq (s.readied q) q) hk
  exact ⟨t, ht, hb, hk.memory hm⟩

end

/-! ### The write of one whole block (R319, R321) -/

theorem State.putBlock_mem {s t : State} (h : t.mem = s.mem) (r : Run) (g sc z f : Nat) : (t.putBlock r g sc z f).mem = (s.putBlock r g sc z f).mem := by
  rw [State.putBlock, State.putBlock, State.engWrite_mem, State.engWrite_mem]
  refine State.setMemBytes_congr ?_ ..
  rw [State.engWrite_mem, State.engWrite_mem]
  exact State.setMemBytes_congr h ..

/-- Without an error threshold a block is put as the guard unit encodes it. -/
theorem State.encodeWrite_mem (s : State) {ctx : Nat} (he : (s.ctxOf ctx).errThresh = 0) (r : Run) (g : Nat) (mode : Rnd) (vs : List Nat) (cl : Bool)
    {enc : Encoded} (henc : enc = encodeBlock r.fmt mode (s.ctxOf ctx).texp (s.ctxOf ctx).nfClamp (fun i => (s.ctxOf ctx).rnd (r.ident g i) 7) vs) :
    (s.encodeWrite ctx r g mode vs cl).mem = (s.putBlock r g enc.scale enc.zero enc.field).mem := by
  have guard := s.guardSample_guard ctx (r.elemAddr g) enc
  have quiet := s.guardSample_calm ctx (r.elemAddr g) enc
  have hcount : ∀ t : State, (t.countSat ctx).mem = t.mem := fun t => State.mem_calm (t.countSat_calm ctx)
  unfold State.encodeWrite
  dsimp only
  rw [← henc]
  generalize s.guardSample ctx (r.elemAddr g) enc = p at guard quiet ⊢
  obtain ⟨e, s0⟩ := p
  dsimp only at guard quiet ⊢
  subst guard
  simp only [he, bne_self_eq_false, Bool.false_and, Bool.false_eq_true, if_false]
  split
  · exact State.putBlock_mem (State.mem_calm (by simp +decide only [State.countNf_calm, State.bump_calm, quiet])) ..
  · rw [apply_ite State.mem, hcount, ite_self]
    refine State.putBlock_mem (State.mem_calm ?_) ..
    simp +decide only [apply_ite State.calm, State.countSat_calm, State.scaleRange_calm, State.bump_calm, ite_self, quiet]

/-- A row that holds one block of a run and nothing else. -/
structure OneBlock (t : Target) (g : Nat) (ks : List Nat) : Prop where
  view : t.view = true
  first : t.e0 = g * blockSize t.run.fmt
  all : ks = List.range (blockSize t.run.fmt)

theorem dedup_replicate (g : Nat) {n : Nat} (h : 0 < n) : dedup (List.replicate n g) = [g] := by
  obtain ⟨n, rfl⟩ := Nat.exists_eq_succ_of_ne_zero h.ne'
  rw [dedup, List.replicate_succ, List.foldl_cons]
  refine List.foldlRecOn (motive := (· = [g])) _ _ rfl fun a ha x hx => ?_
  rw [ha, List.eq_of_mem_replicate hx]
  simp

section
variable {t : Target} {g : Nat} {ks : List Nat} (h : OneBlock t g ks)
include h

theorem OneBlock.block {k : Nat} (hk : k ∈ ks) : t.block k = g := by
  rw [h.all, List.mem_range] at hk
  rw [Target.block, h.first, Nat.mul_comm, Nat.mul_add_div (blockSize_pos _), Nat.div_eq_of_lt hk, Nat.add_zero]

/-- No element of it is in a block that is written in part. -/
theorem OneBlock.partials : t.partials ks = [] := by
  rw [Target.partials, if_pos h.view, List.filter_eq_nil_iff]
  intro k hk
  simp only [h.block hk, Bool.not_eq_true, Bool.not_eq_false', List.all_eq_true, List.mem_range, List.contains_iff_mem, List.mem_map]
  intro i hi
  exact ⟨i, by rwa [h.all, List.mem_range], by rw [h.first]⟩

theorem OneBlock.blocks : t.blocks ks = [g] := by
  have all : ks.map t.block = List.replicate ks.length g := List.map_eq_replicate_iff.mpr fun k hk => h.block hk
  rw [Target.blocks, all, h.all, List.length_range]
  exact dedup_replicate g (blockSize_pos _)

/-- The values of its elements, in order. -/
theorem OneBlock.news (f : Nat → Nat) :
    t.run.news g ((ks.map fun k => (k, f k)).map (fun v => (t.e0 + v.1, v.2))) = (List.range (blockSize t.run.fmt)).map (fun k => some (f k)) := by
  refine List.map_congr_left fun i hi => ?_
  rw [h.first, List.map_map]
  have found : (ks.map ((fun v : Nat × Nat => (g * blockSize t.run.fmt + v.1, v.2)) ∘ fun k => (k, f k))).find?
      (fun v => v.1 == g * blockSize t.run.fmt + i) = some (g * blockSize t.run.fmt + i, f i) := by
    have place : (List.range (blockSize t.run.fmt)).find? (fun k => g * blockSize t.run.fmt + k == g * blockSize t.run.fmt + i) = some i := by
      rw [List.find?_range_eq_some]
      refine ⟨by simp, hi, fun k hk => ?_⟩
      simp [hk.ne]
    rw [List.find?_map, h.all]
    exact congrArg (Option.map _) place
  rw [found]
  rfl

/-- It is written as one block, whole. -/
theorem OneBlock.write (f : Nat → Nat) (s : State) (ctx : Nat) (m : Rnd) :
    (t.write s ctx m (ks.map fun k => (k, f k)) []).2 = s.encodeWrite ctx t.run g m ((List.range (blockSize t.run.fmt)).map f) false := by
  have hks : (ks.map fun k => (k, f k)).map (·.1) = ks := by
    rw [List.map_map]
    exact List.map_id ks
  have whole : ((List.range (blockSize t.run.fmt)).map (fun k => some (f k))).all Option.isSome = true := by simp
  rw [Target.write, if_pos h.view]
  dsimp only
  rw [State.writeRun, t.blocks_map, hks, h.blocks, List.foldl_cons, List.foldl_nil, State.writeBlock, h.news f]
  simp only [whole, if_true, List.map_map]
  rfl

end

/-- The write of one whole block `g` of a view that has no recipe, with every byte enabled. -/
structure WholeBlock (s : State) (q : EngReq) (g : Nat) : Prop where
  view : (Binding.of q.bind).isView = true
  plain : (Binding.of q.bind).rcpEn = false
  page : (s.pageCheck q.hdr.ctx q.page q.bind).sts = []
  vfmt : q.hdr.vfmt = 0 ∨ q.hdr.vfmt = (Binding.of q.bind).vfmt
  lost : (s.ctxOf q.hdr.ctx).lost = false
  sound : q.hdr.poison = false
  bytes : q.hdr.bytes = blockSize (Binding.of q.bind).sfmt * fmtBytes (Binding.of q.bind).vfmt
  first : (Binding.of q.bind).elem (q.off / fmtBytes (Binding.of q.bind).vfmt) = g * blockSize (Binding.of q.bind).sfmt
  inside : q.off + q.hdr.bytes ≤ 2 ^ 23
  enabled : ∀ i, i < q.hdr.bytes → q.enabled i = true

/-- The value that a view write gives element `k`. -/
def EngReq.viewVal (q : EngReq) (k : Nat) : Nat :=
  widen (Binding.of q.bind).vfmt (bits q.data (8 * fmtBytes (Binding.of q.bind).vfmt * k) (8 * fmtBytes (Binding.of q.bind).vfmt))

section
variable {s : State} {q : EngReq} {g : Nat} (h : WholeBlock s q g)
include h

theorem WholeBlock.job : (s.writeJob q (Binding.of q.bind)).n = blockSize (Binding.of q.bind).sfmt ∧
    (s.writeJob q (Binding.of q.bind)).ks = List.range (blockSize (Binding.of q.bind).sfmt) ∧
    (s.writeJob q (Binding.of q.bind)).xs = (List.range (blockSize (Binding.of q.bind).sfmt)).map (fun k => (k, q.viewVal k)) ∧
    (s.writeJob q (Binding.of q.bind)).split = false ∧ (s.writeJob q (Binding.of q.bind)).rcp = none := by
  have count : q.hdr.bytes / fmtBytes (Binding.of q.bind).vfmt = blockSize (Binding.of q.bind).sfmt := by
    rw [h.bytes, Nat.mul_div_cancel _ (fmtBytes_pos _)]
  have whole : ∀ k ∈ List.range (blockSize (Binding.of q.bind).sfmt),
      ((List.range (fmtBytes (Binding.of q.bind).vfmt)).filter (fun i => q.enabled (k * fmtBytes (Binding.of q.bind).vfmt + i))).length =
        fmtBytes (Binding.of q.bind).vfmt := by
    intro k hk
    rw [List.filter_eq_self.mpr, List.length_range]
    intro i hi
    rw [List.mem_range] at hk hi
    refine h.enabled _ ?_
    rw [h.bytes]
    calc k * fmtBytes (Binding.of q.bind).vfmt + i < (k + 1) * fmtBytes (Binding.of q.bind).vfmt := by rw [Nat.succ_mul]; omega
      _ ≤ _ := Nat.mul_le_mul_right _ hk
  have all : (List.range (blockSize (Binding.of q.bind).sfmt)).filter (fun k =>
      ((List.range (fmtBytes (Binding.of q.bind).vfmt)).filter (fun i => q.enabled (k * fmtBytes (Binding.of q.bind).vfmt + i))).length ==
        fmtBytes (Binding.of q.bind).vfmt) = List.range (blockSize (Binding.of q.bind).sfmt) :=
    List.filter_eq_self.mpr fun k hk => by rw [whole k hk, beq_self_eq_true]
  have xs : (s.writeJob q (Binding.of q.bind)).xs = (List.range (blockSize (Binding.of q.bind).sfmt)).map (fun k => (k, q.viewVal k)) := by
    simp only [State.writeJob, count, all]
    rfl
  refine ⟨count, ?_, xs, ?_, by simp [State.writeJob, h.plain]⟩
  · rw [XfJob.ks, xs, List.map_map]
    exact List.map_id _
  · simp only [State.writeJob, count]
    rw [List.any_eq_false]
    intro k hk
    simp [whole k hk]

theorem WholeBlock.row : OneBlock q.writeRow g (s.writeJob q (Binding.of q.bind)).ks where
  view := h.view
  first := h.first
  all := h.job.2.1

/-- Every check before it passes. -/
theorem WholeBlock.sts : s.jobSts q (s.writeJob q (Binding.of q.bind)) = [] := by
  obtain ⟨hn, -, -, hsplit, hrcp⟩ := h.job
  obtain ⟨hy, hwy, -, hwz, -, huz⟩ := s.jobRows_plain q hrcp h.view
  have fits : q.off + blockSize (Binding.of q.bind).sfmt * fmtBytes q.writeRow.fmt ≤ 8388608 := by
    have := h.inside
    rw [h.bytes] at this
    simp only [EngReq.writeRow, targetAt, h.view, if_true]
    exact this
  have fmt : s.jobVfmt q (s.writeJob q (Binding.of q.bind)) = false := by
    rw [State.jobVfmt, if_pos (show (s.writeJob q (Binding.of q.bind)).use = .viewWrite from rfl), State.pageCheck_bind]
    rcases h.vfmt with h | h <;> simp [h]
  have cut : s.jobCut q (s.writeJob q (Binding.of q.bind)) = false := by
    simp [State.jobCut, hsplit, hy, hwy, hwz, Target.refuses, h.row.partials, fmt]
  have bad : s.jobBad q (s.writeJob q (Binding.of q.bind)) = none := by simp [State.jobBad, hrcp]
  have z : (s.jobZ q (s.writeJob q (Binding.of q.bind))).sts = [] := by simp [State.jobZ, huz]
  simp [State.jobSts, h.page, z, huz, cut, fmt, bad, h.lost, hy, hn, fits, stIf]

/-- It needs no operand of memory. -/
theorem WholeBlock.answers : s.jobAnswers q (s.writeJob q (Binding.of q.bind)) = [] := by
  obtain ⟨-, -, -, -, hrcp⟩ := h.job
  obtain ⟨hy, hwy, hry, hwz, hrz, -⟩ := s.jobRows_plain q hrcp h.view
  have none : ∀ t : Target, t.answer s [] = .ok := fun t => by
    unfold Target.answer Target.ranges
    split <;> rfl
  have needY : (s.jobRows q (s.writeJob q (Binding.of q.bind))).needY (s.writeJob q (Binding.of q.bind)) = [] := by
    simp [XfRows.needY, hry, hwy, hy, h.row.partials]
  have needZ : (s.jobRows q (s.writeJob q (Binding.of q.bind))).needZ (s.writeJob q (Binding.of q.bind)) = [] := by
    simp [XfRows.needZ, hrz, hwz]
  simp [State.jobAnswers, needY, needZ, none, ansStatus]

/-- The block is put as the guard unit encodes it. -/
theorem WholeBlock.runJob (he : (s.ctxOf q.hdr.ctx).errThresh = 0) {enc : Encoded}
    (henc : enc = encodeBlock (Binding.of q.bind).sfmt .rne (s.ctxOf q.hdr.ctx).texp (s.ctxOf q.hdr.ctx).nfClamp
      (fun i => (s.ctxOf q.hdr.ctx).rnd ((Binding.of q.bind).run.ident g i) 7) ((List.range (blockSize (Binding.of q.bind).sfmt)).map q.viewVal)) :
    (s.runJob q (s.writeJob q (Binding.of q.bind))).1.st = .ok ∧
      (s.runJob q (s.writeJob q (Binding.of q.bind))).2.mem = (s.putBlock (Binding.of q.bind).run g enc.scale enc.zero enc.field).mem := by
  obtain ⟨-, hks, hxs, -, hrcp⟩ := h.job
  obtain ⟨hy, hwy, hry, hwz, hrz, -⟩ := s.jobRows_plain q hrcp h.view
  rw [State.runJob_run h.sts h.sound h.answers]
  refine ⟨rfl, (State.mem_calm (State.satOnce_calm ..)).trans ?_⟩
  have clamped : s.jobClamped q (s.writeJob q (Binding.of q.bind)) = [] := by
    rw [State.jobClamped, List.map_eq_nil_iff, List.filter_eq_nil_iff]
    intro e he
    rw [State.jobEnvs, List.mem_map] at he
    obtain ⟨x, -, rfl⟩ := he
    simp [State.jobEnv, hrcp, Rcp.run, Rcp.used, RcpEnv.run]
  have written : (s.jobWritten q (s.writeJob q (Binding.of q.bind))).2 =
      s.encodeWrite q.hdr.ctx (Binding.of q.bind).run g .rne ((List.range (blockSize (Binding.of q.bind).sfmt)).map q.viewVal) false := by
    have one := h.row.write q.viewVal s q.hdr.ctx .rne
    simp only [State.jobWritten, hwz, State.jobY, hwy, hy, hrcp, State.jobYv, State.jobZs, hrz, State.jobYs, hry, clamped, Option.isSome_none,
      Bool.false_eq_true, if_false, if_true, hxs]
    rw [hks] at one
    exact one
  rw [written]
  exact s.encodeWrite_mem he _ g _ _ _ henc

end

/-- It is one in the state in which it is performed, too. -/
theorem WholeBlock.readied {s : State} {q : EngReq} {g : Nat} (h : WholeBlock s q g) : WholeBlock (s.readied q) q g :=
  { h with page := by rw [s.readied_pageCheck, h.page], lost := by rw [s.readied_ctxOf, h.lost] }

/-- A sound write of one whole block is answered OK, and puts the block. -/
theorem execViewWrite_block {s : State} {q : EngReq} {g : Nat} (hc : Commits s EngReq.isWrite noWait q) (hw : AnswerWanted s q.hdr)
    (h : WholeBlock s q g) (he : (s.ctxOf q.hdr.ctx).errThresh = 0) {enc : Encoded}
    (henc : enc = encodeBlock (Binding.of q.bind).sfmt .rne (s.ctxOf q.hdr.ctx).texp (s.ctxOf q.hdr.ctx).nfClamp
      (fun i => (s.ctxOf q.hdr.ctx).rnd ((Binding.of q.bind).run.ident g i) 7) ((List.range (blockSize (Binding.of q.bind).sfmt)).map q.viewVal)) :
    ∃ t, execViewWrite s = .next t ∧ AnsweredOk s t q.hdr 0 [] ∧ t.mem = (s.putBlock (Binding.of q.bind).run g enc.scale enc.zero enc.field).mem ∧
      t.txn.engQ = s.txn.engQ.erase q := by
  obtain ⟨hst, hmem⟩ := h.readied.runJob (enc := enc) (by rw [s.readied_ctxOf, he]) (by rw [s.readied_ctxOf, henc])
  obtain ⟨t, ht, hans, hm, -, hq⟩ := hc.done hw (act := withErrs [] fun q t => t.withMiss false (fun t => t.doViewWrite q))
    (w := (s.readied q).viewWritten q) (vfmt := 0) (units := []) (by rw [← hst]; rfl) (State.viewWritten_works (s := s) h.view h.plain _)
  refine ⟨t, ht, hans, hm.trans ?_, hq⟩
  rw [State.mem_calm (State.viewWritten_calm ..), hmem]
  exact State.putBlock_mem (s.readied_mem q) ..

/-- Settles O51: returned data shows what memory holds, a read returns what its row decodes to, a write of one whole block encodes it, and what turns a
request away leaves memory alone. -/
theorem viewsAreReadAndWrittenAtCommit : Obligations.ViewsAreReadAndWrittenAtCommit := by
  unfold Obligations.ViewsAreReadAndWrittenAtCommit
  refine ⟨?shown, ?waited, ?read, ?readRefused, ?block, ?kept, ?writeRefused, ?denied⟩
  case shown =>
    intro s a d ans hm hd h2 hp
    obtain ⟨t, ht, hr, hmem, hpois⟩ := execEngineMemoryData_shows hm hd h2 hp d ans
    obtain ⟨hothers, hbad, hgood⟩ := s.showGranule_poison (a.toNat / 64) d.toNat ans
    rw [exec_engineMemoryData]
    refine ⟨t, ht, hr, fun b hb => ?_, fun hok i hi => ?_, ?_⟩
    · exact (State.memByte_congr hmem b).trans (s.showGranule_kept _ _ _ b hb)
    · subst hok
      rw [State.memByte_congr hmem, s.showGranule_byte _ _ hi, BitVec.extractLsb', Nat.shiftRight_eq_div_pow, Nat.pow_mul]
    · rw [hpois]
      exact ⟨hothers, hbad, hgood⟩
  case waited =>
    intro s a d ans p hm hd h2 hp
    rw [exec_engineMemoryData, execEngineMemoryData_waited hm hd h2 hp]
    refine ⟨_, rfl, ?_, ?_, fun h => ?_⟩
    · dsimp only
      rw [apply_ite State.regs, State.showGranule_regs]
      exact ite_self _
    · dsimp only
      rw [apply_ite State.txn, State.showGranule_txn, ite_self]
      rfl
    · have unused : (p.dropped || p.stale) = true := by rcases h with h | h <;> simp [h]
      dsimp only
      rw [if_pos unused]
      exact ⟨rfl, rfl⟩
  case read =>
    rintro s q _ n _ h hw rfl hn rfl hp hv hl ha hr hnan
    exact execViewRead_ok h hw rfl hn rfl hp hv hl ha hr hnan
  case readRefused =>
    intro s q st h hw hm hst
    exact execViewRead_refused h hw hm hst fun e => s.ok_not_mem_pageCheck _ _ _ (e ▸ hm)
  case block =>
    rintro s q _ g _ enc h hw rfl hv hr hp hf hl hs he hb hfirst hin hen rfl henc
    exact execViewWrite_block h hw ⟨hv, hr, hp, hf, hl, hs, hb, hfirst, hin, hen⟩ he henc
  case kept =>
    rintro s q _ h rfl hv hr
    exact execViewWrite_kept h hv hr
  case writeRefused =>
    intro s q st h hw hr hm hst
    rw [exec_viewWrite]
    refine execViewWrite_refused h hw (State.jobSts_refuses (by simp [State.writeJob, hr]) ?_ hst) fun e => s.ok_not_mem_pageCheck _ _ _ (e ▸ hm)
    rwa [s.readied_pageCheck]
  case denied =>
    intro s q h hw hd
    have hj := State.jobSts_denied (s := s.readied q) (q := q) (j := (s.readied q).writeJob q (Binding.of q.bind)) (by rwa [s.readied_pageCheck])
    obtain ⟨t, ht, hm, hans⟩ := execViewWrite_refused h hw rfl (fun e => by rw [e] at hj; revert hj; decide)
    exact ⟨t, _, ht, hm, hj, hans⟩

end Sys2Proof.Machine
end

section
/-!
PROOFS. Transforms at commit (R310 to R316): what one whose checks pass writes and answers, the elements of y that a recipe without stages
writes, and what a transform that is turned away leaves.
-/

namespace Sys2Proof.Machine

/-- The commit of a transform, by its use. -/
def State.commitXf (s : State) (o : Op) (u : RcpUse) : Host.Outcome State Fault Refusal :=
  s.commitNext (EngReq.isOp o) noWait (withErrs [] fun q t => t.withMiss false (fun t => t.doTransform u q))

theorem State.doTransform_eq (s : State) (u : RcpUse) (q : EngReq) {j : XfJob} (hj : j = s.xfJob u q (Binding.of q.bind)) : s.doTransform u q =
    (s.runJob q j).2.answerEng q.hdr (s.runJob q j).1.st (if (s.runJob q j).1.st = .ok then j.xFmt else 0)
      (packUnits j.xFmt (s.runJob q j).1.rets q.hdr.bytes) := by
  subst hj
  rfl

section
variable {s t : State}

theorem State.xfJob_tables (h : t.tables = s.tables) (u : RcpUse) (q : EngReq) (b : Binding) : t.xfJob u q b = s.xfJob u q b := by
  simp only [State.xfJob, State.recipe_tables h]
theorem State.rowsOf_tables (h : t.tables = s.tables) (q : EngReq) (b : Binding) (j : XfJob) : t.rowsOf q b j = s.rowsOf q b j := by
  have entry : q.entry t = q.entry s := funext (EngReq.entry_tables h q)
  simp only [State.rowsOf, entry]

end

section
variable {s : State} {q : EngReq} {u : RcpUse} {j : XfJob} {w : XfRows}

/-- A transform that its page turns away is answered DENIED or DRAINED. -/
theorem State.commitXf_denied {o : Op} (h : Commits s (EngReq.isOp o) noWait q) (hw : AnswerWanted s q.hdr) (hd : PageDenies s q) (u : RcpUse) :
    ∃ t st, s.commitXf o u = .next t ∧ t.mem = s.mem ∧ st ∈ [Status.denied, .drained] ∧ AnsweredWith s t q.hdr st := by
  let j := (s.readied q).xfJob u q (Binding.of q.bind)
  have hj := State.jobSts_denied (s := s.readied q) (q := q) (j := j) (by rwa [s.readied_pageCheck])
  have hok : firstStatus ((s.readied q).jobSts q j) ≠ .ok := fun e => by
    rw [e] at hj
    revert hj
    decide
  obtain ⟨hst, hc⟩ := State.runJob_refused rfl hok
  obtain ⟨t, ht, hm, hans⟩ := h.refused hw (act := withErrs [] fun q t => t.withMiss false (fun t => t.doTransform u q))
    (w := ((s.readied q).runJob q j).2) (vfmt := if ((s.readied q).runJob q j).1.st = .ok then j.xFmt else 0)
    (units := packUnits j.xFmt ((s.readied q).runJob q j).1.rets q.hdr.bytes) (by rw [← hst]; exact State.doTransform_eq _ u q rfl) hc hok
  exact ⟨t, _, ht, hm, hj, hans⟩

/-! ### A transform whose checks pass -/

theorem TransformPasses.job (h : TransformPasses s q u j w) : j = (s.readied q).xfJob u q (Binding.of q.bind) :=
  h.1.trans (State.xfJob_tables (s.readied_tables q) ..).symm

theorem TransformPasses.rows (h : TransformPasses s q u j w) : (s.readied q).jobRows q j = w := by
  rw [State.jobRows, State.pageCheck_bind, State.rowsOf_tables (s.readied_tables q)]
  exact h.2.1.symm

/-- Every check before it passes. -/
theorem TransformPasses.sts (h : TransformPasses s q u j w) (hu : u ≠ .viewWrite) : (s.readied q).jobSts q j = [] := by
  have rows := h.rows
  obtain ⟨hj, -, hpage, hvfmt, hlost, -, href, hknown, hy, hz, hwz, -, -⟩ := h
  have use : j.use = u := by rw [hj]; rfl
  have rcp : j.rcp = some (s.recipe q.hdr.recipe) := by rw [hj]; rfl
  have split : j.split = false := by rw [hj]; rfl
  have fmt : (s.readied q).jobVfmt q j = false := by rw [State.jobVfmt, if_neg (by rwa [use]), hvfmt]
  have bad : (s.readied q).jobBad q j = none := by
    rw [State.jobBad, rcp, rows, use, s.readied_pageCheck]
    exact href
  have cutY : (w.writesY && w.y.refuses j.ks) = false := by simpa using hy
  have cutZ : (w.writesZ && w.z.refuses j.ks) = false := by simpa using hwz
  have cut : (s.readied q).jobCut q j = false := by simp [State.jobCut, rows, split, cutY, cutZ, fmt]
  have z : ((s.readied q).jobZ q j).sts = [] := by
    rw [State.jobZ, rows]
    split
    · rfl
    · rename_i used
      obtain ⟨p, hp, hsts, -⟩ := hz (by simp only [Bool.or_eq_true, not_or, Bool.not_eq_true, Bool.not_eq_false'] at used; exact used.1)
      rw [hp]
      dsimp only
      rw [s.readied_pageCheck, EngReq.entry_tables (s.readied_tables q), hsts]
  have ends : (w.known && decide (2 ^ 23 < q.off + j.n * fmtBytes w.y.fmt)) = false := by
    cases hk : w.known with
    | false => rfl
    | true => exact decide_eq_false (hknown hk).not_gt
  have endsZ : (w.usesZ && fmtScalar w.z.fmt && decide (pageElems w.z.fmt < w.j0 + j.n)) = false := by
    cases hk : w.usesZ with
    | false => rfl
    | true =>
      obtain ⟨p, -, -, hin⟩ := hz hk
      cases hf : fmtScalar w.z.fmt with
      | false => rfl
      | true => exact decide_eq_false (hin hf).not_gt
  rw [State.jobSts, rows, s.readied_pageCheck, s.readied_ctxOf, hpage, z, ends, endsZ, cut, fmt, bad, hlost]
  rfl

/-- Memory answers its operands. -/
theorem TransformPasses.answers (h : TransformPasses s q u j w) (hu : u ≠ .viewWrite) : (s.readied q).jobAnswers q j = [] := by
  have rows := h.rows
  obtain ⟨hj, -, -, -, -, -, -, -, -, -, -, hy, hz⟩ := h
  have use : (j.use == .viewWrite) = false := by
    rw [hj]
    exact beq_eq_false_iff_ne.mpr hu
  have same : ∀ (t : Target) (ks : List Nat), t.answer (s.readied q) ks = t.answer (s.asUsed q) ks :=
    Target.answer_congr (s := s.asUsed q) (s.readied_mem q) (s.readied_poison q) (s.readied_prefetch q)
  rw [State.jobAnswers, rows, same, same, hy, hz, use]
  rfl

theorem TransformPasses.run (h : TransformPasses s q u j w) (hu : u ≠ .viewWrite) : (s.readied q).runJob q j =
    (⟨.ok, ((s.readied q).jobRets q j).1, .none⟩, ((s.readied q).jobWritten q j).2.satOnce q.hdr.ctx
      (((s.readied q).jobY q j).1 || ((s.readied q).jobWritten q j).1 || ((s.readied q).jobRets q j).2)) :=
  State.runJob_run (h.sts hu) h.2.2.2.2.2.1 (h.answers hu)

/-- It writes y and z as its recipe says, and escape slots, and is answered OK. -/
theorem TransformPasses.commits {o : Op} (h : TransformPasses s q u j w) (hu : u ≠ .viewWrite) (hc : Commits s (EngReq.isOp o) noWait q)
    (hw : AnswerWanted s q.hdr) : ∃ t, s.commitXf o u = .next t ∧
      AnsweredOk s t q.hdr j.xFmt (packUnits j.xFmt ((s.readied q).jobRets q j).1 q.hdr.bytes) ∧ t.basin = s.basin ∧ t.txn.engQ = s.txn.engQ.erase q ∧
      MemoryKeptOutside s t (s.escRange :: ((if w.writesY then w.y.ranges j.ks else []) ++ if w.writesZ then w.z.ranges j.ks else [])) ∧
      t.mem = ((s.readied q).jobWritten q j).2.mem := by
  have use : j.use = u := by rw [h.1]; rfl
  have works := State.runJob_works (s := s.readied q) (q := q) (j := j) fun e => absurd (use.symm.trans e) hu
  rw [State.jobRanges, h.rows, h.run hu] at works
  obtain ⟨t, ht, hans, hm, hb, hq⟩ := hc.done hw (act := withErrs [] fun q t => t.withMiss false (fun t => t.doTransform u q))
    (by rw [show withErrs [] (fun q t => t.withMiss false (fun t => t.doTransform u q)) q (s.readied q) = (s.readied q).doTransform u q from rfl,
          State.doTransform_eq _ u q h.job, h.run hu, if_pos rfl]) works
  exact ⟨t, ht, hans, hb, hq, works.memory hm, hm.trans (State.mem_calm (State.satOnce_calm ..))⟩

/-- An operation that returns no data is answered with a header alone. -/
theorem AnsweredOk.noData {t : State} {h : Hdr} {vfmt : Nat} {units : List Nat} {o : Op} (ho : h.operation = some o) (hd : o.returnsData = false)
    (ha : AnsweredOk s t h vfmt units) : AnsweredOk s t h 0 [] := by
  have resp : (respHdr h .ok).op ≠ Op.cplD.code ∧ (respHdr h .ok).len = 0 := by
    simp only [respHdr, ho, Option.getD_some, hd, Bool.false_and, Bool.false_eq_true, if_false]
    decide
  rw [AnsweredOk] at ha ⊢
  rw [ha, if_neg resp.1, if_neg resp.1, resp.2]
  rfl

/-- The values returned, one for each element. -/
theorem TransformPasses.rets_length (h : TransformPasses s q .applyR j w) : ((s.readied q).jobRets q j).1.length = j.n := by
  have use : j.use = .applyR := by rw [h.1]; rfl
  have xs : j.xs.length = j.n := by
    rw [h.1]
    simp [State.xfJob]
  simp [State.jobRets, use, retCodes, State.jobEnvs, xs]

theorem Commits.operation {o : Op} {waits : EngReq → Bool} (h : Commits s (EngReq.isOp o) waits q) : q.hdr.operation = some o := by
  have := List.find?_some h.2.2.2.2.2.1
  simpa [EngReq.isOp] using this

end

/-! ### Scalar elements written (R310, R316) -/

theorem State.memNat_engWrite_apart (s : State) {a b n : Nat} {bs : List Byte} (h : b + n ≤ a ∨ a + bs.length ≤ b) :
    (s.engWrite a bs).memNat b n = s.memNat b n := by
  induction n generalizing b with
  | zero => rfl
  | succ n ih => rw [State.memNat, State.memNat, s.memByte_engWrite_apart (by omega), ih (by omega)]

theorem State.memNat_bytes (s : State) (a v n : Nat) (h : ∀ i, i < n → s.memByte (a + i) = BitVec.ofNat 8 (v / 256 ^ i)) :
    s.memNat a n = v % 256 ^ n := by
  induction n generalizing a v with
  | zero => rw [State.memNat, pow_zero, Nat.mod_one]
  | succ n ih =>
    have first := h 0 (Nat.succ_pos n)
    have rest : s.memNat (a + 1) n = v / 256 % 256 ^ n := ih (a + 1) (v / 256) fun i hi => by
      rw [Nat.add_assoc, Nat.add_comm 1, h (i + 1) (Nat.succ_lt_succ hi), Nat.pow_succ, Nat.mul_comm, Nat.div_div_eq_div_mul]
    rw [Nat.add_zero, pow_zero, Nat.div_one] at first
    have digits : v % (256 * 256 ^ n) = v % 256 + 256 * (v / 256 % 256 ^ n) := Nat.mod_mul
    rw [State.memNat, first, rest, BitVec.toNat_ofNat]
    exact digits.symm.trans (by rw [Nat.pow_succ'])

/-- A number written reads back modulo its width. -/
theorem State.memNat_engWrite_same (s : State) (a v n : Nat) : (s.engWrite a (natBytes v n)).memNat a n = v % 256 ^ n :=
  State.memNat_bytes _ _ _ _ fun i hi => by
    rw [State.memByte_engWrite, if_pos (Nat.le_add_right ..), Nat.add_sub_cancel_left, natBytes_getD hi]

/-- Numbers of one width, written one after another. -/
def State.writeCodes (s : State) (a b : Nat) (code : Nat → Nat) (n : Nat) : State :=
  (List.range n).foldl (fun t k => t.engWrite (a + k * b) (natBytes (code k) b)) s

theorem State.memNat_writeCodes (s : State) (a b : Nat) (code : Nat → Nat) {n k : Nat} (hk : k < n) :
    (s.writeCodes a b code n).memNat (a + k * b) b = code k % 256 ^ b := by
  induction n with
  | zero => exact absurd hk (Nat.not_lt_zero k)
  | succ n ih =>
    have last : s.writeCodes a b code (n + 1) = (s.writeCodes a b code n).engWrite (a + n * b) (natBytes (code n) b) := by
      rw [State.writeCodes, List.range_succ, List.foldl_append]
      rfl
    rw [last]
    rcases Nat.lt_succ_iff_lt_or_eq.mp hk with hlt | rfl
    · rw [State.memNat_engWrite_apart, ih hlt]
      left
      have : (k + 1) * b ≤ n * b := Nat.mul_le_mul_right b hlt
      rw [Nat.succ_mul] at this
      omega
    · exact State.memNat_engWrite_same ..

theorem State.put_tables (s : State) {f : Field} (h : f.key ≠ IDENT.CAP_AGREED.CAP.key) (v : Nat) : (s.put f v).tables = s.tables := by
  rw [State.tables, State.put_reg_ne _ _ h]
  rfl

theorem State.noteWrite_tables (s : State) (g : Nat) : (s.noteWrite g).tables = s.tables := by
  unfold State.noteWrite
  dsimp only
  repeat' split
  · rfl
  · rfl
  · rfl
  · exact State.put_tables _ (by decide) _

theorem State.engWrite_tables (s : State) (a : Nat) (bs : List Byte) : (s.engWrite a bs).tables = s.tables := by
  have notes : ∀ t : State, (t.noteWrites a bs.length).tables = t.tables := fun t => foldl_keeps State.tables State.noteWrite_tables _ t
  rw [State.engWrite, State.memTake, notes]
  obtain ⟨_, h⟩ := (s.emit (.memWrite a bs)).setMemBytes_eq a bs
  rw [h]
  rfl

theorem State.engWrite_ctxOf (s : State) (a : Nat) (bs : List Byte) (c : Nat) : (s.engWrite a bs).ctxOf c = s.ctxOf c :=
  State.ctxOf_tables (s.engWrite_tables a bs) c

/-- The code that element `k` of a scalar row is written as (R274, R292). -/
def Target.code (t : Target) (c : Ctx) (m : Rnd) (k v : Nat) : Nat :=
  ((scalarFmt t.fmt).convert m (c.rnd (scalarIdent (t.addr + k * fmtBytes t.fmt) (fmtBytes t.fmt)) 7) (f32 v)).1

/-- What is carried beside a fold does not change it. -/
theorem foldl_beside {α β γ : Type} (f : α → γ → β × α) (c : β → β → β) (l : List γ) (b : β) (a : α) :
    (l.foldl (fun acc v => (c acc.1 (f acc.2 v).1, (f acc.2 v).2)) (b, a)).2 = l.foldl (fun a v => (f a v).2) a := by
  induction l generalizing b a with
  | nil => rfl
  | cons v l ih => exact ih ..

/-- Writing a scalar row writes a code for each of its elements. -/
theorem Target.write_scalars {t : Target} (hv : t.view = false) (s : State) (c : Nat) (m : Rnd) (vals : List (Nat × Nat)) (cl : List Nat) :
    (t.write s c m vals cl).2 = vals.foldl (fun u v =>
      u.engWrite (t.addr + v.1 * fmtBytes t.fmt) (natBytes (t.code (s.ctxOf c) m v.1 v.2) (fmtBytes t.fmt))) s := by
  have fold : (t.write s c m vals cl).2 =
      vals.foldl (fun u v => (u.writeScalars c t.fmt (t.addr + v.1 * fmtBytes t.fmt) m [v.2]).2) s := by
    rw [Target.write, if_neg (by rw [hv]; decide)]
    exact foldl_beside (fun (u : State) (v : Nat × Nat) => u.writeScalars c t.fmt (t.addr + v.1 * fmtBytes t.fmt) m [v.2]) (· || ·) vals false s
  rw [fold]
  suffices ∀ u : State, u.ctxOf c = s.ctxOf c →
      vals.foldl (fun u v => (u.writeScalars c t.fmt (t.addr + v.1 * fmtBytes t.fmt) m [v.2]).2) u = vals.foldl (fun u v =>
        u.engWrite (t.addr + v.1 * fmtBytes t.fmt) (natBytes (t.code (s.ctxOf c) m v.1 v.2) (fmtBytes t.fmt))) u from this s rfl
  clear fold
  induction vals with
  | nil =>
    intro u _
    rw [List.foldl_nil, List.foldl_nil]
  | cons v vals ih =>
    intro u hu
    have step : (u.writeScalars c t.fmt (t.addr + v.1 * fmtBytes t.fmt) m [v.2]).2 =
        u.engWrite (t.addr + v.1 * fmtBytes t.fmt) (natBytes (t.code (s.ctxOf c) m v.1 v.2) (fmtBytes t.fmt)) := by
      rw [State.writeScalars_one, hu]
      rfl
    rw [List.foldl_cons, List.foldl_cons, step]
    exact ih _ (by rw [State.engWrite_ctxOf, hu])

/-! ### A recipe without stages that writes y alone (R310) -/

/-- A recipe that is not refused has VALID 1. -/
theorem Rcp.valid_of_refusal {r : Rcp} {u : RcpUse} {a b : Bool} (h : r.refusal u a b = none) : r.valid = true := by
  cases hv : r.valid with
  | true => rfl
  | false => simp [Rcp.refusal, hv] at h

section
variable {s : State} {q : EngReq} {j : XfJob} {w : XfRows}

/-- It writes each element of x to y as it is converted. -/
theorem TransformPasses.copies (h : TransformPasses s q .apply j w) (hv : w.y.view = false) (hn : (s.recipe q.hdr.recipe).nstages = 0)
    (hy : (s.recipe q.hdr.recipe).outY ≠ 0) (hz : (s.recipe q.hdr.recipe).outZ = 0) :
    ((s.readied q).jobWritten q j).2 = j.xs.foldl (fun u v => u.engWrite (w.y.addr + v.1 * fmtBytes w.y.fmt)
      (natBytes (w.y.code (s.ctxOf q.hdr.ctx) (rndOf (s.recipe q.hdr.recipe).rndY) v.1 v.2) (fmtBytes w.y.fmt))) (s.readied q) := by
  have rows := h.rows
  have use : j.use = .apply := by rw [h.1]; rfl
  have rcp : j.rcp = some (s.recipe q.hdr.recipe) := by rw [h.1]; rfl
  have valid : (s.recipe q.hdr.recipe).valid = true := Rcp.valid_of_refusal h.2.2.2.2.2.2.1
  have used : (s.recipe q.hdr.recipe).used = [] := by rw [Rcp.used, hn, List.take_zero]
  have parts : w.writesY = true ∧ w.readsY = false ∧ w.writesZ = false ∧ w.readsZ = false := by
    rw [h.2.1]
    simp [State.rowsOf, rcp, valid, use, Rcp.writesY, Rcp.reads, used, hy, hz, hn]
  obtain ⟨wy, ry, wz, rz⟩ := parts
  have vals : (s.readied q).jobYv q j = j.xs := by
    rw [State.jobYv, rcp, Option.isSome_some, if_pos rfl, State.jobEnvs, List.map_map]
    refine (List.map_congr_left fun x _ => ?_).trans (List.map_id _)
    simp [State.jobEnv, rcp, Rcp.run, used, RcpEnv.run, Rcp.yOut, use, hn]
  simp only [State.jobWritten, State.jobY, State.jobZs, State.jobYs, rows, wy, ry, wz, rz, rcp, vals, Bool.false_eq_true, if_false, if_true,
    Option.isSome_some, Option.getD_some]
  rw [Target.write_scalars hv, s.readied_ctxOf]

/-- Each element of y reads back as the element of x converted. -/
theorem TransformPasses.copied (h : TransformPasses s q .apply j w) (hv : w.y.view = false) (hn : (s.recipe q.hdr.recipe).nstages = 0)
    (hy : (s.recipe q.hdr.recipe).outY ≠ 0) (hz : (s.recipe q.hdr.recipe).outZ = 0) {t : State}
    (ht : t.mem = ((s.readied q).jobWritten q j).2.mem) {k : Nat} (hk : k < j.n) :
    t.memNat (w.y.addr + k * fmtBytes w.y.fmt) (fmtBytes w.y.fmt) = w.y.code (s.ctxOf q.hdr.ctx) (rndOf (s.recipe q.hdr.recipe).rndY) k
      (widen j.xFmt (bits q.data (8 * fmtBytes j.xFmt * k) (8 * fmtBytes j.xFmt))) % 2 ^ (8 * fmtBytes w.y.fmt) := by
  have xs : j.xs = (List.range j.n).map (fun k => (k, widen j.xFmt (bits q.data (8 * fmtBytes j.xFmt * k) (8 * fmtBytes j.xFmt)))) := by
    rw [h.1]
    rfl
  rw [State.memNat_congr ht, h.copies hv hn hy hz, xs, List.foldl_map, Nat.pow_mul]
  exact State.memNat_writeCodes (s.readied q) w.y.addr (fmtBytes w.y.fmt) (fun k => w.y.code (s.ctxOf q.hdr.ctx) (rndOf (s.recipe q.hdr.recipe).rndY) k
    (widen j.xFmt (bits q.data (8 * fmtBytes j.xFmt * k) (8 * fmtBytes j.xFmt)))) hk

/-- X has the format of the request, or that of y. -/
theorem TransformPasses.xFmt {u : RcpUse} (h : TransformPasses s q u j w) : j.xFmt = if q.hdr.vfmt = 0 then w.y.fmt else q.hdr.vfmt := by
  have rcp : j.rcp = some (s.recipe q.hdr.recipe) := by rw [h.1]; rfl
  have fmt : w.y.fmt = if (Binding.of q.bind).isView then (Binding.of q.bind).vfmt else (s.recipe q.hdr.recipe).yFmt := by
    rw [h.2.1, State.rowsOf, rcp]
    simp only [targetAt, Option.getD_some]
    split
    · rfl
    · rfl
  rw [fmt, h.1, State.xfJob, ite_not]

end

/-- Settles O52: a transform whose checks pass writes y and z alone and is answered OK with what it returns, and one that its page turns away writes
nothing. -/
theorem transformsWriteYAndZ : Obligations.TransformsWriteYAndZ := by
  unfold Obligations.TransformsWriteYAndZ
  refine ⟨?apply, ?copies, ?applyR, ?acc, ?applyDenied, ?applyRDenied, ?accDenied⟩
  case apply =>
    intro s q j w hc hw h
    obtain ⟨t, ht, hans, hb, hq, hkept, -⟩ := h.commits (by decide) hc hw
    exact ⟨t, ht, hans.noData hc.operation rfl, hb, hq, hkept⟩
  case copies =>
    intro s q j w hc hw h hv hn hy hz
    obtain ⟨t, ht, -, -, -, -, hm⟩ := h.commits (by decide) hc hw
    exact ⟨t, ht, h.xFmt, fun k hk => h.copied hv hn hy hz hm hk⟩
  case applyR =>
    intro s q j w hc hw h
    obtain ⟨t, ht, hans, hb, hq, hkept, -⟩ := h.commits (by decide) hc hw
    exact ⟨t, _, ht, h.rets_length, hans, hb, hq, hkept⟩
  case acc =>
    intro s q j w hc hw h
    obtain ⟨t, ht, hans, hb, hq, hkept, -⟩ := h.commits (by decide) hc hw
    exact ⟨t, ht, hans.noData hc.operation rfl, hb, hq, hkept⟩
  case applyDenied =>
    intro s q hc hw hd
    exact State.commitXf_denied hc hw hd .apply
  case applyRDenied =>
    intro s q hc hw hd
    exact State.commitXf_denied hc hw hd .applyR
  case accDenied =>
    intro s q hc hw hd
    exact State.commitXf_denied hc hw hd .acc

end Sys2Proof.Machine
end

section
/-!
PROOFS. The bulk stream's sender and receiver (R158, R160 to R165, R182, R185, R186, R188 to R193): what a flit carries as it leaves, what a replay
sends, and what a flit that arrives changes until its CRC is checked.
-/

namespace Sys2Proof.Machine

theorem exec_bulkFlitStart (ue : Option (BitVec 4)) (s : State) : exec (.bulkFlitStart ue) s = execBulkFlitStart s ue := rfl
theorem exec_replayTimeout (cycles : Nat) (s : State) : exec (.replayTimeout cycles) s = execReplayTimeout cycles s := rfl
theorem exec_nakTimeout (cycles : Nat) (s : State) : exec (.nakTimeout cycles) s = execNakTimeout cycles s := rfl
theorem exec_bulkFlitArrival (flit : BulkFlit) (pos : Nat) (s : State) : exec (.bulkFlitArrival flit pos) s = execBulkFlitArrival flit pos s := rfl
theorem exec_bulkCrcResult (ue : Option (Nat × Nat)) (s : State) : exec (.bulkCrcResult ue) s = execBulkCrcResult s ue := rfl

/-- In OFF the bulk stream does not run. -/
theorem State.col_of_bulkRuns {s : State} {rx : Bool} (h : s.bulkRuns rx = true) : s.chip.col ≠ .off := by
  intro off
  simp [State.bulkRuns, State.bulkState, State.colDead, State.colIn, off] at h

/-! ### Bulk flits sent (R164, R185, R186, R192) -/

/-- Bulk content that leaves or arrives is noted with the power state (R426, R433). -/
theorem State.content_spec (s : State) : s.content.lnk = s.lnk ∧ s.content.out = s.out ∧ ∀ f, f.key / 4096 ≠ 14 → s.content.get f = s.get f := by
  obtain ⟨⟨r, hb⟩, ho⟩ := s.busy_regsOnly
  refine ⟨?_, ?_, fun f hf => ?_⟩
  · rw [State.content, hb]
    rfl
  · rw [State.content, hb]
    rfl
  · rw [State.content, State.get_setPwr]
    exact ho.get (by simpa using hf)

/-- The fields of a bulk flit that leaves now: the present acknowledge, a pending NAK, and a credit count that waits. -/
def State.bulkFields (s : State) (seq ftype hdrMap : Nat) : BulkHdr :=
  { seq := seq, ack := s.get BULK.SEQ_STAT.NEXT_RX, ackt := if s.lnk.nakMark then 2 else 1, ftype := ftype, crv := (s.nextCount 7).isSome
    crTc := (match s.nextCount 7 with | some k => creditKey k | none => (0, 0, 0)).2.1
    crKind := (match s.nextCount 7 with | some k => creditKey k | none => (0, 0, 0)).2.2
    crCount := match s.nextCount 7 with | some k => s.get (CREDIT.RX_STAT.RETURNED k) | none => 0, hdrMap := hdrMap }

section
variable (s : State) (seq ftype hdrMap : Nat) (slots : List Nat)

/-- What a bulk flit that leaves changes: the link's marks of what it carries, and a count of NAKs. -/
theorem State.sendBulk_spec : (s.sendBulk seq ftype hdrMap slots).out = .bulk (buildBulk (s.bulkFields seq ftype hdrMap) slots) :: s.out ∧
    (s.sendBulk seq ftype hdrMap slots).lnk.rpl = s.lnk.rpl ∧ (s.sendBulk seq ftype hdrMap slots).lnk.txQ = s.lnk.txQ ∧
    (s.sendBulk seq ftype hdrMap slots).lnk.ptr = s.lnk.ptr ∧ (s.sendBulk seq ftype hdrMap slots).lnk.nakMark = false ∧
    (s.sendBulk seq ftype hdrMap slots).get BULK.SEQ_STAT.NEXT_TX = s.get BULK.SEQ_STAT.NEXT_TX := by
  unfold State.sendBulk State.bulkFields
  dsimp only
  generalize h1 : (if s.lnk.nakMark = true then s.bump BULK.RX_STAT.NAKS else s) = s1
  have kept : s1.out = s.out ∧ s1.lnk = s.lnk ∧ s1.get BULK.SEQ_STAT.NEXT_TX = s.get BULK.SEQ_STAT.NEXT_TX := by
    rw [← h1]
    split
    · exact ⟨State.bump_out .., State.bump_lnk .., s.get_bump_apart (by decide)⟩
    · exact ⟨rfl, rfl, rfl⟩
  obtain ⟨ho, hl, hg⟩ := kept
  have hr : s1.lnk.rpl = s.lnk.rpl := by rw [hl]
  have hq : s1.lnk.txQ = s.lnk.txQ := by rw [hl]
  have hp : s1.lnk.ptr = s.lnk.ptr := by rw [hl]
  cases s.nextCount 7 with
  | none => exact ⟨congrArg (_ :: ·) ho, hr, hq, hp, rfl, hg⟩
  | some k => exact ⟨congrArg (_ :: ·) ho, hr, hq, hp, rfl, hg⟩

end

/-- The state in which a new flit leaves: its sequence is taken, and the replay buffer holds it (R186, R415). -/
def State.bulkLoaded (s : State) : State :=
  let seq := s.get BULK.SEQ_STAT.NEXT_TX
  let (slots, m, q) := fillSlots (s.beat.toNat % 65536) 15 0 s.lnk.txQ
  (((s.put BULK.SEQ_STAT.NEXT_TX (seq + 1)).wordsWritten 1 (seq % 256 * 16) 16).setLnk fun l =>
    { l with txQ := q, rpl := l.rpl ++ [⟨seq, m, slots, s.openTx⟩], ptr := (seq + 1) % 4096 }).content

theorem State.newFlit_eq (s : State) {us : List Nat} {m : Nat} {q : List TxItem}
    (hf : fillSlots (s.beat.toNat % 65536) 15 0 s.lnk.txQ = (us, m, q)) :
    s.newFlit = s.bulkLoaded.sendBulk (s.get BULK.SEQ_STAT.NEXT_TX) 1 m us := by
  simp only [State.newFlit, State.bulkLoaded, hf]

theorem State.bulkLoaded_spec (s : State) {us : List Nat} {m : Nat} {q : List TxItem}
    (hf : fillSlots (s.beat.toNat % 65536) 15 0 s.lnk.txQ = (us, m, q)) : s.bulkLoaded.out = s.out ∧ s.bulkLoaded.lnk = { s.lnk with
      txQ := q, rpl := s.lnk.rpl ++ [⟨s.get BULK.SEQ_STAT.NEXT_TX, m, us, s.openTx⟩], ptr := (s.get BULK.SEQ_STAT.NEXT_TX + 1) % 4096 } ∧
    s.bulkLoaded.get BULK.SEQ_STAT.NEXT_TX = (s.get BULK.SEQ_STAT.NEXT_TX + 1) % 4096 ∧
    s.bulkLoaded.get BULK.SEQ_STAT.NEXT_RX = s.get BULK.SEQ_STAT.NEXT_RX := by
  let u := s.put BULK.SEQ_STAT.NEXT_TX (s.get BULK.SEQ_STAT.NEXT_TX + 1)
  obtain ⟨_, hw⟩ := u.wordsWritten_eq 1 (s.get BULK.SEQ_STAT.NEXT_TX % 256 * 16) 16
  let v := (u.wordsWritten 1 (s.get BULK.SEQ_STAT.NEXT_TX % 256 * 16) 16).setLnk fun l =>
    { l with txQ := q, rpl := l.rpl ++ [⟨s.get BULK.SEQ_STAT.NEXT_TX, m, us, s.openTx⟩], ptr := (s.get BULK.SEQ_STAT.NEXT_TX + 1) % 4096 }
  have loaded : s.bulkLoaded = v.content := by simp only [State.bulkLoaded, hf, v, u]
  have regs : v.regs = u.regs := by
    simp only [v, hw]
    rfl
  obtain ⟨hl, ho, hg⟩ := v.content_spec
  rw [loaded, hl, ho, hg _ (by decide), hg _ (by decide), State.get_congr regs, State.get_congr regs]
  refine ⟨?_, ?_, State.get_put_same _ _ _ (by decide), s.get_put_apart _ (by decide)⟩
  · simp only [v, hw]
    rfl
  · simp only [v, hw]
    rfl

theorem execBulkFlitStart_new {s : State} (hr : s.bulkRuns false = true) (hp : s.lnk.ptr = s.get BULK.SEQ_STAT.NEXT_TX) (hf : s.flitReady = true)
    (ue : Option (BitVec 4)) : execBulkFlitStart s ue = .next s.newFlit := by
  simp only [execBulkFlitStart, hr, hp, hf, Bool.not_true, Bool.false_eq_true, if_false, ne_eq, not_true_eq_false, if_true]

/-- Where no flit starts, the burst ends (R158). -/
theorem execBulkFlitStart_none {s : State} (hp : s.lnk.ptr = s.get BULK.SEQ_STAT.NEXT_TX) (hf : s.flitReady = false) (ue : Option (BitVec 4)) :
    execBulkFlitStart s ue = .next s.endBurst := by
  simp only [execBulkFlitStart, hp, hf, ne_eq, not_true_eq_false, Bool.false_eq_true, if_false, ite_self]

/-- The end of a burst leaves none open, and the queue and the replay buffer as they are. -/
theorem State.endBurst_lnk (s : State) : s.endBurst.lnk.burst = none ∧ s.endBurst.lnk.txQ = s.lnk.txQ ∧ s.endBurst.lnk.rpl = s.lnk.rpl := by
  unfold State.endBurst
  split
  · rename_i h
    exact ⟨h, rfl, rfl⟩
  · exact ⟨rfl, rfl, rfl⟩

section
variable {s : State} {f : RplFlit} (hr : s.bulkRuns false = true) (hp : s.lnk.ptr ≠ s.get BULK.SEQ_STAT.NEXT_TX)
  (hb : s.lnk.rpl.find? (fun x => x.seq == s.lnk.ptr) = some f)
include hr hp hb

/-- A replay sends what the buffer holds (R186). -/
theorem execBulkFlitStart_replay (hm : s.lnk.marked.contains f.seq = false) : execBulkFlitStart s none =
    .next ((s.setLnk fun l => { l with ptr := (f.seq + 1) % 4096 }).content.sendBulk f.seq 1 f.hdrMap f.slots) := by
  simp only [execBulkFlitStart, hr, hp, hb, hm, Bool.not_true, Bool.false_eq_true, if_false, ne_eq, not_false_eq_true, if_true]

/-- One with a word known or found uncorrectable ends in FAULT (R422). -/
theorem execBulkFlitStart_marked {ue : Option (BitVec 4)} (hm : s.lnk.marked.contains f.seq = true ∨ ue.isSome = true) :
    ∃ t, execBulkFlitStart s ue = .next t ∧ t.chip.col = .fault := by
  have on := State.col_of_bulkRuns hr
  simp only [execBulkFlitStart, hr, hp, hb, Bool.not_true, Bool.false_eq_true, if_false, ne_eq, not_false_eq_true, if_true]
  refine ⟨_, rfl, ?_⟩
  split
  · exact s.goFault_col _ _ on
  · rename_i clean
    obtain ⟨w, rfl⟩ := Option.isSome_iff_exists.mp (hm.resolve_left clean)
    exact s.replayUe_col _ _ on

end

/-! ### Timeouts (R188, R189, R193) -/

/-- The replay that a timeout starts: from OLDEST, counted towards the limit. -/
def State.bulkReplays (s : State) : State :=
  ((s.bump BULK.TX_STAT.TIMEOUTS).bump BULK.TX_STAT.REPLAYS).setLnk fun l =>
    { l with ptr := s.get BULK.SEQ_STAT.OLDEST, noProgress := s.lnk.noProgress + 1 }

theorem execReplayTimeout_eq {s : State} {cycles : Nat} (hr : s.bulkRuns false = true) (ho : s.outB ≠ 0) (hc : s.get BULK.RPL_CTL.TIMEOUT ≤ cycles) :
    execReplayTimeout cycles s = .next (if s.lnk.noProgress + 1 = s.get BULK.RPL_CTL.LIMIT then
      s.bulkReplays.goFault EV.BULK.REPLAY_LIMIT (s.get BULK.SEQ_STAT.OLDEST) else s.bulkReplays) := by
  have limit : (s.bump BULK.TX_STAT.TIMEOUTS).get BULK.RPL_CTL.LIMIT = s.get BULK.RPL_CTL.LIMIT := s.get_bump_apart (by decide)
  have oldest : (s.bump BULK.TX_STAT.TIMEOUTS).get BULK.SEQ_STAT.OLDEST = s.get BULK.SEQ_STAT.OLDEST := s.get_bump_apart (by decide)
  simp only [execReplayTimeout, hr, hc, bne_iff_ne.mpr ho, decide_true, Bool.and_self, if_true, State.replayFrom, limit, oldest, State.bump_lnk,
    State.bulkReplays]

theorem State.bulkReplays_chip (s : State) : s.bulkReplays.chip = s.chip := by
  rw [State.bulkReplays, State.setLnk_chip, State.bump_chip, State.bump_chip]

/-- A timeout counts a timeout and a replay. -/
theorem State.bulkReplays_counts (s : State) : CountedOne BULK.TX_STAT.TIMEOUTS s s.bulkReplays ∧ CountedOne BULK.TX_STAT.REPLAYS s s.bulkReplays := by
  constructor
  · rw [CountedOne, State.bulkReplays, State.get_setLnk, State.get_bump_apart _ (by decide), State.get_bump_same _ _ (by decide)]
  · rw [CountedOne, State.bulkReplays, State.get_setLnk, State.get_bump_same _ _ (by decide), State.get_bump_apart _ (by decide)]

theorem execNakTimeout_eq {s : State} {cycles : Nat} (hr : s.bulkRuns true = true) (hn : s.on BULK.RPL_STAT.NAK_PENDING = true)
    (hc : s.get BULK.NAK_CTL.TIMEOUT ≤ cycles) : execNakTimeout cycles s = .next (s.setLnk fun l => { l with nakMark := true }) := by
  simp only [execNakTimeout, hr, hn, hc, decide_true, Bool.and_self, if_true]

/-! ### Bulk flits that arrive (R190) -/

/-- A flit received waits for the check of its CRC. -/
def State.bulkArrived (s : State) (flit : BulkFlit) (pos : Nat) (q : Option Nat) (shown : List Bool) : State :=
  s.setLnk fun k => { k with rxQ := k.rxQ ++ [⟨flit, pos, q, shown⟩] }

theorem Finished.regs {u t : State} (h : Finished u t) : t.regs = u.regs := by
  obtain ⟨_, _, _, _, _, rfl⟩ := h
  rfl

/-- What the engine takes ahead leaves the registers and the link. -/
theorem State.runAheadTake_kept (s : State) (p : Piece) (seq : Nat) : (s.runAheadTake p seq).regs = s.regs ∧ (s.runAheadTake p seq).lnk = s.lnk := by
  unfold State.runAheadTake
  dsimp only
  split
  · exact ⟨(State.fillAhead_finished _).regs, (State.fillAhead_finished _).lnk⟩
  · exact ⟨rfl, rfl⟩

/-- The pieces shown tentatively leave the registers and the flits that wait for their check. -/
theorem State.showPieces_kept (ps : List Piece) (s : State) (seq : Nat) (ahead : Bool) :
    (s.showPieces seq ahead ps).2.regs = s.regs ∧ (s.showPieces seq ahead ps).2.lnk.rxQ = s.lnk.rxQ := by
  induction ps generalizing s ahead with
  | nil => exact ⟨rfl, rfl⟩
  | cons p ps ih =>
    have shown : (if s.showable ahead p then s.present' (s.itemsOf p true seq) else s).regs = s.regs ∧
        (if s.showable ahead p then s.present' (s.itemsOf p true seq) else s).lnk.rxQ = s.lnk.rxQ := by
      split <;> exact ⟨rfl, rfl⟩
    obtain ⟨hr, hl⟩ := State.runAheadTake_kept (if s.showable ahead p then s.present' (s.itemsOf p true seq) else s) p seq
    rw [State.showPieces]
    dsimp only
    obtain ⟨ihr, ihl⟩ := ih (((if s.showable ahead p then s.present' (s.itemsOf p true seq) else s).runAheadTake p seq).setLnk fun k =>
      { k with openShown := s.showable ahead p && !p.last
               withheld := if s.withholds p (s.showable ahead p) then k.withheld ++ [(seq, p.hdr)] else k.withheld })
      (ahead || (s.isS && p.first && p.hdr.levelPosted))
    exact ⟨ihr.trans (hr.trans shown.1), ihl.trans ((congrArg Link.rxQ hl).trans shown.2)⟩

theorem execBulkFlitArrival_apart {s : State} {flit : BulkFlit} (hc : s.bulkComes = true)
    (hn : ¬ ((bulkHdr flit.toNat).ftype = 1 ∧ (bulkHdr flit.toNat).seq = s.get BULK.SEQ_STAT.EXP)) (pos : Nat) :
    execBulkFlitArrival flit pos s = .next (s.content.bulkArrived flit pos none []) := by
  obtain ⟨-, -, hg⟩ := s.content_spec
  simp only [execBulkFlitArrival, hc, Bool.not_true, Bool.false_eq_true, if_false, hg BULK.SEQ_STAT.EXP (by decide), hn]
  rfl

/-- A flit in the sequence expected takes it, and may be shown before its check. -/
theorem execBulkFlitArrival_expected {s : State} {flit : BulkFlit} (hc : s.bulkComes = true) (hf : (bulkHdr flit.toNat).ftype = 1)
    (hs : (bulkHdr flit.toNat).seq = s.get BULK.SEQ_STAT.EXP) (pos : Nat) : ∃ (t : State) (shown : List Bool),
      execBulkFlitArrival flit pos s = .next (t.bulkArrived flit pos (some (s.get BULK.SEQ_STAT.EXP)) shown) ∧
      t.regs = (s.content.put BULK.SEQ_STAT.EXP (s.get BULK.SEQ_STAT.EXP + 1)).regs ∧ t.lnk.rxQ = s.lnk.rxQ := by
  obtain ⟨hl, -, hg⟩ := s.content_spec
  simp only [execBulkFlitArrival, hc, Bool.not_true, Bool.false_eq_true, if_false, hg BULK.SEQ_STAT.EXP (by decide), hf, hs, and_self, if_true]
  have rxQ : (s.content.put BULK.SEQ_STAT.EXP (s.get BULK.SEQ_STAT.EXP + 1)).lnk.rxQ = s.lnk.rxQ := by rw [State.put_lnk, hl]
  generalize s.content.put BULK.SEQ_STAT.EXP (s.get BULK.SEQ_STAT.EXP + 1) = u at rxQ ⊢
  split
  · rename_i ps o _
    obtain ⟨hr, hx⟩ := State.showPieces_kept ps u (s.get BULK.SEQ_STAT.EXP) u.levelComing
    exact ⟨(u.showPieces (s.get BULK.SEQ_STAT.EXP) u.levelComing ps).2.setLnk fun k => { k with openT := o }, _, rfl, hr, hx.trans rxQ⟩
  · exact ⟨u, [], rfl, rfl, rxQ⟩

/-! ### Flits whose CRC is checked (R191) -/

/-- A NAK episode expects the flit not confirmed, and marks a NAK unless one is pending (R191, R192). -/
theorem State.startNak_spec (s : State) : s.startNak.lnk.rxQ = s.lnk.rxQ ∧ s.startNak.get BULK.RPL_STAT.NAK_PENDING = 1 ∧
    s.startNak.get BULK.SEQ_STAT.EXP = s.get BULK.SEQ_STAT.NEXT_RX ∧ s.startNak.get BULK.SEQ_STAT.NEXT_RX = s.get BULK.SEQ_STAT.NEXT_RX ∧
    s.startNak.get BULK.RX_STAT.CRC_BAD = s.get BULK.RX_STAT.CRC_BAD ∧
    (s.on BULK.RPL_STAT.NAK_PENDING = false → s.startNak.lnk.nakMark = true) := by
  let u := (s.put BULK.SEQ_STAT.EXP (s.get BULK.SEQ_STAT.NEXT_RX)).setLnk fun k => { k with stall := some (k.stall.getD s.beat) }
  have pending : u.get BULK.RPL_STAT.NAK_PENDING = s.get BULK.RPL_STAT.NAK_PENDING := (State.get_setLnk ..).trans (s.get_put_apart _ (by decide))
  have exp : u.get BULK.SEQ_STAT.EXP = s.get BULK.SEQ_STAT.NEXT_RX :=
    ((State.get_setLnk ..).trans (s.get_put_same _ _ (by decide))).trans (Nat.mod_eq_of_lt (s.get_lt BULK.SEQ_STAT.NEXT_RX))
  have next : u.get BULK.SEQ_STAT.NEXT_RX = s.get BULK.SEQ_STAT.NEXT_RX := (State.get_setLnk ..).trans (s.get_put_apart _ (by decide))
  have bad : u.get BULK.RX_STAT.CRC_BAD = s.get BULK.RX_STAT.CRC_BAD := (State.get_setLnk ..).trans (s.get_put_apart _ (by decide))
  have def_ : s.startNak = if u.on BULK.RPL_STAT.NAK_PENDING then u else
      (u.put BULK.RPL_STAT.NAK_PENDING 1).setLnk fun k => { k with nakMark := true } := rfl
  have rx : u.lnk.rxQ = s.lnk.rxQ := by simp only [u, State.setLnk_lnk, State.put_lnk]
  rw [def_]
  clear_value u
  split
  · rename_i on
    have one : u.get BULK.RPL_STAT.NAK_PENDING = 1 := by
      have width : u.get BULK.RPL_STAT.NAK_PENDING < 2 := u.get_lt BULK.RPL_STAT.NAK_PENDING
      rw [State.on, bne_iff_ne] at on
      omega
    refine ⟨rx, one, exp, next, bad, fun off => ?_⟩
    rw [State.on, pending] at on
    rw [State.on, on] at off
    cases off
  · refine ⟨?_, ?_, ?_, ?_, ?_, fun _ => rfl⟩
    · rw [State.setLnk_lnk, State.put_lnk]
      exact rx
    · rw [State.get_setLnk, State.get_put_same _ _ _ (by decide)]
      rfl
    · rw [State.get_setLnk, State.get_put_apart _ _ (by decide), exp]
    · rw [State.get_setLnk, State.get_put_apart _ _ (by decide), next]
    · rw [State.get_setLnk, State.get_put_apart _ _ (by decide), bad]

/-- A flit that fails its check without having been shown is counted, kept for attribution, and starts a NAK episode. -/
theorem State.flitFailed_spec (s : State) {f : RxFlit} (hp : f.presented = none) : ∃ u : State, s.flitFailed f = u.startNak ∧ u.lnk = s.lnk ∧
    u.get BULK.SEQ_STAT.NEXT_RX = s.get BULK.SEQ_STAT.NEXT_RX ∧ CountedOne BULK.RX_STAT.CRC_BAD s u ∧
    u.on BULK.RPL_STAT.NAK_PENDING = s.on BULK.RPL_STAT.NAK_PENDING := by
  let v := s.bump BULK.RX_STAT.CRC_BAD
  have next : v.get BULK.SEQ_STAT.NEXT_RX = s.get BULK.SEQ_STAT.NEXT_RX := s.get_bump_apart (by decide)
  have pending : v.on BULK.RPL_STAT.NAK_PENDING = s.on BULK.RPL_STAT.NAK_PENDING := by rw [State.on, State.on, s.get_bump_apart (by decide)]
  have counted : CountedOne BULK.RX_STAT.CRC_BAD s v := s.get_bump_same _ (by decide)
  have lnk : v.lnk = s.lnk := s.bump_lnk _
  simp only [State.flitFailed, hp]
  change ∃ u : State, (if (bulkHdr f.raw.toNat).ftype = 2 then v else { v with rep := { v.rep with keptBulk := some (f.raw, f.pos) } }).startNak = _ ∧ _
  clear_value v
  split
  · exact ⟨v, rfl, lnk, next, counted, pending⟩
  · exact ⟨_, rfl, lnk, next, counted, pending⟩

section
variable {s : State} {f : RxFlit} {l : List RxFlit} (hq : s.lnk.rxQ = f :: l) (hd : s.colDead = false) (h4 : s.clkOn 4 = true)
include hq hd h4

theorem execBulkCrcResult_bad (hk : bulkOk f.raw.toNat = false) (ue : Option (Nat × Nat)) :
    execBulkCrcResult s ue = .next ((s.setLnk fun k => { k with rxQ := l }).flitFailed f) := by
  simp only [execBulkCrcResult, hq, hd, h4, hk, Bool.not_true, Bool.or_self, Bool.false_eq_true, if_false]

theorem execBulkCrcResult_good (hk : bulkOk f.raw.toNat = true) :
    execBulkCrcResult s none = .next ((s.setLnk fun k => { k with rxQ := l }).flitGood f) := by
  have noErrs : (if (s.setLnk fun k => { k with rxQ := l }).isM then (s.setLnk fun k => { k with rxQ := l }).meet headerReads []
      else s.setLnk fun k => { k with rxQ := l }) = s.setLnk fun k => { k with rxQ := l } := ite_self _
  have noUe : ∀ t : State, (if t.colDead then t else t.landingUe none) = t := fun t => ite_self _
  simp only [execBulkCrcResult, hq, hd, h4, hk, Bool.not_true, Bool.or_self, Bool.false_eq_true, if_false, if_true, noErrs, noUe]

end

/-! ### What a good flit in sequence confirms (R191) -/

/-- The state in which the pieces of a flit are confirmed: its sequence has been taken. -/
def State.seqConfirmed (s : State) (f : RxFlit) (seq : Nat) (o : Option OpenTxn) : State :=
  let s1 := s.bumpBy BULK.RX_STAT.RSVD_NONZERO (nopRsvd (bulkHdr f.raw.toNat).hdrMap (bulkSlots f.raw.toNat))
  let s3 := (s1.put BULK.SEQ_STAT.NEXT_RX ((seq + 1) % 4096)).put BULK.RPL_STAT.NAK_PENDING 0
  let s4 := if 256 < (s1.get BULK.SEQ_STAT.EXP + 4096 - (seq + 1) % 4096) % 4096 then s3.put BULK.SEQ_STAT.EXP ((seq + 1) % 4096) else s3
  s4.setLnk fun k => { k with openC := o, stall := none, withheld := k.withheld.filter (fun x => x.1 != seq) }

theorem RegsOnly.setLnk {s t : State} (h : RegsOnly s t) (g : Link → Link) : RegsOnly (s.setLnk g) (t.setLnk g) := by
  obtain ⟨r, rfl⟩ := h
  exact ⟨r, rfl⟩

theorem OnPages.setLnk {ps : List Nat} {s t : State} (h : OnPages ps s t) (g : Link → Link) : OnPages ps s (t.setLnk g) :=
  h.trans (.of_regs (t.setLnk_regs g))

theorem State.seqConfirmed_spec (s : State) (f : RxFlit) (seq : Nat) (o : Option OpenTxn) :
    RegsOnly (s.setLnk fun k => { k with openC := o, stall := none, withheld := k.withheld.filter (fun x => x.1 != seq) }) (s.seqConfirmed f seq o) ∧
    OnPages [5] s (s.seqConfirmed f seq o) ∧ (s.seqConfirmed f seq o).get BULK.SEQ_STAT.NEXT_RX = (seq + 1) % 4096 ∧
    (s.seqConfirmed f seq o).get BULK.RPL_STAT.NAK_PENDING = 0 := by
  unfold State.seqConfirmed
  dsimp only
  generalize hu : ((s.bumpBy BULK.RX_STAT.RSVD_NONZERO (nopRsvd (bulkHdr f.raw.toNat).hdrMap (bulkSlots f.raw.toNat))).put
    BULK.SEQ_STAT.NEXT_RX ((seq + 1) % 4096)).put BULK.RPL_STAT.NAK_PENDING 0 = u
  have regs : RegsOnly s u := by
    rw [← hu, State.bumpBy]
    exact (((RegsOnly.refl s).put _ _).put _ _).put _ _
  have pages : OnPages [5] s u := by
    rw [← hu, State.bumpBy]
    exact ((s.put_onPages _ (by decide)).trans (State.put_onPages _ _ (by decide))).trans (State.put_onPages _ _ (by decide))
  have next : u.get BULK.SEQ_STAT.NEXT_RX = (seq + 1) % 4096 := by
    rw [← hu, State.get_put_apart _ _ (by decide), State.get_put_same _ _ _ (by decide)]
    exact Nat.mod_mod _ _
  have pending : u.get BULK.RPL_STAT.NAK_PENDING = 0 := by
    rw [← hu, State.get_put_same _ _ _ (by decide), Nat.zero_mod]
  split
  · refine ⟨(regs.put _ _).setLnk _, (pages.trans (u.put_onPages _ (by decide))).setLnk _, ?_, ?_⟩
    · rw [State.get_setLnk, State.get_put_apart _ _ (by decide), next]
    · rw [State.get_setLnk, State.get_put_apart _ _ (by decide), pending]
  · exact ⟨regs.setLnk _, pages.setLnk _, (u.get_setLnk ..).trans next, (u.get_setLnk ..).trans pending⟩

/-- The state after the pieces: a stale cut that has passed ends. -/
def State.cutPassed (s : State) (next : Nat) : State :=
  s.setLnk fun k => { k with cut := match s.lnk.cut with
    | some s0 => if 256 ≤ (next + 4096 - s0) % 4096 then none else some s0
    | none => none }

/-- A flit that was not shown, and that takes no failed one's place, confirms its pieces (R133, R191). -/
theorem State.confirmFlit_eq {s : State} {f : RxFlit} (hp : f.presented = none) (hk : s.rep.keptBulk = none) (seq : Nat) (ps : List Piece)
    (o : Option OpenTxn) : s.confirmFlit f seq ps o = ((((s.seqConfirmed f seq o).onPieces seq ps f.shown).cutPassed ((seq + 1) % 4096)).aheadConfirm
      seq).setLnk fun k => { k with openT := o, openShown := (k.gather.map (·.direct)).getD false } := by
  have attributed : s.attributeBulk f.raw = s := by rw [State.attributeBulk, hk]
  simp only [State.confirmFlit, hp, attributed, decide_eq_true_eq, Option.isSome_none, Bool.false_eq_true, if_false]
  rfl

theorem State.discardAhead_engQ (s : State) (gone : Ahead → Bool) : (s.discardAhead gone).txn.engQ = s.txn.engQ := by
  rw [State.discardAhead, State.bumpBy, State.put_txn]
  rfl

/-- The run-ahead buffer takes note of what is confirmed, and leaves the link, the requests that wait and all but one count (R227, R228). -/
theorem State.aheadConfirm_spec (s : State) (seq : Nat) : (s.aheadConfirm seq).lnk = s.lnk ∧ (s.aheadConfirm seq).txn.engQ = s.txn.engQ ∧
    ∀ f, f.key ≠ TXN.SPEC_STAT.RUNAHEAD_DISCARDED.key → (s.aheadConfirm seq).get f = s.get f := by
  unfold State.aheadConfirm
  dsimp only
  generalize hw : s.discardAhead _ = w
  have lnk : w.lnk = s.lnk := hw ▸ s.discardAhead_lnk _
  have queue : w.txn.engQ = s.txn.engQ := hw ▸ s.discardAhead_engQ _
  have get : ∀ f, f.key ≠ TXN.SPEC_STAT.RUNAHEAD_DISCARDED.key → w.get f = s.get f := fun f hf => by
    rw [State.get, ← hw, s.discardAhead_reg _ _ hf]
    rfl
  generalize hv : w.setTxn _ = v
  have kept : v.lnk = w.lnk ∧ v.txn.engQ = w.txn.engQ ∧ v.regs = w.regs := by
    subst hv
    exact ⟨rfl, rfl, rfl⟩
  obtain ⟨hl, hq, hr⟩ := kept
  have fin := v.fillAhead_finished
  exact ⟨(fin.lnk.trans hl).trans lnk, ((congrArg Core.engQ fin.core).trans hq).trans queue, fun f hf =>
    (State.get_congr (fin.regs.trans hr) f).trans (get f hf)⟩

theorem State.applyBulkHdr_plain {s : State} {b : BulkHdr} (ha : b.ack = s.get BULK.SEQ_STAT.OLDEST) (ht : b.ackt = 1) (hc : b.crv = false) :
    s.applyBulkHdr b = if b.rsvd then s.bump BULK.RX_STAT.RSVD_NONZERO else s := by
  have oldest : (if b.rsvd then s.bump BULK.RX_STAT.RSVD_NONZERO else s).get BULK.SEQ_STAT.OLDEST = s.get BULK.SEQ_STAT.OLDEST := by
    split
    · exact s.get_bump_apart (by decide)
    · rfl
  have acked := (if b.rsvd then s.bump BULK.RX_STAT.RSVD_NONZERO else s).ackBulk_oldest
  rw [oldest, ← ha] at acked
  simp only [State.applyBulkHdr, ht, hc, Bool.not_false, if_true]
  exact acked

/-- A good flit in sequence, whose acknowledge and credit return bring nothing, confirms what it carries (R184, R191). -/
theorem State.flitGood_confirms {s : State} {f : RxFlit} {b : BulkHdr} {ps : List Piece} {o : Option OpenTxn} (hd : s.colDead = false)
    (hb : b = bulkHdr f.raw.toNat) (hbad : bulkBad b (bulkSlots f.raw.toNat) = false) (hf : b.ftype = 1) (hs : b.seq = s.get BULK.SEQ_STAT.NEXT_RX)
    (ha : b.ack = s.get BULK.SEQ_STAT.OLDEST) (ht : b.ackt = 1) (hc : b.crv = false)
    (hw : walkSlots b.hdrMap (bulkSlots f.raw.toNat) 0 s.lnk.openC = some (ps, o)) :
    ∃ u, s.flitGood f = u.confirmFlit f b.seq ps o ∧ RegsOnly s u ∧ OnPages [5] s u := by
  have first : (b.seq + 4096 - s.get BULK.SEQ_STAT.NEXT_RX) % 4096 = 0 := by
    rw [hs, Nat.add_sub_cancel_left]
  have hdr := State.applyBulkHdr_plain ha ht hc
  have regs : RegsOnly s (s.applyBulkHdr b) ∧ OnPages [5] s (s.applyBulkHdr b) := by
    rw [hdr]
    split
    · exact ⟨(RegsOnly.refl s).bump _, s.put_onPages _ (by decide)⟩
    · exact ⟨.refl s, .refl _ s⟩
  refine ⟨s.applyBulkHdr b, ?_, regs⟩
  have alive : (s.applyBulkHdr b).colDead = false := by
    obtain ⟨_, h⟩ := regs.1
    rw [h]
    exact hd
  subst hb
  simp only [State.flitGood, hbad, hf, first, hw, alive, and_self, Bool.false_eq_true, if_false, if_true]

/-! ### A request for the engine (R191, R227, R228) -/

section
variable {s t : State} (ht : t.tables = s.tables) (hr : t.role = s.role)
include ht hr

theorem State.slotBad_congr (h : Hdr) (o : Op) : t.slotBad h o = s.slotBad h o := by
  simp only [State.slotBad, State.isM, State.levelAgreed, State.cap_tables ht, hr]
theorem State.routeOf_congr (h : Hdr) (o : Op) (e : Option Word) : t.routeOf h o e = s.routeOf h o e := by
  simp only [State.routeOf, State.isM, hr, State.routeM, State.badBind_tables ht, State.ctxDenied, State.ctxOf_tables ht]
  rfl
theorem State.plainRequest_congr (h : Hdr) (o : Op) (e : Option Word) : t.plainRequest h o e = s.plainRequest h o e := by
  simp only [State.plainRequest, State.slotBad_congr ht hr, State.routeOf_congr ht hr]

end

theorem State.bindFor_tables {s t : State} (ht : t.tables = s.tables) (h : Hdr) : t.bindFor h = s.bindFor h := by
  have hb : t.txn.badBinds = s.txn.badBinds := congrArg Tables.badBinds ht
  simp only [State.bindFor, State.entryOf, State.bindingOf, State.tblWord_tables ht, hb]

/-- A late request is counted on the page TIME, with an event. -/
theorem State.countLate_kept (s : State) (r : Beat) (tag : Nat) (off : Bool) : (s.countLate r tag off).txn = s.txn ∧
    (s.countLate r tag off).get BULK.SEQ_STAT.NEXT_RX = s.get BULK.SEQ_STAT.NEXT_RX := by
  unfold State.countLate
  split
  · exact ⟨State.bump_txn .., s.get_bump_apart (by decide)⟩
  · exact ⟨(State.raise_txn ..).trans (State.bump_txn ..), (State.raise_get _ _ _ _ (by decide)).trans (s.get_bump_apart (by decide))⟩

/-- The request that a gathered header and its units make for the engine. -/
def State.engReqOf (s : State) (g : Gather) (seq : Nat) : EngReq :=
  ⟨presHdr g.hdr, g.units, g.release, (s.levelOff || g.cut || s.inCut seq) && g.release.isSome, g.bind, seq,
    s.txn.runAhead.any (fun e => !e.conf && e.seq == seq && e.hdr.tag == (presHdr g.hdr).tag), g.binds⟩

/-- The state in which it is queued: a late one has been counted. -/
def State.lateCounted (s : State) (g : Gather) (seq : Nat) : State :=
  match g.release with
  | some r => if (s.levelOff || g.cut || s.inCut seq) || decide (r < s.beat) then
      s.countLate r (presHdr g.hdr).tag (s.levelOff || g.cut || s.inCut seq) else s
  | none => s

theorem State.lateCounted_kept (s : State) (g : Gather) (seq : Nat) : (s.lateCounted g seq).txn = s.txn ∧
    (s.lateCounted g seq).get BULK.SEQ_STAT.NEXT_RX = s.get BULK.SEQ_STAT.NEXT_RX := by
  unfold State.lateCounted
  split
  · split
    · exact s.countLate_kept ..
    · exact ⟨rfl, rfl⟩
  · exact ⟨rfl, rfl⟩

/-- A request joins the engine's queue. -/
def State.queued (s : State) (q : EngReq) : State := s.setTxn fun t => { t with engQ := t.engQ ++ [q] }

/-- A request that the engine handles waits in its queue. -/
theorem State.onRequest_engine {s : State} {g : Gather} {c : Op} (hc : (presHdr g.hdr).operation = some c) (hs : s.slotBad (presHdr g.hdr) c = false)
    (hr : s.routeOf (presHdr g.hdr) c g.bind = .engine) (seq : Nat) : s.onRequest g seq = (if (s.engReqOf g seq).ahead then s.lateCounted g seq
      else (s.lateCounted g seq).issueReads (s.engReqOf g seq)).queued (s.engReqOf g seq) := by
  simp only [State.onRequest, hc, Option.getD_some, hs, Bool.false_eq_true, if_false, hr]
  rfl

theorem State.onRequest_engine_spec {s : State} {g : Gather} {c : Op} (hc : (presHdr g.hdr).operation = some c)
    (hs : s.slotBad (presHdr g.hdr) c = false) (hr : s.routeOf (presHdr g.hdr) c g.bind = .engine) (seq : Nat) :
    (s.onRequest g seq).txn.engQ = s.txn.engQ ++ [s.engReqOf g seq] ∧ (s.onRequest g seq).get BULK.SEQ_STAT.NEXT_RX = s.get BULK.SEQ_STAT.NEXT_RX := by
  rw [State.onRequest_engine hc hs hr]
  obtain ⟨htxn, hnext⟩ := s.lateCounted_kept g seq
  generalize s.lateCounted g seq = u at htxn hnext ⊢
  generalize s.engReqOf g seq = q
  have fin : Finished u (if q.ahead then u else u.issueReads q) := by
    split
    · exact .refl u
    · exact u.issueReads_finished q
  generalize (if q.ahead then u else u.issueReads q) = v at fin ⊢
  have engQ : v.txn.engQ = s.txn.engQ := (congrArg Core.engQ fin.core).trans (congrArg Txns.engQ htxn)
  constructor
  · rw [State.queued, State.setTxn_txn, engQ]
  · rw [State.queued, State.get_setTxn, State.get_congr fin.regs, hnext]

/-- A whole request for the engine, in one piece that was not shown, waits in its queue. -/
theorem State.onPiece_engine {s : State} {p : Piece} {h : Hdr} {c : Op} (hf : p.first = true) (hl : p.last = true) (hh : h = presHdr p.hdr)
    (hr : p.hdr.isResponse = false) (hc : h.operation = some c) (hs : s.slotBad h c = false)
    (hp : s.plainRequest p.hdr c (s.bindFor p.hdr) = false) (he : s.routeOf h c (s.bindFor p.hdr) = .engine) (seq : Nat) :
    ∃ q, (s.onPiece seq p false).txn.engQ = s.txn.engQ ++ [q] ∧ q.hdr = h ∧ q.units = p.units ∧ q.seq = seq ∧
      (s.onPiece seq p false).get BULK.SEQ_STAT.NEXT_RX = s.get BULK.SEQ_STAT.NEXT_RX := by
  subst hh
  have op : p.hdr.operation = some c := by rwa [presHdr, hr] at hc
  let s0 := s.bumpBy BULK.RX_STAT.RSVD_NONZERO (rsvdFields p.hdr c)
  have tables : s0.tables = s.tables := s.put_tables (by decide) _
  have role : s0.role = s.role := State.role_congr (s.put_reg_ne _ (by decide))
  have txn : s0.txn = s.txn := s.bumpBy_txn ..
  have next : s0.get BULK.SEQ_STAT.NEXT_RX = s.get BULK.SEQ_STAT.NEXT_RX := s.get_put_apart _ (by decide)
  let g : Gather := { s0.startGather p.hdr seq false with units := (s0.startGather p.hdr seq false).units ++ p.units }
  have bind : g.bind = s.bindFor p.hdr := State.bindFor_tables tables p.hdr
  have direct : g.direct = false := by
    simp only [g, State.startGather, op, State.plainRequest_congr tables role, State.bindFor_tables tables, hp, Bool.or_false, ite_self]
  have done : s.onPiece seq p false = (s0.setLnk fun k => { k with gather := none }).onRequest g seq := by
    simp only [State.onPiece, hf, hl, hr, op, Option.getD_some, if_true, Bool.not_true, Bool.false_eq_true, if_false]
    rw [if_neg (by
      change ¬ g.direct = true
      rw [direct]
      decide)]
  have hdr : g.hdr = p.hdr := rfl
  have units : g.units = p.units := List.nil_append _
  clear_value g
  clear_value s0
  have tables' : (s0.setLnk fun k => { k with gather := none }).tables = s.tables := tables
  have role' : (s0.setLnk fun k => { k with gather := none }).role = s.role := role
  obtain ⟨hq, hn⟩ := State.onRequest_engine_spec (s := s0.setLnk fun k => { k with gather := none }) (g := g) (by rw [hdr, hc])
    (by rw [hdr, State.slotBad_congr tables' role', hs]) (by rw [hdr, bind, State.routeOf_congr tables' role', he]) seq
  rw [done]
  exact ⟨_, hq.trans (by rw [State.setLnk_txn, txn]), congrArg presHdr hdr, units, rfl, hn.trans ((State.get_setLnk ..).trans next)⟩

/-! ### The statement -/

section
variable {s : State} {f : RxFlit} {l : List RxFlit} {b : BulkHdr} {ps : List Piece} {o : Option OpenTxn}

/-- What the check of a good flit in sequence, which was not shown, leaves: its pieces are confirmed in a state that has taken its sequence. -/
theorem execBulkCrcResult_confirms (hq : s.lnk.rxQ = f :: l) (hd : s.colDead = false) (h4 : s.clkOn 4 = true) (hk : bulkOk f.raw.toNat = true)
    (hb : b = bulkHdr f.raw.toNat) (hbad : bulkBad b (bulkSlots f.raw.toNat) = false) (hf : b.ftype = 1) (hs : b.seq = s.get BULK.SEQ_STAT.NEXT_RX)
    (ha : b.ack = s.get BULK.SEQ_STAT.OLDEST) (ht : b.ackt = 1) (hc : b.crv = false) (hrep : s.rep.keptBulk = none) (hp : f.presented = none)
    (hw : walkSlots b.hdrMap (bulkSlots f.raw.toNat) 0 s.lnk.openC = some (ps, o)) :
    ∃ u t : State, execBulkCrcResult s none = .next t ∧
      u.lnk = { s.lnk with rxQ := l, openC := o, stall := none, withheld := s.lnk.withheld.filter (fun x => x.1 != b.seq) } ∧ u.txn = s.txn ∧
      u.tables = s.tables ∧ u.role = s.role ∧ u.get BULK.SEQ_STAT.NEXT_RX = (b.seq + 1) % 4096 ∧ u.get BULK.RPL_STAT.NAK_PENDING = 0 ∧
      t.lnk.openC = (u.onPieces b.seq ps f.shown).lnk.openC ∧ t.lnk.rxQ = (u.onPieces b.seq ps f.shown).lnk.rxQ ∧
      t.lnk.stall = (u.onPieces b.seq ps f.shown).lnk.stall ∧ t.txn.engQ = (u.onPieces b.seq ps f.shown).txn.engQ ∧
      t.get BULK.SEQ_STAT.NEXT_RX = (u.onPieces b.seq ps f.shown).get BULK.SEQ_STAT.NEXT_RX ∧
      t.get BULK.RPL_STAT.NAK_PENDING = (u.onPieces b.seq ps f.shown).get BULK.RPL_STAT.NAK_PENDING := by
  obtain ⟨v, hgood, hregs, hpages⟩ := State.flitGood_confirms (s := s.setLnk fun k => { k with rxQ := l }) (f := f) hd hb hbad hf hs ha ht hc hw
  have rep : v.rep.keptBulk = none := by
    obtain ⟨_, h⟩ := hregs
    rw [h]
    exact hrep
  obtain ⟨hset, hpages', hnext, hpending⟩ := v.seqConfirmed_spec f b.seq o
  have kept : OnPages [5] s (v.seqConfirmed f b.seq o) := (OnPages.of_regs rfl).trans (hpages.trans hpages')
  have parts : (v.seqConfirmed f b.seq o).lnk = { s.lnk with
      rxQ := l, openC := o, stall := none, withheld := s.lnk.withheld.filter (fun x => x.1 != b.seq) } ∧
      (v.seqConfirmed f b.seq o).txn = s.txn ∧ (v.seqConfirmed f b.seq o).tables = s.tables := by
    have agreed : (v.seqConfirmed f b.seq o).reg IDENT.CAP_AGREED.CAP.key = s.reg IDENT.CAP_AGREED.CAP.key := kept _ (by decide)
    rw [State.tables, agreed]
    obtain ⟨_, hv⟩ := hregs
    obtain ⟨_, hu⟩ := hset
    rw [hu, hv]
    exact ⟨rfl, rfl, rfl⟩
  obtain ⟨hlnk, htxn, htables⟩ := parts
  refine ⟨v.seqConfirmed f b.seq o, _, by rw [execBulkCrcResult_good hq hd h4 hk, hgood, State.confirmFlit_eq hp rep], hlnk, htxn, htables,
    kept.role (by decide), hnext, hpending, ?_⟩
  generalize (v.seqConfirmed f b.seq o).onPieces b.seq ps f.shown = w
  obtain ⟨hl, hq, hg⟩ := (w.cutPassed ((b.seq + 1) % 4096)).aheadConfirm_spec b.seq
  rw [State.setLnk_lnk, hl, State.setLnk_txn, hq, State.get_setLnk, State.get_setLnk, hg _ (by decide), hg _ (by decide)]
  exact ⟨rfl, rfl, rfl, rfl, rfl, rfl⟩

end

/-- Settles O45: a new bulk flit takes NEXT_TX, a replay sends what the buffer holds, timeouts replay from OLDEST, and a flit whose CRC is good in
sequence advances NEXT_RX and hands its request to the engine. -/
theorem bulkFlitsLeaveAndArriveInSequence : Obligations.BulkFlitsLeaveAndArriveInSequence := by
  unfold Obligations.BulkFlitsLeaveAndArriveInSequence
  refine ⟨?new, ?replay, ?marked, ?burst, ?timeout, ?limit, ?nak, ?apart, ?expected, ?bad, ?nothing, ?request⟩
  case new =>
    rintro s _ m us q ue hr rfl hp hf hfill
    obtain ⟨ho, hl, htx, hrx⟩ := s.bulkLoaded_spec hfill
    obtain ⟨hout, hrpl, htxq, hptr, hnak, hget⟩ := s.bulkLoaded.sendBulk_spec (s.get BULK.SEQ_STAT.NEXT_TX) 1 m us
    rw [exec_bulkFlitStart, execBulkFlitStart_new hr hp hf, s.newFlit_eq hfill]
    refine ⟨_, _, rfl, by rw [hout, ho], rfl, rfl, rfl, hrx, ?_, hget.trans htx, by rw [htxq, hl], by rw [hrpl, hl], by rw [hptr, hl], hnak⟩
    rw [State.bulkFields, hl]
  case replay =>
    intro s f hr hp hb hm
    let u := s.setLnk fun l => { l with ptr := (f.seq + 1) % 4096 }
    obtain ⟨hl, ho, hg⟩ := u.content_spec
    obtain ⟨hout, hrpl, -, hptr, -, hget⟩ := u.content.sendBulk_spec f.seq 1 f.hdrMap f.slots
    rw [exec_bulkFlitStart, execBulkFlitStart_replay hr hp hb hm]
    refine ⟨_, _, rfl, by rw [hout, ho]; rfl, rfl, rfl, rfl, ?_, by rw [hrpl, hl]; rfl, by rw [hptr, hl]; rfl, ?_⟩
    · exact (hg _ (by decide)).trans (State.get_setLnk ..)
    · exact (hget.trans (hg _ (by decide))).trans (State.get_setLnk ..)
  case marked =>
    intro s f ue hr hp hb hm
    exact execBulkFlitStart_marked hr hp hb hm
  case burst =>
    intro s ue hp hf
    exact ⟨execBulkFlitStart_none hp hf ue, s.endBurst_regs, s.endBurst_lnk⟩
  case timeout =>
    intro s cycles hr ho hc hn
    obtain ⟨hcount, hreplays⟩ := s.bulkReplays_counts
    rw [exec_replayTimeout, execReplayTimeout_eq hr ho hc, if_neg hn]
    exact ⟨_, rfl, rfl, rfl, hcount, hreplays, rfl⟩
  case limit =>
    intro s cycles hr ho hc hn
    rw [exec_replayTimeout, execReplayTimeout_eq hr ho hc, if_pos hn]
    exact ⟨_, rfl, State.goFault_col _ _ _ (by rw [s.bulkReplays_chip]; exact State.col_of_bulkRuns hr)⟩
  case nak =>
    intro s cycles hr hn hc
    rw [exec_nakTimeout, execNakTimeout_eq hr hn hc]
    exact ⟨_, rfl, rfl, rfl, rfl⟩
  case apart =>
    intro s flit pos hc hn
    obtain ⟨hl, -, hg⟩ := s.content_spec
    rw [exec_bulkFlitArrival, execBulkFlitArrival_apart hc hn]
    refine ⟨_, rfl, ?_, ?_, (State.get_setLnk ..).trans (hg _ (by decide))⟩
    · rw [State.bulkArrived, State.setLnk_lnk, hl]
    · rw [State.bulkArrived, State.setLnk_lnk, hl]
  case expected =>
    intro s flit pos hc hf hs
    obtain ⟨t, shown, ht, hregs, hrx⟩ := execBulkFlitArrival_expected hc hf hs pos
    obtain ⟨-, -, hg⟩ := s.content_spec
    refine ⟨_, shown, ht, ?_, ?_, ?_⟩
    · rw [State.bulkArrived, State.setLnk_lnk, hrx]
    · rw [State.bulkArrived, State.get_setLnk, State.get_congr hregs, State.get_put_same _ _ _ (by decide)]
      rfl
    · rw [State.bulkArrived, State.get_setLnk, State.get_congr hregs, State.get_put_apart _ _ (by decide), hg _ (by decide)]
  case bad =>
    intro s f l ue hq hd h4 hk hp
    obtain ⟨u, hu, hl, hnext, hcount, hpending⟩ := (s.setLnk fun k => { k with rxQ := l }).flitFailed_spec hp
    obtain ⟨hrx, hone, hexp, hkept, hbad, hmark⟩ := u.startNak_spec
    rw [exec_bulkCrcResult, execBulkCrcResult_bad hq hd h4 hk, hu]
    exact ⟨_, rfl, by rw [hrx, hl]; rfl, hbad.trans hcount, hone, hexp.trans hnext, hkept.trans hnext, fun off => hmark (hpending.trans off)⟩
  case nothing =>
    intro s f l b o hq hd h4 hk hb hbad hf hs ha ht hc hrep hp hw
    obtain ⟨u, t, hx, hlnk, -, -, -, hnext, hpending, ho, hr, hst, -, htnext, htpending⟩ :=
      execBulkCrcResult_confirms hq hd h4 hk hb hbad hf hs ha ht hc hrep hp hw
    exact ⟨t, hx, htnext.trans hnext, htpending.trans hpending, ho.trans (congrArg Link.openC hlnk), hr.trans (congrArg Link.rxQ hlnk),
      hst.trans (congrArg Link.stall hlnk)⟩
  case request =>
    intro s f l b o p h c hq hd h4 hk hb hbad hf hs ha ht hc hrep hp hshown hw hfirst hlast hh hrsp hop hslot hplain hroute
    obtain ⟨u, t, hx, -, htxn, htables, hrole, hnext, -, -, -, -, hengQ, htnext, -⟩ :=
      execBulkCrcResult_confirms hq hd h4 hk hb hbad hf hs ha ht hc hrep hp hw
    have bind : u.bindFor p.hdr = s.bindFor p.hdr := State.bindFor_tables htables p.hdr
    obtain ⟨q, hqe, hqh, hqu, hqs, hqn⟩ := State.onPiece_engine (s := u) hfirst hlast hh hrsp hop
      (by rw [State.slotBad_congr htables hrole, hslot]) (by rw [bind, State.plainRequest_congr htables hrole, hplain])
      (by rw [bind, State.routeOf_congr htables hrole, hroute]) b.seq
    have one : u.onPieces b.seq [p] f.shown = u.onPiece b.seq p false := by rw [hshown]; rfl
    rw [one] at hengQ htnext
    exact ⟨t, q, hx, htnext.trans (hqn.trans hnext), hengQ.trans (by rw [hqe, htxn]), hqh, hqu, hqs⟩

end Sys2Proof.Machine
end

section
/-!
PROOFS. Probes of the bulk stream (R163, R187) and the field that sets their interval (R6).
-/

namespace Sys2Proof.Machine

theorem exec_probeInterval (cycles : Nat) (s : State) : exec (.probeInterval cycles) s = execProbeInterval cycles s := rfl

/-! ### When a probe leaves (R187) -/

section
variable {s : State} {cycles : Nat}

theorem execProbeInterval_sends (hr : s.bulkRuns false = true) (ho : s.outB ≠ 0) (hp : s.lnk.ptr = s.get BULK.SEQ_STAT.NEXT_TX)
    (hf : s.flitReady = false) (hc : s.get BULK.RPL_CTL.PROBE_INTERVAL ≤ cycles) :
    execProbeInterval cycles s = .next (s.sendBulk (s.get BULK.SEQ_STAT.NEXT_TX) 2 0x7FFF (List.replicate 15 0)) := by
  simp only [execProbeInterval, hr, bne_iff_ne.mpr ho, hp, beq_self_eq_true, hf, hc, Bool.not_false, decide_true, Bool.and_self, if_true]

/-- Nothing leaves where nothing is outstanding, or before the interval has passed. -/
theorem execProbeInterval_none (h : s.outB = 0 ∨ cycles < s.get BULK.RPL_CTL.PROBE_INTERVAL) : execProbeInterval cycles s = .next s := by
  rcases h with idle | early
  · simp only [execProbeInterval, idle, bne_self_eq_false, Bool.and_false, Bool.false_and, Bool.false_eq_true, if_false]
  · simp only [execProbeInterval, Nat.not_le.mpr early, decide_false, Bool.and_false, Bool.false_eq_true, if_false]

end

/-! ### PROBE_INTERVAL (R6) -/

/-- A write of RPL_CTL sets the interval where its three fields reach their minimums, and otherwise leaves it. -/
theorem State.hostWrite_probeInterval (s : State) (hr : s.role ≠ 0) (data : Word) :
    (s.hostWrite BULK.RPL_CTL.PROBE_INTERVAL.key data).get BULK.RPL_CTL.PROBE_INTERVAL =
      if 8 ≤ bits data.toNat 0 8 ∧ 256 ≤ bits data.toNat 16 12 ∧ 4 ≤ bits data.toNat 32 8 then bits data.toNat 0 8
      else s.get BULK.RPL_CTL.PROBE_INTERVAL := by
  rw [show BULK.RPL_CTL.PROBE_INTERVAL.key = BULK.RPL_CTL.TIMEOUT.key from rfl, s.hostWrite_rplCtl hr]
  split
  · exact s.get_mergeRw_rplCtl data { lo := 0, width := 8, min := 8 } (by decide)
  · exact congrArg (fun w : Word => bits w.toNat 0 8) (s.refuse_reg_ne .range data (by decide))

/-- Settles O46: a probe takes no sequence and no place in the replay buffer, and its interval is held to its range. -/
theorem probesAreSentWhileFlitsAreOutstanding : Obligations.ProbesAreSentWhileFlitsAreOutstanding := by
  unfold Obligations.ProbesAreSentWhileFlitsAreOutstanding
  refine ⟨?sent, ?none, ?reset, ?refused, ?taken⟩
  case sent =>
    rintro s cycles _ hr ho rfl hp hf hc
    obtain ⟨hout, hrpl, -, -, -, hnext⟩ := s.sendBulk_spec (s.get BULK.SEQ_STAT.NEXT_TX) 2 0x7FFF (List.replicate 15 0)
    rw [exec_probeInterval, execProbeInterval_sends hr ho hp hf hc]
    exact ⟨_, s.bulkFields (s.get BULK.SEQ_STAT.NEXT_TX) 2 0x7FFF, rfl, hout, rfl, rfl, rfl, hnext, hrpl⟩
  case none =>
    intro s cycles h
    exact execProbeInterval_none h
  case reset => exact State.reset_get _
  case refused =>
    intro s data hr h
    rw [s.hostWrite_probeInterval hr, if_neg (by omega)]
  case taken =>
    intro s data hr h0 h1 h2
    rw [s.hostWrite_probeInterval hr, if_pos ⟨h0, h1, h2⟩]

end Sys2Proof.Machine
end

section
/-!
PROOFS. Credits advertised and returned (R199 to R204): the link messages that carry the counts, and the end of CREDIT_INIT.
-/

namespace Sys2Proof.Machine

theorem exec_creditAdvRx (s : State) : exec .creditAdvRx s = execCreditAdvRx s := rfl
theorem exec_creditRetRx (s : State) : exec .creditRetRx s = execCreditRetRx s := rfl
theorem exec_advDoneRx (s : State) : exec .advDoneRx s = execAdvDoneRx s := rfl
theorem exec_creditReturnSend (s : State) : exec .creditReturnSend s = execCreditReturnSend s := rfl

/-- A Col that is neither OFF nor in FAULT is not OFF: an event takes it to FAULT. -/
theorem State.col_of_live {s : State} (h : s.colIn [.off, .fault] = false) : s.chip.col ≠ .off := by
  intro off
  simp [State.colIn, off] at h

/-! ### Link messages (R177) -/

section
variable {s : State} {m ltype : Nat} {l : List Nat} (hq : s.lnk.linkQ = m :: l)
include hq

theorem State.linkHead_cons (ht : msgLtype m = ltype) : s.linkHead ltype = some m := by
  simp only [State.linkHead, hq, ht, if_true]

theorem State.linkDone_cons : s.linkDone = { s with lnk := { s.lnk with linkQ := l } } := by
  simp only [State.linkDone, State.setLnk, hq, List.drop_succ_cons, List.drop_zero]

end

/-! ### Credits in hand (R204) -/

section
variable (s : State) (k : Nat)

theorem State.refreshAvail_adv : (s.refreshAvail k).get (CREDIT.TX_STAT.ADV k) = s.get (CREDIT.TX_STAT.ADV k) :=
  s.get_put_apart _ (by simp [CREDIT.TX_STAT.ADV, CREDIT.TX_STAT.AVAIL])
theorem State.refreshAvail_cons : (s.refreshAvail k).get (CREDIT.TX_STAT.CONS k) = s.get (CREDIT.TX_STAT.CONS k) :=
  s.get_put_apart _ (by simp [CREDIT.TX_STAT.CONS, CREDIT.TX_STAT.AVAIL])
theorem State.refreshAvail_ret : (s.refreshAvail k).get (CREDIT.TX_STAT.RET k) = s.get (CREDIT.TX_STAT.RET k) :=
  s.get_put_apart _ (by simp [CREDIT.TX_STAT.RET, CREDIT.TX_STAT.AVAIL])

theorem State.refreshAvail_lnk : (s.refreshAvail k).lnk = s.lnk := s.put_lnk ..

/-- AVAIL shows the credits in hand: they fit it, as they are no more than were advertised. -/
theorem State.refreshAvail_avail : (s.refreshAvail k).get (CREDIT.TX_STAT.AVAIL k) = (s.refreshAvail k).avail k := by
  have fits : s.avail k < 2 ^ (CREDIT.TX_STAT.AVAIL k).width := Nat.lt_of_le_of_lt (Nat.sub_le ..) (s.get_lt (CREDIT.TX_STAT.ADV k))
  rw [State.avail, s.refreshAvail_adv, s.refreshAvail_cons, s.refreshAvail_ret]
  exact (s.get_put_same _ _ (by simp [CREDIT.TX_STAT.AVAIL])).trans (Nat.mod_eq_of_lt fits)

end

/-! ### CREDIT_ADV (R199 to R201) -/

/-- An advertisement is taken from the queue and counted. -/
def State.advTaken (s : State) : State := s.linkDone.setLnk fun l => { l with advSeen := l.advSeen + 1 }

theorem State.advTaken_get (s : State) (f : Field) : s.advTaken.get f = s.get f := (State.get_setLnk ..).trans (s.linkDone_get f)

theorem State.advTaken_lnk {s : State} {m : Nat} {l : List Nat} (hq : s.lnk.linkQ = m :: l) :
    s.advTaken.lnk = { s.lnk with linkQ := l, advSeen := s.lnk.advSeen + 1 } := by
  rw [State.advTaken, State.linkDone_cons hq, State.setLnk_lnk]

theorem execCreditAdvRx_named {s : State} {m k n : Nat} {l : List Nat} (hq : s.lnk.linkQ = m :: l) (ht : msgLtype m = 1)
    (hc : creditOf m = (some k, n)) : execCreditAdvRx s = .next (
      if 32767 < n then s.advTaken.goFault EV.CREDIT.CREDIT_INIT_BAD (k + n * 2 ^ 16)
      else (s.advTaken.put (CREDIT.TX_STAT.ADV k) n).refreshAvail k) := by
  simp only [execCreditAdvRx, State.linkHead_cons hq ht, hc, State.advTaken]

/-! ### CREDIT_RET (R204) -/

/-- The credits of a kind that are consumed and not returned, as the counts stand. -/
def State.unreturned (s : State) (k : Nat) : Nat := (s.get (CREDIT.TX_STAT.CONS k) + 2 ^ 16 - s.get (CREDIT.TX_STAT.RET k)) % 2 ^ 16

section
variable {s : State} {k r : Nat}

theorem State.applyReturn_current (h : (r + 2 ^ 16 - s.get (CREDIT.TX_STAT.RET k)) % 2 ^ 16 ≤ s.unreturned k) :
    s.applyReturn k r = some ((s.put (CREDIT.TX_STAT.RET k) r).refreshAvail k) := if_pos h

theorem State.applyReturn_stale (h : s.unreturned k < (r + 2 ^ 16 - s.get (CREDIT.TX_STAT.RET k)) % 2 ^ 16)
    (hs : (s.get (CREDIT.TX_STAT.RET k) + 2 ^ 16 - r) % 2 ^ 16 ≤ s.get (CREDIT.TX_STAT.ADV k)) : s.applyReturn k r = some s :=
  (if_neg (Nat.not_le.mpr h)).trans (if_pos hs)

theorem State.applyReturn_impossible (h : s.unreturned k < (r + 2 ^ 16 - s.get (CREDIT.TX_STAT.RET k)) % 2 ^ 16)
    (hs : s.get (CREDIT.TX_STAT.ADV k) < (s.get (CREDIT.TX_STAT.RET k) + 2 ^ 16 - r) % 2 ^ 16) : s.applyReturn k r = none :=
  (if_neg (Nat.not_le.mpr h)).trans (if_neg (Nat.not_le.mpr hs))

end

theorem execCreditRetRx_named {s : State} {m k n : Nat} {l : List Nat} (hq : s.lnk.linkQ = m :: l) (ht : msgLtype m = 2)
    (hc : creditOf m = (some k, n)) : execCreditRetRx s =
      .next ((s.linkDone.applyReturn k n).getD (s.linkDone.goFault EV.CREDIT.CREDIT_BAD (k + n * 2 ^ 16))) := by
  simp only [execCreditRetRx, State.linkHead_cons hq ht, hc]
  cases s.linkDone.applyReturn k n with
  | none => rfl
  | some t => rfl

/-- The count that a message names fits its field. -/
theorem creditOf_lt {m n : Nat} {k : Option Nat} (h : creditOf m = (k, n)) : n < 2 ^ 16 := by
  obtain rfl : bits m 16 16 = n := congrArg Prod.snd h
  exact bits_lt ..

/-! ### ADV_DONE and the end of CREDIT_INIT (R200) -/

/-- The far end's ADV_DONE is taken from the queue and noted. -/
def State.farEndDone (s : State) : State := s.linkDone.setLnk fun l => { l with farDone := true }

theorem execAdvDoneRx_done {s : State} {m : Nat} {l : List Nat} (hq : s.lnk.linkQ = m :: l) (ht : msgLtype m = 3) :
    execAdvDoneRx s = .next (if bits m 8 8 ≠ s.lnk.advSeen then s.linkDone.goFault EV.CREDIT.CREDIT_INIT_BAD (11 + bits m 8 8 * 2 ^ 16)
      else s.farEndDone.creditInitMaybe) := by
  simp only [execAdvDoneRx, State.linkHead_cons hq ht]
  rfl

/-- CREDIT_INIT ends in ACTIVE when both ends are done and nothing is left to send (R200). -/
theorem State.creditInitMaybe_active {s : State} (hc : s.chip.col = .creditInit) (hm : s.cal.mode ≠ .lowBringUp) (hq : s.lnk.msgQ = [])
    (hr : s.lnk.crpl = []) (hf : s.lnk.farDone = true) :
    s.creditInitMaybe = (s.setCol .active).refreshLevel.levelBelow.pairEnter := by
  simp only [State.creditInitMaybe, hc, hq, hr, hf, List.any_nil, Bool.not_false, Bool.and_self, ne_eq, not_true_eq_false, Bool.true_eq_false,
    or_self, if_false, if_neg hm]

section
variable (s : State)

theorem State.hbMessage_farDone (w : Nat) : (s.hbMessage w).lnk.farDone = s.lnk.farDone := by
  unfold State.hbMessage
  split
  · rfl
  · dsimp only [State.setLnk]
    split <;> rfl

theorem State.hbStrap_lnk (w : Nat) : (s.hbStrap w).lnk = s.lnk := by
  unfold State.hbStrap
  split <;> rfl

/-- A HEARTBEAT word that is queued leaves the far end's ADV_DONE as it was. -/
theorem State.sendWord_farDone : s.sendWord.lnk.farDone = s.lnk.farDone := by
  rw [State.sendWord, State.setPair_lnk, State.hbStrap_lnk, State.hbMessage_farDone]

theorem State.pairEnter_farDone : s.pairEnter.lnk.farDone = s.lnk.farDone := by
  unfold State.pairEnter
  split
  · rw [State.setProle, State.sendWord_farDone]
    rfl
  · rfl

theorem State.setCol_lnk (c : ColState) : (s.setCol c).lnk = s.lnk := by
  obtain ⟨_, _, _, _, h⟩ := s.setColStep_frame c 0
  rw [State.setCol, h]

theorem State.refreshLevel_lnk : s.refreshLevel.lnk = s.lnk := by
  simp only [State.refreshLevel, State.setLevelStat, apply_ite State.lnk, State.put_lnk, ite_self]

theorem State.levelBelow_lnk : s.levelBelow.lnk = s.lnk := by
  unfold State.levelBelow
  split
  · exact s.raise_lnk ..
  · rfl

/-- What the entry of ACTIVE at the end of CREDIT_INIT leaves (R200, R368, R398). -/
theorem State.enterActive_spec : (s.setCol .active).refreshLevel.levelBelow.pairEnter.chip.col = .active ∧
    (s.setCol .active).refreshLevel.levelBelow.pairEnter.lnk.farDone = s.lnk.farDone := by
  have levelled := (State.refreshLevel_levelled (s := s.setCol .active) (by rw [State.setCol_col]; decide)).levelBelow
  refine ⟨?_, ?_⟩
  · exact ((congrArg Prod.fst (State.pairEnter_place _)).trans levelled.col).trans (s.setCol_col _)
  · rw [State.pairEnter_farDone, State.levelBelow_lnk, State.refreshLevel_lnk, State.setCol_lnk]

end

/-! ### CREDIT_RETURN_SEND (R203) -/

theorem execCreditReturnSend_waits {s : State} {k : Nat} (h4 : s.clkOn 4 = true) (hd : s.colDead = false)
    (hc : s.chip.col = .creditInit ∨ s.colIn inService = true) (hk : s.nextCount 11 = some k) : execCreditReturnSend s =
      .next ((s.countSent k).setLnk fun l => { l with msgQ := l.msgQ ++ [creditMsg 2 k (s.get (CREDIT.RX_STAT.RETURNED k))] }) := by
  have runs : s.colIn (.creditInit :: inService) = true := by
    rw [State.colIn_iff, List.mem_cons]
    exact hc.imp_right (s.colIn_iff _).mp
  simp only [execCreditReturnSend, h4, hd, runs, hk, Bool.not_true, Bool.or_self, Bool.false_eq_true, if_false]

/-- Settles O48: a count that is possible is applied and AVAIL follows it, a stale one changes nothing, and an impossible one ends in FAULT. -/
theorem creditsAreAdvertisedAndReturned : Obligations.CreditsAreAdvertisedAndReturned := by
  unfold Obligations.CreditsAreAdvertisedAndReturned
  refine ⟨?advertised, ?tooMany, ?current, ?impossible, ?stale, ?done, ?miscounted, ?sent⟩
  case advertised =>
    intro s m k n l hq ht hc hn
    rw [exec_creditAdvRx, execCreditAdvRx_named hq ht hc, if_neg (Nat.not_lt.mpr hn)]
    refine ⟨_, rfl, ?_, ?_, ?_, ?_, State.refreshAvail_avail ..⟩
    · rw [State.refreshAvail_lnk, State.put_lnk, State.advTaken_lnk hq]
    · rw [State.refreshAvail_lnk, State.put_lnk, State.advTaken_lnk hq]
    · rw [State.refreshAvail_adv, State.get_put_same _ _ _ (by simp [CREDIT.TX_STAT.ADV])]
      exact Nat.mod_eq_of_lt (creditOf_lt hc)
    · rw [State.refreshAvail_cons, State.get_put_apart _ _ (by simp [CREDIT.TX_STAT.ADV, CREDIT.TX_STAT.CONS]), State.advTaken_get]
  case tooMany =>
    intro s m k n l hq ht hc hn hl
    rw [exec_creditAdvRx, execCreditAdvRx_named hq ht hc, if_pos hn]
    exact ⟨_, rfl, State.goFault_col _ _ _ (State.col_of_live hl)⟩
  case current =>
    intro s m k n l hq ht hc h
    rw [exec_creditRetRx, execCreditRetRx_named hq ht hc, State.applyReturn_current (s := s.linkDone) h, Option.getD_some]
    refine ⟨_, rfl, ?_, ?_, ?_, State.refreshAvail_avail ..⟩
    · rw [State.refreshAvail_lnk, State.put_lnk, State.linkDone_cons hq]
    · rw [State.refreshAvail_ret, State.get_put_same _ _ _ (by simp [CREDIT.TX_STAT.RET])]
      exact Nat.mod_eq_of_lt (creditOf_lt hc)
    · rw [State.refreshAvail_cons, State.get_put_apart _ _ (by simp [CREDIT.TX_STAT.RET, CREDIT.TX_STAT.CONS]), State.linkDone_get]
  case impossible =>
    intro s m k n l hq ht hc h hi hl
    rw [exec_creditRetRx, execCreditRetRx_named hq ht hc, State.applyReturn_impossible (s := s.linkDone) h hi, Option.getD_none]
    exact ⟨_, rfl, State.goFault_col _ _ _ (State.col_of_live hl)⟩
  case stale =>
    intro s m k n l hq ht hc h hs
    rw [exec_creditRetRx, execCreditRetRx_named hq ht hc, State.applyReturn_stale (s := s.linkDone) h hs, Option.getD_some,
      State.linkDone_cons hq]
  case done =>
    intro s m l hq ht hn hc hm hmsg hcrpl
    obtain ⟨hcol, hfar⟩ := s.farEndDone.enterActive_spec
    rw [exec_advDoneRx, execAdvDoneRx_done hq ht, if_neg (not_not_intro hn), State.creditInitMaybe_active (s := s.farEndDone) hc hm hmsg hcrpl rfl]
    exact ⟨_, rfl, hcol, hfar⟩
  case miscounted =>
    intro s m l hq ht hn hl
    rw [exec_advDoneRx, execAdvDoneRx_done hq ht, if_pos hn]
    exact ⟨_, rfl, State.goFault_col _ _ _ (State.col_of_live hl)⟩
  case sent =>
    intro s k h4 hd hc hk
    rw [exec_creditReturnSend, execCreditReturnSend_waits h4 hd hc hk]
    refine ⟨_, rfl, rfl, ?_, rfl, rfl⟩
    simp only [State.sentCount, State.setLnk_lnk, State.countSent, Sparse.find_set, if_true, Option.getD_some]

end Sys2Proof.Machine
end

section
/-!
PROOFS. Level requests at their release beat, and stale cuts (R362, R363, R371).
-/

namespace Sys2Proof.Machine

theorem exec_levelRelease (now : Beat) (s : State) : exec (.levelRelease now) s = execLevelRelease now s := rfl
theorem exec_staleCut (now : Beat) (s : State) : exec (.staleCut now) s = execStaleCut now s := rfl

/-! ### A row's time leaves the streams and the requests alone (R59) -/

section
variable (s : State) (now : Beat)

@[simp] theorem State.at_lnk : (s.at now).lnk = s.lnk := by obtain ⟨_, _, h⟩ := s.at_eq now; rw [h]
@[simp] theorem State.at_txn : (s.at now).txn = s.txn := by obtain ⟨_, _, h⟩ := s.at_eq now; rw [h]
@[simp] theorem State.at_clkOn (c : Nat) : (s.at now).clkOn c = s.clkOn c := by obtain ⟨_, _, h⟩ := s.at_eq now; rw [h]; rfl
@[simp] theorem State.at_cap (b : Nat) : (s.at now).cap b = s.cap b := by simp only [State.cap, State.on, State.at_get]

end

/-! ### Transfers with nothing to wait for (R220) -/

/-- The transfers of a piece are made with nothing that must go before them. -/
theorem pieceItems_behind (h : Hdr) (first : Bool) (units : List Nat) (last tent : Bool) (seq : Nat) (credit : Bool) (resv : Nat) :
    ∀ i ∈ pieceItems h first units last tent seq credit resv, i.behind = [] := by
  unfold pieceItems
  dsimp only
  generalize (if first = true then 15 else 16) = n
  split
  · exact List.forall_mem_singleton.mpr rfl
  · exact List.forall_mem_cons.mpr ⟨rfl, List.forall_mem_singleton.mpr rfl⟩

/-- Where no Level request waits, what is presented waits for the die as it is, on a spine Col too. -/
theorem State.present'_alone {s : State} {l : List DpoItem} (hq : s.txn.levelQ = []) (hl : ∀ i ∈ l, i.behind = []) :
    (s.present' l).lnk.dpoQ = s.lnk.dpoQ ++ l := by
  have alone : ∀ i ∈ l, { i with behind := s.levelAhead i } = i := fun i hi => by
    rw [State.levelAhead, hq, List.filter_nil, List.map_nil, ← hl i hi]
  rw [State.present', State.setLnk_lnk, List.map_congr_left alone, List.map_id', ite_self]

/-! ### LEVEL_RELEASE (R363) -/

section
variable {s : State} {now : Beat} {l : LevelItem} (h1 : s.clkOn 1 = true) (hq : s.txn.levelQ = [l])
include h1 hq

theorem execLevelRelease_due (hd : l.release ≤ (s.at now).beat) : execLevelRelease now s =
    .next (((s.at now).setTxn fun t => { t with levelQ := [] }).presentLevel l false) := by
  simp only [execLevelRelease, State.at_clkOn, h1, if_true, State.setTxn, State.at_txn, hq, hd, List.filter_cons, List.filter_nil, decide_true,
    Bool.not_true, Bool.false_eq_true, if_false, List.foldl_cons, List.foldl_nil]

theorem execLevelRelease_early (hd : (s.at now).beat < l.release) : execLevelRelease now s = .next (s.at now) := by
  have kept : ((s.at now).setTxn fun t => { t with levelQ := [l] }) = s.at now := by
    rw [← hq, ← s.at_txn now]
    rfl
  have waits : ¬ l.release ≤ (s.at now).beat := BitVec.not_le.mpr hd
  simp only [State.setTxn, State.at_txn] at kept
  simp only [execLevelRelease, State.at_clkOn, h1, if_true, State.setTxn, State.at_txn, hq, waits, List.filter_cons, List.filter_nil, decide_false,
    Bool.not_false, Bool.false_eq_true, if_false, List.foldl_nil, kept]

end

/-! ### STALE_CUT (R371) -/

section
variable {s : State} {now t0 : Beat} (hs : s.lnk.stall = some t0)
include hs

theorem execStaleCut_past (hp : (s.at now).past t0 16384 = true) :
    execStaleCut now s = .next ((s.at now).startCut.setLnk fun k => { k with stall := some (s.at now).beat }) := by
  simp only [execStaleCut, State.at_lnk, hs, hp, if_true]

theorem execStaleCut_early (hp : (s.at now).past t0 16384 = false) : execStaleCut now s = .next (s.at now) := by
  simp only [execStaleCut, State.at_lnk, hs, hp, Bool.false_eq_true, if_false]

end

/-- Where the capability is agreed, a cut starts at the sequence that comes next. -/
theorem State.startCut_agreed {s : State} (h : s.cap 6 = true) :
    s.startCut = s.setLnk fun k => { k with cut := some (s.get BULK.SEQ_STAT.NEXT_RX), stall := none } := if_pos h

/-- Settles O49: a Level request goes to the die at its release beat and not before it, and 16,384 beats without progress start a stale cut. -/
theorem levelRequestsAreReleasedAtTheirBeat : Obligations.LevelRequestsAreReleasedAtTheirBeat := by
  unfold Obligations.LevelRequestsAreReleasedAtTheirBeat
  refine ⟨?due, ?early, ?cut, ?noCut⟩
  case due =>
    intro s now l h1 hq hd
    rw [exec_levelRelease, execLevelRelease_due h1 hq hd]
    refine ⟨_, rfl, rfl, ?_⟩
    rw [State.presentLevel, State.present'_alone (s := (s.at now).setTxn fun t => { t with levelQ := [] }) rfl
      (pieceItems_behind _ _ _ _ _ _ _ _), State.setTxn_lnk, State.at_lnk]
    rfl
  case early =>
    intro s now l h1 hq hd
    exact execLevelRelease_early h1 hq hd
  case cut =>
    intro s now t0 hs hp hc
    rw [exec_staleCut, execStaleCut_past hs hp, State.startCut_agreed ((s.at_cap now 6).trans hc), State.at_get]
    exact ⟨_, rfl, rfl, rfl, s.at_regs now⟩
  case noCut =>
    intro s now t0 hs hp
    exact execStaleCut_early hs hp

end Sys2Proof.Machine
end

section
/-!
PROOFS. Early reads whose verdict does not come (R232), and the field that sets how long an H-end waits for it (R6, R455).
-/

namespace Sys2Proof.Machine

theorem exec_verdictTimeout (tag : BitVec 12) (now : Beat) (s : State) : exec (.verdictTimeout tag now) s = execVerdictTimeout tag now s := rfl

/-! ### When the wait ends (R232) -/

section
variable {s : State} {tag : BitVec 12} {now : Beat} {e : EarlyRead} (he : Sparse.find s.txn.early tag.toNat = some e)
include he

theorem execVerdictTimeout_past (hv : e.verdict = none) (hp : (s.at now).past e.since e.limit = true) :
    execVerdictTimeout tag now s = .next (((s.at now).raise EV.TXN.DIR_TIMEOUT tag.toNat).verdict e true) := by
  simp only [execVerdictTimeout, State.at_txn, he, hv, hp, Option.isNone_none, Bool.and_self, if_true]

theorem execVerdictTimeout_early (hp : (s.at now).past e.since e.limit = false) : execVerdictTimeout tag now s = .next (s.at now) := by
  simp only [execVerdictTimeout, State.at_txn, he, hp, Bool.and_false, Bool.false_eq_true, if_false]

end

/-! ### What a dirty verdict leaves (R230, R231) -/

section
variable (s : State) (e : EarlyRead)

/-- The answer SQUASHED changes no register and no clock. -/
theorem State.answerSquashed_regs : (s.answerSquashed e).regs = s.regs := by
  rw [State.answerSquashed, State.answerDie_squashed]
  rfl
theorem State.answerSquashed_chip : (s.answerSquashed e).chip = s.chip := by
  rw [State.answerSquashed, State.answerDie_squashed]
  rfl

theorem State.takeBack_reg (n : Nat) {i k : Nat} (h : (CREDIT.TX_STAT.CONS i).key ≠ k) : (s.takeBack i n).reg k = s.reg k := by
  rw [State.takeBack, State.refreshAvail, State.put_reg_ne _ _ (f := CREDIT.TX_STAT.AVAIL i) h, State.put_reg_ne _ _ h]

/-- What a dirty verdict does besides what it leaves in the streams and the tables: a read that was held gives its credit back and is answered, and
for one that was sent SQUASH is counted, with the answer at once where the response is there already. -/
theorem State.verdict_dirty_cases :
    (∃ f, s.verdict e true = ((s.takeBack 0 1).setLnk f).answerSquashed e) ∨
    (∃ f, s.verdict e true = ((s.bump TXN.SPEC_STAT_HI.SQUASHED).setLnk f).answerSquashed e) ∨
    ∃ f g, s.verdict e true = ((s.bump TXN.SPEC_STAT_HI.SQUASHED).setLnk f).setTxn g := by
  cases hh : e.held with
  | true => exact .inl ⟨_, by simp only [State.verdict, hh, if_true]; rfl⟩
  | false =>
    cases hr : e.resp with
    | none => exact .inr (.inr ⟨_, _, s.verdict_dirty_sent e hh hr⟩)
    | some p => exact .inr (.inl ⟨_, by simp only [State.verdict, hh, hr, if_true, Bool.false_eq_true, if_false]; rfl⟩)

/-- A dirty verdict changes of the registers the credits of TC0, where the read is not sent, and the count of SQUASH messages, where it is. -/
theorem State.verdict_dirty_reg {k : Nat} (hc : (CREDIT.TX_STAT.CONS 0).key ≠ k) (hs : TXN.SPEC_STAT_HI.SQUASHED.key ≠ k) :
    (s.verdict e true).reg k = s.reg k := by
  rcases s.verdict_dirty_cases e with ⟨f, h⟩ | ⟨f, h⟩ | ⟨f, g, h⟩
  · rw [h, State.reg_congr (State.answerSquashed_regs ..), State.reg_congr (State.setLnk_regs ..), s.takeBack_reg 1 hc]
  · rw [h, State.reg_congr (State.answerSquashed_regs ..), State.reg_congr (State.setLnk_regs ..), s.bump_reg_ne hs]
  · rw [h, State.reg_congr (State.setTxn_regs ..), State.reg_congr (State.setLnk_regs ..), s.bump_reg_ne hs]

theorem State.verdict_dirty_chip : (s.verdict e true).chip = s.chip := by
  rcases s.verdict_dirty_cases e with ⟨f, h⟩ | ⟨f, h⟩ | ⟨f, g, h⟩
  · rw [h, State.answerSquashed_chip, State.setLnk_chip, State.takeBack, State.refreshAvail, State.put_chip, State.put_chip]
  · rw [h, State.answerSquashed_chip, State.setLnk_chip, State.bump_chip]
  · rw [h, State.setTxn_chip, State.setLnk_chip, State.bump_chip]

/-- After a dirty verdict no early read of the tag waits for one: its entry has ended, or it keeps the verdict until the response comes. -/
theorem State.verdict_dirty_decided {f : EarlyRead} (h : Sparse.find (s.verdict e true).txn.early e.hdr.tag = some f) : f.verdict ≠ none := by
  have ended (t : State) : Sparse.find (t.answerSquashed e).txn.early e.hdr.tag ≠ some f := by
    rw [(t.answerSquashed_spec e).1]
    exact nofun
  cases hh : e.held with
  | true =>
    rw [(s.verdict_dirty_held e hh).1] at h
    cases h
  | false =>
    cases hr : e.resp with
    | none =>
      rw [s.verdict_dirty_sent e hh hr, State.setTxn_txn, Sparse.find_set, if_pos rfl] at h
      obtain rfl := Option.some.inj h
      exact nofun
    | some p =>
      simp only [State.verdict, hh, hr, if_true, Bool.false_eq_true, if_false] at h
      exact absurd h (ended _)

/-- Marks of events stay through a dirty verdict. -/
theorem State.verdict_dirty_raised {ev : Event} (h : Raised ev s) : Raised ev (s.verdict e true) := by
  have stat : (s.verdict e true).reg (PAGE.EVT_STAT ev.page).key = s.reg (PAGE.EVT_STAT ev.page).key :=
    s.verdict_dirty_reg e (by simp only [CREDIT.TX_STAT.CONS, PAGE.EVT_STAT]; omega) (by simp only [TXN.SPEC_STAT_HI.SQUASHED, PAGE.EVT_STAT]; omega)
  refine h.kept (by rw [State.get, stat, State.get]) ?_ (by rw [s.verdict_dirty_chip e]) (by rw [s.verdict_dirty_chip e])
  rw [State.get, s.verdict_dirty_reg e (by decide) (by decide), State.get]

end

/-! ### The verdict port stays open (R70) -/

theorem State.isH_congr {s t : State} (h : t.reg IDENT.FUSE_STAT.OK.key = s.reg IDENT.FUSE_STAT.OK.key) : t.isH = s.isH := by
  rw [State.isH, State.isH, State.role_congr h]

section
variable {s : State} (h : s.verdictPort)
include h

theorem State.verdictPort.at (now : Beat) : (s.at now).verdictPort := by
  obtain ⟨hd, hh, hc⟩ := h
  obtain ⟨_, _, chip⟩ := s.at_eq now
  exact ⟨by rw [chip]; exact hd, by rw [State.isH, State.at_role]; exact hh, (s.at_clkOn now 1).trans hc⟩

theorem State.verdictPort.raise (e : Event) (v : Nat) : (s.raise e v).verdictPort := by
  obtain ⟨hd, hh, hc⟩ := h
  obtain ⟨_, _, chip⟩ := s.raise_chip e v
  refine ⟨by rw [chip]; exact hd, ?_, by rw [State.clkOn, chip]; exact hc⟩
  rw [State.isH_congr (s.raise_reg e v _ (by decide) (by decide) (by decide) (by decide))]
  exact hh

theorem State.verdictPort.verdict_dirty (e : EarlyRead) : (s.verdict e true).verdictPort := by
  obtain ⟨hd, hh, hc⟩ := h
  refine ⟨by rw [s.verdict_dirty_chip e]; exact hd, ?_, by rw [State.clkOn, s.verdict_dirty_chip e]; exact hc⟩
  rw [State.isH_congr (s.verdict_dirty_reg e (by decide) (by decide))]
  exact hh

end

/-! ### VERDICT_TIMEOUT (R6, R440, R455) -/

/-- A write is refused if its data leaves the range of a field that serves the role, whatever the other fields are (R440). -/
theorem State.fieldRefusal_outOfRange (s : State) (data : Word) {fs : List RwField} {f : RwField} (hf : f ∈ fs) (hs : s.serves f.serves = true)
    (ho : bits data.toNat f.lo f.width < f.min ∨ f.max < bits data.toNat f.lo f.width) : s.fieldRefusal data fs ≠ none := by
  induction fs with
  | nil => cases hf
  | cons g fs ih =>
    unfold State.fieldRefusal
    rcases List.mem_cons.mp hf with rfl | hf
    · simp [hs, ho]
    · have rest := ih hf
      dsimp only
      repeat' split
      · exact Option.some_ne_none _
      · exact rest
      · exact Option.some_ne_none _
      · exact rest

theorem specCtl_row : rowOf TXN.SPEC_CTL.VERDICT_TIMEOUT.key = some { off := 0x140, reset := 0x186a000000003, rw := [
    { lo := 0, width := 1, serves := .mEnd }, { lo := 1, width := 1, serves := .hEnd }, { lo := 32, width := 20, min := 1000, max := 1000000 }] } := by
  decide

/-- A write with VERDICT_TIMEOUT out of its range is refused, for the page's role or for a field. -/
theorem State.hostWrite_verdictTimeout_outOfRange (s : State) {data : Word} (h : bits data.toNat 32 20 < 1000 ∨ 1000000 < bits data.toNat 32 20) :
    ∃ r, s.hostWrite TXN.SPEC_CTL.VERDICT_TIMEOUT.key data = s.refuse TXN.SPEC_CTL.VERDICT_TIMEOUT.key r data := by
  have refused : s.writeRefusal TXN.SPEC_CTL.VERDICT_TIMEOUT.key data ≠ none := by
    have fields := s.fieldRefusal_outOfRange data (f := { lo := 32, width := 20, min := 1000, max := 1000000 }) (fs := [
      { lo := 0, width := 1, serves := .mEnd }, { lo := 1, width := 1, serves := .hEnd }, { lo := 32, width := 20, min := 1000, max := 1000000 }])
      (by simp) rfl h
    unfold State.writeRefusal
    rw [specCtl_row]
    dsimp only
    split
    · exact Option.some_ne_none _
    · obtain ⟨r, hr⟩ := Option.ne_none_iff_exists'.mp fields
      rw [hr]
      exact Option.some_ne_none _
  obtain ⟨r, hr⟩ := Option.ne_none_iff_exists'.mp refused
  exact ⟨r, by rw [State.hostWrite, hr]⟩

/-- Settles O21: the timeout is a dirty verdict with DIR_TIMEOUT raised before it, after which the tag waits for no verdict, and a write out of
the field's range is refused. -/
theorem anEarlyReadWithoutVerdictTimesOut : Obligations.AnEarlyReadWithoutVerdictTimesOut := by
  unfold Obligations.AnEarlyReadWithoutVerdictTimesOut
  refine ⟨?dirty, ?early, ?orphan, ?reset, ?refused⟩
  case dirty =>
    intro s tag now e hd hh hc he hv hp
    have port : ((s.at now).raise EV.TXN.DIR_TIMEOUT tag.toNat).verdictPort := ((State.verdictPort.at ⟨hd, hh, hc⟩ now).raise ..)
    have found : Sparse.find ((s.at now).raise EV.TXN.DIR_TIMEOUT tag.toNat).txn.early tag.toNat = some e := by
      rw [State.raise_txn, State.at_txn, he]
    rw [exec_verdictTimeout, execVerdictTimeout_past he hv hp]
    refine ⟨_, rfl, ?_, State.verdict_dirty_raised _ e (State.raise_raised _ _ _ (by decide))⟩
    rw [exec_dirVerdict, execDirVerdict_read port found hv]
  case early =>
    intro s tag now e he hp
    exact execVerdictTimeout_early he hp
  case orphan =>
    intro s tag now e dirty hd hh hc he hv ht hp
    have port := (((State.verdictPort.at ⟨hd, hh, hc⟩ now).raise EV.TXN.DIR_TIMEOUT tag.toNat).verdict_dirty e)
    rw [exec_verdictTimeout, execVerdictTimeout_past he hv hp]
    have decided (f : EarlyRead) (hf : Sparse.find (((s.at now).raise EV.TXN.DIR_TIMEOUT tag.toNat).verdict e true).txn.early tag.toNat = some f) :
        f.verdict ≠ none := State.verdict_dirty_decided _ e (ht ▸ hf)
    exact ⟨_, _, rfl, execDirVerdict_orphan port decided dirty, State.raise_txn .., State.raise_raised _ _ _ (by decide)⟩
  case reset => decide
  case refused =>
    intro s data hup h
    obtain ⟨r, hr⟩ := s.hostWrite_verdictTimeout_outOfRange h
    rw [exec_registerWrite, s.writePaced_hostWrite (by decide) hup, hr]
    exact ⟨_, rfl, congrArg (fun w : Word => bits w.toNat 32 20) (s.refuse_reg_ne r data (by decide))⟩

end Sys2Proof.Machine
end

section
/-!
PROOFS. Offers of the die (R35, R37, R202, R212 to R214, R230): requests taken, turned away or reused, their continuations, and responses.
-/

namespace Sys2Proof.Machine

theorem exec_dpiHeaderOffer (c : DieCycle) (s : State) : exec (.dpiHeaderOffer c) s = execDpiHeaderOffer c s := rfl
theorem exec_dpiContinuation (c : DieCycle) (s : State) : exec (.dpiContinuation c) s = execDpiContinuation c s := rfl
theorem exec_dieResponseOffer (c : DieCycle) (s : State) : exec (.dieResponseOffer c) s = execDieResponseOffer c s := rfl

/-! ### Wakes, captures and events on their pages (R248, R435, R455) -/

/-- An event writes its own page, and page 1 where its crossing overruns. -/
theorem State.raise_onPages (s : State) {ps : List Nat} {e : Event} (hp : e.page ∈ ps) (h1 : 1 ∈ ps) (v : Nat) : OnPages ps s (s.raise e v) := by
  unfold State.raise State.overrun
  repeat' split
  · exact s.deliver_onPages _ _ _ hp
  · exact .refl _ s
  · exact (s.put_onPages _ h1).trans (State.deliver_onPages _ _ _ _ h1)
  · exact .of_regs rfl
  · exact (OnPages.of_regs rfl).trans (State.deliver_onPages _ _ _ _ hp)

theorem State.bump_onPages (s : State) {ps : List Nat} {f : Field} (hp : f.key / 4096 ∈ ps) : OnPages ps s (s.bump f) := s.put_onPages _ hp

/-- A wake writes the POWER page alone. -/
theorem State.wake_onPages (s : State) (trigger : Nat) : OnPages [14] s (s.wake trigger) := by
  unfold State.wake
  split
  · exact .refl _ s
  split
  · exact (s.put_onPages (f := POWER.PWR_STAT.WAIT_ECLK) _ (by decide)).trans (.of_regs (State.setPwr_regs ..))
  · rw [State.raise_mclk _ rfl]
    have counted : OnPages [14] s (s.bump POWER.PARK_STAT.WAKES) := s.bump_onPages (f := POWER.PARK_STAT.WAKES) (by decide)
    have running (t : State) (g : Power → Power) : OnPages [14] t (t.setPwr g).runClocks := .of_regs rfl
    exact (counted.trans (running _ _)).trans (State.deliver_onPages _ _ _ _ (by decide))

@[simp] theorem State.wake_lnk (s : State) (trigger : Nat) : (s.wake trigger).lnk = s.lnk := congrArg Calm.lnk (s.wake_calm trigger)

@[simp] theorem State.wake_txn (s : State) (trigger : Nat) : (s.wake trigger).txn = s.txn := by
  simp only [State.wake, apply_ite State.txn, State.raise_txn, State.runClocks, State.setPwr_txn, State.bump_txn, State.put_txn, ite_self]

theorem State.captureErr_reg_ne (s : State) (tag ctx kind : Nat) {k : Nat} (h : TXN.ERR_CAPTURE.TAG.key ≠ k) :
    (s.captureErr tag ctx kind).reg k = s.reg k := by
  rw [State.captureErr, State.put_reg_ne _ _ (f := TXN.ERR_CAPTURE.KIND) h, State.put_reg_ne _ _ (f := TXN.ERR_CAPTURE.CTX) h, State.put_reg_ne _ _ h]

@[simp] theorem State.captureErr_txn (s : State) (tag ctx kind : Nat) : (s.captureErr tag ctx kind).txn = s.txn := by
  rw [State.captureErr, State.put_txn, State.put_txn, State.put_txn]

@[simp] theorem State.captureErr_lnk (s : State) (tag ctx kind : Nat) : (s.captureErr tag ctx kind).lnk = s.lnk := by
  rw [State.captureErr, State.put_lnk, State.put_lnk, State.put_lnk]

/-- What ERR_CAPTURE holds after a capture (R455). -/
theorem State.captureErr_get (s : State) (tag ctx kind : Nat) :
    (s.captureErr tag ctx kind).get TXN.ERR_CAPTURE.TAG = tag % 2 ^ 12 ∧ (s.captureErr tag ctx kind).get TXN.ERR_CAPTURE.CTX = ctx % 2 ^ 14 ∧
      (s.captureErr tag ctx kind).get TXN.ERR_CAPTURE.KIND = kind % 2 ^ 3 := by
  refine ⟨?_, ?_, State.get_put_same _ _ _ (by decide)⟩
  · rw [State.captureErr, State.get_put_apart _ _ (by decide), State.get_put_apart _ _ (by decide), State.get_put_same _ _ _ (by decide)]
    rfl
  · rw [State.captureErr, State.get_put_apart _ _ (by decide), State.get_put_same _ _ _ (by decide)]
    rfl

/-- What counting a bad offer or response, capturing it and raising its event leave: the count, the capture and the mark, and every register outside
the pages TXN and RESET. -/
theorem State.countedCaptured_spec (s : State) {f : Field} {e : Event} (hf : f.key = TXN.ERR_STAT.TAG_REUSE.key ∧ f.lo + f.width ≤ 64)
    (he : e.page = 8 ∧ e.bit < 64 ∧ e.dom < 12) (tag ctx kind v : Nat) :
    let t := (((s.bump f).captureErr tag ctx kind).raise e v)
    CountedOne f s t ∧ t.get TXN.ERR_CAPTURE.TAG = tag % 2 ^ 12 ∧ t.get TXN.ERR_CAPTURE.CTX = ctx % 2 ^ 14 ∧
      t.get TXN.ERR_CAPTURE.KIND = kind % 2 ^ 3 ∧ Raised e t ∧ OnPages [1, 8] s t ∧ t.txn = s.txn ∧ t.lnk = s.lnk := by
  obtain ⟨hk, hw⟩ := hf
  obtain ⟨hp, hb⟩ := he
  obtain ⟨htag, hctx, hkind⟩ := (s.bump f).captureErr_get tag ctx kind
  have counted : CountedOne f s (((s.bump f).captureErr tag ctx kind).raise e v) := by
    have capture : ((s.bump f).captureErr tag ctx kind).get f = (s.bump f).get f := by
      rw [State.get, State.captureErr_reg_ne _ _ _ _ (by rw [hk]; decide), State.get]
    rw [CountedOne, State.raise_get _ _ _ _ (by rw [hk]; decide), capture, s.get_bump_same f hw]
  refine ⟨counted, ?_, ?_, ?_, State.raise_raised _ _ _ hb, ?_, ?_, ?_⟩
  · rw [State.raise_get _ _ _ _ (by decide), htag]
  · rw [State.raise_get _ _ _ _ (by decide), hctx]
  · rw [State.raise_get _ _ _ _ (by decide), hkind]
  · refine OnPages.trans ?_ (State.raise_onPages _ (by rw [hp]; decide) (by decide) v)
    have bumped : OnPages [1, 8] s (s.bump f) := s.bump_onPages (by rw [hk]; decide)
    exact ((bumped.trans (State.put_onPages _ _ (by decide))).trans (State.put_onPages _ _ (by decide))).trans (State.put_onPages _ _ (by decide))
  · rw [State.raise_txn, State.captureErr_txn, State.bump_txn]
  · rw [State.raise_lnk, State.captureErr_lnk, State.bump_lnk]

/-- Classes, and with them the indices of the credits that a request needs, are few (R169, R202). -/
theorem Op.tc_lt (o : Op) : o.tc < 4 := by cases o <;> decide

theorem reqCredits_index_lt {tc : Nat} {o : Op} (len : Nat) (h : tc < 4) : ∀ d ∈ reqCredits tc o len, d.1 < 11 := by
  unfold reqCredits
  split
  · simp only [List.mem_singleton, forall_eq]
    omega
  · simp only [List.forall_mem_cons, List.not_mem_nil, false_imp_iff, implies_true, and_true]
    omega

theorem consKey_page {i : Nat} (h : i < 11) : (CREDIT.TX_STAT.CONS i).key / 4096 = 7 := by
  simp only [CREDIT.TX_STAT.CONS]
  omega

/-- Credits in hand are read from the CREDIT page (R204). -/
theorem State.avail_congr {s t : State} (h : ∀ f : Field, f.key / 4096 = 7 → t.get f = s.get f) {k : Nat} (hk : k < 11) : t.avail k = s.avail k := by
  have page : (0x7140 + 8 * k) / 4096 = 7 := by omega
  rw [State.avail, State.avail, h (CREDIT.TX_STAT.ADV k) page, h (CREDIT.TX_STAT.CONS k) page, h (CREDIT.TX_STAT.RET k) page]

/-! ### Cycles taken (R35) -/

section
variable (s : State) (i : TxItem)

/-- A cycle that is discarded leaves in the streams whether more of them follow, and nothing else. -/
theorem State.offerCycle_sink (last : Bool) :
    s.offerCycle .sink i last = s.setLnk fun k => { k with txCur := if last then none else some (.sink, i) } := by
  cases last <;> rfl

/-- The last cycle of an early read that waits for its verdict (R230). -/
theorem State.offerCycle_hold :
    s.offerCycle .hold i true = s.setLnk fun k => { k with txCur := none, txQ := k.txQ ++ [{ i with slots := [], held := true }] } := rfl

/-- The units that a transaction has are its slots, where they are as many as its header says (R514). -/
theorem State.fitSlots_whole (h : Hdr) {units : List Nat} (hn : slotsAfter h.operation h.len = some units.length) :
    s.fitSlots h units = (units, s) := by
  simp [State.fitSlots, hn, State.undefUnits]

/-- The last cycle of a transaction that is sent: it joins the transmit path with as many slots as it has, undefined where the die offered too few. -/
theorem State.offerCycle_send : ∃ us c n, s.offerCycle .send i true =
    ({ s with freeCtr := c, lnk := { s.lnk with txCur := none, txQ := s.lnk.txQ ++ [{ i with slots := us }] } } : State).wake n ∧
      (slotsAfter i.hdr.operation i.hdr.len = some i.slots.length → us = i.slots) := by
  obtain ⟨c, hc⟩ := State.undefUnits_eq (s.setLnk fun k => { k with txCur := none })
    ((slotsAfter i.hdr.operation i.hdr.len).getD 0 - i.slots.length)
  refine ⟨((s.setLnk fun k => { k with txCur := none }).fitSlots i.hdr i.slots).1, c, if i.hdr.isResponse then 2 else 1, ?_, fun hn => ?_⟩
  · simp only [State.offerCycle, State.offerEnd, State.fitSlots, if_true, hc]
    rfl
  · rw [State.fitSlots_whole _ _ hn]

/-- What the last cycle of a transaction that is sent leaves. -/
theorem State.offerCycle_send_spec : ((s.offerCycle .send i true).txn = s.txn ∧ OnPages [14] s (s.offerCycle .send i true)) ∧
    ∃ us, (s.offerCycle .send i true).lnk = { s.lnk with txCur := none, txQ := s.lnk.txQ ++ [{ i with slots := us }] } ∧
      (slotsAfter i.hdr.operation i.hdr.len = some i.slots.length → us = i.slots) := by
  obtain ⟨us, c, n, h, hu⟩ := s.offerCycle_send i
  rw [h]
  exact ⟨⟨State.wake_txn .., (OnPages.of_regs rfl).trans (State.wake_onPages _ _)⟩, us, State.wake_lnk .., hu⟩

end

/-! ### Requests turned away (R37, R213, R513) -/

section
variable {s : State} {c : DieCycle} {h : Hdr}

/-- The port takes a well-formed header cycle: a request's, or a response's. -/
theorem execDpiHeaderOffer_request (hw : c.wf = true) (hp : s.portOpen = true) (hh : h = hdrOf ((cycleUnits c).headD 0))
    (hr : h.isResponse = false) : execDpiHeaderOffer c s = .next (s.offerRequest c h) := by
  subst hh
  simp only [execDpiHeaderOffer, hw, State.offer, hp, hr, Bool.not_true, Bool.false_eq_true, if_true, if_false]

theorem execDieResponseOffer_response (hw : c.wf = true) (hp : s.portOpen = true) (hh : h = hdrOf ((cycleUnits c).headD 0))
    (hr : h.isResponse = true) : execDieResponseOffer c s = .next (s.offerResponse c h) := by
  subst hh
  simp only [execDieResponseOffer, hw, State.offer, hp, hr, Bool.not_true, Bool.false_eq_true, if_true, if_false]

/-- A TAG that is registered already (R213). -/
theorem State.offerRequest_reused {q : Hdr} (hp : h.isPosted = false) (hn : h.operation ≠ some .nop) (ht : Sparse.find s.txn.outT h.tag = some q) :
    s.offerRequest c h = (((s.bump TXN.ERR_STAT.TAG_REUSE).captureErr h.tag h.ctx 1).raise EV.TXN.TAG_REUSE (h.tag + h.ctx * 2 ^ 16)).offerCycle .sink
      { hdr := s.sentHdr h, slots := (cycleUnits c).drop 1 } c.last := by
  simp only [State.offerRequest, hp, ht, Option.isSome_some, bne_iff_ne.mpr hn, Bool.not_false, Bool.and_self, if_true]

/-- A header that R512 does not turn away is of its opcode's class. -/
theorem offerMalformed_tc {cls : Nat} {o : Op} (hm : offerMalformed cls h = false) (ho : h.operation = some o) : o.tc = h.tc := by
  simp only [offerMalformed, ho, Bool.or_eq_false_iff, bne_eq_false_iff_eq] at hm
  obtain ⟨⟨⟨⟨⟨-, tc⟩, -⟩, -⟩, -⟩, -⟩ := hm
  exact tc

theorem Hdr.isPosted_eq {o : Op} (ho : h.operation = some o) : h.isPosted = o.isPosted := by rw [Hdr.isPosted, ho]
theorem Hdr.isResponse_eq {o : Op} (ho : h.operation = some o) : h.isResponse = o.isResponse := by rw [Hdr.isResponse, ho]

/-- Posted writes are of TC1 (R171). -/
theorem Op.notPosted_of_tc {o : Op} (ht : 2 ≤ o.tc) : o.isPosted = false := by
  revert ht
  cases o <;> decide

/-- A request whose TAG is free, or which has no use for one, is not a reuse. -/
theorem Hdr.notReused (hf : h.isPosted = true ∨ Sparse.find s.txn.outT h.tag = none) :
    (!h.isPosted && (Sparse.find s.txn.outT h.tag).isSome && h.operation != some .nop) = false := by
  rcases hf with hf | hf <;> simp [hf]

/-- In LOWLAND an offer of TC2 or TC3 is answered FMT_REFUSED, before or after its credits are looked at (R37, R201). -/
theorem State.offerRequest_lowland {o : Op} (hf : h.isPosted = true ∨ Sparse.find s.txn.outT h.tag = none)
    (hm : offerMalformed c.cls.toNat h = false) (ho : h.operation = some o) (hc : s.hasCredits h o = true) (hl : s.chip.col = .lowland)
    (ht : 2 ≤ h.tc) :
    s.offerRequest c h =
      (s.turnAway h .fmtRefused 0).offerCycle .sink { hdr := s.sentHdr h, slots := (cycleUnits c).drop 1 } c.last := by
  have request : o ≠ .nop := by
    rintro rfl
    have tc := offerMalformed_tc hm ho
    rw [← tc] at ht
    exact absurd ht (by decide)
  have lowland : s.chip.col = .lowland ∧ 2 ≤ h.tc := ⟨hl, ht⟩
  have fresh := Hdr.notReused hf
  simp only [State.offerRequest, fresh, hm, Bool.false_eq_true, if_false]
  simp only [ho, Option.getD_some, request, hc, Bool.not_true, Bool.false_eq_true, if_false]
  rw [if_pos lowland, ite_self]

/-- The local answer to a request that is turned away (R171, R513). -/
def turnedAwayItem (h : Hdr) (st : Status) : DpoItem :=
  { hdr := { respHdr h st with op := Op.cpl.code, len := 0 }, first := true, units := [], last := true, tent := false, seq := 0, credit := false
    resv := 0 }

/-- A request that wants an answer is registered until the answer is presented, and takes no landing entry. -/
theorem State.turnAway_request (hp : h.isPosted = false) (st : Status) : s.turnAway h st 0 =
    (s.setTxn fun t => { t with outT := Sparse.set h.tag (some h) t.outT }).present' [turnedAwayItem h st] := by
  simp [State.turnAway, hp, pieceItems, turnedAwayItem]

/-- One transfer that is presented waits last for the die, behind whatever must go before it (R220). -/
theorem State.present'_single (s : State) (i : DpoItem) : ∃ b, (s.present' [i]).lnk.dpoQ = s.lnk.dpoQ ++ [{ i with behind := b }] := by
  simp only [State.present', State.setLnk_lnk, List.map_cons, List.map_nil]
  split
  · exact ⟨s.levelAhead i, rfl⟩
  · exact ⟨i.behind, rfl⟩

end

/-! ### Requests taken (R202, R205, R212, R230) -/

section
variable (s : State)

theorem State.consume_reg (n : Nat) {i k : Nat} (h : (CREDIT.TX_STAT.CONS i).key ≠ k) : (s.consume i n).reg k = s.reg k := by
  rw [State.consume, State.refreshAvail, State.put_reg_ne _ _ (f := CREDIT.TX_STAT.AVAIL i) h, State.put_reg_ne _ _ h]

theorem State.consume_regsOnly (i n : Nat) : RegsOnly s (s.consume i n) := ((RegsOnly.refl s).put _ _).put _ _

/-- The counts of other credits stay. -/
theorem State.get_consume_cons_ne (n : Nat) {i j : Nat} (h : i ≠ j) :
    (s.consume i n).get (CREDIT.TX_STAT.CONS j) = s.get (CREDIT.TX_STAT.CONS j) := by
  rw [State.get, s.consume_reg n (by simp only [CREDIT.TX_STAT.CONS]; omega), State.get]

/-- The credits of a request are consumed. -/
def State.charged (h : Hdr) (o : Op) : State := (reqCredits h.tc o h.len).foldl (fun t c => t.consume c.1 c.2) s

/-- A request that wants an answer reserves its landing entries and is registered besides. -/
def State.registered (h : Hdr) (o : Op) : State :=
  if o.isPosted then s.charged h o else
    ((s.charged h o).put CREDIT.RSP_STAT.FREE ((s.charged h o).get CREDIT.RSP_STAT.FREE - respEntries o h.len)).setTxn fun t =>
      { t with outT := Sparse.set h.tag (some h) t.outT }

variable (h : Hdr) (o : Op)

theorem State.charged_regsOnly : RegsOnly s (s.charged h o) :=
  RegsOnly.foldl (fun (t : State) (c : Nat × Nat) => t.consume_regsOnly c.1 c.2) _ s

/-- Each count of credits that a request needs moves by what it needs of them (R202). -/
theorem State.charged_cons : ∀ d ∈ reqCredits h.tc o h.len,
    (s.charged h o).get (CREDIT.TX_STAT.CONS d.1) = (s.get (CREDIT.TX_STAT.CONS d.1) + d.2) % 2 ^ 16 := by
  have apart : h.tc ≠ h.tc + 3 := by omega
  unfold State.charged reqCredits
  split
  · simp only [List.mem_singleton, forall_eq, List.foldl_cons, List.foldl_nil]
    exact s.get_consume_cons ..
  · simp only [List.forall_mem_cons, List.not_mem_nil, false_imp_iff, implies_true, and_true, List.foldl_cons, List.foldl_nil]
    constructor
    · rw [State.get_consume_cons_ne _ _ apart.symm, State.get_consume_cons]
    · rw [State.get_consume_cons, State.get_consume_cons_ne _ _ apart]

theorem State.registered_cons : ∀ d ∈ reqCredits h.tc o h.len,
    (s.registered h o).get (CREDIT.TX_STAT.CONS d.1) = (s.get (CREDIT.TX_STAT.CONS d.1) + d.2) % 2 ^ 16 := by
  intro d hd
  rw [← s.charged_cons h o d hd, State.registered]
  split
  · rfl
  · rw [State.get_setTxn, State.get_put_ne _ _ (by simp only [CREDIT.RSP_STAT.FREE, CREDIT.TX_STAT.CONS]; omega)]

theorem State.registered_lnk : (s.registered h o).lnk = s.lnk := by
  unfold State.registered
  split
  · exact (s.charged_regsOnly h o).lnk
  · exact (State.setTxn_lnk ..).trans ((State.put_lnk ..).trans (s.charged_regsOnly h o).lnk)

/-- A request that wants an answer stands in the table (R212). -/
theorem State.registered_outT (hp : o.isPosted = false) : Sparse.find (s.registered h o).txn.outT h.tag = some h := by
  simp only [State.registered, hp, Bool.false_eq_true, if_false, State.setTxn_txn, Sparse.find_set, if_true]

variable {h o}

theorem State.takeRequest_swift (he : h.early = false) : s.takeRequest h o = (s.registered h o, .send) := by
  simp only [State.takeRequest, he, Bool.false_and, Bool.false_eq_true, if_false]
  rfl

/-- An early read of an H-end as it is entered in the table of early reads (R230). -/
def State.earlyEntry (h : Hdr) : EarlyRead :=
  { hdr := h, since := s.beat, held := !s.on TXN.SPEC_CTL.EARLY_EN, limit := s.get TXN.SPEC_CTL.VERDICT_TIMEOUT }

theorem State.takeRequest_early (he : h.early = true) (hh : s.isH = true) : s.takeRequest h o =
    let t := (s.registered h o).setTxn fun t => { t with early := Sparse.set h.tag (some (s.earlyEntry h)) t.early }
    if s.on TXN.SPEC_CTL.EARLY_EN then (t.bump TXN.SPEC_STAT_HI.EARLY_ISSUED, .send) else (t, .hold) := by
  simp only [State.takeRequest, he, hh, Bool.and_self, if_true, State.earlyEntry]
  cases s.on TXN.SPEC_CTL.EARLY_EN with
  | true => simp only [if_true]; rfl
  | false => simp only [Bool.false_eq_true, if_false]; rfl

/-- A request that nothing turns away is taken, and its cycle with it (R35, R513). -/
theorem State.offerRequest_taken {c : DieCycle} (hf : h.isPosted = true ∨ Sparse.find s.txn.outT h.tag = none)
    (hm : offerMalformed c.cls.toNat h = false) (ho : h.operation = some o) (hn : o ≠ .nop) (hr : s.fmtRefused h o = false)
    (hc : s.hasCredits h o = true) (hl : ¬ (s.chip.col = .lowland ∧ 2 ≤ h.tc)) (hd : s.get TXN.DRAIN_STAT.PHASE ≠ 1)
    (hq : o.isPosted = true ∨ respEntries o h.len ≤ s.get CREDIT.RSP_STAT.FREE) :
    s.offerRequest c h = ((s.takeRequest h o).1.offerCycle (s.takeRequest h o).2 { hdr := s.sentHdr h, slots := (cycleUnits c).drop 1 } c.last).wake 1 := by
  have room : (!o.isPosted && decide (s.get CREDIT.RSP_STAT.FREE < respEntries o h.len)) = false := by
    rcases hq with hq | hq
    · simp [hq]
    · simp [Nat.not_lt.mpr hq]
  have fresh := Hdr.notReused hf
  simp only [State.offerRequest, fresh, hm, Bool.false_eq_true, if_false]
  simp only [ho, Option.getD_some, hn, hr, hc, hl, room, hd, Bool.not_true, Bool.false_eq_true, if_false]

theorem State.sentHdr_operation : (s.sentHdr h).operation = h.operation := rfl
theorem State.sentHdr_len : (s.sentHdr h).len = h.len := rfl

end

/-! ### Responses (R214, R231) -/

section
variable {s : State} {c : DieCycle} {h : Hdr} (hg : s.txn.gone.contains h.tag = false)
include hg

/-- A response as it crosses the Col: under its request's TAG, class and context (R171). -/
def answerHdr (q h : Hdr) : Hdr :=
  { h with tc := q.tc, ctx := q.ctx, lvl := false, rsvd := false, addr := 0, attr := if h.status = 1 ∨ h.status = 6 then setBit h.attr 1 else h.attr }

theorem State.offerResponse_fits {q : Hdr} (hs : Sparse.find s.txn.served h.tag = some q) (hx : s.txn.squashed.contains h.tag = false)
    (hf : rspFits q h = true) : s.offerResponse c h =
      ((s.setTxn fun t => { t with served := Sparse.set h.tag none t.served }).offerCycle .send
        { hdr := answerHdr q h, slots := (cycleUnits c).drop 1 } c.last).wake 2 := by
  have squashed : (s.setTxn fun t => { t with served := Sparse.set h.tag none t.served }).txn.squashed.contains h.tag = false := hx
  simp only [State.offerResponse, hg, hs, squashed, hf, Bool.not_true, Bool.false_eq_true, if_false]
  rfl

theorem State.offerResponse_orphan (hs : Sparse.find s.txn.served h.tag = none) : s.offerResponse c h =
    (((s.bump TXN.ERR_STAT.ORPHAN_DIE).captureErr h.tag h.ctx 2).raise EV.TXN.RSP_ORPHAN (h.tag + 2 * 2 ^ 16)).offerCycle .sink
      { hdr := h, slots := [] } c.last := by
  simp only [State.offerResponse, hg, hs, Bool.false_eq_true, if_false]

end

/-! ### Continuations (R35) -/

theorem execDpiContinuation_taken {s : State} {c : DieCycle} {m : TakeMode} {i : TxItem} (hw : c.wf = true) (hd : s.chip.dieRst = false)
    (h1 : s.clkOn 1 = true) (hc : s.lnk.txCur = some (m, i)) :
    execDpiContinuation c s = .next (s.offerCycle m { i with slots := i.slots ++ cycleUnits c } c.last) := by
  simp only [execDpiContinuation, hw, hd, h1, hc, Bool.not_true, Bool.or_self, Bool.false_eq_true, if_false]

theorem hdrOf_tag_lt (u : Nat) : (hdrOf u).tag < 2 ^ 12 := bits_lt ..
theorem hdrOf_ctx_lt (u : Nat) : (hdrOf u).ctx < 2 ^ 14 := bits_lt ..

/-- Settles O18: each offer meets one treatment of R513, and what it leaves is read from the treatment and from the last cycle of its transaction. -/
theorem dieOffersAreTakenSentOrTurnedAway : Obligations.DieOffersAreTakenSentOrTurnedAway := by
  unfold Obligations.DieOffersAreTakenSentOrTurnedAway
  refine ⟨?reused, ?lowland, ?sent, ?early, ?more, ?last, ?response, ?orphan⟩
  case reused =>
    intro s c h q hw hp hh hr hpost hn ht
    obtain ⟨counted, tag, ctx, -, raised, pages, txn, lnk⟩ := s.countedCaptured_spec (f := TXN.ERR_STAT.TAG_REUSE) (e := EV.TXN.TAG_REUSE)
      ⟨rfl, by decide⟩ (by decide) h.tag h.ctx 1 (h.tag + h.ctx * 2 ^ 16)
    have credit (f : Field) (hf : f.key / 4096 = 7) := pages.get (f := f) (by rw [hf]; decide)
    rw [exec_dpiHeaderOffer, execDpiHeaderOffer_request hw hp hh hr, State.offerRequest_reused hpost hn ht, State.offerCycle_sink]
    refine ⟨_, rfl, txn, by rw [State.setLnk_lnk, lnk], by rw [State.setLnk_lnk, lnk], ?_, fun k hk => State.avail_congr credit hk, credit _ rfl, counted, ?_, ?_, raised⟩
    · cases c.last <;> rfl
    · exact tag.trans (Nat.mod_eq_of_lt (hh ▸ hdrOf_tag_lt _))
    · exact ctx.trans (Nat.mod_eq_of_lt (hh ▸ hdrOf_ctx_lt _))
  case lowland =>
    intro s c h o hw hp hh hr hf hm ho hc hl ht
    have wanted : h.isPosted = false := by
      rw [Hdr.isPosted_eq ho]
      exact Op.notPosted_of_tc (offerMalformed_tc hm ho ▸ ht)
    rw [exec_dpiHeaderOffer, execDpiHeaderOffer_request hw hp hh hr, State.offerRequest_lowland hf hm ho hc hl ht, State.turnAway_request wanted,
      State.offerCycle_sink]
    obtain ⟨b, queued⟩ := (s.setTxn fun t => { t with outT := Sparse.set h.tag (some h) t.outT }).present'_single (turnedAwayItem h .fmtRefused)
    refine ⟨_, { turnedAwayItem h .fmtRefused with behind := b }, rfl, rfl, queued, rfl, rfl, rfl, rfl, ?_⟩
    rw [State.setLnk_txn, State.present'_txn, State.setTxn_txn, Sparse.find_set, if_pos rfl]
  case sent =>
    intro s c h o hw hp hh hr hf hm ho hn hfr hc hl hd hq he hlast hslots
    rw [exec_dpiHeaderOffer, execDpiHeaderOffer_request hw hp hh hr, s.offerRequest_taken hf hm ho hn hfr hc hl hd hq, s.takeRequest_swift he, hlast]
    obtain ⟨⟨txn, pages⟩, us, lnk, whole⟩ := (s.registered h o).offerCycle_send_spec { hdr := s.sentHdr h, slots := (cycleUnits c).drop 1 }
    obtain rfl := whole (by rw [State.sentHdr_operation, ho, State.sentHdr_len, hslots, List.length_drop])
    refine ⟨_, rfl, ?_, fun d hd' => ?_, fun hpost => ?_⟩
    · rw [State.wake_lnk, lnk, s.registered_lnk h o]
    · rw [← s.registered_cons h o d hd']
      have page := consKey_page (reqCredits_index_lt h.len (offerMalformed_tc hm ho ▸ o.tc_lt) d hd')
      exact (pages.trans (State.wake_onPages _ _)).get (by rw [page]; decide)
    · rw [State.wake_txn, txn]
      exact s.registered_outT h o hpost
  case early =>
    intro s c h hw hp hh hf hm ho he hH hfr hc hd hq hlast
    have swift : ¬ (s.chip.col = .lowland ∧ 2 ≤ h.tc) := by
      rw [← offerMalformed_tc hm ho]
      exact fun hl => absurd hl.2 (by decide)
    rw [exec_dpiHeaderOffer, execDpiHeaderOffer_request hw hp hh (Hdr.isResponse_eq ho),
      s.offerRequest_taken (.inr hf) hm ho (by decide) hfr hc swift hd (.inr hq), s.takeRequest_early he hH, hlast]
    dsimp only
    cases hen : s.on TXN.SPEC_CTL.EARLY_EN with
    | true =>
      obtain ⟨⟨txn, -⟩, -⟩ := State.offerCycle_send_spec ((((s.registered h .rd).setTxn fun t =>
        { t with early := Sparse.set h.tag (some (s.earlyEntry h)) t.early })).bump TXN.SPEC_STAT_HI.EARLY_ISSUED)
        { hdr := s.sentHdr h, slots := (cycleUnits c).drop 1 }
      refine ⟨_, rfl, nofun, ?_⟩
      rw [if_pos rfl, State.wake_txn, txn, State.bump_txn, State.setTxn_txn, Sparse.find_set, if_pos rfl, State.earlyEntry, hen]
    | false =>
      refine ⟨_, rfl, fun _ => ?_, ?_⟩
      · rw [if_neg Bool.false_ne_true, State.wake_lnk, State.offerCycle_hold, State.setLnk_lnk, State.setTxn_lnk, s.registered_lnk]
      · rw [if_neg Bool.false_ne_true, State.wake_txn, State.offerCycle_hold, State.setLnk_txn, State.setTxn_txn, Sparse.find_set, if_pos rfl,
          State.earlyEntry, hen]
  case more =>
    intro s c m i hw hd h1 hc hl
    rw [exec_dpiContinuation, execDpiContinuation_taken hw hd h1 hc, hl]
    exact ⟨_, rfl, rfl, rfl⟩
  case last =>
    intro s c i hw hd h1 hc hl hn
    rw [exec_dpiContinuation, execDpiContinuation_taken hw hd h1 hc, hl]
    obtain ⟨-, us, lnk, whole⟩ := s.offerCycle_send_spec { i with slots := i.slots ++ cycleUnits c }
    obtain rfl := whole hn
    exact ⟨_, rfl, congrArg Link.txCur lnk, congrArg Link.txQ lnk⟩
  case response =>
    intro s c h q hw hp hh hr hg hs hx hf hlast
    rw [exec_dieResponseOffer, execDieResponseOffer_response hw hp hh hr, State.offerResponse_fits hg hs hx hf, hlast]
    obtain ⟨⟨txn, -⟩, us, lnk, -⟩ := (s.setTxn fun t => { t with served := Sparse.set h.tag none t.served }).offerCycle_send_spec
      { hdr := answerHdr q h, slots := (cycleUnits c).drop 1 }
    refine ⟨_, { hdr := answerHdr q h, slots := us }, rfl, ?_, ?_, rfl, rfl, rfl, rfl, rfl⟩
    · rw [State.wake_txn, txn, State.setTxn_txn, Sparse.find_set, if_pos rfl]
    · rw [State.wake_lnk, lnk, State.setTxn_lnk]
  case orphan =>
    intro s c h hw hp hh hr hg hs
    obtain ⟨counted, tag, -, kind, raised, -, -, lnk⟩ := s.countedCaptured_spec (f := TXN.ERR_STAT.ORPHAN_DIE) (e := EV.TXN.RSP_ORPHAN)
      ⟨rfl, by decide⟩ (by decide) h.tag h.ctx 2 (h.tag + 2 * 2 ^ 16)
    rw [exec_dieResponseOffer, execDieResponseOffer_response hw hp hh hr, State.offerResponse_orphan hg hs, State.offerCycle_sink]
    exact ⟨_, rfl, by rw [State.setLnk_lnk, lnk], counted, tag.trans (Nat.mod_eq_of_lt (hh ▸ hdrOf_tag_lt _)), kind, raised⟩

end Sys2Proof.Machine
end

section
/-!
PROOFS. Memory drains, which begin, end at once where nothing waits, and end at their bound (R240, R455), and the lost contexts that firmware reads
(R456).
-/

namespace Sys2Proof.Machine

theorem exec_mdrainGo (s : State) : exec .mdrainGo s = execMdrainGo s := rfl
theorem exec_mdrainBound (now : Beat) (s : State) : exec (.mdrainBound now) s = execMdrainBound now s := rfl
theorem exec_lostFifoRead (s : State) : exec .lostFifoRead s = execLostFifoRead s := rfl

/-! ### What a token's release leaves of the registers (R400) -/

/-- The register is none of those that an event writes (R248, R455). -/
def Unraised (k : Nat) : Prop := k % 4096 ≠ 0x018 ∧ k % 4096 ≠ 0x020 ∧ k % 4096 ≠ 0x038 ∧ k ≠ RESET.XING_STAT.OVERRUN.key

section
variable (s : State) {k : Nat} (hk : Unraised k)

theorem State.setTblPart_reg (i : Nat) (w : Word) : (s.setTblPart i w).reg k = s.reg k := by
  obtain ⟨_, _, h⟩ := s.setTblPart_eq i w
  rw [h]
  rfl

theorem State.setWin_reg (n : Nat) (f : WinField) (v : Nat) : (s.setWin n f v).reg k = s.reg k := s.setTblPart_reg ..

theorem State.freeWindow_reg (n : Nat) : (s.freeWindow n).reg k = s.reg k := State.setWin_reg ..

include hk

theorem State.raise_reg_unraised (e : Event) (v : Nat) : (s.raise e v).reg k = s.reg k := by
  obtain ⟨h1, h2, h3, h4⟩ := hk
  exact s.raise_reg e v k h1 h2 h3 h4

theorem State.failWindow_reg (n : Nat) (o : List Nat) : (s.failWindow n o false).reg k = s.reg k := by
  have outcomes (t : State) : (o.foldl (fun t b => t.setOutcome n b) t).reg k = t.reg k :=
    foldl_keeps (fun t => t.reg k) (fun t b => t.setWin_reg n _ _) o t
  simp only [State.failWindow, Bool.false_eq_true, if_false, State.raise_reg_unraised _ hk, outcomes, State.setWin_reg]
  rfl

theorem State.endWindows_reg : s.endWindows.reg k = s.reg k :=
  (foldl_keeps (fun t => t.reg k) (fun t n => t.freeWindow_reg n) _ _).trans
    (foldl_keeps (fun t => t.reg k) (fun t n => t.failWindow_reg hk n [4]) _ s)

theorem State.reportLost_reg (c cause : Nat) : (s.reportLost c cause).reg k = s.reg k := by
  have marked : (s.markLost c).reg k = s.reg k := by
    unfold State.markLost
    split
    · exact s.setTblPart_reg ..
    · rfl
  unfold State.reportLost
  dsimp only
  rw [State.raise_reg_unraised _ hk]
  split
  · exact marked
  · exact marked

theorem State.releaseWindows_reg : s.releaseWindows.reg k = s.reg k :=
  (foldl_keeps (fun t => t.reg k) (fun t c => t.reportLost_reg hk c 7) _ _).trans (s.endWindows_reg hk)

omit hk in
/-- A change of the pair role writes ROLE_STAT alone. -/
theorem State.setProle_reg (r : Nat) (hr : PAIR.ROLE_STAT.PROLE.key ≠ k) : (s.setProle r).reg k = s.reg k := by
  have word (t : State) : t.sendWord.reg k = t.reg k := by
    obtain ⟨_, _, _, h⟩ := t.sendWord_frame
    rw [h]
    rfl
  rw [State.setProle, word, State.reg_congr (State.setPair_regs ..), State.put_reg_ne _ _ hr]
  split
  · rfl
  · rfl

/-- A release that has nothing left to answer changes no register but its count, the pair role and those of its events. -/
theorem State.releaseToken_reg (cause : Nat) (hc : PAIR.TOKEN_STAT.RELEASED.key ≠ k) (hr : PAIR.ROLE_STAT.PROLE.key ≠ k) :
    (s.releaseToken cause true).reg k = s.reg k := by
  simp only [State.releaseToken, Bool.true_or, if_true]
  rw [State.raise_reg_unraised _ hk, State.setProle_reg _ _ hr, State.reg_congr (State.setPair_regs ..), State.bump_reg_ne _ hc]
  split
  · exact s.releaseWindows_reg hk
  · rfl

theorem State.leaveDone_reg (hc : PAIR.TOKEN_STAT.RELEASED.key ≠ k) (hr : PAIR.ROLE_STAT.PROLE.key ≠ k) : s.leaveDone.reg k = s.reg k := by
  unfold State.leaveDone
  split
  · split
    · exact s.releaseToken_reg hk 1 hc hr
    · exact State.reg_congr (State.setPair_regs ..) k
  · rfl

end

/-! ### The beginning and the end of a memory drain (R240, R455) -/

section
variable (s : State)

/-- A memory drain begins: DONE falls, RUNNING rises, and its beat is noted. -/
def State.mdrainBegun : State := ((s.put TXN.MDRAIN_STAT.DONE 0).put TXN.MDRAIN_STAT.RUNNING 1).setTxn fun t => { t with mdrainAt := s.beat }

theorem State.mdrainBegun_get : s.mdrainBegun.get TXN.MDRAIN_STAT.RUNNING = 1 ∧ s.mdrainBegun.get TXN.MDRAIN_STAT.DONE = 0 := by
  constructor
  · rw [State.mdrainBegun, State.get_setTxn, State.get_put_same _ _ _ (by decide)]
    rfl
  · rw [State.mdrainBegun, State.get_setTxn, State.get_put_apart _ _ (by decide), State.get_put_same _ _ _ (by decide)]
    rfl

/-- What memory is waited for does not depend on MDRAIN_STAT. -/
theorem State.mdrainBegun_drainWaits : s.mdrainBegun.drainWaits = s.drainWaits := by
  have drained (r) (b : Beat) : State.drainWaits { s with regs := r, txn := { s.txn with mdrainAt := b } } = s.drainWaits := rfl
  exact drained _ _

theorem State.mdrainDone_get : s.mdrainDone.get TXN.MDRAIN_STAT.RUNNING = 0 ∧ s.mdrainDone.get TXN.MDRAIN_STAT.DONE = 1 := by
  constructor
  · rw [State.mdrainDone, State.get_put_apart _ _ (by decide), State.get_put_same _ _ _ (by decide)]
    rfl
  · rw [State.mdrainDone, State.get_put_same _ _ _ (by decide)]
    rfl

/-- The release of the token that may follow a drain's end leaves MDRAIN_STAT. -/
theorem State.mdrainDone_leaveDone_get :
    s.mdrainDone.leaveDone.get TXN.MDRAIN_STAT.RUNNING = 0 ∧ s.mdrainDone.leaveDone.get TXN.MDRAIN_STAT.DONE = 1 := by
  have stat : s.mdrainDone.leaveDone.reg TXN.MDRAIN_STAT.RUNNING.key = s.mdrainDone.reg TXN.MDRAIN_STAT.RUNNING.key :=
    State.leaveDone_reg _ (by unfold Unraised; decide) (by decide) (by decide)
  obtain ⟨running, done⟩ := s.mdrainDone_get
  have field (lo w : Nat) := congrArg (fun x : Word => bits x.toNat lo w) stat
  exact ⟨(field 1 1).trans running, (field 0 1).trans done⟩

variable {s}

/-- A GO at an M-end that has no drain under way. -/
theorem execMdrainGo_idle (hup : HostUp s (keyDomains TXN.MDRAIN_CMD.GO.key)) (hM : s.isM = true) (hr : s.on TXN.MDRAIN_STAT.RUNNING = false) :
    execMdrainGo s = .next (if s.drainWaits then s.mdrainBegun else s.mdrainBegun.mdrainDone) := by
  have present : s.present (TXN.MDRAIN_CMD.GO.key / 4096) = true := s.present_of_role (State.role_of_isM hM) (by decide)
  rw [execMdrainGo, State.command_eq _ hup, ← s.mdrainBegun_drainWaits]
  simp only [present, hM, hr, Bool.not_true, Bool.true_eq_false, Bool.false_eq_true, if_false]
  rfl

/-- A drain for which nothing waits is done, and one at its bound is done with what still waits answered: either way MDRAIN_STAT says so. -/
theorem execMdrainBound_done {now : Beat} (hr : (s.at now).on TXN.MDRAIN_STAT.RUNNING = true)
    (hw : (s.at now).drainWaits = false ∨ (s.at now).past s.txn.mdrainAt (s.get TXN.DRAIN_CTL.BOUND) = true) :
    ∃ u : State, execMdrainBound now s = .next u.mdrainDone ∨ execMdrainBound now s = .next u.mdrainDone.leaveDone := by
  cases hd : (s.at now).drainWaits with
  | false =>
    simp only [execMdrainBound, hr, hd, Bool.not_true, Bool.not_false, Bool.false_eq_true, if_false, if_true]
    exact ⟨s.at now, .inl rfl⟩
  | true =>
    have past := hw.resolve_left (by rw [hd]; decide)
    rw [← State.at_txn s now, ← State.at_get s now] at past
    simp only [execMdrainBound, hr, hd, past, Bool.not_true, Bool.false_eq_true, if_false, if_true]
    exact ⟨_, .inr rfl⟩

end

/-! ### Lost contexts (R456) -/

/-- A read of the queue gives the oldest entry, and tells whether entries were dropped. -/
theorem execLostFifoRead_out {s : State} (hup : HostUp s (keyDomains TXN.LOST_FIFO.CTX.key)) (hp : s.present 8 = true) {e : LostEntry}
    {l : List LostEntry} (hq : s.lostQ = e :: l) : execLostFifoRead s = .next (({ s with lostOvf := false, lostQ := l } : State).mbRead
      (BitVec.ofNat 64 (packLow [(e.ctx, 14), (1, 1), (0, 1), (e.cause, 4), (0, 12), (e.beat, 32)] + b2n s.lostOvf * 2 ^ 15))) := by
  rw [execLostFifoRead, s.accessRead_eq hup.needs]
  simp only [hp, hq, Bool.not_true, Bool.false_eq_true, if_false, List.drop_succ_cons, List.drop_zero]

/-- Settles O14: a GO begins a drain or, where nothing waits, ends it at once; at its bound the drain ends, and the release of the token that may
follow leaves what it says; a read of the queue takes its oldest entry. -/
theorem memoryDrainsAndLostContextsAreRead : Obligations.MemoryDrainsAndLostContextsAreRead := by
  unfold Obligations.MemoryDrainsAndLostContextsAreRead
  refine ⟨?begun, ?atOnce, ?bound, ?lost⟩
  case begun =>
    intro s hup hM hr hw
    obtain ⟨running, done⟩ := s.mdrainBegun_get
    rw [exec_mdrainGo, execMdrainGo_idle hup hM hr, hw]
    exact ⟨_, rfl, running, done, rfl⟩
  case atOnce =>
    intro s hup hM hr hw
    rw [exec_mdrainGo, execMdrainGo_idle hup hM hr, hw]
    exact ⟨_, rfl, s.mdrainBegun.mdrainDone_get⟩
  case bound =>
    intro s now hr hw
    rw [exec_mdrainBound]
    obtain ⟨u, h | h⟩ := execMdrainBound_done hr hw
    · exact ⟨_, h, u.mdrainDone_get⟩
    · exact ⟨_, h, u.mdrainDone_leaveDone_get⟩
  case lost =>
    intro s e l hup hrole hq
    rw [exec_lostFifoRead, execLostFifoRead_out hup (s.present_of_role hrole (by decide)) hq]
    exact ⟨_, rfl, rfl, rfl, rfl⟩

end Sys2Proof.Machine
end

section
/-!
PROOFS. A Col drains in phases (R203, R234, R400): the statement leaves the classes of the requests at the engine free, and a token's release counts
the credits of those that it answers by their class.
-/

namespace Sys2Proof.Machine

/-- An atomic operation whose class is not one of the four (R169), and for which a count of freed credits is the word of DRAIN_STAT. -/
def drainClassHdr : Hdr := { strayClassHdr with tc := 506 }

/-- The owner of the token in service, with that one request at its engine. -/
def drainClassState : State :=
  { strayClassState.put PAIR.ROLE_STAT.PROLE 5 with txn.engQ := [{ strayClassReq with hdr := drainClassHdr }] }

/-- The count of credits freed for that class is the word that holds PHASE. -/
theorem drainClass_key : (CREDIT.RX_STAT.RETURNED drainClassHdr.tc).key = TXN.DRAIN_STAT.PHASE.key := by decide

theorem drainClass_hostUp : HostUp drainClassState (keyDomains TXN.DRAIN_CMD.GO.key) := by
  unfold HostUp
  decide +kernel

theorem drainClass_owner : drainClassState.isM = true ∧ drainClassState.get TXN.DRAIN_STAT.PHASE ∉ [1, 2] ∧
    drainClassState.colIn [.active, .quietRepair, .widthChange, .lowland] = true ∧ drainClassState.isOwner = true := by
  decide +kernel

/-- The release that DRAIN_GO begins counts the request's credit in the word of DRAIN_STAT: PHASE goes on from 1 to 2. -/
theorem drainClass_phase :
    (match exec .drainGo drainClassState with | .next t => some (t.get TXN.DRAIN_STAT.PHASE) | _ => none) = some 2 := by
  decide +kernel

/-- Refutes O13: the second clause leaves the classes of the requests at the engine free. A request of class 506, which no header on the wire
spells (R169), is answered RETRY as the token is released (R400), and the credit that it frees (R203) is counted in the word of DRAIN_STAT, where
PHASE then reads 2 and not 1. -/
theorem not_colDrainsInPhases : ¬ Obligations.ColDrainsInPhases := by
  unfold Obligations.ColDrainsInPhases
  rintro ⟨-, owner, -⟩
  obtain ⟨hM, hidle, hcol, howner⟩ := drainClass_owner
  obtain ⟨t, ht, hone, -⟩ := owner drainClassState drainClass_hostUp hM hidle hcol howner
  have htwo := drainClass_phase
  rw [ht] at htwo
  exact absurd (hone.symm.trans (Option.some.inj htwo)) (by decide)

end Sys2Proof.Machine
end

section
/-!
PROOFS. Frames about a Col reset, and counters cleared (R262 to R264, R441).
-/

namespace Sys2Proof.Machine

theorem exec_resetReq (c : SbCopies) (s : State) : exec (.resetReq c) s = execResetReq c s := rfl
theorem exec_resetAck (c : SbCopies) (s : State) : exec (.resetAck c) s = execResetAck c s := rfl
theorem exec_resetReqRepeat (now : Beat) (s : State) : exec (.resetReqRepeat now) s = execResetReqRepeat now s := rfl
theorem exec_softClr (s : State) : exec .softClr s = execSoftClr s := rfl

/-! ### Frames of a Col reset (R263, R264) -/

@[simp] theorem State.sbSend_plan (s : State) (t : SbType) (pl : Nat) : (s.sbSend t pl).chip.plan = s.chip.plan := by
  obtain ⟨_, _, _, h⟩ := s.sbSend_frame t pl
  rw [h]

@[simp] theorem State.setPlan_plan (s : State) (p : ResetPlan) : (s.setPlan p).chip.plan = some p := rfl

/-- The plan of an end that answers a REQ for the beat with the low bits `low`. -/
def State.answeredPlan (s : State) (low : Nat) : ResetPlan :=
  { beat := resolveBeat 22 low s.beat, initiator := false, acked := true, lastReq := s.beat, settled := false }

/-- An end without a plan takes the beat of the REQ, and answers it. -/
theorem State.onResetReq_new {s : State} (h : s.chip.plan = none) (low : Nat) :
    s.onResetReq low = (s.setPlan (s.answeredPlan low)).sbSend .reset (resetPayload 2 (s.answeredPlan low).beat) := by
  unfold State.onResetReq
  rw [h]
  rfl

theorem execResetReq_eq {s r : State} {c : SbCopies} {b : Nat} (h : Heard s c b r) (ht : bodyType b = SbType.reset.code)
    (hk : bits (bodyPayload b) 36 4 = 1) : execResetReq c s = .next (r.onResetReq (bits (bodyPayload b) 0 22)) := by
  rw [execResetReq, State.receive_eq h ht, if_pos hk]

/-- The state with another plan held. -/
def State.withPlan (s : State) (p : ResetPlan) : State := { s with chip := { s.chip with plan := some p } }

theorem State.withPlan_sends {s : State} (h : s.sbSends = true) (p : ResetPlan) (t : SbType) (pl : Nat) :
    ((s.withPlan p).sbSend t pl).out = .sb (sbFrame t.code s.sb.fseq pl) (if s.oneChannel then 1 else 7) :: s.out := by
  rw [State.sbSend_eq (s.withPlan p) h]
  rfl

theorem execResetAck_eq {s r : State} {c : SbCopies} {b : Nat} {p : ResetPlan} (h : Heard s c b r) (ht : bodyType b = SbType.reset.code)
    (hk : bits (bodyPayload b) 36 4 = 2) (hp : r.chip.plan = some p) (hi : p.initiator = true)
    (hb : p.beat.toNat % 2 ^ 22 = bits (bodyPayload b) 0 22) : execResetAck c s = .next (r.withPlan { p with acked := true }) := by
  rw [execResetAck, State.receive_eq h ht, hp]
  exact congrArg _ (if_pos ⟨hk, hi, hb⟩)

theorem execResetReqRepeat_eq {s r : State} {now : Beat} {p : ResetPlan} (hr : s.at now = r) (hp : r.chip.plan = some p) (hi : p.initiator = true)
    (ha : p.acked = false) (hlast : r.past p.lastReq 1024 = true) (hb : r.beat < p.beat - 1024) :
    execResetReqRepeat now s = .next ((r.withPlan { p with lastReq := r.beat }).sbSend .reset (resetPayload 1 p.beat)) := by
  subst hr
  simp only [execResetReqRepeat, hp, hi, ha, hlast, hb, decide_true, Bool.not_false, Bool.and_self, if_true, State.withPlan]

/-! ### Cleared fields (R441, R443, R446) -/

/-- Clearing some bits of a word leaves a field that reads zero at zero. -/
theorem bits_setBits_zero {w : Word} {lo wd : Nat} (lo' wd' : Nat) (hf : lo + wd ≤ 64) (h : bits w.toNat lo wd = 0) :
    bits (setBits w lo' wd' 0).toNat lo wd = 0 := by
  apply Nat.eq_of_testBit_eq
  intro i
  have bit := congrArg (Nat.testBit · i) h
  simp only [bits_testBit, Nat.zero_testBit, Bool.and_eq_false_iff] at bit ⊢
  by_cases hi : i < wd
  · right
    have set := setBits_getLsbD w lo' wd' 0 (lo + i) (by omega)
    rw [BitVec.getLsbD, BitVec.getLsbD] at set
    rw [set]
    split
    · exact Nat.zero_testBit _
    · exact bit.resolve_left (by simpa using hi)
  · left
    simpa using hi

section
variable {s : State} {f : Field} (hf : f.lo + f.width ≤ 64) (h : s.get f = 0)
include hf h

theorem State.put_zero_keeps (g : Field) : (s.put g 0).get f = 0 := by
  by_cases hk : g.key = f.key
  · rw [State.get, State.put, hk, State.setReg_reg_same]
    exact bits_setBits_zero _ _ hf h
  · rw [State.get_put_ne _ _ hk, h]

theorem State.clearAll_keeps (l : List Field) : (s.clearAll l).get f = 0 := by
  induction l generalizing s with
  | nil => exact h
  | cons g l ih => exact ih (State.put_zero_keeps hf h g)

omit hf in
theorem State.setReg_zero_keeps (k : Nat) : (s.setReg k 0).get f = 0 := by
  rw [State.get, State.setReg_reg]
  split
  · simp [bits]
  · exact h

omit h in
/-- What clearing a page's counters leaves zero stays so as its ECC registers are cleared. -/
theorem State.clearPage_zero {p : Nat}
    (h : (s.clearAll (pageCounters p ++ [PAGE.PAGE_STAT.EVT_COUNT p, PAGE.REFUSED.COUNT p])).get f = 0) : (s.clearPage p).get f = 0 := by
  unfold State.clearPage
  dsimp only
  split
  · refine State.setReg_zero_keeps (State.clearAll_keeps hf ?_ _) _
    split <;> exact h
  · split <;> exact h

theorem State.clearPage_keeps (p : Nat) : (s.clearPage p).get f = 0 := State.clearPage_zero hf (State.clearAll_keeps hf h _)

theorem State.clearPages_keep (l : List Nat) : (l.foldl State.clearPage s).get f = 0 :=
  List.foldlRecOn (motive := fun t : State => t.get f = 0) l _ h fun _ ht p _ => State.clearPage_keeps hf ht p

end

/-- Fields that are cleared read zero. -/
theorem State.clearAll_get (s : State) {l : List Field} {f : Field} (hf : f.lo + f.width ≤ 64) (hl : f ∈ l) : (s.clearAll l).get f = 0 := by
  induction l generalizing s with
  | nil => cases hl
  | cons g l ih =>
    rcases List.mem_cons.mp hl with rfl | hl
    · exact State.clearAll_keeps hf ((s.get_put_same f 0 hf).trans (Nat.zero_mod _)) l
    · exact ih (s.put g 0) hl

/-- The statistics counters of a page that is cleared read zero. -/
theorem State.clearPage_counters (s : State) {p : Nat} {f : Field} (hf : f.lo + f.width ≤ 64) (hp : f ∈ pageCounters p) :
    (s.clearPage p).get f = 0 :=
  State.clearPage_zero hf (s.clearAll_get hf (List.mem_append_left _ hp))

/-- The counters of every page among those cleared read zero: what is cleared after a page leaves them so. -/
theorem State.clearPages_counters (s : State) {l : List Nat} {p : Nat} {f : Field} (hf : f.lo + f.width ≤ 64) (hl : p ∈ l)
    (hp : f ∈ pageCounters p) : (l.foldl State.clearPage s).get f = 0 := by
  induction l generalizing s with
  | nil => cases hl
  | cons q l ih =>
    rcases List.mem_cons.mp hl with rfl | hl
    · exact State.clearPages_keep hf (s.clearPage_counters hf hp) l
    · exact ih (s.clearPage q) hl

/-- Every statistics counter lies within its register. -/
theorem pageCounters_fit : ∀ p < 16, ∀ f ∈ pageCounters p, f.lo + f.width ≤ 64 := by decide

/-! ### Commands of the RESET page (R440, R453) -/

/-- The RESET page serves every role. -/
theorem State.command_reset {s : State} {key : Nat} (h : HostUp s (keyDomains key)) (hk : key / 4096 = 1) {data : Word}
    {check : State → Option Reason} (hc : check s = none) (act : State → State) : s.command key data check act = act s := by
  have present : s.present (key / 4096) = true := by rw [hk]; rfl
  simp only [s.command_eq h, present, hc, Bool.true_eq_false, if_false]

theorem execSoftClr_eq {s : State} (h : HostUp s (keyDomains RESET.SOFT_CLR.GO.key)) :
    execSoftClr s = .next (((List.range 16).foldl State.clearPage s).put RESET.XING_STAT.OVERRUN 0) := by
  rw [execSoftClr, State.command_reset h rfl rfl]

/-- Settles O7: a REQ is taken where no reset is planned, an ACK for the planned beat is noted, a REQ without one goes again, and SOFT_CLR
clears page after page, none of which restores what another has cleared. -/
theorem resetRequestsAreAnsweredAndCountersClear : Obligations.ResetRequestsAreAnsweredAndCountersClear := by
  unfold Obligations.ResetRequestsAreAnsweredAndCountersClear
  refine ⟨?req, ?ack, ?again, ?clear⟩
  case req =>
    intro s c b r h ht hk hp
    rw [exec_resetReq, execResetReq_eq h ht hk, State.onResetReq_new hp]
    exact ⟨_, rfl, State.sbSend_plan ..⟩
  case ack =>
    intro s c b r p h ht hk hp hi hb
    rw [exec_resetAck, execResetAck_eq h ht hk hp hi hb]
    exact ⟨_, rfl, rfl⟩
  case again =>
    intro s now p hp hi ha hlast hb hsend
    rw [exec_resetReqRepeat, execResetReqRepeat_eq rfl hp hi ha hlast hb]
    refine ⟨_, rfl, State.sbSend_plan .., ?_⟩
    rw [State.withPlan_sends hsend, State.at_sb, State.at_oneChannel, State.at_out]
  case clear =>
    intro s h
    rw [exec_softClr, execSoftClr_eq h]
    refine ⟨_, rfl, State.get_put_same _ _ _ (by decide), fun p hp f hf => ?_⟩
    have fits := pageCounters_fit p hp f hf
    exact State.put_zero_keeps fits (s.clearPages_counters fits (List.mem_range.mpr hp) hf) _

end Sys2Proof.Machine
end

section
/-!
PROOFS. Col resets: asked for, applied alone or at the agreed beat, and released in steps (R264 to R266).
-/

namespace Sys2Proof.Machine

theorem exec_colRstGo (s : State) : exec .colRstGo s = execColRstGo s := rfl
theorem exec_colRstNow (s : State) : exec .colRstNow s = execColRstNow s := rfl
theorem exec_resetSettleBeat (now : Beat) (s : State) : exec (.resetSettleBeat now) s = execResetSettleBeat now s := rfl
theorem exec_resetBeat (now : Beat) (s : State) : exec (.resetBeat now) s = execResetBeat now s := rfl
theorem exec_resetReleaseStep (now : Beat) (n : Nat) (s : State) : exec (.resetReleaseStep now n) s = execResetReleaseStep now s n := rfl

/-! ### COL_RST_GO (R264) -/

/-- The plan of an end that asks for a Col reset. -/
def State.askedPlan (s : State) : ResetPlan :=
  { beat := s.ahead s.nextLead, initiator := true, acked := false, lastReq := s.beat, settled := false }

theorem execColRstGo_eq {s : State} (h : HostUp s (keyDomains RESET.COL_RST_CMD.GO.key)) (hr : s.role ≠ 0)
    (hc : s.colIn [.off, .resetHeld] = false) (hp : s.chip.plan = none) :
    execColRstGo s =
      .next ((({ s with freeCtr := s.freeCtr + 1 } : State).setPlan s.askedPlan).sbSend .reset (resetPayload 1 s.askedPlan.beat)) := by
  rw [execColRstGo, State.command_reset h rfl]
  · rfl
  · simp only [hr, hc, hp, Option.isSome_none, Bool.false_eq_true, if_false]

/-! ### What a Col reset leaves (R262, R264, R265) -/

/-- Registers that are set one after another leave every other one. -/
theorem State.foldl_setReg_reg (w : Nat → Word) {l : List Nat} {k : Nat} (hk : k ∉ l) (s : State) :
    (l.foldl (fun t j => t.setReg j (w j)) s).reg k = s.reg k := by
  induction l generalizing s with
  | nil => rfl
  | cons j l ih =>
    obtain ⟨hj, hl⟩ := not_or.mp (List.mem_cons.not.mp hk)
    exact (ih hl _).trans (s.setReg_reg_ne _ (Ne.symm hj))

/-- The resets and the Col state are the same whether the reset is one-sided or not. -/
theorem State.colReset_chip (s : State) (oneSided : Bool) : (s.colReset oneSided).chip = (s.colReset false).chip := by
  cases oneSided with
  | false => rfl
  | true =>
    simp only [State.colReset, if_true]
    rw [State.raise_mclk _ rfl, State.deliver_chip, State.put_chip]
    rfl

/-- Reset is asserted and held for 256 beats of the counter, and the plan is void. -/
theorem State.colReset_held (s : State) (oneSided : Bool) :
    (s.colReset oneSided).chip.col = .resetHeld ∧ (s.colReset oneSided).chip.colReset = true ∧ (s.colReset oneSided).chip.plan = none ∧
      (s.colReset oneSided).chip.releaseAt = some (s.count + 256) := by
  rw [s.colReset_chip oneSided]
  exact ⟨rfl, rfl, rfl, rfl⟩

/-- COL_STAT is not among the registers that a Col reset keeps. -/
theorem State.colReset_colStat (s : State) : (s.colReset false).reg RESET.COL_STAT.ONE_SIDED.key = regReset RESET.COL_STAT.ONE_SIDED.key := by
  simp only [State.colReset, Bool.false_eq_true, if_false]
  rw [State.put_reg_ne _ _ (by decide), State.setReg_reg_ne _ _ (by decide), State.foldl_setReg_reg s.reg (by decide)]
  rfl

theorem State.colReset_oneSided (s : State) (oneSided : Bool) : (s.colReset oneSided).get RESET.COL_STAT.ONE_SIDED = b2n oneSided := by
  cases oneSided with
  | false =>
    rw [State.get, State.colReset_colStat]
    decide
  | true =>
    simp only [State.colReset, if_true]
    rw [State.raise_get _ _ _ _ (by decide)]
    exact State.get_put_same _ _ _ (by decide)

theorem execColRstNow_eq {s : State} (h : HostUp s (keyDomains RESET.COL_RST_CMD.GO.key)) (hr : s.role ≠ 0) (hc : s.chip.col ≠ .off) :
    execColRstNow s = .next (s.colReset true) := by
  rw [execColRstNow, State.command_reset h rfl]
  simp only [hr, hc, if_false]

/-! ### The planned reset at its beats (R207, R208, R264) -/

theorem execResetSettleBeat_settled {s r : State} {now : Beat} {p : ResetPlan} (hr : s.at now = r) (hp : r.chip.plan = some p)
    (hs : p.settled = false) (hb : r.reached (p.beat - 4096) = true) :
    ∃ u : State, execResetSettleBeat now s = .next (u.withPlan { p with settled := true }) := by
  subst hr
  simp only [execResetSettleBeat, hp, hs, hb, Bool.not_false, Bool.and_self, if_true]
  exact ⟨_, rfl⟩

theorem execResetBeat_eq {s r : State} {now : Beat} {p : ResetPlan} (hr : s.at now = r) (hp : r.chip.plan = some p)
    (hb : r.reached p.beat = true) (hc : r.clkOn 0 = true) : execResetBeat now s = .next (r.colReset (p.initiator && !p.acked)) := by
  subst hr
  simp only [execResetBeat, hp, hb, hc, Bool.and_self, if_true]

/-! ### Release steps after a Col reset (R266) -/

theorem State.at_chip (s : State) (now : Beat) : ∃ c, (s.at now).chip = { s.chip with counter := c } := by
  obtain ⟨_, c, h⟩ := s.at_eq now
  exact ⟨c, by rw [h]⟩

theorem State.at_dieRst (s : State) (now : Beat) : (s.at now).chip.dieRst = s.chip.dieRst := by obtain ⟨_, h⟩ := s.at_chip now; rw [h]
theorem State.at_stopped (s : State) (now : Beat) : (s.at now).chip.stopped = s.chip.stopped := by obtain ⟨_, h⟩ := s.at_chip now; rw [h]
theorem State.at_released (s : State) (now : Beat) : (s.at now).chip.released = s.chip.released := by obtain ⟨_, h⟩ := s.at_chip now; rw [h]
theorem State.at_releaseAt (s : State) (now : Beat) : (s.at now).chip.releaseAt = s.chip.releaseAt := by obtain ⟨_, h⟩ := s.at_chip now; rw [h]
theorem State.at_colReset (s : State) (now : Beat) : (s.at now).chip.colReset = s.chip.colReset := by obtain ⟨_, h⟩ := s.at_chip now; rw [h]

/-- The next release step is due: at its beat for the first one, 8 MCLK cycles after the one before for the others. -/
def State.stepDue (s : State) (cycles : Nat) : Bool :=
  match s.chip.releaseAt with
  | some t => s.reached t
  | none => decide (8 ≤ cycles)

theorem State.stepDue_first {s : State} {b : Beat} (h : s.chip.releaseAt = some b) (hb : s.reached b = true) (n : Nat) : s.stepDue n = true := by
  rw [State.stepDue, h]
  exact hb

theorem State.stepDue_later {s : State} (h : s.chip.releaseAt = none) {n : Nat} (hn : 8 ≤ n) : s.stepDue n = true := by
  rw [State.stepDue, h]
  exact decide_eq_true hn

/-- A release step with what follows it: the first one finds the pins, and the third one of a Col reset completes it. -/
def State.resetStep (s : State) : State :=
  if s.chip.released = 0 && s.releaseStep.chip.released = 1 then s.releaseStep.pinsReleased
  else if s.releaseStep.chip.colReset && s.releaseStep.chip.released = 3 then s.releaseStep.resetDone else s.releaseStep

theorem execResetReleaseStep_eq {s : State} {now : Beat} {n : Nat} (hd : s.chip.dieRst = false) (h3 : s.chip.released < 3)
    (hn : (s.at now).stepDue n = true) : execResetReleaseStep now s n = .next (s.at now).resetStep := by
  have acts : ((s.at now).chip.dieRst || decide (3 ≤ (s.at now).chip.released) || !(s.at now).stepDue n) = false := by
    rw [s.at_dieRst, s.at_released, hd, hn, decide_eq_false (Nat.not_le.mpr h3)]
    rfl
  exact congrArg _ (if_neg (Bool.eq_false_iff.mp acts))

/-- A step that waits for a clock leaves everything else to come. -/
theorem State.resetStep_waits {s : State} (h3 : s.chip.released < 3) (h : s.chip.stopped &&& s.stepClocks s.chip.released ≠ 0) :
    s.resetStep.chip = s.chip ∧ s.resetStep.get RESET.COL_STAT.WAIT_CLK = 1 := by
  obtain ⟨chip, waits⟩ := s.releaseStep_waits h
  have same : s.resetStep = s.releaseStep := by
    unfold State.resetStep
    rw [chip, if_neg, if_neg]
    · simp only [Bool.and_eq_true, decide_eq_true_eq, not_and]
      omega
    · simp only [Bool.and_eq_true, decide_eq_true_eq, not_and]
      omega
  rw [same]
  exact ⟨chip, waits⟩

/-- The first step, with the pins sampled by the first MCLK edge. -/
theorem State.resetStep_first {s : State} (hr : s.chip.released = 0) (h : s.chip.stopped &&& 1 = 0) :
    s.resetStep.chip = { s.chip with released := 1, clk := s.chip.clk ||| 1, releaseAt := none } := by
  have done := s.releaseStep_done (by rw [hr]; exact h)
  rw [hr] at done
  have pins : s.resetStep = s.releaseStep.pinsReleased := by
    unfold State.resetStep
    rw [done, hr]
    rfl
  rw [pins, s.releaseStep.pinsReleased_chipOnPages.chip, done]
  rfl

/-- The second step of an end with a role: DCLK, BCLK and SB TX. -/
theorem State.resetStep_second {s : State} (hr : s.chip.released = 1) (h0 : s.role ≠ 0) (h : s.chip.stopped &&& 0x80A = 0) :
    s.resetStep.chip = { s.chip with released := 2, clk := s.chip.clk ||| 0x80A, releaseAt := none } := by
  have clocks : s.stepClocks 1 = 0x80A := if_neg h0
  have done := s.releaseStep_done (by rw [hr, clocks]; exact h)
  rw [hr, clocks] at done
  have same : s.resetStep = s.releaseStep := by
    unfold State.resetStep
    rw [done, hr, if_neg (by simp), if_neg (by simp)]
  rw [same, done]

/-- What COL_RESET_DONE leaves of the end. -/
theorem State.resetDone_spec (s : State) :
    s.resetDone.chip = { s.chip with colReset := false, col := .resetHeld, entry := s.beat, stepEntry := s.beat } ∧
      s.resetDone.get RESET.COL_STAT.DONE = 1 := by
  unfold State.resetDone
  refine ⟨by rw [State.raise_mclk _ rfl, State.deliver_chip], ?_⟩
  rw [State.raise_get _ _ _ _ (by decide)]
  exact s.get_put_same _ _ (by decide)

theorem State.stepClocks_third (s : State) : s.stepClocks 2 = if s.isM then 4 else 0 := rfl

/-- The third step of a Col reset: ECLK on an M-end, and the Col in RESET_HELD. -/
theorem State.resetStep_third {s : State} (hr : s.chip.released = 2) (hc : s.chip.colReset = true) (h : s.chip.stopped &&& s.stepClocks 2 = 0) :
    s.resetStep = s.releaseStep.resetDone ∧ s.releaseStep.chip.released = 3 := by
  have done := s.releaseStep_done (by rw [hr]; exact h)
  refine ⟨?_, by rw [done, hr]⟩
  unfold State.resetStep
  rw [done, hr, hc]
  rfl

/-- One clock stands or runs. -/
theorem and_twoPow_eq_zero {x : BitVec 12} {i : Nat} (hi : i < 12) : x &&& BitVec.twoPow 12 i = 0 ↔ x.getLsbD i = false := by
  have pow : BitVec.twoPow 12 i ≠ 0 := fun h => by
    have bit := congrArg (BitVec.getLsbD · i) h
    simp [hi] at bit
  rw [BitVec.and_twoPow]
  cases x.getLsbD i with
  | false => exact iff_of_true rfl rfl
  | true => exact iff_of_false pow (by decide)

/-- Settles O6: a reset is asked for with a lead between its bounds, applied at once or at its beat, and released step by step as far as the
clocks run. -/
theorem colResetIsAgreedAppliedAndReleased : Obligations.ColResetIsAgreedAppliedAndReleased := by
  unfold Obligations.ColResetIsAgreedAppliedAndReleased
  refine ⟨?go, ?now, ?settle, ?beat, ?first, ?second, ?third⟩
  case go =>
    intro s h hr hc hp
    rw [exec_colRstGo, execColRstGo_eq h hr hc hp]
    obtain ⟨low, high⟩ := bounded_between (show 8192 ≤ 2 ^ 21 by decide) (Config.freeBits s.freeCtr)
    exact ⟨_, s.nextLead, rfl, low, high, State.sbSend_plan ..⟩
  case now =>
    intro s h hr hc
    rw [exec_colRstNow, execColRstNow_eq h hr hc]
    obtain ⟨col, reset, -, release⟩ := s.colReset_held true
    exact ⟨_, rfl, col, reset, s.colReset_oneSided true, release⟩
  case settle =>
    intro s now p hp hs hb
    rw [exec_resetSettleBeat]
    obtain ⟨u, hu⟩ := execResetSettleBeat_settled rfl hp hs hb
    exact ⟨_, hu, rfl⟩
  case beat =>
    intro s now p hp hb hc
    rw [exec_resetBeat, execResetBeat_eq rfl hp hb ((s.at_clkOn now 0).trans hc)]
    obtain ⟨col, reset, plan, -⟩ := (s.at now).colReset_held (p.initiator && !p.acked)
    exact ⟨_, rfl, col, reset, plan, State.colReset_oneSided ..⟩
  case first =>
    intro s now b n hd ha hb hr
    have released : (s.at now).chip.released = 0 := (s.at_released now).trans hr
    rw [exec_resetReleaseStep, execResetReleaseStep_eq hd (by rw [hr]; decide) (State.stepDue_first ((s.at_releaseAt now).trans ha) hb n),
      ← s.at_stopped now]
    refine ⟨_, rfl, ?_⟩
    split
    · rename_i stands
      have waits : (s.at now).chip.stopped &&& (s.at now).stepClocks 0 ≠ 0 :=
        (and_twoPow_eq_zero (i := 0) (by decide)).not.mpr (by rw [stands]; decide)
      obtain ⟨same, wait⟩ := State.resetStep_waits (by rw [released]; decide) (released ▸ waits)
      exact ⟨by rw [same, released], wait⟩
    · rename_i runs
      rw [State.clkOn, State.resetStep_first released ((and_twoPow_eq_zero (i := 0) (by decide)).mpr (Bool.eq_false_iff.mpr runs))]
      exact ⟨rfl, by simp, rfl⟩
  case second =>
    intro s now n hd ha hn hr h0
    have released : (s.at now).chip.released = 1 := (s.at_released now).trans hr
    have role : (s.at now).role ≠ 0 := by rwa [State.at_role]
    rw [exec_resetReleaseStep, execResetReleaseStep_eq hd (by rw [hr]; decide) (State.stepDue_later ((s.at_releaseAt now).trans ha) hn),
      ← s.at_stopped now]
    refine ⟨_, rfl, ?_⟩
    split
    · rename_i runs
      simp only [State.clkOn, State.resetStep_second released role runs]
      simp
    · rename_i stands
      have clocks : (s.at now).stepClocks 1 = 0x80A := if_neg role
      obtain ⟨same, wait⟩ := State.resetStep_waits (s := s.at now) (by rw [released]; decide) (by rwa [released, clocks])
      exact ⟨by rw [same, released], wait⟩
  case third =>
    intro s now n hd ha hc hn hr hM
    have released : (s.at now).chip.released = 2 := (s.at_released now).trans hr
    have runs : (s.at now).chip.stopped &&& (s.at now).stepClocks 2 = 0 := by
      rw [s.at_stopped, State.stepClocks_congr (s.at_role now), s.stepClocks_third]
      split
      · rename_i isM
        exact (and_twoPow_eq_zero (i := 2) (by decide)).mpr (hM isM)
      · exact BitVec.and_zero
    obtain ⟨step, three⟩ := State.resetStep_third released ((s.at_colReset now).trans hc) runs
    obtain ⟨done, stat⟩ := (s.at now).releaseStep.resetDone_spec
    rw [exec_resetReleaseStep, execResetReleaseStep_eq hd (by rw [hr]; decide) (State.stepDue_later ((s.at_releaseAt now).trans ha) hn), step]
    exact ⟨_, rfl, by rw [done]; exact three, by rw [done], by rw [done], stat⟩

end Sys2Proof.Machine
end

section
/-!
PROOFS. Clocks that stop and run again, and the event crossings (R248, R252, R253, R255, R256, R258, R437).
-/

namespace Sys2Proof.Machine

theorem exec_clockStopDetect (k : Clock) (s : State) : exec (.clockStopDetect k) s = execClockStopDetect k s := rfl
theorem exec_clockRestart (k : Clock) (s : State) : exec (.clockRestart k) s = execClockRestart k s := rfl
theorem exec_eclkStop (s : State) : exec .eclkStop s = execEclkStop s := rfl
theorem exec_eclkRestart (s : State) : exec .eclkRestart s = execEclkRestart s := rfl
theorem exec_eventCrossingIdle (k : Clock) (s : State) : exec (.eventCrossingIdle k) s = execEventCrossingIdle k s := rfl

/-! ### Alive bits (R252, R253, R255) -/

theorem State.clkOn_congr {s t : State} (h : t.chip.clk = s.chip.clk) (c : Nat) : t.clkOn c = s.clkOn c := by rw [State.clkOn, State.clkOn, h]

theorem clockBit_lt (k : Clock) : clockBit k < 12 := by cases k <;> decide

/-- One bit cleared in a word reads as clear. -/
theorem getLsbD_andNot_pow {n : Nat} (x : BitVec n) (i : Nat) : (x &&& ~~~ BitVec.ofNat n (2 ^ i)).getLsbD i = false := by
  rw [BitVec.getLsbD_and, BitVec.getLsbD_not, BitVec.getLsbD_ofNat, Nat.testBit_two_pow_self]
  by_cases h : i < n <;> simp [h]

/-- The end with a clock that does not run. -/
def State.clockDown (s : State) (c : Nat) : State :=
  { s with chip := { s.chip with clk := s.chip.clk &&& ~~~ BitVec.ofNat 12 (2 ^ c), stopped := s.chip.stopped ||| BitVec.ofNat 12 (2 ^ c) } }

theorem State.clockDown_clkOn (s : State) (c : Nat) : (s.clockDown c).clkOn c = false := getLsbD_andNot_pow _ c

/-- A stop that is expected lowers the alive bit, and nothing else follows. -/
theorem State.clockStops_expected {s : State} {c : Nat} (h : s.stopExpected c = true) : s.clockStops c = s.clockDown c := by
  unfold State.clockStops
  rw [h, Bool.or_true]
  rfl

/-- The end with a clock that has stopped unexpectedly. -/
def State.clockLost (s : State) (c : Nat) : State :=
  { s.clockDown c with chip := { (s.clockDown c).chip with lostRun := s.chip.lostRun ||| BitVec.ofNat 12 (2 ^ c) } }.put RESET.CLK_STAT.LOST
    (setBit (s.get RESET.CLK_STAT.LOST) c)

/-- A stop of MCLK is never expected (R253); it is recorded, and die reset alone follows it (R255). -/
theorem State.clockStops_mclk {s : State} (hd : s.chip.dieRst = false) (hc : s.clkOn 0 = true) :
    s.clockStops 0 = (s.clockLost 0).raise EV.RESET.CLOCK_STOP ((s.clockLost 0).get RESET.CLK_STAT.LOST) := by
  have unexpected : s.stopExpected 0 = false := by simp [State.stopExpected]
  have seen : (s.chip.dieRst || !s.clkOn 0 || s.stopExpected 0) = false := by
    rw [hd, hc, unexpected]
    rfl
  unfold State.clockStops
  rw [seen]
  rfl

theorem State.clockLost_mclk (s : State) : (s.clockLost 0).clkOn 0 = false ∧ bit ((s.clockLost 0).get RESET.CLK_STAT.LOST) 0 = true := by
  refine ⟨s.clockDown_clkOn 0, ?_⟩
  rw [State.clockLost, State.get_put_same _ _ _ (by decide)]
  have set := bit_setBit (s.get RESET.CLK_STAT.LOST) 0
  rw [bit_eq] at set ⊢
  rw [Nat.testBit_mod_two_pow, set]
  rfl

/-! ### Restarts (R252, R256) -/

/-- The end with a clock that runs, and what waited for it read. -/
def State.clockUp (s : State) (c : Nat) : State :=
  let s1 : State := { s with chip := { s.chip with stopped := s.chip.stopped &&& ~~~ BitVec.ofNat 12 (2 ^ c) } }.crossOut c
  { s1 with chip := { s1.chip with clk := s1.chip.clk ||| BitVec.ofNat 12 (2 ^ c) } }

theorem State.clockUp_regs (s : State) (c : Nat) : (s.clockUp c).regs = s.regs := rfl
theorem State.clockUp_pwr (s : State) (c : Nat) : (s.clockUp c).pwr = s.pwr := rfl
theorem State.clockUp_lockFell (s : State) (c : Nat) : (s.clockUp c).chip.lockFell = s.chip.lockFell := rfl
theorem State.clockUp_clkOn (s : State) {c : Nat} (h : c < 12) : (s.clockUp c).clkOn c = true := getLsbD_or_pow _ h

/-- The end with a clock that runs after an unexpected stop: the crossings of its domain are torn. -/
def State.clockTorn (s : State) (c : Nat) : State :=
  { s.clockUp c with chip := { (s.clockUp c).chip with torn := s.chip.torn ||| BitVec.ofNat 12 (2 ^ c) } }.tear
    (if s.isM then crossingsOf c else crossingsOf c &&& 0x3F0F)

section
variable {s : State} {c : Nat} (hd : s.chip.dieRst = false) (hoff : s.clkOn c = false) (h0 : c ≠ 0) (hup : s.domainUp c = true)
include hd hoff h0 hup

/-- The restart is seen: the clock is not MCLK, it did not run, and its domain is released. -/
theorem State.restart_seen : (s.chip.dieRst || c == 0 || s.clkOn c || !s.domainUp c) = false := by
  rw [hd, hoff, hup, beq_eq_false_iff_ne.mpr h0]
  rfl

theorem State.clockRuns_whole (ht : s.restartTears c = false) :
    s.clockRuns c = if c = 3 then (s.clockUp c).bclkRuns false else s.clockUp c := by
  unfold State.clockRuns
  rw [State.restart_seen hd hoff h0 hup, ht]
  rfl

theorem State.clockRuns_torn (ht : s.restartTears c = true) :
    s.clockRuns c = if c = 1 then (s.clockTorn c).settleTorn else if c = 3 then (s.clockTorn c).bclkRuns true else s.clockTorn c := by
  unfold State.clockRuns
  rw [State.restart_seen hd hoff h0 hup, ht]
  rfl

end

/-! ### BCLK runs again (R31, R246, R258, R361) -/

/-- The count as BCLK finds it, before a fall of BEAT_LOCK is seen. -/
def State.countRuns (s : State) (torn : Bool) : State :=
  { s.draw.2 with chip := { s.chip with counter := if torn then some s.count else s.chip.counter } }.uiFrom s.count s.draw.1

theorem State.countRuns_regs (s : State) (torn : Bool) : (s.countRuns torn).regs = s.regs := rfl
theorem State.countRuns_clk (s : State) (torn : Bool) : (s.countRuns torn).chip.clk = s.chip.clk := rfl

theorem State.bclkRuns_eq (s : State) (torn : Bool) :
    s.bclkRuns torn = if s.chip.lockFell then (s.countRuns torn).sampleLock else s.countRuns torn := rfl

/-- A fall of BEAT_LOCK that is seen changes beside it what the event crossings hold. -/
theorem State.sampleLock_chip (s : State) :
    ∃ busy pend, s.sampleLock.chip = { s.chip with beatLock := false, lockFell := false, evtBusy := busy, evtPend := pend } := by
  unfold State.sampleLock
  dsimp only
  split
  · exact ⟨s.chip.evtBusy, s.chip.evtPend, rfl⟩
  · exact State.raise_chip _ EV.TIME.BEAT_UNLOCK 0

@[simp] theorem State.sampleLock_place (s : State) : s.sampleLock.place = s.place := by
  obtain ⟨_, _, h⟩ := s.sampleLock_chip
  rw [State.place, h]
  rfl

@[simp] theorem State.bclkRuns_place (s : State) (torn : Bool) : (s.bclkRuns torn).place = s.place := by
  rw [State.bclkRuns_eq]
  split
  · exact State.sampleLock_place _
  · rfl

/-! ### Torn crossings (R256, R258, R259) -/

/-- Every domain but MCLK's has crossings to tear, in each role. -/
theorem crossings_torn {k : Clock} (h : clockBit k ≠ 0) (isM : Bool) :
    (if isM then crossingsOf (clockBit k) else crossingsOf (clockBit k) &&& 0x3F0F) % 2 ^ 14 ≠ 0 := by
  cases k with
  | mclk => exact absurd rfl h
  | _ => cases isM <;> decide

/-- The first tear takes the Col to FAULT. -/
theorem State.tear_faults {s : State} {mask : Nat} (hs : s.get RESET.XING_STAT.TORN = 0) (hm : mask % 2 ^ 14 ≠ 0) (hc : s.chip.col ≠ .off) :
    (s.tear mask).chip.col = .fault := by
  have fresh : (s.reg RESET.XING_STAT.TORN.key &&& BitVec.ofNat 64 mask == BitVec.ofNat 64 mask) = false := by
    rw [beq_eq_false_iff_ne]
    intro h
    have low := congrArg (fun w : Word => w.toNat % 2 ^ 14) h
    have none : (s.reg RESET.XING_STAT.TORN.key).toNat % 2 ^ 14 = 0 := hs
    simp only [BitVec.toNat_and, Nat.and_mod_two_pow, none, Nat.zero_and, BitVec.toNat_ofNat] at low
    rw [Nat.mod_mod_of_dvd _ (by decide)] at low
    exact hm low.symm
  unfold State.tear
  dsimp only
  rw [fresh]
  exact State.goFaultBy_col _ _ _ _ hc

theorem State.clockTorn_col {s : State} {k : Clock} (hk : clockBit k ≠ 0) (hs : s.get RESET.XING_STAT.TORN = 0) (hc : s.chip.col ≠ .off) :
    (s.clockTorn (clockBit k)).chip.col = .fault :=
  State.tear_faults (by rw [State.get_chip, State.get_congr (s.clockUp_regs _), hs]) (crossings_torn hk s.isM) hc

theorem State.settleOne_place (s : State) (drain : Bool) (q : Hdr) : (s.settleOne drain q).place = s.place := by
  have answered (t : State) (st : Status) (resv : Nat) : (t.answerDie q st resv).place = t.place := t.undefUnits_place _
  simp only [State.settleOne, apply_ite State.place, answered, State.reportLost_place, State.bump_place, State.setTxn_place, ite_self]

@[simp] theorem State.settleTorn_place (s : State) : s.settleTorn.place = s.place := by
  have answered (l : List (Nat × Hdr)) (t : State) : (l.foldl (fun t q => t.settleOne false q.2) t).place = t.place :=
    foldl_keeps State.place (f := fun (t : State) (q : Nat × Hdr) => t.settleOne false q.2) (fun t q => t.settleOne_place false q.2) l t
  simp only [State.settleTorn, State.setTxn_place, answered, State.setLnk_place]

/-- A restart that tears leaves the Col where the tear has taken it. -/
theorem State.clockRuns_fault {s : State} {k : Clock} (hd : s.chip.dieRst = false) (hoff : s.clkOn (clockBit k) = false) (h0 : clockBit k ≠ 0)
    (hup : s.domainUp (clockBit k) = true) (ht : s.restartTears (clockBit k) = true) (hs : s.get RESET.XING_STAT.TORN = 0)
    (hc : s.chip.col ≠ .off) : (s.clockRuns (clockBit k)).chip.col = .fault := by
  have same : (s.clockRuns (clockBit k)).place = (s.clockTorn (clockBit k)).place := by
    rw [State.clockRuns_torn hd hoff h0 hup ht]
    simp only [apply_ite State.place, State.settleTorn_place, State.bclkRuns_place, ite_self]
  exact (congrArg Prod.fst same).trans (State.clockTorn_col h0 hs hc)

/-! ### ECLK (R437) -/

theorem execEclkStop_eq {s : State} (hM : s.isM = true) : execEclkStop s = .next (s.clockStops 2) := by rw [execEclkStop, if_pos hM]

/-- The end whose ECLK has come back while a wake waited for it, before the wake goes on. -/
def State.eclkBack (s : State) : State := ((s.clockUp 2).put POWER.PWR_STAT.WAIT_ECLK 0).setPwr fun p => { p with waitEclk := none }

theorem execEclkRestart_wakes {s : State} {n : Nat} (hM : s.isM = true) (hr : s.clockRuns 2 = s.clockUp 2) (hw : s.pwr.waitEclk = some n) :
    execEclkRestart s = .next (s.eclkBack.wake n) := by
  have waits : (s.clockUp 2).pwr.waitEclk = some n := by rw [State.clockUp_pwr, hw]
  have runs : (s.clockUp 2).clkOn 2 = true := s.clockUp_clkOn (by decide)
  simp only [execEclkRestart, hM, hr, waits, runs, Bool.not_true, Bool.false_eq_true, if_false, if_true, State.eclkBack]

theorem State.eclkBack_parked (s : State) : s.eclkBack.parked = s.parked := by
  unfold State.eclkBack State.parked
  rw [State.get_setPwr, State.get_put_apart _ _ (by decide), State.get_congr (s.clockUp_regs 2)]

theorem State.eclkBack_clk (s : State) : s.eclkBack.chip.clk = (s.clockUp 2).chip.clk := rfl
theorem State.eclkBack_waking (s : State) : s.eclkBack.pwr.waking = s.pwr.waking := rfl

theorem State.runClocks_clk (s : State) : s.runClocks.chip.clk = s.chip.clk := rfl
theorem State.runClocks_pwr (s : State) : s.runClocks.pwr = s.pwr := rfl

/-- A parked end whose ECLK runs begins its wake. -/
theorem State.wake_begins {s : State} (hp : s.parked = true) (hw : s.pwr.waking = false) (hc : s.clkOn 2 = true) (trigger : Nat) :
    (s.wake trigger).clkOn 2 = true ∧ (s.wake trigger).pwr.waking = true ∧ (s.wake trigger).pwr.waitEclk = none := by
  have begins : s.wake trigger =
      (((s.bump POWER.PARK_STAT.WAKES).setPwr fun p => { p with waking := true, waitEclk := none }).runClocks).raise EV.POWER.WOKEN trigger := by
    unfold State.wake
    rw [hp, hw, hc, Bool.not_true, Bool.and_false, if_neg (by decide), if_neg (by decide)]
  have clk : (s.wake trigger).chip.clk = s.chip.clk := by
    rw [begins, State.raise_mclk _ rfl, State.deliver_chip, State.runClocks_clk, State.setPwr_chip, State.bump_chip]
  have pwr : (s.wake trigger).pwr = { s.pwr with waking := true, waitEclk := none } := by
    rw [begins, State.raise_pwr, State.runClocks_pwr, State.setPwr_pwr, State.bump_pwr]
  exact ⟨(State.clkOn_congr clk 2).trans hc, by rw [pwr], by rw [pwr]⟩

/-! ### Event crossings (R248, R250, R258) -/

/-- What is agreed for the crossings may take force, and nothing else changes. -/
theorem State.compatSettle_eq (s : State) : ∃ b, s.compatSettle = { s with chip := { s.chip with compat := b } } := by
  unfold State.compatSettle
  split
  · exact ⟨_, rfl⟩
  · exact ⟨s.chip.compat, rfl⟩

section
variable {s : State} {k : Clock} (hd : s.chip.dieRst = false) (hb : s.chip.evtBusy.getLsbD (clockBit k) = true)
  (ht : s.chip.torn.getLsbD (clockBit k) = false)
include hd hb ht

theorem execEventCrossingIdle_free (hp : Sparse.find s.chip.evtPend (clockBit k) = none) : execEventCrossingIdle k s =
    .next ({ s with chip := { s.chip with evtBusy := s.chip.evtBusy &&& ~~~ BitVec.ofNat 12 (2 ^ clockBit k) } } : State).compatSettle := by
  simp only [execEventCrossingIdle, hd, hb, ht, hp, Bool.not_true, Bool.or_self, Bool.false_eq_true, if_false]

theorem execEventCrossingIdle_delivers {p : EvtPulse} (hp : Sparse.find s.chip.evtPend (clockBit k) = some p) :
    execEventCrossingIdle k s = .next (({ s with chip := { s.chip with evtPend := Sparse.set (clockBit k) none s.chip.evtPend } } : State).deliver
      p.page p.bit p.value false) := by
  simp only [execEventCrossingIdle, hd, hb, ht, hp, Bool.not_true, Bool.or_self, Bool.false_eq_true, if_false]

end

/-- Settles O3: an expected stop lowers an alive bit, one of MCLK is recorded, a restart raises the bit, sees a fall of BEAT_LOCK, tears or lets
a wake go on, and an event crossing that is free again takes the pulse that waits. -/
theorem clocksStopAndRunAndCrossingsDeliver : Obligations.ClocksStopAndRunAndCrossingsDeliver := by
  unfold Obligations.ClocksStopAndRunAndCrossingsDeliver
  refine ⟨?expected, ?mclk, ?runs, ?lockFell, ?tears, ?eclkStops, ?eclkWakes, ?free, ?delivers, ?torn⟩
  case expected =>
    intro s k hd hc he
    rw [exec_clockStopDetect, execClockStopDetect, State.clockStops_expected he]
    exact ⟨_, rfl, s.clockDown_clkOn _, rfl⟩
  case mclk =>
    intro s hd hc
    obtain ⟨off, lost⟩ := s.clockLost_mclk
    rw [exec_clockStopDetect, execClockStopDetect, clockBit, State.clockStops_mclk hd hc]
    refine ⟨_, rfl, ?_, ?_, State.raise_stat _ rfl (by decide) _⟩
    · rwa [State.clkOn, State.raise_mclk _ rfl, State.deliver_chip]
    · rwa [State.raise_get _ _ _ _ (by decide)]
  case runs =>
    intro s k hd hoff h0 hup ht hl
    rw [exec_clockRestart, execClockRestart, State.clockRuns_whole hd hoff h0 hup ht]
    refine ⟨_, rfl, ?_⟩
    split
    · rw [State.bclkRuns_eq, State.clockUp_lockFell, hl, if_neg Bool.false_ne_true]
      exact ⟨(State.clkOn_congr (State.countRuns_clk ..) _).trans (s.clockUp_clkOn (clockBit_lt k)), State.countRuns_regs ..⟩
    · exact ⟨s.clockUp_clkOn (clockBit_lt k), s.clockUp_regs _⟩
  case lockFell =>
    intro s hd hr hoff hup ht hl
    obtain ⟨_, _, chip⟩ := ((s.clockUp 3).countRuns false).sampleLock_chip
    have clk : ((s.clockUp 3).countRuns false).sampleLock.chip.clk = (s.clockUp 3).chip.clk := by rw [chip, State.countRuns_clk]
    rw [exec_clockRestart, execClockRestart, clockBit, State.clockRuns_whole hd hoff (by decide) hup ht, if_pos rfl, State.bclkRuns_eq,
      State.clockUp_lockFell, hl, if_pos rfl]
    exact ⟨_, rfl, (State.clkOn_congr clk 3).trans (s.clockUp_clkOn (by decide)), by rw [chip], by rw [chip]⟩
  case tears =>
    intro s k hd hoff h0 hup ht hs hc
    exact ⟨_, rfl, State.clockRuns_fault hd hoff h0 hup ht hs hc⟩
  case eclkStops =>
    intro s hM hd hc he
    rw [exec_eclkStop, execEclkStop_eq hM, State.clockStops_expected he]
    exact ⟨_, rfl, s.clockDown_clkOn 2, rfl⟩
  case eclkWakes =>
    intro s n hM hd hoff h3 hl hw hp hk
    have up : s.domainUp 2 = true := by simp [State.domainUp, h3, hM]
    have runs : s.clockRuns 2 = s.clockUp 2 := State.clockRuns_whole hd hoff (by decide) up hl
    rw [exec_eclkRestart, execEclkRestart_wakes hM runs hw]
    have clk : s.eclkBack.clkOn 2 = true := (State.clkOn_congr s.eclkBack_clk 2).trans (s.clockUp_clkOn (by decide))
    exact ⟨_, rfl, State.wake_begins (s.eclkBack_parked.trans hp) (s.eclkBack_waking.trans hk) clk n⟩
  case free =>
    intro s k hd hb ht hp
    rw [exec_eventCrossingIdle, execEventCrossingIdle_free hd hb ht hp]
    obtain ⟨_, settled⟩ := State.compatSettle_eq
      { s with chip := { s.chip with evtBusy := s.chip.evtBusy &&& ~~~ BitVec.ofNat 12 (2 ^ clockBit k) } }
    rw [settled]
    exact ⟨_, rfl, getLsbD_andNot_pow _ _, rfl⟩
  case delivers =>
    intro s k p hd hb ht hp hbit
    rw [exec_eventCrossingIdle, execEventCrossingIdle_delivers hd hb ht hp]
    refine ⟨_, rfl, ?_, State.deliver_stat _ _ _ _ _ hbit⟩
    rw [State.deliver_chip, Sparse.find_set, if_pos rfl]
  case torn =>
    intro s k ht
    rw [exec_eventCrossingIdle, execEventCrossingIdle, ht, Bool.or_true]
    rfl

end Sys2Proof.Machine
end

section
/-!
PROOFS. Window descriptors (R340, R343): fields read after a word of a table is written whole or in part, the operations that leave the tables
alone, lines of the Basin read after a write, and a window that fails with its report (R343, R353, R354, R456).
-/

namespace Sys2Proof.Machine

/-! ### Words of tables written in part -/

/-- A table word of which a part is written changes the table and the arrays' correction state alone. -/
theorem State.setTblPart_word (s : State) (idx : Nat) (w : Word) :
    ∃ l, s.setTblPart idx w = { s with tbl := Sparse.set idx (some w) s.tbl, arrays := l } := by
  unfold State.setTblPart State.wordMerged
  dsimp only
  obtain ⟨l, h⟩ := State.wordWritten_eq _ _
  exact ⟨l, h⟩

theorem State.tblWord_setTblPart (s : State) (idx : Nat) (w : Word) (i : Nat) :
    (s.setTblPart idx w).tblWord i = if idx = i then w else s.tblWord i := by
  obtain ⟨l, h⟩ := s.setTblPart_word idx w
  simp only [h, State.tblWord, Sparse.find_set]
  split <;> rfl

/-! ### What leaves the tables alone -/

section
variable (s : State) (i : Nat)

theorem State.tblWord_at (now : Beat) : (s.at now).tblWord i = s.tblWord i := by
  obtain ⟨_, _, h⟩ := s.at_eq now
  rw [h]
  rfl
theorem State.tblWord_raise (e : Event) (v : Nat) : (s.raise e v).tblWord i = s.tblWord i := by
  obtain ⟨_, _, h⟩ := s.raise_eq e v
  rw [h]
  rfl
theorem State.tblWord_bump (f : Field) : (s.bump f).tblWord i = s.tblWord i := rfl
theorem State.tblWord_engWrite (a : Nat) (bs : List Byte) : (s.engWrite a bs).tblWord i = s.tblWord i :=
  State.tblWord_tables (s.engWrite_tables a bs) i
theorem State.tblWord_writeRecord (n : Nat) : (s.writeRecord n).tblWord i = s.tblWord i := by
  unfold State.writeRecord
  split
  · exact s.tblWord_engWrite i ..
  · rfl
theorem State.tblWord_setLine (n : Nat) (l : Line) : (s.setLine n l).tblWord i = s.tblWord i := by
  obtain ⟨_, h⟩ := s.setLine_eq n l
  rw [h]
  rfl
theorem State.tblWord_winCapture (n line ev : Nat) : (s.winCapture n line ev).tblWord i = s.tblWord i := by
  simp only [State.winCapture, State.tblWord_put]

end

/-! ### Fields of a descriptor (R340) -/

section
variable {s t : State} {n : Nat} {f g : WinField}

theorem State.win_congr (h : t.tblWord (winIdx n f.word) = s.tblWord (winIdx n f.word)) : t.win n f = s.win n f := by
  rw [State.win, State.win, h]

variable (s n)

theorem State.tblWord_setWin_ne (v : Nat) {i : Nat} (h : i ≠ winIdx n f.word) : (s.setWin n f v).tblWord i = s.tblWord i := by
  rw [State.setWin, State.tblWord_setTblPart, if_neg (Ne.symm h)]

/-- A field that takes a value reads as the value modulo its width. -/
theorem State.win_setWin_same (v : Nat) (hf : f.lo + f.width ≤ 64) : (s.setWin n f v).win n f = v % 2 ^ f.width := by
  rw [State.win, State.setWin, State.tblWord_setTblPart, if_pos rfl]
  exact bits_setBits_same _ _ _ _ hf

/-- A field of the window apart from the one set, in the same word or another. -/
theorem State.win_setWin_apart (v : Nat)
    (h : g.lo + g.width ≤ 64 ∧ (f.word ≠ g.word ∨ f.lo + f.width ≤ g.lo ∨ g.lo + g.width ≤ f.lo)) :
    (s.setWin n f v).win n g = s.win n g := by
  obtain ⟨fits, apart⟩ := h
  by_cases hw : f.word = g.word
  · rw [State.win, State.setWin, State.tblWord_setTblPart, hw, if_pos rfl, State.win]
    exact bits_setBits_apart _ _ _ _ _ _ fits (apart.resolve_left (absurd hw))
  · exact State.win_congr (s.tblWord_setWin_ne n v fun e => hw (by simp only [winIdx] at e; omega))

end

section
variable (s : State) (n : Nat) (f : WinField)

@[simp] theorem State.win_at (now : Beat) : (s.at now).win n f = s.win n f := State.win_congr (s.tblWord_at _ now)
@[simp] theorem State.win_raise (e : Event) (v : Nat) : (s.raise e v).win n f = s.win n f := State.win_congr (s.tblWord_raise _ e v)
@[simp] theorem State.win_put (g : Field) (v : Nat) : (s.put g v).win n f = s.win n f := rfl
@[simp] theorem State.win_eng (e : Engine) : ({ s with eng := e } : State).win n f = s.win n f := rfl
@[simp] theorem State.win_dropWinWork (m : Nat) : (s.dropWinWork m).win n f = s.win n f := rfl
@[simp] theorem State.win_writeRecord (m : Nat) : (s.writeRecord m).win n f = s.win n f := State.win_congr (s.tblWord_writeRecord _ m)
@[simp] theorem State.win_setLine (m : Nat) (l : Line) : (s.setLine m l).win n f = s.win n f := State.win_congr (s.tblWord_setLine _ m l)
@[simp] theorem State.win_markDirty (c : Nat) : (s.markDirty c).win n f = s.win n f := State.win_congr (s.tblWord_markDirty c _)
@[simp] theorem State.win_winCapture (m line ev : Nat) : (s.winCapture m line ev).win n f = s.win n f :=
  State.win_congr (s.tblWord_winCapture _ m line ev)

end

/-! ### Outcome bits (R340) -/

/-- A value taken modulo 2^8 keeps its bits below 8. -/
theorem bit_mod_256 {v b : Nat} (hb : b < 8) : bit (v % 2 ^ 8) b = bit v b := by
  rw [bit_eq, bit_eq, Nat.testBit_mod_two_pow, decide_eq_true hb, Bool.true_and]

section
variable (s : State) (n b : Nat)

@[simp] theorem State.win_setOutcome {f : WinField} (h : f.lo + f.width ≤ 64 ∧ (7 ≠ f.word ∨ 48 + 8 ≤ f.lo ∨ f.lo + f.width ≤ 48)) :
    (s.setOutcome n b).win n f = s.win n f := s.win_setWin_apart n _ h

theorem State.setOutcome_outcome : (s.setOutcome n b).win n WIN.OUTCOME = setBit (s.win n WIN.OUTCOME) b % 2 ^ 8 :=
  s.win_setWin_same n _ (by decide)

theorem State.setOutcome_bit (hb : b < 8) : bit ((s.setOutcome n b).win n WIN.OUTCOME) b = true := by
  rw [State.setOutcome_outcome, bit_mod_256 hb, bit_setBit]

theorem State.setOutcome_keeps {c : Nat} (hc : c < 8) (h : bit (s.win n WIN.OUTCOME) c = true) :
    bit ((s.setOutcome n b).win n WIN.OUTCOME) c = true := by
  rw [State.setOutcome_outcome, bit_mod_256 hc]
  exact bit_setBit_of_bit b h

end

/-! ### A window that fails (R343, R353, R354) -/

/-- The window as it fails, before its record and its event: nothing of it is pending, and its outcome is recorded. -/
def State.winFailed (s : State) (n : Nat) (o : List Nat) : State :=
  o.foldl (fun t b => t.setOutcome n b) ((s.dropWinWork n).setWin n WIN.STATE 5)

theorem State.failWindow_eq (s : State) (n : Nat) (o : List Nat) (r : Bool) :
    ∃ v, s.failWindow n o r = (if r then (s.winFailed n o).writeRecord n else s.winFailed n o).raise EV.BASIN.WIN_FAILED v := ⟨_, rfl⟩

section
variable (s : State) (n : Nat) (o : List Nat)

/-- Outcome bits that are recorded leave the window's other fields. -/
theorem State.outcomes_win {f : WinField} (h : f.lo + f.width ≤ 64 ∧ (7 ≠ f.word ∨ 48 + 8 ≤ f.lo ∨ f.lo + f.width ≤ 48)) :
    (o.foldl (fun t b => t.setOutcome n b) s).win n f = s.win n f :=
  foldl_keeps (fun t => t.win n f) (fun t b => t.win_setOutcome n b h) o s

theorem State.outcomes_bit {b : Nat} (hb : b < 8) (h : b ∈ o ∨ bit (s.win n WIN.OUTCOME) b = true) :
    bit ((o.foldl (fun t b => t.setOutcome n b) s).win n WIN.OUTCOME) b = true := by
  induction o generalizing s with
  | nil => exact h.resolve_left List.not_mem_nil
  | cons c o ih =>
    refine ih (s.setOutcome n c) ?_
    rcases h with h | h
    · rcases List.mem_cons.mp h with rfl | h
      · exact .inr (s.setOutcome_bit n b hb)
      · exact .inl h
    · exact .inr (s.setOutcome_keeps n c hb h)

/-- Setting outcome bits writes word 7 of the descriptor, and with it the arrays' correction state. -/
theorem State.outcomes_eq : ∃ tbl arrays, o.foldl (fun t b => t.setOutcome n b) s = { s with tbl := tbl, arrays := arrays } := by
  induction o generalizing s with
  | nil => exact ⟨s.tbl, s.arrays, rfl⟩
  | cons b o ih =>
    obtain ⟨_, _, first⟩ := s.setTblPart_eq (winIdx n 7) (setBits (s.tblWord (winIdx n 7)) 48 8 (setBit (s.win n WIN.OUTCOME) b))
    obtain ⟨tbl, arrays, rest⟩ := ih (s.setOutcome n b)
    refine ⟨tbl, arrays, rest.trans ?_⟩
    rw [show s.setOutcome n b = _ from first]

theorem State.winFailed_eq : ∃ tbl arrays eng, s.winFailed n o = { s with tbl := tbl, arrays := arrays, eng := eng } := by
  obtain ⟨_, _, state⟩ := (s.dropWinWork n).setTblPart_eq (winIdx n 0) (setBits (s.tblWord (winIdx n 0)) 0 3 5)
  obtain ⟨tbl, arrays, outcomes⟩ := ((s.dropWinWork n).setWin n WIN.STATE 5).outcomes_eq n o
  refine ⟨tbl, arrays, (s.dropWinWork n).eng, outcomes.trans ?_⟩
  rw [show (s.dropWinWork n).setWin n WIN.STATE 5 = _ from state]
  rfl

theorem State.winFailed_win {f : WinField} (h : f.lo + f.width ≤ 64 ∧ (7 ≠ f.word ∨ 48 + 8 ≤ f.lo ∨ f.lo + f.width ≤ 48))
    (h' : 0 ≠ f.word ∨ 0 + 3 ≤ f.lo ∨ f.lo + f.width ≤ 0) : (s.winFailed n o).win n f = s.win n f := by
  rw [State.winFailed, State.outcomes_win _ _ _ h, State.win_setWin_apart _ _ _ ⟨h.1, h'⟩, State.win_dropWinWork]

theorem State.winFailed_state : (s.winFailed n o).win n WIN.STATE = 5 := by
  rw [State.winFailed, State.outcomes_win _ _ _ (by decide), State.win_setWin_same _ _ _ (by decide)]
  rfl

variable (r : Bool)

theorem State.tblWord_failWindow (i : Nat) : (s.failWindow n o r).tblWord i = (s.winFailed n o).tblWord i := by
  obtain ⟨_, h⟩ := s.failWindow_eq n o r
  rw [h, State.tblWord_raise]
  split
  · exact State.tblWord_writeRecord ..
  · rfl

theorem State.failWindow_state : (s.failWindow n o r).win n WIN.STATE = 5 :=
  (State.win_congr (s.tblWord_failWindow n o r _)).trans (s.winFailed_state n o)

theorem State.failWindow_outcome {b : Nat} (hb : b < 8) (h : b ∈ o) : bit ((s.failWindow n o r).win n WIN.OUTCOME) b = true := by
  rw [State.win_congr (s.tblWord_failWindow n o r _)]
  exact State.outcomes_bit _ n o hb (.inl h)

theorem State.failWindow_raised : Raised EV.BASIN.WIN_FAILED (s.failWindow n o r) := State.raise_raised _ _ _ (by decide)

/-- Memory changes in the window's record alone, where one is written (R352). -/
theorem State.failWindow_kept : MemoryKeptOutside s (s.failWindow n o r) (if r then [(64 * s.win n WIN.REC_ADDR, 32)] else []) := by
  intro a ha
  obtain ⟨_, h⟩ := s.failWindow_eq n o r
  obtain ⟨_, _, _, hf⟩ := s.winFailed_eq n o
  have failed : (s.winFailed n o).memByte a = s.memByte a := by
    rw [hf]
    rfl
  rw [State.memByte_calm (h ▸ State.raise_calm ..)]
  cases r with
  | false => exact failed
  | true =>
    simp only [if_true]
    unfold State.writeRecord
    split
    · rw [State.memByte_engWrite_apart, failed]
      rw [natBytes_length, s.winFailed_win n o (by decide) (by decide)]
      exact ha _ List.mem_cons_self
    · exact failed

theorem State.failWindow_basin : (s.failWindow n o r).basin = s.basin := by
  obtain ⟨_, h⟩ := s.failWindow_eq n o r
  obtain ⟨_, _, _, hf⟩ := s.winFailed_eq n o
  have calm : (s.failWindow n o r).basin = (if r then (s.winFailed n o).writeRecord n else s.winFailed n o).basin :=
    congrArg Calm.basin (h ▸ State.raise_calm ..)
  have failed : (s.winFailed n o).basin = s.basin := by rw [hf]
  rw [calm]
  split
  · unfold State.writeRecord
    split
    · exact (congrArg Calm.basin (State.engWrite_calm ..)).trans failed
    · exact failed
  · exact failed

end

/-! ### Lost contexts (R456) -/

/-- The context records lie below the window descriptors (R465). -/
theorem ctxIdx_ne_winIdx (c w n k : Nat) (hw : w < 4) : winIdx n k ≠ ctxIdx c w := by
  have := Nat.mod_lt c (show 16384 > 0 by decide)
  unfold winIdx ctxIdx
  omega

section
variable (s : State) (c cause : Nat)

theorem State.tblWord_markLost {i : Nat} (h : i ≠ ctxIdx c 1) : (s.markLost c).tblWord i = s.tblWord i := by
  unfold State.markLost
  split
  · rw [State.tblWord_setTblPart, if_neg (Ne.symm h)]
  · rfl

theorem State.markLost_eq : ∃ tbl arrays, s.markLost c = { s with tbl := tbl, arrays := arrays } := by
  unfold State.markLost
  split
  · exact s.setTblPart_eq ..
  · exact ⟨s.tbl, s.arrays, rfl⟩

/-- The report as it is queued, or dropped, before its event. -/
def State.lostQueued (s : State) (c cause : Nat) : State :=
  if (s.markLost c).lostQ.length < 64 then
    { s.markLost c with lostQ := (s.markLost c).lostQ ++ [⟨c, cause, (s.markLost c).beat.toNat % 2 ^ 32⟩] }
  else { s.markLost c with lostOvf := true }

theorem State.reportLost_eq : s.reportLost c cause = (s.lostQueued c cause).raise EV.TXN.CTX_LOST (c + cause * 2 ^ 16) := rfl

theorem State.lostQueued_frame : ∃ tbl arrays lostQ ovf, s.lostQueued c cause = { s with tbl := tbl, arrays := arrays, lostQ := lostQ, lostOvf := ovf } := by
  obtain ⟨tbl, arrays, h⟩ := s.markLost_eq c
  unfold State.lostQueued
  rw [h]
  split
  · exact ⟨tbl, arrays, _, s.lostOvf, rfl⟩
  · exact ⟨tbl, arrays, s.lostQ, true, rfl⟩

@[simp] theorem State.win_reportLost (n : Nat) (f : WinField) : (s.reportLost c cause).win n f = s.win n f := by
  refine State.win_congr ?_
  rw [State.reportLost_eq, State.tblWord_raise, ← s.tblWord_markLost c (ctxIdx_ne_winIdx c 1 n f.word (by decide))]
  unfold State.lostQueued
  split <;> rfl

theorem State.reportLost_raised : Raised EV.TXN.CTX_LOST (s.reportLost c cause) := State.raise_raised _ _ _ (by decide)

end

/-! ### Marks of events and what the tables and the record change -/

/-- A mark of an event stays where the registers and what waits in the crossings do. -/
theorem Raised.congr {e : Event} {s t : State} (h : Raised e s) (hr : t.regs = s.regs) (hc : t.chip = s.chip) : Raised e t :=
  h.kept (State.get_congr hr _) (State.get_congr hr _) (by rw [hc]) (by rw [hc])

theorem Raised.reportLost {e : Event} {s : State} (h : Raised e s) (c cause : Nat) : Raised e (s.reportLost c cause) := by
  obtain ⟨_, _, _, _, hq⟩ := s.lostQueued_frame c cause
  rw [State.reportLost_eq]
  exact Raised.raise (h.congr (by rw [hq]) (by rw [hq])) ..

theorem Raised.markDirty {e : Event} {s : State} (h : Raised e s) (c : Nat) : Raised e (s.markDirty c) := by
  have put : ∀ f : Field, f.key % 4096 = 0x020 ∨ f.key = RESET.XING_STAT.OVERRUN.key → (s.markDirty c).get f = s.get f := fun f hf => by
    refine (State.get_put_ne _ _ ?_).trans rfl
    intro he
    rw [← he] at hf
    revert hf
    decide
  exact h.kept (put _ (.inl (by simp [PAGE.EVT_STAT]))) (put _ (.inr rfl)) rfl rfl

end Sys2Proof.Machine
end

section
/-!
PROOFS. Window descriptors written, armed, freed and aborted (R341, R343, R460, R506).
-/

namespace Sys2Proof.Machine

theorem exec_windowWordWrite (w : BitVec 10) (k : BitVec 3) (data : Word) (s : State) :
    exec (.windowWordWrite w k data) s = .next (s.hostTable (winIdx w.toNat k.toNat) data) := rfl
theorem exec_windowArm (w : BitVec 10) (data : Word) (s : State) :
    exec (.windowArm w data) s = .next (s.hostTable (winIdx w.toNat 0) (setBits data 0 3 1)) := rfl
theorem exec_windowFree (w : BitVec 10) (data : Word) (s : State) :
    exec (.windowFree w data) s = .next (s.hostTable (winIdx w.toNat 0) (setBits data 0 3 0)) := rfl
theorem exec_windowAbort (w : BitVec 10) (data : Word) (s : State) :
    exec (.windowAbort w data) s = .next (s.hostTable (winIdx w.toNat 0) (setBits data 0 3 5)) := rfl

/-! ### Places of the window table (R465) -/

theorem winIdx_of_lt {n : Nat} (h : n < 1024) (k : Nat) : winIdx n k = 0x30800 + 8 * n + k := by rw [winIdx, Nat.mod_eq_of_lt h]

theorem winIdx_mod (n : Nat) {k : Nat} (hk : k < 8) : winIdx n k % 8 = k := by
  unfold winIdx
  omega

theorem winIdx_window {n k : Nat} (h : n < 1024) (hk : k < 8) : (winIdx n k - 0x30800) / 8 = n := by
  rw [winIdx_of_lt h]
  omega

theorem winIdx_range (n : Nat) {k : Nat} (hk : k < 8) : 0x30800 ≤ winIdx n k ∧ winIdx n k < 0x32800 := by
  unfold winIdx
  omega

theorem tblMask_window {idx : Nat} (h : 0x30800 ≤ idx) (h2 : idx < 0x32800) (hw : idx % 8 = 0) : tblMask idx = 0x1FFFFFFFFFFFFFFF := by
  have h0 : ¬ idx < 0x20000 := by omega
  have h1 : ¬ idx < 0x30000 := by omega
  simp only [tblMask, h0, h1, Nat.not_lt.mpr h, h2, hw, if_true, if_false]

theorem tblMask_window_ne {idx : Nat} (h : 0x30800 ≤ idx) (h2 : idx < 0x32800) : tblMask idx ≠ 0#64 := by
  have h0 : ¬ idx < 0x20000 := by omega
  have h1 : ¬ idx < 0x30000 := by omega
  simp only [tblMask, h0, h1, Nat.not_lt.mpr h, h2, if_true, if_false]
  split <;> decide

/-- STATE is written as it stands in the data: none of its bits is reserved. -/
theorem bits_masked_state (data : Word) (n v : Nat) : bits (setBits data 0 3 v &&& tblMask (winIdx n 0)).toNat 0 3 = v % 8 := by
  obtain ⟨low, high⟩ := winIdx_range n (k := 0) (by decide)
  rw [tblMask_window low high (winIdx_mod n (by decide))]
  have whole := bits_setBits_same data 0 3 v (by decide)
  have masked : ∀ x : Nat, bits (x &&& 0x1FFFFFFFFFFFFFFF) 0 3 = bits x 0 3 := fun x => by
    apply Nat.eq_of_testBit_eq
    intro i
    rw [bits_testBit, bits_testBit, Nat.testBit_and]
    by_cases hi : i < 3
    · have : Nat.testBit 0x1FFFFFFFFFFFFFFF (0 + i) = true := by interval_cases i <;> decide
      rw [this, Bool.and_true]
    · simp [hi]
  rw [BitVec.toNat_and]
  exact (masked _).trans whole

/-! ### Writes of the window table (R341, R343, R466) -/

section
variable {s t : State} {idx : Nat} {data : Word}

theorem State.tableWrite_window (hm : s.isM = true) (h : 0x30800 ≤ idx) (h2 : idx < 0x32800) :
    (s.tableWrite idx data).2 = if (s.writeWindow idx data).1 then
      ((s.writeWindow idx data).2.markDirty (s.win ((idx - 0x30800) / 8) WIN.CTX)).markDirty
        ((s.writeWindow idx data).2.win ((idx - 0x30800) / 8) WIN.CTX)
    else (s.writeWindow idx data).2 := by
  have ho : tblOverlay idx = false := by simp [tblOverlay, h2]
  have hk : decide (tblMask idx = 0) = false := decide_eq_false (tblMask_window_ne h h2)
  have h0 : ¬ idx < 0x20000 := by omega
  have h1 : ¬ idx < 0x30000 := by omega
  have h3 : ¬ idx < 0x30800 := by omega
  simp only [State.tableWrite, ho, hm, hk, h0, h1, h3, h2, Bool.not_true, Bool.or_self, Bool.false_eq_true, if_false, if_true]
  exact apply_ite Prod.snd ..

/-- A refused write of a window is logged in the BASIN page (R454, R465). -/
theorem State.refuseTbl_window (h : 0x30800 ≤ idx) (h2 : idx < 0x32800) (code : Nat) :
    s.refuseTbl idx code data = (s.refuseCode 11 (8 * idx % 4096) true code data).put BASIN.TBL_CAPTURE.ADDR (8 * idx) := by
  have h0 : ¬ idx < 0x20000 := by omega
  have h1 : ¬ idx < 0x30800 := by omega
  simp only [State.refuseTbl, tblPage, h0, h1, h2, if_true, if_false]

theorem State.refuseTbl_window_logs (h : 0x30800 ≤ idx) (h2 : idx < 0x32800) {code : Nat} (hc : code < 256) :
    (s.refuseTbl idx code data).tbl = s.tbl ∧ (s.refuseTbl idx code data).get (PAGE.REFUSED.REASON 11) = code := by
  rw [State.refuseTbl_window h h2]
  refine ⟨(State.put_tbl ..).trans (State.refuseCode_tbl ..), ?_⟩
  rw [State.get_put_ne _ _ (by decide), State.refuseCode_reason]
  exact Nat.mod_eq_of_lt hc

end

/-- The window's descriptor as a write of word `k` leaves it. -/
def State.winPut (s : State) (n k : Nat) (data : Word) : State := s.setTbl (winIdx n k) (data &&& tblMask (winIdx n k))

section
variable {s t : State} {w : BitVec 10} {k : Nat} {data : Word} (hk : k < 8) (hup : HostUp s (aperDomains (winIdx w.toNat k))) (hm : s.isM = true)
include hk hup hm

/-- A window's word that is taken marks the contexts that the window had and has (R405). -/
theorem State.hostTable_window_taken (hw : s.writeWindow (winIdx w.toNat k) data = (true, t)) :
    s.hostTable (winIdx w.toNat k) data = (t.markDirty (s.win w.toNat WIN.CTX)).markDirty (t.win w.toNat WIN.CTX) := by
  obtain ⟨low, high⟩ := winIdx_range w.toNat hk
  rw [s.hostTable_eq hup, State.tableWrite_window hm low high, hw, if_pos rfl, winIdx_window w.isLt hk]

theorem State.hostTable_window_refused {code : Nat} (hc : code < 256)
    (hw : s.writeWindow (winIdx w.toNat k) data = (false, s.refuseTbl (winIdx w.toNat k) code data)) :
    (s.hostTable (winIdx w.toNat k) data).tbl = s.tbl ∧ (s.hostTable (winIdx w.toNat k) data).get (PAGE.REFUSED.REASON 11) = code := by
  obtain ⟨low, high⟩ := winIdx_range w.toNat hk
  rw [s.hostTable_eq hup, State.tableWrite_window hm low high, hw]
  exact State.refuseTbl_window_logs low high hc

/-- A word written as it stands reads back in its bits that are not reserved, and every other word of the aperture stays. -/
theorem State.hostTable_window_put (hw : s.writeWindow (winIdx w.toNat k) data = (true, s.winPut w.toNat k data)) :
    (s.hostTable (winIdx w.toNat k) data).tblWord (winIdx w.toNat k) = data &&& tblMask (winIdx w.toNat k) ∧
    ∀ i, i ≠ winIdx w.toNat k → (s.hostTable (winIdx w.toNat k) data).tblWord i = s.tblWord i := by
  rw [State.hostTable_window_taken hk hup hm hw]
  refine ⟨?_, fun i hi => ?_⟩
  · rw [State.tblWord_markDirty, State.tblWord_markDirty, State.winPut, State.tblWord_setTbl_same]
  · rw [State.tblWord_markDirty, State.tblWord_markDirty, State.winPut, State.tblWord_setTbl_ne _ _ hi]

end

/-! ### What each write comes to (R341, R343, R506) -/

section
variable (s : State) {w : BitVec 10} {k : Nat} (hk : k < 8) (data : Word)
include hk

/-- Words 1 to 7 are written while the window is FREE. -/
theorem State.writeWindow_word (hc : s.eng.winChecks = true) (h0 : k ≠ 0) : s.writeWindow (winIdx w.toNat k) data =
    if s.win w.toNat WIN.STATE = 0 then (true, s.winPut w.toNat k data) else (false, s.refuseTbl (winIdx w.toNat k) 0x4A data) := by
  simp only [State.writeWindow, hc, winIdx_mod _ hk, winIdx_window w.isLt hk, h0, ne_eq, not_false_eq_true, Bool.not_true, Bool.false_eq_true, if_true,
    if_false]
  rfl

/-- Before SCRUB_CTL.EN has been written 1 every word is stored but a word 0 whose STATE is not FREE (R506). -/
theorem State.writeWindow_unchecked (hc : s.eng.winChecks = false) : s.writeWindow (winIdx w.toNat k) data =
    if k = 0 ∧ bits data.toNat 0 3 ≠ 0 then (false, s.refuseTbl (winIdx w.toNat k) 0x4A data) else (true, s.winPut w.toNat k data) := by
  simp only [State.writeWindow, hc, winIdx_mod _ hk, Bool.not_false, if_true, Bool.and_eq_true, decide_eq_true_eq, bne_iff_ne]
  rfl

end

section
variable (s : State) {w : BitVec 10} (data : Word)

/-- A checked write of word 0 with the STATE `v`. -/
theorem State.writeWindow_state (hc : s.eng.winChecks = true) {v : Nat} (hv : v < 8) : s.writeWindow (winIdx w.toNat 0) (setBits data 0 3 v) =
    if v = 1 ∧ s.win w.toNat WIN.STATE = 0 then
      match (s.winPut w.toNat 0 (setBits data 0 3 v)).armRefusal w.toNat with
      | some code => (false, s.refuseTbl (winIdx w.toNat 0) code (setBits data 0 3 v))
      | none => (true, (s.winPut w.toNat 0 (setBits data 0 3 v)).armWindow w.toNat)
    else if v = 0 ∧ s.winIn w.toNat [0, 1, 4, 5] = true then (true, (s.winPut w.toNat 0 (setBits data 0 3 v)).dropWinWork w.toNat)
    else if v = 5 ∧ s.winIn w.toNat [1, 2] = true then (true, s.failWindow w.toNat [5] true)
    else (false, s.refuseTbl (winIdx w.toNat 0) 0x4A (setBits data 0 3 v)) := by
  have new : bits (setBits data 0 3 v).toNat 0 3 = v := (bits_setBits_same data 0 3 v (by decide)).trans (Nat.mod_eq_of_lt hv)
  simp only [State.writeWindow, hc, new, winIdx_mod _ (show 0 < 8 by decide), winIdx_window w.isLt (show 0 < 8 by decide), ne_eq, not_true_eq_false,
    Bool.not_true, Bool.false_eq_true, if_false, State.winIn, Bool.and_eq_true, decide_eq_true_eq, List.contains_cons, List.contains_nil, Bool.or_eq_true,
    beq_iff_eq, Bool.false_eq_true, or_false]
  rfl

end

/-! ### Arming (R341, R343, R460) -/

/-- A choice between codes gives no code outside their range. -/
theorem ite_code_lt {c : Prop} [Decidable c] {a : Nat} {r : Option Nat} (ha : a < 256) (hr : ∀ x ∈ r, x < 256) :
    ∀ x ∈ (if c then some a else r), x < 256 := by
  split
  · exact fun x hx => Option.some.inj hx ▸ ha
  · exact hr

/-- The codes of R460 are at most 0x4B. -/
theorem State.armRefusal_lt (s : State) (n : Nat) : ∀ code ∈ s.armRefusal n, code < 256 := by
  unfold State.armRefusal
  dsimp only
  repeat refine ite_code_lt (by decide) ?_
  exact fun _ h => nomatch h

theorem State.line_eng (s : State) (e : Engine) (l : Nat) : ({ s with eng := e } : State).line l = s.line l := rfl

theorem State.line_setLine (s : State) (n : Nat) (v : Line) (l : Nat) : (s.setLine n v).line l = if n = l then v else s.line l := by
  obtain ⟨_, h⟩ := s.setLine_eq n v
  simp only [h, State.line, State.lineIs, Sparse.find_set, State.lineDefault]
  by_cases hl : n = l
  · by_cases hz : s.basinZeroed = true <;> by_cases hv : v = 0#512 <;> simp [hl, hz, hv]
  · simp only [hl, if_false]

theorem State.line_zeroLines (s : State) (first k l : Nat) :
    (s.zeroLines first k).line l = if first ≤ l ∧ l < first + k then 0 else s.line l := by
  induction k generalizing s first with
  | zero => rw [if_neg (by omega), State.zeroLines]
  | succ k ih =>
    rw [State.zeroLines, ih, State.line_setLine]
    by_cases h : first = l
    · rw [if_pos h, ite_self, if_pos (by omega)]
    · rw [if_neg h]
      by_cases h2 : first + 1 ≤ l ∧ l < first + 1 + k
      · rw [if_pos h2, if_pos (by omega)]
      · rw [if_neg h2, if_neg (by omega)]

theorem State.win_zeroLines (s : State) (first k n : Nat) (f : WinField) : (s.zeroLines first k).win n f = s.win n f := by
  induction k generalizing s first with
  | zero => rfl
  | succ k ih => exact (ih _ _).trans (s.win_setLine n f first 0)

theorem linesMeet_one {l : Nat} {b : Nat × Nat} (h : linesMeet (l, 1) b = true) : b.1 ≤ l ∧ l < b.1 + b.2 := by
  simp only [linesMeet, Bool.and_eq_true, decide_eq_true_eq] at h
  omega

/-- The descriptor of an accepted arm: its counts cleared, and XWIN captured. -/
def State.winArmed (s : State) (n : Nat) : State :=
  (((((s.setWin n WIN.STATE 1).setWin n WIN.EARLY_N 0).setWin n WIN.LATE_N 0).setTbl (winIdx n 7) 0).setWin n WIN.XWIN_CAP (s.ctxOf (s.win n WIN.CTX)).xwin)

section
variable (s : State) (n : Nat)

/-- The lines of an armed window are zero. -/
def State.winZeroed (s : State) (n : Nat) : State :=
  (s.zeroLines (s.winAcc n).1 (s.winAcc n).2).zeroLines (s.winBmp n).1 (s.winBmp n).2

theorem State.armWindow_eq : ∃ e, s.armWindow n = { (s.winArmed n).winZeroed n with eng := e } ∧ e.zeroing.contains n = true :=
  ⟨_, rfl, by simp⟩

theorem State.armWindow_win (f : WinField) : (s.armWindow n).win n f = (s.winArmed n).win n f := by
  obtain ⟨e, h, -⟩ := s.armWindow_eq n
  rw [h, State.win_eng, State.winZeroed, State.win_zeroLines, State.win_zeroLines]

/-- Fields that an arm does not set: those of words 1 to 6, but for the two counts of contributions turned away, and of word 0 but for STATE. -/
theorem State.winArmed_keeps {f : WinField} (hf : f.lo + f.width ≤ 64) (h0 : f.word ≠ 0 ∨ 3 ≤ f.lo)
    (h5 : f.word < 5) : (s.winArmed n).win n f = s.win n f := by
  have h7 : winIdx n f.word ≠ winIdx n 7 := by
    simp only [winIdx]
    omega
  have set (t : State) : (t.setTbl (winIdx n 7) 0).win n f = t.win n f := State.win_congr (State.tblWord_setTbl_ne _ _ h7)
  rw [State.winArmed, State.win_setWin_apart _ _ _ ⟨hf, .inl (by simp only [WIN.XWIN_CAP]; omega)⟩, set,
    State.win_setWin_apart _ _ _ ⟨hf, .inl (by simp only [WIN.LATE_N]; omega)⟩,
    State.win_setWin_apart _ _ _ ⟨hf, .inl (by simp only [WIN.EARLY_N]; omega)⟩,
    State.win_setWin_apart _ _ _ ⟨hf, by simp only [WIN.STATE]; omega⟩]

theorem State.winArmed_lines : (s.winArmed n).winAcc n = s.winAcc n ∧ (s.winArmed n).winBmp n = s.winBmp n := by
  have keeps {f : WinField} (hf : f.lo + f.width ≤ 64) (h0 : f.word ≠ 0 ∨ 3 ≤ f.lo) (h5 : f.word < 5) := s.winArmed_keeps n hf h0 h5
  simp only [State.winAcc, State.winBmp, State.accLines, State.bmpLines, keeps (f := WIN.BASE_LINE) (by decide) (by decide) (by decide),
    keeps (f := WIN.BMP_LINE) (by decide) (by decide) (by decide), keeps (f := WIN.MODE) (by decide) (by decide) (by decide),
    keeps (f := WIN.NELEM) (by decide) (by decide) (by decide), keeps (f := WIN.EXPECT) (by decide) (by decide) (by decide), and_self]

/-- Every line of the window reads zero after an arm (R341). -/
theorem State.armWindow_line {l : Nat} (h : linesMeet (l, 1) (s.winAcc n) = true ∨ linesMeet (l, 1) (s.winBmp n) = true) :
    (s.armWindow n).line l = 0 := by
  obtain ⟨e, armed, -⟩ := s.armWindow_eq n
  obtain ⟨acc, bmp⟩ := s.winArmed_lines n
  rw [armed, State.line_eng, State.winZeroed, State.line_zeroLines, State.line_zeroLines, acc, bmp]
  rcases h with h | h
  · rw [if_pos (linesMeet_one h), ite_self]
  · rw [if_pos (linesMeet_one h)]

/-- What an arm leaves in the descriptor (R341). -/
theorem State.armWindow_fields : (s.armWindow n).win n WIN.STATE = 1 ∧ (s.armWindow n).win n WIN.EARLY_N = 0 ∧
    (s.armWindow n).win n WIN.LATE_N = 0 ∧ (s.armWindow n).win n WIN.COMMITS = 0 ∧ (s.armWindow n).win n WIN.ARRIVED = 0 ∧
    (s.armWindow n).win n WIN.OUTCOME = 0 ∧ (s.armWindow n).win n WIN.XWIN_CAP = (s.ctxOf (s.win n WIN.CTX)).xwin % 2 ^ 8 := by
  have set (t : State) {f : WinField} (hf : f.word < 7) : (t.setTbl (winIdx n 7) 0).win n f = t.win n f :=
    State.win_congr (State.tblWord_setTbl_ne _ _ (by simp only [winIdx]; omega))
  have zero (t : State) {f : WinField} (hf : f.word = 7) : (t.setTbl (winIdx n 7) 0).win n f = 0 := by
    rw [State.win, hf, State.tblWord_setTbl_same]
    simp [bits]
  simp only [State.armWindow_win, State.winArmed]
  refine ⟨?_, ?_, ?_, ?_, ?_, ?_, State.win_setWin_same _ _ _ (by decide)⟩
  · rw [State.win_setWin_apart _ _ _ (by decide), set _ (by decide), State.win_setWin_apart _ _ _ (by decide),
      State.win_setWin_apart _ _ _ (by decide), State.win_setWin_same _ _ _ (by decide)]
    rfl
  · rw [State.win_setWin_apart _ _ _ (by decide), set _ (by decide), State.win_setWin_apart _ _ _ (by decide),
      State.win_setWin_same _ _ _ (by decide)]
    rfl
  · rw [State.win_setWin_apart _ _ _ (by decide), set _ (by decide), State.win_setWin_same _ _ _ (by decide)]
    rfl
  · rw [State.win_setWin_apart _ _ _ (by decide), zero _ (by decide)]
  · rw [State.win_setWin_apart _ _ _ (by decide), zero _ (by decide)]
  · rw [State.win_setWin_apart _ _ _ (by decide), zero _ (by decide)]

end

/-! ### The statement -/

theorem State.winPut_state (s : State) (n : Nat) (data : Word) {v : Nat} (hv : v < 8) :
    (s.winPut n 0 (setBits data 0 3 v)).win n WIN.STATE = v := by
  rw [State.win, State.winPut, show winIdx n WIN.STATE.word = winIdx n 0 from rfl, State.tblWord_setTbl_same]
  exact (bits_masked_state data n v).trans (Nat.mod_eq_of_lt hv)

theorem State.winIn_iff (s : State) (n : Nat) (l : List Nat) : s.winIn n l = true ↔ s.win n WIN.STATE ∈ l := by
  rw [State.winIn, List.contains_iff_mem]

theorem State.markDirty_line (s : State) (c l : Nat) : (s.markDirty c).line l = s.line l := State.put_line _ _ _ l

theorem State.markDirty_eng (s : State) (c : Nat) : (s.markDirty c).eng = s.eng := State.put_eng ..

/-- Settles O38: a write of a window's word is stored or refused as the window's STATE says, an arm that R460 does not refuse leaves the counts
cleared and the lines zero, a window that does not run is freed, and one that is armed or open fails. -/
theorem windowDescriptorsAreArmedFreedAndAborted : Obligations.WindowDescriptorsAreArmedFreedAndAborted := by
  unfold Obligations.WindowDescriptorsAreArmedFreedAndAborted
  refine ⟨?stored, ?notFree, ?unchecked, ?armState, ?armRefused, ?armed, ?freed, ?freeRefused, ?aborted, ?abortRefused⟩
  case stored =>
    intro s w k data hup hm hc hk hst
    have hw := s.writeWindow_word (w := w) k.isLt data hc fun h => hk (BitVec.eq_of_toNat_eq h)
    rw [exec_windowWordWrite]
    exact ⟨_, rfl, State.hostTable_window_put k.isLt hup hm (hw.trans (if_pos hst))⟩
  case notFree =>
    intro s w k data hup hm hc hk hst
    have hw := s.writeWindow_word (w := w) k.isLt data hc fun h => hk (BitVec.eq_of_toNat_eq h)
    rw [exec_windowWordWrite]
    exact ⟨_, rfl, State.hostTable_window_refused k.isLt hup hm (by decide) (hw.trans (if_neg hst))⟩
  case unchecked =>
    intro s w k data hup hm hc hk
    have stored : ¬ (k.toNat = 0 ∧ bits data.toNat 0 3 ≠ 0) := fun h =>
      hk.elim (fun hk => hk (BitVec.eq_of_toNat_eq h.1)) h.2
    rw [exec_windowWordWrite]
    exact ⟨_, rfl, (State.hostTable_window_put k.isLt hup hm ((s.writeWindow_unchecked k.isLt data hc).trans (if_neg stored))).1⟩
  case armState =>
    intro s w data hup hm hst
    rw [exec_windowArm]
    refine ⟨_, rfl, State.hostTable_window_refused (by decide) hup hm (by decide) ?_⟩
    cases hc : s.eng.winChecks with
    | false =>
      have new : bits (setBits data 0 3 1).toNat 0 3 = 1 := bits_setBits_same data 0 3 1 (by decide)
      rw [s.writeWindow_unchecked (by decide) _ hc, if_pos ⟨rfl, by rw [new]; decide⟩]
    | true =>
      have busy := hst.resolve_left (by rw [hc]; decide)
      rw [s.writeWindow_state data hc (by decide), if_neg fun h => busy h.2, if_neg (by simp), if_neg (by simp)]
  case armRefused =>
    rintro s p w data code hup hm hc hst rfl hr
    rw [exec_windowArm]
    refine ⟨_, rfl, State.hostTable_window_refused (by decide) hup hm (State.armRefusal_lt _ _ _ hr) ?_⟩
    rw [s.writeWindow_state data hc (by decide), if_pos ⟨rfl, hst⟩, State.winPut, hr]
  case armed =>
    rintro s p w data hup hm hc hst rfl hr
    rw [exec_windowArm]
    have hw : s.writeWindow (winIdx w.toNat 0) (setBits data 0 3 1) = (true, (s.winPut w.toNat 0 (setBits data 0 3 1)).armWindow w.toNat) := by
      rw [s.writeWindow_state data hc (by decide), if_pos ⟨rfl, hst⟩, State.winPut, hr]
    rw [State.hostTable_window_taken (by decide) hup hm hw]
    obtain ⟨e, armed, zeroing⟩ := (s.winPut w.toNat 0 (setBits data 0 3 1)).armWindow_eq w.toNat
    obtain ⟨state, early, late, commits, arrived, outcome, xwin⟩ := (s.winPut w.toNat 0 (setBits data 0 3 1)).armWindow_fields w.toNat
    refine ⟨_, rfl, ?_⟩
    simp only [State.win_markDirty, State.markDirty_line, State.markDirty_eng]
    refine ⟨state, early, late, commits, arrived, outcome, xwin, ?_, fun l hl => State.armWindow_line _ _ hl⟩
    rw [armed]
    exact zeroing
  case freed =>
    intro s w data hup hm hc hst
    have hw : s.writeWindow (winIdx w.toNat 0) (setBits data 0 3 0) = (true, (s.winPut w.toNat 0 (setBits data 0 3 0)).dropWinWork w.toNat) := by
      rw [s.writeWindow_state data hc (by decide), if_neg (by simp), if_pos ⟨rfl, hst⟩]
    rw [exec_windowFree, State.hostTable_window_taken (by decide) hup hm hw]
    refine ⟨_, rfl, ?_, ?_, ?_⟩
    · rw [State.win_markDirty, State.win_markDirty, State.win_dropWinWork, State.winPut_state _ _ _ (by decide)]
    · simp [State.markDirty_eng, State.dropWinWork]
    · simp [State.markDirty_eng, State.dropWinWork]
  case freeRefused =>
    intro s w data hup hm hc hst
    rw [exec_windowFree]
    have runs := (s.winIn_iff _ _).mp hst
    have stays : ¬ s.winIn w.toNat [0, 1, 4, 5] = true := fun h => by
      have := (s.winIn_iff _ _).mp h
      simp only [List.mem_cons, List.not_mem_nil, or_false] at this runs
      omega
    refine ⟨_, rfl, State.hostTable_window_refused (by decide) hup hm (by decide) ?_⟩
    rw [s.writeWindow_state data hc (by decide), if_neg (by simp), if_neg fun h => stays h.2, if_neg (by simp)]
  case aborted =>
    intro s w data hup hm hc hst
    have hw : s.writeWindow (winIdx w.toNat 0) (setBits data 0 3 5) = (true, s.failWindow w.toNat [5] true) := by
      rw [s.writeWindow_state data hc (by decide), if_neg (by simp), if_neg (by simp), if_pos ⟨rfl, hst⟩]
    rw [exec_windowAbort, State.hostTable_window_taken (by decide) hup hm hw]
    refine ⟨_, rfl, ?_, ?_, Raised.markDirty (Raised.markDirty (s.failWindow_raised ..) _) _⟩
    · rw [State.win_markDirty, State.win_markDirty, State.failWindow_state]
    · rw [State.win_markDirty, State.win_markDirty]
      exact s.failWindow_outcome _ _ _ (by decide) List.mem_cons_self
  case abortRefused =>
    intro s w data hup hm hst
    rw [exec_windowAbort]
    refine ⟨_, rfl, State.hostTable_window_refused (by decide) hup hm (by decide) ?_⟩
    cases hc : s.eng.winChecks with
    | false =>
      have new : bits (setBits data 0 3 5).toNat 0 3 = 5 := bits_setBits_same data 0 3 5 (by decide)
      rw [s.writeWindow_unchecked (by decide) _ hc, if_pos ⟨rfl, by rw [new]; decide⟩]
    | true =>
      rw [s.writeWindow_state data hc (by decide), if_neg (by simp), if_neg (by simp), if_neg fun h => by rw [hst] at h; exact absurd h.2 (by decide)]

end Sys2Proof.Machine
end

section
/-!
PROOFS. The Basin zeroed, and windows that open, close and end at their beats (R333, R343, R344, R351, R352, R354).
-/

namespace Sys2Proof.Machine

theorem exec_basinInitGo (s : State) : exec .basinInitGo s = execBasinInitGo s := rfl
theorem exec_basinInitDone (cycles : Nat) (s : State) : exec (.basinInitDone cycles) s = execBasinInitDone cycles s := rfl
theorem exec_windowZeroingDone (w : BitVec 10) (cycles : Nat) (s : State) :
    exec (.windowZeroingDone w cycles) s = execWindowZeroingDone w cycles s := rfl
theorem exec_windowOpenBeat (w : BitVec 10) (now : Beat) (s : State) : exec (.windowOpenBeat w now) s = execWindowOpenBeat w now s := rfl
theorem exec_windowCloseBeat (w : BitVec 10) (now : Beat) (ue : Option (BitVec 18)) (s : State) :
    exec (.windowCloseBeat w now ue) s = execWindowCloseBeat w now s ue false := rfl
theorem exec_closeWritesAccepted (w : BitVec 10) (s : State) : exec (.closeWritesAccepted w) s = execCloseWritesAccepted w s := rfl

/-! ### What a row's time and events leave alone (R59, R248) -/

section
variable (s : State) (now : Beat)

@[simp] theorem State.at_mem : (s.at now).mem = s.mem := by obtain ⟨_, _, h⟩ := s.at_eq now; rw [h]
@[simp] theorem State.at_eng : (s.at now).eng = s.eng := by obtain ⟨_, _, h⟩ := s.at_eq now; rw [h]
@[simp] theorem State.at_isM : (s.at now).isM = s.isM := by rw [State.isM, State.at_role, State.isM]
@[simp] theorem State.at_engRuns : (s.at now).engRuns = s.engRuns := by
  rw [State.engRuns, State.at_isM, State.at_dieRst, State.at_clkOn, State.engRuns]
@[simp] theorem State.at_ctxOf (c : Nat) : (s.at now).ctxOf c = s.ctxOf c := by simp only [State.ctxOf, State.tblWord_at]
@[simp] theorem State.at_winAcc (n : Nat) : (s.at now).winAcc n = s.winAcc n := by simp only [State.winAcc, State.accLines, State.win_at]

@[simp] theorem State.raise_eng (e : Event) (v : Nat) : (s.raise e v).eng = s.eng := by
  obtain ⟨_, _, h⟩ := s.raise_eq e v
  rw [h]
@[simp] theorem State.raise_mem (e : Event) (v : Nat) : (s.raise e v).mem = s.mem := State.mem_calm (s.raise_calm e v)

variable (n : Nat) (f : WinField) (v : Nat)

@[simp] theorem State.setWin_eng : (s.setWin n f v).eng = s.eng := by
  obtain ⟨_, _, h⟩ := s.setTblPart_eq (winIdx n f.word) (setBits (s.tblWord (winIdx n f.word)) f.lo f.width v)
  rw [State.setWin, h]
@[simp] theorem State.setWin_mem : (s.setWin n f v).mem = s.mem := State.mem_calm (State.setTblPart_calm ..)
@[simp] theorem State.setWin_regs : (s.setWin n f v).regs = s.regs := by
  obtain ⟨_, _, h⟩ := s.setTblPart_eq (winIdx n f.word) (setBits (s.tblWord (winIdx n f.word)) f.lo f.width v)
  rw [State.setWin, h]
@[simp] theorem State.setWin_chip : (s.setWin n f v).chip = s.chip := by
  obtain ⟨_, _, h⟩ := s.setTblPart_eq (winIdx n f.word) (setBits (s.tblWord (winIdx n f.word)) f.lo f.width v)
  rw [State.setWin, h]
@[simp] theorem State.setWin_beat : (s.setWin n f v).beat = s.beat := by
  obtain ⟨_, _, h⟩ := s.setTblPart_eq (winIdx n f.word) (setBits (s.tblWord (winIdx n f.word)) f.lo f.width v)
  rw [State.setWin, h]

theorem State.writeRecord_eng : (s.writeRecord n).eng = s.eng := by
  have note (t : State) (g : Nat) : (t.noteWrite g).eng = t.eng := by
    simp only [State.noteWrite, apply_ite State.eng, State.setTxn_eng, State.bump_eng, ite_self]
  have write (a : Nat) (bs : List Byte) : (s.engWrite a bs).eng = s.eng := by
    obtain ⟨_, h⟩ := (s.emit (.memWrite a bs)).setMemBytes_eq a bs
    rw [State.engWrite, State.memTake, h]
    exact foldl_keeps State.eng note _ _
  unfold State.writeRecord
  split
  · exact write ..
  · rfl

end

/-! ### The Basin zeroed (R333) -/

section
variable {s : State}

/-- A command of a page that serves the end's role acts, or is refused for the reason that its check gives (R439, R440). -/
theorem State.command_served {key : Nat} (h : HostUp s (keyDomains key)) (hp : s.present (key / 4096) = true) (data : Word)
    {check : State → Option Reason} (act : State → State) (hc : check s = none) : s.command key data check act = act s := by
  rw [s.command_eq h, hp, hc]
  rfl
theorem State.command_turned {key : Nat} (h : HostUp s (keyDomains key)) (hp : s.present (key / 4096) = true) (data : Word)
    {check : State → Option Reason} (act : State → State) {r : Reason} (hc : check s = some r) : s.command key data check act = s.refuse key r data := by
  rw [s.command_eq h, hp, hc]
  rfl

theorem execBasinInitGo_takes (h : HostUp s (keyDomains BASIN.INIT_CMD.GO.key)) (hm : s.isM = true) (hr : s.on BASIN.INIT_STAT.RUNNING = false)
    (hw : s.windowsIn [1, 2, 3, 4, 5] = []) :
    execBasinInitGo s = .next ((s.put BASIN.INIT_STAT.RUNNING 1).put BASIN.INIT_STAT.DONE 0) := by
  rw [execBasinInitGo, State.command_served h hm]
  simp only [hr, hw, bne_self_eq_false, Bool.false_eq_true, if_false]

theorem execBasinInitGo_refuses (h : HostUp s (keyDomains BASIN.INIT_CMD.GO.key)) (hm : s.isM = true) (hr : s.on BASIN.INIT_STAT.RUNNING = false)
    (hw : s.windowsIn [1, 2, 3, 4, 5] ≠ []) : execBasinInitGo s = .next (s.refuse BASIN.INIT_CMD.GO.key .state 1) := by
  rw [execBasinInitGo, State.command_turned h hm (r := .state)]
  simp only [hr, bne_iff_ne.mpr hw, Bool.false_eq_true, if_false, if_true]

/-- Every line reads zero once the Basin has been zeroed; the code words' write-backs are dropped besides. -/
theorem execBasinInitDone_eq {cycles : Nat} (hr : s.engRuns = true) (hi : s.on BASIN.INIT_STAT.RUNNING = true) (hc : 16384 ≤ cycles) :
    ∃ l, execBasinInitDone cycles s = .next (((({ s with basin := [], basinZeroed := true, arrays := l } : State).put BASIN.INIT_STAT.RUNNING 0).put
      BASIN.INIT_STAT.DONE 1).raise EV.BASIN.INIT_DONE 0) := by
  unfold execBasinInitDone
  simp only [hr, hi, hc, decide_true, Bool.and_self, if_true]
  split
  · exact ⟨_, rfl⟩
  · exact ⟨s.arrays, rfl⟩

theorem State.line_raise (e : Event) (v l : Nat) : (s.raise e v).line l = s.line l := by
  obtain ⟨_, _, h⟩ := s.raise_eq e v
  rw [h]
  rfl

end

/-! ### Opening (R343, R344) -/

section
variable {s : State} {w : BitVec 10}

theorem State.openWindow_state (s : State) (n : Nat) : (s.openWindow n).win n WIN.STATE = 2 := s.win_setWin_same n 2 (by decide)

theorem State.armLate_new {n : Nat} (h : s.eng.lateArm.contains n = false) :
    s.armLate n = ({ s with eng := { s.eng with lateArm := n :: s.eng.lateArm } } : State).raise EV.BASIN.WIN_ARM_LATE n := by
  rw [State.armLate, h]
  rfl

theorem execWindowZeroingDone_eq {cycles : Nat} (hr : s.engRuns = true) (hst : s.win w.toNat WIN.STATE = 1)
    (hz : s.eng.zeroing.contains w.toNat = true) (hc : s.accLines w.toNat + s.bmpLines w.toNat ≤ 4 * cycles) :
    ∃ z : State, z = { s with eng := { s.eng with zeroing := s.eng.zeroing.filter (· != w.toNat) } } ∧ execWindowZeroingDone w cycles s = .next
      (if s.reached (s.openBeat w.toNat) then
        (if s.openBeat w.toNat = s.beat then z.openWindow w.toNat else (z.armLate w.toNat).openWindow w.toNat) else z) := by
  refine ⟨_, rfl, ?_⟩
  simp only [execWindowZeroingDone, hr, hst, hz, hc, beq_self_eq_true, decide_true, Bool.and_self, if_true]

theorem execWindowOpenBeat_eq {now : Beat} (hr : s.engRuns = true) (hst : s.win w.toNat WIN.STATE = 1)
    (hb : (s.at now).reached (s.openBeat w.toNat) = true) : execWindowOpenBeat w now s = .next
      (if s.eng.zeroing.contains w.toNat then (s.at now).armLate w.toNat else (s.at now).openWindow w.toNat) := by
  have beat : (s.at now).openBeat w.toNat = s.openBeat w.toNat := s.tblWord_at _ now
  simp only [execWindowOpenBeat, State.at_engRuns, State.win_at, beat, State.at_eng, hr, hst, hb, beq_self_eq_true, Bool.and_self, if_true]

end

/-! ### Closing (R344, R351, R354) -/

section
variable {s : State} {w : BitVec 10} {now : Beat} (hr : s.engRuns = true) (hst : s.win w.toNat WIN.STATE = 2)
  (hb : (s.closeBeat w.toNat).toNat + s.get BASIN.WIN_CTL.SLACK ≤ (s.at now).beat.toNat)
include hr hst hb

theorem execWindowCloseBeat_closes : execWindowCloseBeat w now s none false =
    .next ((s.at now).closeStart w.toNat (s.win w.toNat WIN.ARRIVED == s.win w.toNat WIN.EXPECT)) := by
  have beat : (s.at now).closeBeat w.toNat = s.closeBeat w.toNat := s.tblWord_at _ now
  simp only [execWindowCloseBeat, State.at_engRuns, State.win_at, State.at_get, beat, hr, hst, hb, beq_self_eq_true, decide_true, Bool.and_self, if_true,
    Option.filter_none, State.withMiss, Bool.false_eq_true, if_false]

theorem execWindowCloseBeat_finds {i : BitVec 18} (hi : linesMeet (i.toNat / 4, 1) (s.winAcc w.toNat) = true) :
    execWindowCloseBeat w now s (some i) false = .next ((s.at now).lineLost w.toNat i.toNat) := by
  have beat : (s.at now).closeBeat w.toNat = s.closeBeat w.toNat := s.tblWord_at _ now
  simp only [execWindowCloseBeat, State.at_engRuns, State.win_at, State.at_get, State.at_winAcc, beat, hr, hst, hb, beq_self_eq_true, decide_true,
    Bool.and_self, if_true, Option.filter_some, hi]

end

section
variable (s : State) (n : Nat)

/-- The window whose lines are sound closes with what has arrived. -/
def State.closing (s : State) (n : Nat) (complete : Bool) : State := (s.setWin n WIN.STATE 3).setOutcome n (if complete then 0 else 1)

/-- In MODE 0 and without a result the close waits for memory alone (R351). -/
theorem State.closeStart_plain {s : State} {n : Nat} {complete : Bool} (hl : (s.ctxOf (s.win n WIN.CTX)).lost = false)
    (hm : s.win n WIN.MODE = 0) (hw : s.win n WIN.CL_WRITE = 0) : s.closeStart n complete =
      { s.closing n complete with eng := { s.eng with closing := n :: s.eng.closing } } := by
  have keeps {f : WinField} (h : f.lo + f.width ≤ 64) (h0 : f.word = 0 ∧ 3 ≤ f.lo) : (s.closing n complete).win n f = s.win n f := by
    rw [State.closing, State.win_setOutcome _ _ _ ⟨h, .inl (by omega)⟩, State.win_setWin_apart _ _ _ ⟨h, by simp only [WIN.STATE]; omega⟩]
  have mode : (s.closing n complete).win n WIN.MODE = 0 := (keeps (by decide) (by decide)).trans hm
  have write : (s.closing n complete).win n WIN.CL_WRITE = 0 := (keeps (by decide) (by decide)).trans hw
  have sound : (s.closing n complete).guardBad n = none := by
    rw [State.guardBad, mode]
    rfl
  have silent : (s.closing n complete).resultWritten n = false := by
    rw [State.resultWritten, write]
    rfl
  have eng : (s.closing n complete).eng = s.eng := by
    simp only [State.closing, State.setOutcome, State.setWin_eng]
  rw [State.closeStart, hl]
  simp only [Bool.false_eq_true, if_false]
  rw [show (s.setWin n WIN.STATE 3).setOutcome n (if complete = true then 0 else 1) = s.closing n complete from rfl, sound]
  simp only [mode, silent, eng, Bool.false_and, Bool.false_eq_true, if_false, Nat.reduceEqDiff, decide_false]

theorem State.closing_state (complete : Bool) : (s.closing n complete).win n WIN.STATE = 3 := by
  rw [State.closing, State.win_setOutcome _ _ _ (by decide), State.win_setWin_same _ _ _ (by decide)]
  rfl

theorem State.closing_outcome (complete : Bool) : bit ((s.closing n complete).win n WIN.OUTCOME) (if complete then 0 else 1) = true :=
  State.setOutcome_bit _ n _ (by split <;> decide)

/-- A window fails where a word of its lines is found uncorrectable (R354, R422). -/
theorem State.lineLost_fails (word : Nat) : (s.lineLost n word).win n WIN.STATE = 5 ∧ bit ((s.lineLost n word).win n WIN.OUTCOME) 4 = true ∧
    Raised EV.BASIN.WIN_FAILED (s.lineLost n word) := by
  unfold State.lineLost
  rw [State.win_reportLost, State.win_reportLost]
  exact ⟨State.failWindow_state .., State.failWindow_outcome _ _ _ _ (by decide) List.mem_cons_self, Raised.reportLost (State.failWindow_raised ..) _ _⟩

end

/-! ### The end of a close (R351, R352, R354) -/

/-- The events of a window that has closed (R351). -/
def State.closeTold (s : State) (n : Nat) : State :=
  let s1 := if s.win n WIN.CL_EVENT = 1 then (s.winCapture n 0 EV.BASIN.WIN_CLOSED.bit).raise EV.BASIN.WIN_CLOSED n else s
  if bit (s1.win n WIN.OUTCOME) 1 then s1.raise EV.BASIN.WIN_INCOMPLETE n else s1

/-- The window as it closes, before its record. -/
def State.winClosed (s : State) (n : Nat) : State :=
  ((if (s.ctxOf (s.win n WIN.CTX)).lost then s.setOutcome n 4 else s).dropWinWork n).setWin n WIN.STATE 4

section
variable (s : State) (n : Nat)

theorem State.closeEnd_eq {s : State} {n : Nat} (h : s.win n WIN.CL_REC = 1 → s.pageDrained (64 * s.win n WIN.REC_ADDR) = false) :
    s.closeEnd n = ((s.winClosed n).writeRecord n).closeTold n := by
  have goes : (decide (s.win n WIN.CL_REC = 1) && s.pageDrained (64 * s.win n WIN.REC_ADDR)) = false := by
    by_cases hc : s.win n WIN.CL_REC = 1
    · rw [h hc, Bool.and_false]
    · rw [decide_eq_false hc, Bool.false_and]
  rw [State.closeEnd, if_neg (by rw [goes]; decide)]
  rfl

theorem State.winCapture_eng (l ev : Nat) : (s.winCapture n l ev).eng = s.eng := by
  rw [State.winCapture, State.put_eng, State.put_eng, State.put_eng, State.put_eng]
theorem State.winCapture_mem (l ev : Nat) : (s.winCapture n l ev).mem = s.mem := by
  rw [State.winCapture, State.put_mem, State.put_mem, State.put_mem, State.put_mem]

theorem State.closeTold_cases {β : Type} (p : State → β) (hr : ∀ (t : State) (e : Event) (v : Nat), p (t.raise e v) = p t)
    (hc : ∀ (t : State) (l ev : Nat), p (t.winCapture n l ev) = p t) : p (s.closeTold n) = p s := by
  unfold State.closeTold
  dsimp only
  split
  · split
    · rw [hr, hr, hc]
    · rw [hr, hc]
  · split
    · rw [hr]
    · rfl

theorem State.closeTold_win (f : WinField) : (s.closeTold n).win n f = s.win n f :=
  s.closeTold_cases n (fun t => t.win n f) (fun t e v => t.win_raise n f e v) fun t l ev => t.win_winCapture n f n l ev
theorem State.closeTold_eng : (s.closeTold n).eng = s.eng :=
  s.closeTold_cases n State.eng State.raise_eng fun t l ev => t.winCapture_eng n l ev
theorem State.closeTold_mem : (s.closeTold n).mem = s.mem :=
  s.closeTold_cases n State.mem State.raise_mem fun t l ev => t.winCapture_mem n l ev

theorem State.closeTold_closed (h : s.win n WIN.CL_EVENT = 1) : Raised EV.BASIN.WIN_CLOSED (s.closeTold n) := by
  have closed := State.raise_raised (s.winCapture n 0 EV.BASIN.WIN_CLOSED.bit) EV.BASIN.WIN_CLOSED n (by decide)
  simp only [State.closeTold, h, if_true]
  split
  · exact closed.raise ..
  · exact closed

theorem State.closeTold_incomplete (h : bit (s.win n WIN.OUTCOME) 1 = true) : Raised EV.BASIN.WIN_INCOMPLETE (s.closeTold n) := by
  unfold State.closeTold
  dsimp only
  rw [if_pos]
  · exact State.raise_raised _ _ _ (by decide)
  · split
    · rwa [State.win_raise, State.win_winCapture]
    · exact h

/-- The window's fields as it closes: STATE and an outcome bit apart, those it had. -/
theorem State.winClosed_win {f : WinField} (hf : f.lo + f.width ≤ 64) (h0 : f.word ≠ 0 ∨ 3 ≤ f.lo) (h7 : f.word ≠ 7) :
    (s.winClosed n).win n f = s.win n f := by
  rw [State.winClosed, State.win_setWin_apart _ _ _ ⟨hf, by simp only [WIN.STATE]; omega⟩, State.win_dropWinWork]
  split
  · exact s.win_setOutcome n 4 ⟨hf, .inl h7.symm⟩
  · rfl

theorem State.winClosed_state : (s.winClosed n).win n WIN.STATE = 4 := State.win_setWin_same _ _ _ (by decide)

theorem State.winClosed_incomplete (h : bit (s.win n WIN.OUTCOME) 1 = true) : bit ((s.winClosed n).win n WIN.OUTCOME) 1 = true := by
  rw [State.winClosed, State.win_setWin_apart _ _ _ (by decide), State.win_dropWinWork]
  split
  · exact s.setOutcome_keeps n 4 (by decide) h
  · exact h

theorem State.winClosed_mem : (s.winClosed n).mem = s.mem := by
  rw [State.winClosed, State.setWin_mem]
  split
  · exact s.setWin_mem ..
  · rfl

theorem State.winClosed_eng : (s.winClosed n).eng = (s.dropWinWork n).eng := by
  rw [State.winClosed, State.setWin_eng]
  split
  · exact congrArg (fun e : Engine => (({ s with eng := e } : State).dropWinWork n).eng) (s.setWin_eng ..)
  · rfl

/-- A record spells the descriptor and the beat (R352). -/
theorem State.winRecord_congr {s t : State} {n : Nat} (hw : ∀ f, t.win n f = s.win n f) (hb : t.beat = s.beat) : t.winRecord n = s.winRecord n := by
  simp only [State.winRecord, hw, hb]

theorem State.winRecord_lt : s.winRecord n < 256 ^ 32 :=
  (packLow_lt_of (n := 256) rfl).trans_eq (Nat.pow_mul 2 8 32)

/-- What the end of a close leaves: the window CLOSED, nothing of it pending, and its events told. -/
theorem State.closeEnd_closes {s : State} {n : Nat} (h : s.win n WIN.CL_REC = 1 → s.pageDrained (64 * s.win n WIN.REC_ADDR) = false) :
    (s.closeEnd n).win n WIN.STATE = 4 ∧ (s.closeEnd n).eng.closing.contains n = false ∧
    (s.win n WIN.CL_EVENT = 1 → Raised EV.BASIN.WIN_CLOSED (s.closeEnd n)) ∧
    (bit (s.win n WIN.OUTCOME) 1 = true → Raised EV.BASIN.WIN_INCOMPLETE (s.closeEnd n)) := by
  rw [State.closeEnd_eq h]
  refine ⟨?_, ?_, fun he => ?_, fun hi => ?_⟩
  · rw [State.closeTold_win, State.win_writeRecord, State.winClosed_state]
  · rw [State.closeTold_eng, State.writeRecord_eng, State.winClosed_eng]
    simp [State.dropWinWork]
  · refine State.closeTold_closed _ n ?_
    rwa [State.win_writeRecord, State.winClosed_win _ _ (by decide) (by decide) (by decide)]
  · refine State.closeTold_incomplete _ n ?_
    rw [State.win_writeRecord]
    exact s.winClosed_incomplete n hi

theorem State.closeEnd_mem {s : State} {n : Nat} (h : s.win n WIN.CL_REC = 1 → s.pageDrained (64 * s.win n WIN.REC_ADDR) = false) :
    (s.closeEnd n).mem = ((s.winClosed n).writeRecord n).mem := by
  rw [State.closeEnd_eq h, State.closeTold_mem]

end

/-- The writes of a close are accepted while nothing holds them (R351, R432). -/
theorem execCloseWritesAccepted_ends {s : State} {w : BitVec 10} (hr : s.engRuns = true) (hst : s.win w.toNat WIN.STATE = 3)
    (hc : s.eng.closing.contains w.toNat = true) (hu : s.eng.unissued.contains w.toNat = false) (hh : s.closeHeld w.toNat = false) :
    execCloseWritesAccepted w s = .next (s.closeEnd w.toNat) := by
  have issued : s.closeIssue w.toNat = s := by
    rw [State.closeIssue, hu]
    rfl
  simp only [execCloseWritesAccepted, hr, hst, hc, hh, issued, beq_self_eq_true, Bool.not_false, Bool.and_self, if_true]

/-! ### The statement -/

/-- Settles O39: the Basin is zeroed where no window uses it, a window opens once its lines are zero and its beat has come, fails or closes at its
closing beat, and ends with its record where it asks for one. -/
theorem windowsOpenAndCloseOnTime : Obligations.WindowsOpenAndCloseOnTime := by
  unfold Obligations.WindowsOpenAndCloseOnTime
  refine ⟨?go, ?goRefused, ?zeroed, ?early, ?late, ?opens, ?armLate, ?closes, ?lost, ?badLine, ?ends, ?record⟩
  case go =>
    intro s hup hm hr hw
    rw [exec_basinInitGo, execBasinInitGo_takes hup hm hr hw]
    refine ⟨_, rfl, ?_, State.get_put_same _ _ _ (by decide), rfl⟩
    rw [State.get_put_apart _ _ (by decide), State.get_put_same _ _ _ (by decide)]
    rfl
  case goRefused =>
    intro s hup hm hr hw
    rw [exec_basinInitGo, execBasinInitGo_refuses hup hm hr hw]
    refine ⟨_, rfl, ?_, s.refuse_reason ..⟩
    rw [State.get, State.refuse_reg_ne _ _ _ (by decide), ← State.get]
    simpa [State.on] using hr
  case zeroed =>
    intro s cycles hr hi hc
    obtain ⟨l, h⟩ := execBasinInitDone_eq hr hi hc
    rw [exec_basinInitDone, h]
    refine ⟨_, rfl, fun n => ?_, ?_, ?_, State.raise_raised _ _ _ (by decide)⟩
    · rw [State.line_raise]
      rfl
    · rw [State.raise_get _ _ _ _ (by decide), State.get_put_apart _ _ (by decide), State.get_put_same _ _ _ (by decide)]
      rfl
    · rw [State.raise_get _ _ _ _ (by decide), State.get_put_same _ _ _ (by decide)]
      rfl
  case early =>
    intro s w cycles hr hst hz hc hb
    obtain ⟨z, rfl, h⟩ := execWindowZeroingDone_eq hr hst hz hc
    rw [exec_windowZeroingDone, h, hb]
    exact ⟨_, rfl, hst, by simp⟩
  case late =>
    intro s w cycles hr hst hz hc hb hl
    obtain ⟨z, rfl, h⟩ := execWindowZeroingDone_eq hr hst hz hc
    have reached : s.reached (s.openBeat w.toNat) = true := decide_eq_true (BitVec.le_of_lt hb)
    rw [exec_windowZeroingDone, h, if_pos reached, if_neg (BitVec.ne_of_lt hb), State.armLate_new (by exact hl)]
    refine ⟨_, rfl, State.openWindow_state .., ?_, ?_⟩
    · simp [State.openWindow]
    · exact (State.raise_raised _ _ _ (by decide)).congr (State.setWin_regs ..) (State.setWin_chip ..)
  case opens =>
    intro s w now hr hst hz hb
    rw [exec_windowOpenBeat, execWindowOpenBeat_eq hr hst hb, hz]
    refine ⟨_, rfl, State.openWindow_state .., (State.setWin_regs ..).trans (s.at_regs now), fun i hi => ?_⟩
    exact (State.tblWord_setWin_ne _ _ _ hi).trans (s.tblWord_at i now)
  case armLate =>
    intro s w now hr hst hz hb hl
    rw [exec_windowOpenBeat, execWindowOpenBeat_eq hr hst hb, hz, if_pos rfl, State.armLate_new (by rwa [State.at_eng])]
    refine ⟨_, rfl, ?_, State.raise_raised _ _ _ (by decide)⟩
    rw [State.win_raise, State.win_eng, State.win_at, hst]
  case closes =>
    intro s w now hr hst hb hl hm hw
    rw [exec_windowCloseBeat, execWindowCloseBeat_closes hr hst hb, State.closeStart_plain (by rwa [State.at_ctxOf, State.win_at])
      (by rwa [State.win_at]) (by rwa [State.win_at])]
    refine ⟨_, rfl, State.closing_state .., by simp, ?_, ?_⟩
    · exact (State.setWin_mem ..).trans ((State.setWin_mem ..).trans (s.at_mem now))
    · rw [State.win_eng]
      have outcome := (s.at now).closing_outcome w.toNat (s.win w.toNat WIN.ARRIVED == s.win w.toNat WIN.EXPECT)
      simpa only [beq_iff_eq] using outcome
  case lost =>
    intro s w now hr hst hb hl
    rw [exec_windowCloseBeat, execWindowCloseBeat_closes hr hst hb, State.closeStart, State.at_ctxOf, State.win_at, hl, if_pos rfl]
    exact ⟨_, rfl, State.failWindow_state .., State.failWindow_outcome _ _ _ _ (by decide) List.mem_cons_self, State.failWindow_raised ..⟩
  case badLine =>
    intro s w now i hr hst hb hi
    rw [exec_windowCloseBeat, execWindowCloseBeat_finds hr hst hb hi]
    exact ⟨_, rfl, State.lineLost_fails ..⟩
  case ends =>
    intro s w hr hst hc hu hh hrec
    have plain : s.win w.toNat WIN.CL_REC = 1 → s.pageDrained (64 * s.win w.toNat WIN.REC_ADDR) = false := fun h => by
      rw [hrec] at h
      cases h
    obtain ⟨state, closing, closed, incomplete⟩ := State.closeEnd_closes plain
    rw [exec_closeWritesAccepted, execCloseWritesAccepted_ends hr hst hc hu hh]
    refine ⟨_, rfl, state, closing, fun a => ?_, closed, incomplete⟩
    rw [State.memByte_congr (State.closeEnd_mem plain), State.writeRecord, if_neg]
    · exact State.memByte_congr (s.winClosed_mem _) a
    · rw [State.winClosed_win _ _ (by decide) (by decide) (by decide), hrec]
      decide
  case record =>
    rintro s c w a hr hst hc hu hh hrec rfl hp hl rfl
    have unshut : s.pageDrained (64 * s.win w.toNat WIN.REC_ADDR) = false := by
      rw [State.pageShut, Bool.or_eq_false_iff] at hp
      exact hp.1
    have keeps {f : WinField} (hf : f.lo + f.width ≤ 64) (h0 : f.word ≠ 0 ∨ 3 ≤ f.lo) (h7 : f.word ≠ 7) := s.winClosed_win w.toNat hf h0 h7
    have closed : s.winClosed w.toNat = (s.dropWinWork w.toNat).setWin w.toNat WIN.STATE 4 := by
      rw [State.winClosed, hl]
      rfl
    have same : (s.winClosed w.toNat).winRecord w.toNat = (s.setWin w.toNat WIN.STATE 4).winRecord w.toNat := by
      refine State.winRecord_congr (fun f => State.win_congr ?_) ?_
      · rw [closed, State.setWin, State.setWin, State.tblWord_setTblPart, State.tblWord_setTblPart]
        rfl
      · rw [closed, State.setWin_beat, State.setWin_beat]
        rfl
    have written : (s.winClosed w.toNat).writeRecord w.toNat = (s.winClosed w.toNat).engWrite (64 * s.win w.toNat WIN.REC_ADDR)
        (natBytes ((s.setWin w.toNat WIN.STATE 4).winRecord w.toNat) 32) := by
      rw [State.writeRecord, keeps (by decide) (by decide) (by decide), keeps (by decide) (by decide) (by decide), hrec, if_pos rfl, same]
    rw [exec_closeWritesAccepted, execCloseWritesAccepted_ends hr hst hc hu hh]
    refine ⟨_, rfl, (State.closeEnd_closes fun _ => unshut).1, ?_, fun b hb => ?_⟩
    · rw [State.memNat_congr (State.closeEnd_mem fun _ => unshut), written, State.memNat_engWrite_same, Nat.mod_eq_of_lt (State.winRecord_lt ..)]
    · rw [State.memByte_congr (State.closeEnd_mem fun _ => unshut), written, State.memByte_engWrite_apart _ (by rw [natBytes_length]; exact hb)]
      exact State.memByte_congr (s.winClosed_mem _) b

end Sys2Proof.Machine
end

section
/-!
PROOFS. The DMA channels' own operations (R374, R376, R388, R389, R461): accesses set, groups fetched, writes taken by memory, and halts.
-/

namespace Sys2Proof.Machine

/-! ### A channel's bookkeeping -/

section
variable {s t : State} {n : Nat}

theorem State.chan_congr (h : t.dma = s.dma) (m : Nat) : t.chan m = s.chan m := by rw [State.chan, h, State.chan]

theorem State.setChan_chan (h : n < s.dma.length) (f : DmaChan → DmaChan) : (s.setChan n f).chan n = f (s.chan n) := by
  simp [State.chan, List.getD_eq_getElem?_getD, List.getElem?_eq_getElem h]

theorem State.setChan_chan_ne {m : Nat} (h : m ≠ n) (f : DmaChan → DmaChan) : (s.setChan n f).chan m = s.chan m := by
  simp [State.chan, List.getD_eq_getElem?_getD, h.symm]

/-- What a change of a channel leaves alone of every channel. -/
theorem State.setChan_keeps {β : Type} (p : DmaChan → β) {f : DmaChan → DmaChan} (hf : ∀ c, p (f c) = p c) (m : Nat) :
    p ((s.setChan n f).chan m) = p (s.chan m) := by
  by_cases hm : m = n
  · subst hm
    by_cases h : m < s.dma.length
    · rw [State.setChan_chan h, hf]
    · simp [State.chan, List.getD_eq_getElem?_getD, List.getElem?_eq_none (Nat.not_lt.mp h)]
  · rw [State.setChan_chan_ne hm]

theorem State.setAcc_keeps {β : Type} (p : DmaChan → β) (hp : ∀ (c : DmaChan) (l : List DmaAccess), p { c with acc := l } = p c)
    (l : List DmaAccess) (m : Nat) : p ((s.setAcc n l).chan m) = p (s.chan m) := by
  rw [State.chan_congr (s := s.setChan n fun c => { c with acc := l }) (by rw [State.setAcc, State.put_dma, State.put_dma])]
  exact State.setChan_keeps p (fun c => hp c l) m

theorem State.setAcc_own (h : n < s.dma.length) (l : List DmaAccess) : (s.setAcc n l).chan n = { s.chan n with acc := l } := by
  rw [State.setAcc_chan s n n l h, if_pos rfl]

variable (s n)

theorem State.setAcc_get (l : List DmaAccess) {f : Field} (h : f.key ≠ (DMA.CH_CNT.RD_OUT n).key) : (s.setAcc n l).get f = s.get f := by
  rw [State.get, s.setAcc_reg n f.key l h h, State.get]

theorem State.setAcc_retries (l : List DmaAccess) : (s.setAcc n l).get (DMA.CH_CNT.RETRIES n) = s.get (DMA.CH_CNT.RETRIES n) := by
  rw [State.setAcc, State.get_put_apart _ _ (by simp [DMA.CH_CNT.WR_OUT, DMA.CH_CNT.RETRIES]),
    State.get_put_apart _ _ (by simp [DMA.CH_CNT.RD_OUT, DMA.CH_CNT.RETRIES])]
  rfl

@[simp] theorem State.setAcc_mem (l : List DmaAccess) : (s.setAcc n l).mem = s.mem := by simp only [State.setAcc, State.put_mem, State.setChan_mem]
@[simp] theorem State.setAcc_out (l : List DmaAccess) : (s.setAcc n l).out = s.out := by simp only [State.setAcc, State.put_out, State.setChan_out]
@[simp] theorem State.setAcc_length (l : List DmaAccess) : (s.setAcc n l).dma.length = s.dma.length := by
  simp only [State.setAcc, State.put_dma, State.setChan_dma, List.length_modify]
theorem State.setAcc_tables (l : List DmaAccess) : (s.setAcc n l).tables = s.tables := by
  rw [State.setAcc, State.put_tables _ (by simp only [DMA.CH_CNT.WR_OUT, IDENT.CAP_AGREED.CAP]; omega),
    State.put_tables _ (by simp only [DMA.CH_CNT.RD_OUT, IDENT.CAP_AGREED.CAP]; omega)]
  rfl

/-- RD_OUT and WR_OUT count the accesses that are outstanding (R461). -/
def State.Counted (s : State) (n : Nat) : Prop :=
  s.get (DMA.CH_CNT.RD_OUT n) = ((s.chan n).acc.filter (fun a => a.use.isRead && !a.got)).length % 1024 ∧
  s.get (DMA.CH_CNT.WR_OUT n) = ((s.chan n).acc.filter (fun a => !a.use.isRead)).length % 1024

theorem State.setAcc_counted {s : State} {n : Nat} (h : n < s.dma.length) (l : List DmaAccess) : (s.setAcc n l).Counted n := by
  rw [State.Counted, State.setAcc_own h]
  constructor
  · rw [State.setAcc, State.get_put_apart _ _ (by simp [DMA.CH_CNT.WR_OUT, DMA.CH_CNT.RD_OUT]),
      State.get_put_same _ _ _ (by simp [DMA.CH_CNT.RD_OUT])]
    rfl
  · rw [State.setAcc, State.get_put_same _ _ _ (by simp [DMA.CH_CNT.WR_OUT])]
    rfl

end

/-! ### Routes and needs -/

section
variable {s t : State}

theorem State.rawRouteN_tables (h : t.tables = s.tables) (a k : Nat) : t.rawRouteN a k = s.rawRouteN a k := by
  have bad : t.txn.badBinds = s.txn.badBinds := congrArg Tables.badBinds h
  have entry (p : Nat) : t.entryOf p = s.entryOf p := by
    rw [State.entryOf, State.entryOf, State.bindingOf, State.bindingOf, State.tblWord_tables h, bad]
  have route (b : Nat) : t.rawRoute b = s.rawRoute b := by
    unfold State.rawRoute
    dsimp only
    rw [entry]
  simp only [State.rawRouteN, route]

theorem State.chBusy_congr {n : Nat} (h : t.get (DMA.CH_STAT.STATE n) = s.get (DMA.CH_STAT.STATE n)) : t.chBusy n = s.chBusy n := by
  rw [State.chBusy, State.chState, h]
  rfl

theorem State.chNeed_still {n : Nat} (h : (s.chan n).mov = none) : s.chNeed n = s.get (DMA.CH_STAT.PC n) := by rw [State.chNeed, h]

/-- The stack throttle holds nothing where it does not apply. -/
theorem State.stkHeld_free (h : s.stkApplies = false) (a : Nat) : s.stkHeld a = false := by
  rw [State.stkHeld, h]
  rfl

end

/-! ### Fetches (R376) -/

/-- The access that asks for group `g`. -/
def State.fetchAcc (s : State) (n g : Nat) : DmaAccess := { use := .fetch g, addr := s.get (DMA.CH_PROG.ADDR n) + 128 * g, len := 128 }

/-- From `s` to `t` channel `n` only issues the accesses `l`. -/
structure Issued (n : Nat) (l : List DmaAccess) (s t : State) : Prop where
  mem : t.mem = s.mem
  tables : t.tables = s.tables
  out : ∀ o ∈ s.out, o ∈ t.out
  get : ∀ f : Field, f.key ≠ (DMA.CH_CNT.RD_OUT n).key → t.get f = s.get f
  retries : t.get (DMA.CH_CNT.RETRIES n) = s.get (DMA.CH_CNT.RETRIES n)
  chan : t.chan n = { s.chan n with acc := (s.chan n).acc ++ l }
  length : t.dma.length = s.dma.length
  counted : s.Counted n → t.Counted n

section
variable {n : Nat} {s t u : State} {l l' : List DmaAccess}

theorem Issued.refl (n : Nat) (s : State) : Issued n [] s s :=
  ⟨rfl, rfl, fun _ h => h, fun _ _ => rfl, rfl, by rw [List.append_nil], rfl, fun h => h⟩

theorem Issued.trans (h : Issued n l s t) (h' : Issued n l' t u) : Issued n (l ++ l') s u where
  mem := h'.mem.trans h.mem
  tables := h'.tables.trans h.tables
  out o ho := h'.out o (h.out o ho)
  get f hf := (h'.get f hf).trans (h.get f hf)
  retries := h'.retries.trans h.retries
  chan := by rw [h'.chan, h.chan, List.append_assoc]
  length := h'.length.trans h.length
  counted hc := h'.counted (h.counted hc)

theorem State.addAcc_issued (h : n < s.dma.length) (a : DmaAccess) : Issued n [a] s (s.addAcc n a) where
  mem := s.setAcc_mem ..
  tables := s.setAcc_tables ..
  out o ho := by rwa [State.addAcc, State.setAcc_out]
  get _ hf := s.setAcc_get n _ hf
  retries := s.setAcc_retries ..
  chan := State.setAcc_own h _
  length := s.setAcc_length ..
  counted _ := State.setAcc_counted h _

/-- A group whose page does not turn it away is asked for. -/
theorem State.fetchGroup_issued (h : n < s.dma.length) {g : Nat} (hr : s.rawRouteN (s.get (DMA.CH_PROG.ADDR n) + 128 * g) 128 = .direct) :
    Issued n [s.fetchAcc n g] s (s.fetchGroup n g) := by
  have asks : s.fetchGroup n g = (s.emit (.memRead (s.get (DMA.CH_PROG.ADDR n) + 128 * g))).addAcc n (s.fetchAcc n g) := by
    rw [State.fetchGroup, hr]
    rfl
  rw [asks]
  obtain ⟨mem, tables, out, get, retries, chan, length, counted⟩ :=
    State.addAcc_issued (s := s.emit (.memRead (s.get (DMA.CH_PROG.ADDR n) + 128 * g))) (n := n) h (s.fetchAcc n g)
  exact ⟨mem, tables, fun o ho => out o (List.mem_cons_of_mem _ ho), get, retries, chan, length, counted⟩

/-- A channel that goes on with its program still does after fetches are issued. -/
theorem Issued.chIssues (h : Issued n l s t) (hl : ∀ a ∈ l, a.due = none) : t.chIssues n = s.chIssues n := by
  have key : (DMA.CH_STAT.STATE n).key ≠ (DMA.CH_CNT.RD_OUT n).key := by simp [DMA.CH_STAT.STATE, DMA.CH_CNT.RD_OUT]
  have none_due : l.any (·.due.isSome) = false := List.any_eq_false.mpr fun a ha => by simp [hl a ha]
  rw [State.chIssues, State.chIssues, State.chBusy_congr (h.get _ key), State.retrying, State.retrying, h.chan, List.any_append, none_due, Bool.or_false]

theorem State.foldl_fetchGroup (gs : List Nat) (h : n < s.dma.length) (hi : s.chIssues n = true)
    (hr : ∀ g ∈ gs, s.rawRouteN (s.get (DMA.CH_PROG.ADDR n) + 128 * g) 128 = .direct) :
    Issued n (gs.map (s.fetchAcc n)) s (gs.foldl (fun t g => if t.chIssues n then t.fetchGroup n g else t) s) := by
  induction gs generalizing s with
  | nil => exact .refl n s
  | cons g gs ih =>
    have first := State.fetchGroup_issued h (hr g List.mem_cons_self)
    have place : (s.fetchGroup n g).get (DMA.CH_PROG.ADDR n) = s.get (DMA.CH_PROG.ADDR n) :=
      first.get _ (by simp [DMA.CH_PROG.ADDR, DMA.CH_CNT.RD_OUT])
    have rest := ih (s := s.fetchGroup n g) (first.length ▸ h) ((first.chIssues (by simp [State.fetchAcc])).trans hi) fun g' hg' => by
      rw [place, State.rawRouteN_tables first.tables]
      exact hr g' (List.mem_cons_of_mem _ hg')
    have same : (s.fetchGroup n g).fetchAcc n = s.fetchAcc n := by
      funext g'
      rw [State.fetchAcc, place, State.fetchAcc]
    rw [same] at rest
    rw [List.foldl_cons, if_pos hi]
    exact first.trans rest

/-- The groups that a channel without a MOVE asks for lie in pages that let them be fetched. -/
theorem State.fetchList_direct {n : Fin 4} (hm : (s.chan n).mov = none) (hf : Fetchable s n (s.get (DMA.CH_STAT.PC n))) :
    ∀ g ∈ s.fetchList n, s.rawRouteN (s.get (DMA.CH_PROG.ADDR n) + 128 * g) 128 = .direct := by
  intro g hg
  rw [State.fetchList, State.chNeed_still hm, List.mem_filter] at hg
  obtain ⟨ahead, wanted⟩ := hg
  have unshut := List.mem_takeWhile_imp ahead
  simp only [Bool.or_eq_true, beq_iff_eq] at unshut
  rcases unshut with rfl | hd
  · rcases hf with held | hd
    · simp only [State.chUnit, Option.isSome_map] at held
      simp [Option.isSome_iff_ne_none.mp held] at wanted
    · exact hd
  · exact hd

/-- What a channel without a MOVE fetches: the groups that it wants, while it goes on with its program. -/
theorem State.chFetch_issued {n : Fin 4} (h : n.val < s.dma.length) (hm : (s.chan n).mov = none)
    (hf : s.chBusy n = false ∨ Fetchable s n (s.get (DMA.CH_STAT.PC n))) :
    Issued n (if s.chIssues n then (s.fetchList n).map (s.fetchAcc n) else []) s (s.chFetch n) := by
  rw [State.chFetch]
  cases hi : s.chIssues n with
  | false => exact .refl n s
  | true =>
    have busy : s.chBusy n ≠ false := fun hb => by
      rw [State.chIssues, hb] at hi
      cases hi
    exact State.foldl_fetchGroup _ h hi (State.fetchList_direct hm (hf.resolve_left busy))

end

end Sys2Proof.Machine
end

section
/-!
PROOFS. Writes that memory takes from a DMA channel, its halts, and accesses that fail (R388, R389).
-/

namespace Sys2Proof.Machine

/-! ### What writes of the end leave alone (R325) -/

section
variable (s : State) (a len : Nat)

theorem State.noteWrite_dma (g : Nat) : (s.noteWrite g).dma = s.dma := by
  obtain ⟨f, h | h⟩ := s.noteWrite_cases g
  · rw [h, State.setTxn_dma]
  · rw [h, State.bump_dma, State.setTxn_dma]
theorem State.noteWrite_reg {k : Nat} (g : Nat) (h : k ≠ DEFILE.RA_STAT.OVERFLOWS.key) : (s.noteWrite g).reg k = s.reg k := by
  obtain ⟨f, e | e⟩ := s.noteWrite_cases g
  · rw [e]
    rfl
  · rw [e, State.bump_reg_ne _ (Ne.symm h)]
    rfl

theorem State.noteWrites_dma : (s.noteWrites a len).dma = s.dma := foldl_keeps State.dma State.noteWrite_dma _ s
theorem State.noteWrites_mem : (s.noteWrites a len).mem = s.mem := s.foldl_noteWrite_mem _ |>.symm ▸ rfl
theorem State.noteWrites_tables : (s.noteWrites a len).tables = s.tables := foldl_keeps State.tables State.noteWrite_tables _ s
theorem State.noteWrites_get {f : Field} (h : f.key ≠ DEFILE.RA_STAT.OVERFLOWS.key) : (s.noteWrites a len).get f = s.get f :=
  foldl_keeps (State.get · f) (fun t g => by rw [State.get, State.get, t.noteWrite_reg g h]) _ s

variable (bs : List Byte)

theorem State.memTake_dma : (s.memTake a bs).dma = s.dma := by
  obtain ⟨_, h⟩ := s.setMemBytes_eq a bs
  rw [State.memTake, State.noteWrites_dma, h]
theorem State.memTake_tables : (s.memTake a bs).tables = s.tables := by
  obtain ⟨_, h⟩ := s.setMemBytes_eq a bs
  rw [State.memTake, State.noteWrites_tables, h]
  rfl
theorem State.memTake_get {f : Field} (hf : f.key ≠ DEFILE.RA_STAT.OVERFLOWS.key) : (s.memTake a bs).get f = s.get f := by
  obtain ⟨_, h⟩ := s.setMemBytes_eq a bs
  rw [State.memTake, State.noteWrites_get _ _ _ hf, h]
  rfl
theorem State.memByte_memTake (b : Nat) :
    (s.memTake a bs).memByte b = if a ≤ b ∧ b < a + bs.length then bs.getD (b - a) 0 else s.memByte b := by
  rw [State.memByte_congr (s.memTake_mem a bs), State.memByte_setMemBytes]
  by_cases h : a ≤ b
  · by_cases h2 : b < a + bs.length
    · simp [h, h2, List.getD_eq_getElem?_getD, List.getElem?_eq_getElem (show b - a < bs.length by omega)]
    · simp [h, h2, List.getD_eq_getElem?_getD, List.getElem?_eq_none (show bs.length ≤ b - a by omega)]
  · simp [h]

end

/-! ### Writes that memory accepts (R391) -/

/-- Memory takes a write, and the writes of a list one after another. -/
def State.takeOne (s : State) (x : DmaAccess) : State := s.memTake x.addr x.bytes
def State.takeAll (s : State) (l : List DmaAccess) : State := l.foldl State.takeOne s

section
variable (s : State) (l : List DmaAccess)

theorem State.takeAll_dma : (s.takeAll l).dma = s.dma :=
  foldl_keeps (f := State.takeOne) State.dma (fun t x => t.memTake_dma x.addr x.bytes) l s
theorem State.takeAll_tables : (s.takeAll l).tables = s.tables :=
  foldl_keeps (f := State.takeOne) State.tables (fun t x => t.memTake_tables x.addr x.bytes) l s
theorem State.takeAll_get {f : Field} (hf : f.key ≠ DEFILE.RA_STAT.OVERFLOWS.key) : (s.takeAll l).get f = s.get f :=
  foldl_keeps (f := State.takeOne) (State.get · f) (fun t x => t.memTake_get x.addr x.bytes hf) l s

/-- A byte that no write of the list reaches stays. -/
theorem State.memByte_takeAll_apart {b : Nat} (h : ∀ x ∈ l, b < x.addr ∨ x.addr + x.bytes.length ≤ b) :
    (s.takeAll l).memByte b = s.memByte b := by
  induction l generalizing s with
  | nil => rfl
  | cons x l ih =>
    have apart := h x List.mem_cons_self
    rw [show s.takeAll (x :: l) = (s.memTake x.addr x.bytes).takeAll l from rfl, ih _ fun y hy => h y (List.mem_cons_of_mem _ hy),
      State.memByte_memTake, if_neg (by omega)]

/-- A byte that only one write of the list reaches is that write's. -/
theorem State.memByte_takeAll {x : DmaAccess} {i : Nat} (hx : x ∈ l) (hi : i < x.bytes.length)
    (h : ∀ y ∈ l, y = x ∨ y.addr + y.bytes.length ≤ x.addr + i ∨ x.addr + i < y.addr) :
    (s.takeAll l).memByte (x.addr + i) = x.bytes.getD i 0 := by
  suffices ∀ s : State, (x ∈ l ∨ s.memByte (x.addr + i) = x.bytes.getD i 0) → (s.takeAll l).memByte (x.addr + i) = x.bytes.getD i 0 from
    this s (.inl hx)
  clear hx
  induction l with
  | nil => exact fun _ hs => hs.resolve_left List.not_mem_nil
  | cons y l ih =>
    intro s hs
    refine ih (fun z hz => h z (List.mem_cons_of_mem _ hz)) (s.memTake y.addr y.bytes) ?_
    rw [State.memByte_memTake]
    by_cases hy : y = x
    · subst hy
      right
      rw [if_pos (by omega), Nat.add_sub_cancel_left]
    · have apart := (h y List.mem_cons_self).resolve_left hy
      rw [if_neg (by omega)]
      exact hs.imp_left fun hm => (List.mem_cons.mp hm).resolve_left (Ne.symm hy)

end

/-! ### Halts (R389) -/

/-- Memory, STATE and ERR of a channel, and what it is doing: what the HALT record leaves alone. -/
def State.settled (s : State) (n : Nat) : List Host.Cell × Nat × Nat × Option DmaMove × Bool × Option Nat :=
  (s.mem, s.get (DMA.CH_STAT.STATE n), s.get (DMA.CH_STAT.ERR n), (s.chan n).mov, (s.chan n).signal, (s.chan n).halting)

section
variable (s : State) {n : Nat}

theorem State.settled_congr {s t : State} (hm : t.mem = s.mem) (hr : t.reg (DMA.CH_STAT.STATE n).key = s.reg (DMA.CH_STAT.STATE n).key)
    (hd : t.dma = s.dma) : t.settled n = s.settled n := by
  have err : t.reg (DMA.CH_STAT.ERR n).key = s.reg (DMA.CH_STAT.ERR n).key := hr
  rw [State.settled, State.get, State.get, hm, hr, err, State.chan_congr hd]
  rfl

theorem State.put_settled {f : Field} (h : f.key ≠ (DMA.CH_STAT.STATE n).key) (v : Nat) : (s.put f v).settled n = s.settled n :=
  State.settled_congr (s.put_mem f v) (s.put_reg_ne v h) (s.put_dma f v)
theorem State.put_waitOn_settled (v : Nat) : (s.put (DMA.CH_STAT.WAIT_ON n) v).settled n = s.settled n := by
  rw [State.settled, State.get_put_apart _ _ (by simp [DMA.CH_STAT.WAIT_ON, DMA.CH_STAT.STATE]),
    State.get_put_apart _ _ (by simp [DMA.CH_STAT.WAIT_ON, DMA.CH_STAT.ERR])]
  rfl
theorem State.setHaltPend_settled (v : Bool) : (s.setChan n fun c => { c with haltPend := v }).settled n = s.settled n := by
  have keeps {β : Type} (p : DmaChan → β) (hp : ∀ c, p { c with haltPend := v } = p c) :
      p ((s.setChan n fun c => { c with haltPend := v }).chan n) = p (s.chan n) := State.setChan_keeps p hp n
  rw [State.settled, keeps DmaChan.mov fun _ => rfl, keeps DmaChan.signal fun _ => rfl, keeps DmaChan.halting fun _ => rfl]
  rfl
theorem State.noteWrites_settled (a len : Nat) : (s.noteWrites a len).settled n = s.settled n :=
  State.settled_congr (s.noteWrites_mem a len) (foldl_keeps (State.reg · _) (fun t g => t.noteWrite_reg g (by
    simp only [DMA.CH_STAT.STATE, DEFILE.RA_STAT.OVERFLOWS]; omega)) _ s) (s.noteWrites_dma a len)
theorem State.setAcc_settled (l : List DmaAccess) : (s.setAcc n l).settled n = s.settled n := by
  rw [State.settled, State.setAcc_mem, State.setAcc_get _ _ _ (by simp [DMA.CH_STAT.STATE, DMA.CH_CNT.RD_OUT]),
    State.setAcc_get _ _ _ (by simp [DMA.CH_STAT.ERR, DMA.CH_CNT.RD_OUT]), State.setAcc_keeps DmaChan.mov fun _ _ => rfl,
    State.setAcc_keeps DmaChan.signal fun _ _ => rfl, State.setAcc_keeps DmaChan.halting fun _ _ => rfl]
  rfl

variable (hn : n < 4)
include hn

theorem State.raise_settled (e : Event) (v : Nat) : (s.raise e v).settled n = s.settled n := by
  refine State.settled_congr (s.raise_mem e v) ?_ ?_
  · refine s.raise_reg e v _ ?_ ?_ ?_ ?_ <;> simp only [DMA.CH_STAT.STATE, RESET.XING_STAT.OVERRUN] <;> omega
  · obtain ⟨_, _, h⟩ := s.raise_eq e v
    rw [h]

theorem State.seeRoute_settled (r : Route) : (s.seeRoute r).settled n = s.settled n := by
  have apart {f : Field} (h : f.key < 0xc000) : f.key ≠ (DMA.CH_STAT.STATE n).key := by
    simp only [DMA.CH_STAT.STATE]
    omega
  cases r with
  | bad page cause =>
    rw [State.seeRoute, State.bindBad, State.raise_settled _ hn, State.put_settled _ (apart (by decide)), State.put_settled _ (apart (by decide)),
      State.put_settled _ (apart (by decide)), State.bump, State.bumpBy, State.put_settled _ (apart (by decide))]
  | _ => rfl

omit hn in
theorem State.cqIssue_settled (kind err user : Nat) : (s.cqIssue n kind err user).settled n = s.settled n := by
  rw [State.cqIssue, State.put_settled _ (by simp only [DMA.CQ_TAIL.COUNT, DMA.CH_STAT.STATE]; omega), State.addAcc, State.setAcc_settled,
    State.noteWrites_settled]
  rfl

theorem State.haltRecord_settled : (s.haltRecord n).settled n = s.settled n := by
  unfold State.haltRecord
  dsimp only
  split
  · rw [State.raise_settled _ hn, State.put_waitOn_settled, State.setHaltPend_settled]
  · split
    · exact s.setHaltPend_settled true
    · rw [State.raise_settled _ hn, apply_ite (State.settled · n), State.cqIssue_settled, State.seeRoute_settled _ hn, ite_self,
        State.put_waitOn_settled, State.setHaltPend_settled]

omit hn in
theorem State.haltFinish_running {s : State} (h : (s.chan n).halting = none) : s.haltFinish n = s := by
  rw [State.haltFinish, h]

omit hn in
theorem State.putHalted_settled (e : Nat) : ((s.put (DMA.CH_STAT.STATE n) DMA.halted).put (DMA.CH_STAT.ERR n) e).settled n =
    (s.mem, DMA.halted, e % 256, (s.chan n).mov, (s.chan n).signal, (s.chan n).halting) := by
  have state : ((s.put (DMA.CH_STAT.STATE n) DMA.halted).put (DMA.CH_STAT.ERR n) e).get (DMA.CH_STAT.STATE n) = DMA.halted := by
    rw [State.get_put_apart _ _ (by simp [DMA.CH_STAT.ERR, DMA.CH_STAT.STATE]), State.get_put_same _ _ _ (by simp [DMA.CH_STAT.STATE])]
    rfl
  have err := (s.put (DMA.CH_STAT.STATE n) DMA.halted).get_put_same (DMA.CH_STAT.ERR n) e (by simp [DMA.CH_STAT.ERR])
  have width : (2 : Nat) ^ (DMA.CH_STAT.ERR n).width = 256 := by
    rw [DMA.CH_STAT.ERR]
    rfl
  have chan : ((s.put (DMA.CH_STAT.STATE n) DMA.halted).put (DMA.CH_STAT.ERR n) e).chan n = s.chan n :=
    State.chan_congr (by rw [State.put_dma, State.put_dma]) n
  rw [State.settled, state, err, width, State.put_mem, State.put_mem, chan]

/-- A halting channel without accesses is HALTED, with its ERR. -/
theorem State.haltFinish_settled {s : State} (hl : n < s.dma.length) {e : Nat} (hh : (s.chan n).halting = some e) (ha : (s.chan n).acc = []) :
    (s.haltFinish n).settled n = (s.mem, DMA.halted, e % 256, (s.chan n).mov, (s.chan n).signal, none) := by
  simp only [State.haltFinish, hh, ha, if_true]
  rw [State.haltRecord_settled _ hn, State.putHalted_settled, State.setChan_chan hl, State.setChan_mem]

omit hn in
theorem State.chRun_keeps {β : Type} (p : State → β) (hp : ∀ (t : State) (f : Field) (v : Nat), p (t.put f v) = p t) : p (s.chRun n) = p s := by
  unfold State.chRun
  split
  · rw [hp, hp]
  · rfl

/-- A channel whose accesses are all given up is HALTED at once. -/
theorem State.chHalt_settled {s : State} (hl : n < s.dma.length) {e : Nat} (ha : giveUp (s.chan n).acc true = []) :
    (s.chHalt n e).settled n = (s.mem, DMA.halted, e % 256, none, false, none) := by
  unfold State.chHalt
  generalize hu : (s.setChan n fun c => { c with halting := some e, mov := none, waitBeat := none, signal := false, lowHalt := false }) = u
  have own : u.chan n = { s.chan n with halting := some e, mov := none, waitBeat := none, signal := false, lowHalt := false } := by
    rw [← hu, State.setChan_chan hl]
  have len : n < u.dma.length := by
    rw [← hu, State.setChan_dma, List.length_modify]
    exact hl
  have chan : ((u.setAcc n (giveUp (s.chan n).acc true)).chRun n).chan n = { u.chan n with acc := [] } := by
    rw [State.chan_congr (State.chRun_keeps _ State.dma State.put_dma), State.setAcc_own len, ha]
  rw [State.haltFinish_settled hn (e := e), chan, own, State.chRun_keeps _ State.mem State.put_mem, State.setAcc_mem, ← hu]
  · rfl
  · rw [State.chRun_keeps _ (fun t => t.dma.length) fun t f v => by rw [State.put_dma], State.setAcc_length]
    exact len
  · rw [chan, own]
  · rw [chan]

end

/-! ### Accesses that fail (R388) -/

section
variable {s : State} {n : Nat} {x : DmaAccess}

/-- A failed access that may be retried is due 1,024 beats later. -/
theorem State.accFails_retries (ha : (s.chan n).acc = [x]) (hm : s.mayRetry n x = true) :
    s.accFails n x none = s.setAcc n [{ x with due := some (s.ahead 1024) }] := by
  rw [State.accFails, hm, ha]
  simp

/-- A channel that runs halts where its only access fails and may not be retried. -/
theorem State.accFails_settled (hn : n < 4) (hl : n < s.dma.length) (ha : (s.chan n).acc = [x]) (hb : s.chBusy n = true) (hh : (s.chan n).halting = none)
    {err : Option Nat} (hr : err.isSome = true ∨ s.get (DMA.CH_CTL.RETRIES n) ≤ x.retries) :
    (s.accFails n x err).settled n = (s.mem, DMA.halted, err.getD 4 % 256, none, false, none) := by
  have ends : s.endAcc n x = s.setAcc n [] := by
    rw [State.endAcc, ha]
    simp
  have busy : (s.endAcc n x).chBusy n = true := by
    rw [ends, State.chBusy_congr (s.setAcc_get n _ (by simp [DMA.CH_STAT.STATE, DMA.CH_CNT.RD_OUT]))]
    exact hb
  have own : (s.endAcc n x).chan n = { s.chan n with acc := [] } := by rw [ends, State.setAcc_own hl]
  have final : (err.isNone && s.mayRetry n x) = false := by
    rcases hr with h | h
    · rw [Option.isNone_eq_false_iff.mpr h, Bool.false_and]
    · rw [State.mayRetry, decide_eq_false (Nat.not_lt.mpr h), Bool.and_false, Bool.and_false]
  rw [State.accFails, final]
  simp only [busy, own, hh, Option.isNone_none, Bool.and_self, if_true, Bool.false_eq_true, if_false]
  rw [State.chHalt_settled hn (by rwa [ends, State.setAcc_length]) (by rw [own]; rfl), ends, State.setAcc_mem]

end

end Sys2Proof.Machine
end

section
/-!
PROOFS. Commands of firmware to the DMA channels: START, DISABLE, and the writes of the completion queue's registers (R375, R386, R390, R461).
-/

namespace Sys2Proof.Machine

theorem exec_dmaStart (n : Fin 4) (disable : Bool) (s : State) : exec (.dmaStart n disable) s = execDmaStart n disable s := rfl
theorem exec_dmaDisable (n : Fin 4) (s : State) : exec (.dmaDisable n) s = execDmaDisable n s := rfl
theorem exec_cqHeadWrite (n : Fin 4) (d : Word) (s : State) : exec (.cqHeadWrite n d) s = execCqHeadWrite n d s := rfl
theorem exec_cqConfigWrite (n : Fin 4) (ctl : Bool) (d : Word) (s : State) : exec (.cqConfigWrite n ctl d) s = execCqConfigWrite n ctl d s := rfl

/-! ### Registers of the DMA page -/

/-- Where the registers of channel `n` that firmware writes stand: their page, and their offsets in the channel's blocks (R461). -/
theorem dmaKeys (n : Fin 4) :
    (DMA.CH_CMD.START n).key / 4096 = 12 ∧
    (DMA.CQ_HEAD.COUNT n).key / 4096 = 12 ∧ 0x100 ≤ (DMA.CQ_HEAD.COUNT n).key % 4096 ∧ dmaReg ((DMA.CQ_HEAD.COUNT n).key % 4096) = (n.val, 0x118) ∧
    (DMA.CQ_CTL.SIZE n).key / 4096 = 12 ∧ 0x100 ≤ (DMA.CQ_CTL.SIZE n).key % 4096 ∧ dmaReg ((DMA.CQ_CTL.SIZE n).key % 4096) = (n.val, 0x108) ∧
    (DMA.CQ_BASE.ADDR n).key / 4096 = 12 ∧ 0x100 ≤ (DMA.CQ_BASE.ADDR n).key % 4096 ∧ dmaReg ((DMA.CQ_BASE.ADDR n).key % 4096) = (n.val, 0x100) := by
  revert n
  decide

section
variable {s : State} {key : Nat}

/-- A refused write of the DMA page is logged there, and changes nothing else. -/
theorem State.refuse_dma (s : State) (key : Nat) (r : Reason) (d : Word) : (s.refuse key r d).dma = s.dma := by
  simp only [State.refuse, State.refuseCode, State.bump_dma, State.put_dma]
theorem State.refuse_mem (s : State) (key : Nat) (r : Reason) (d : Word) : (s.refuse key r d).mem = s.mem := by
  simp only [State.refuse, State.refuseCode, State.bump_mem, State.put_mem]

theorem State.refuse_reason_dma (s : State) (hk : key / 4096 = 12) (r : Reason) (d : Word) : (s.refuse key r d).get (PAGE.REFUSED.REASON 12) = r.code := by
  rw [← hk]
  exact s.refuse_reason key r d

theorem State.refuse_counts (s : State) (hk : key / 4096 = 12) (r : Reason) (d : Word) : CountedOne (PAGE.REFUSED.COUNT 12) s (s.refuse key r d) := by
  rw [CountedOne, State.refuse, hk, State.refuseCode, State.get_bump_same _ _ (by decide), State.get_put_apart _ _ (by decide),
    State.get_put_apart _ _ (by decide), State.get_put_apart _ _ (by decide), State.get_put_apart _ _ (by decide), State.get_put_apart _ _ (by decide)]

theorem State.refuse_get (s : State) (hk : key / 4096 = 12) (r : Reason) (d : Word) {f : Field} (hf : f.key ≠ 0xc040) :
    (s.refuse key r d).get f = s.get f := by
  rw [State.get, s.refuse_reg_ne r d (by omega), State.get]

/-- A command of the DMA page that nothing refuses beforehand acts at an M-end. -/
theorem State.command_dma (h : HostUp s (keyDomains key)) (hk : key / 4096 = 12) (hm : s.isM = true) (d : Word) (act : State → State) :
    s.command key d (fun _ => none) act = act s := by
  exact State.command_served h (by rw [hk]; exact hm) d act rfl

end

/-! ### START (R375) -/

section
variable {s : State} {n : Fin 4}

theorem execDmaStart_runs (h : HostUp s (keyDomains (DMA.CH_CMD.START n).key)) (hm : s.isM = true) (hr : s.startRefusal n = none) :
    execDmaStart n false s = .next (s.busy.chStart n) := by
  simp only [execDmaStart]
  rw [State.command_dma h (dmaKeys n).1 hm]
  simp only [hr, Bool.false_eq_true, if_false]

theorem execDmaStart_refused (h : HostUp s (keyDomains (DMA.CH_CMD.START n).key)) (hm : s.isM = true) {r : Reason} (hr : s.startRefusal n = some r) :
    execDmaStart n false s = .next (s.refuse (DMA.CH_CMD.START n).key r 1) := by
  simp only [execDmaStart]
  rw [State.command_dma h (dmaKeys n).1 hm]
  simp only [hr, Bool.false_eq_true, if_false]

/-- The registers that START clears or sets: the channel's CH_STAT, CH_CNT and CH_CNT_HI. -/
def startKeys (n : Nat) : List Nat := [(DMA.CH_STAT.STATE n).key, (DMA.CH_CNT.RD_OUT n).key, (DMA.CH_CNT_HI.BYTES_WRITTEN n).key]

/-- The fields that START clears. -/
def startFields (n : Nat) : List Field :=
  [DMA.CH_STAT.WAIT_ON n, DMA.CH_STAT.PENDING n, DMA.CH_STAT.ERR n, DMA.CH_STAT.PC n, DMA.CH_CNT.RD_OUT n,
    DMA.CH_CNT.WR_OUT n, DMA.CH_CNT.RETRIES n, DMA.CH_CNT.BYTES_READ_LO n, DMA.CH_CNT_HI.BYTES_READ_HI n, DMA.CH_CNT_HI.BYTES_WRITTEN n]

/-- The channel at its START, before its first fetch. -/
def State.chBegun (s : State) (n : Nat) : State :=
  (((((s.clearAll (startFields n)).put (DMA.CH_STAT.STATE n) DMA.running).setChan n fun _ => {}).setAcc n [])).gateUpdate n

theorem State.chStart_eq (s : State) (n : Nat) : s.chStart n = (s.chBegun n).chFetch n := rfl

theorem State.clearAll_reg_ne (s : State) (l : List Field) {k : Nat} (h : ∀ f ∈ l, f.key ≠ k) : (s.clearAll l).reg k = s.reg k := by
  induction l generalizing s with
  | nil => rfl
  | cons f l ih => exact (ih _ fun g hg => h g (List.mem_cons_of_mem _ hg)).trans (s.put_reg_ne _ (h f List.mem_cons_self))

theorem State.clearAll_dma (s : State) (l : List Field) : (s.clearAll l).dma = s.dma := by
  induction l generalizing s with
  | nil => rfl
  | cons f l ih => exact (ih _).trans (s.put_dma f 0)

/-- From `s` to `t` only registers and channels change. -/
def ChannelOnly (s t : State) : Prop := ∃ r d, t = { s with regs := r, dma := d }

theorem ChannelOnly.refl (s : State) : ChannelOnly s s := ⟨s.regs, s.dma, rfl⟩
theorem ChannelOnly.put {s t : State} (h : ChannelOnly s t) (f : Field) (v : Nat) : ChannelOnly s (t.put f v) := by
  obtain ⟨r, d, rfl⟩ := h
  exact ⟨_, _, rfl⟩
theorem ChannelOnly.setChan {s t : State} (h : ChannelOnly s t) (n : Nat) (f : DmaChan → DmaChan) : ChannelOnly s (t.setChan n f) := by
  obtain ⟨r, d, rfl⟩ := h
  exact ⟨_, _, rfl⟩
theorem ChannelOnly.setAcc {s t : State} (h : ChannelOnly s t) (n : Nat) (l : List DmaAccess) : ChannelOnly s (t.setAcc n l) :=
  ((h.setChan n _).put _ _).put _ _
theorem ChannelOnly.clearAll {s t : State} (h : ChannelOnly s t) (l : List Field) : ChannelOnly s (t.clearAll l) := by
  induction l generalizing t with
  | nil => exact h
  | cons f l ih => exact ih (h.put f 0)

theorem ChannelOnly.mem {s t : State} (h : ChannelOnly s t) : t.mem = s.mem := by
  obtain ⟨r, d, rfl⟩ := h
  rfl
theorem ChannelOnly.tables {s t : State} (h : ChannelOnly s t) (hk : t.reg IDENT.CAP_AGREED.CAP.key = s.reg IDENT.CAP_AGREED.CAP.key) :
    t.tables = s.tables := by
  obtain ⟨r, d, rfl⟩ := h
  rw [State.tables, hk, State.tables]
theorem ChannelOnly.stkApplies {s t : State} (h : ChannelOnly s t) (hr : t.reg IDENT.FUSE_STAT.OK.key = s.reg IDENT.FUSE_STAT.OK.key)
    (hs : t.get POWER.THR_CTL.STK_ALWAYS = s.get POWER.THR_CTL.STK_ALWAYS) : t.stkApplies = s.stkApplies := by
  have inp : t.inp = s.inp := by
    obtain ⟨r, d, rfl⟩ := h
    rfl
  rw [State.stkApplies, State.isM, State.role_congr hr, inp, State.on, hs]
  rfl

variable (s) (n : Nat)

theorem State.gateUpdate_reg (k : Nat) : (s.gateUpdate n).reg k = s.reg k := rfl
theorem State.gateUpdate_get (f : Field) : (s.gateUpdate n).get f = s.get f := rfl
theorem State.setChan_get (g : DmaChan → DmaChan) (f : Field) : (s.setChan n g).get f = s.get f := rfl

theorem State.chBegun_reg {k : Nat} (hk : k ∉ startKeys n) : (s.chBegun n).reg k = s.reg k := by
  simp only [startKeys, List.mem_cons, List.not_mem_nil, or_false, not_or] at hk
  obtain ⟨stat, cnt, hi⟩ := hk
  rw [State.chBegun, State.gateUpdate_reg, State.setAcc_reg _ _ _ _ cnt cnt,
    show ∀ t : State, (t.setChan n fun _ => {}).reg k = t.reg k from fun _ => rfl, State.put_reg_ne _ _ (Ne.symm stat), State.clearAll_reg_ne]
  intro f hf
  simp only [startFields, List.mem_cons, List.not_mem_nil, or_false] at hf
  rcases hf with rfl | rfl | rfl | rfl | rfl | rfl | rfl | rfl | rfl | rfl
  · exact Ne.symm stat
  · exact Ne.symm stat
  · exact Ne.symm stat
  · exact Ne.symm stat
  · exact Ne.symm cnt
  · exact Ne.symm cnt
  · exact Ne.symm cnt
  · exact Ne.symm cnt
  · exact Ne.symm hi
  · exact Ne.symm hi

/-- What START puts in the channel's registers (R375). -/
theorem State.chBegun_get : (s.chBegun n).get (DMA.CH_STAT.STATE n) = DMA.running ∧ (s.chBegun n).get (DMA.CH_STAT.PC n) = 0 ∧
    (s.chBegun n).get (DMA.CH_STAT.ERR n) = 0 ∧ (s.chBegun n).get (DMA.CH_STAT.PENDING n) = 0 ∧ (s.chBegun n).get (DMA.CH_CNT.RETRIES n) = 0 ∧
    (s.chBegun n).get (DMA.CH_CNT_HI.BYTES_WRITTEN n) = 0 := by
  have outer {f : Field} (h : f.key ≠ (DMA.CH_CNT.RD_OUT n).key) :
      (s.chBegun n).get f = ((s.clearAll (startFields n)).put (DMA.CH_STAT.STATE n) DMA.running).get f := by
    rw [State.chBegun, State.gateUpdate_get, State.setAcc_get _ _ _ h, State.setChan_get]
  have clear {f : Field} (h : f.lo + f.width ≤ 64) (hm : f ∈ startFields n) : (s.clearAll (startFields n)).get f = 0 := s.clearAll_get h hm
  refine ⟨?_, ?_, ?_, ?_, ?_, ?_⟩
  · rw [outer (by simp [DMA.CH_STAT.STATE, DMA.CH_CNT.RD_OUT]), State.get_put_same _ _ _ (by simp [DMA.CH_STAT.STATE])]
    rfl
  · rw [outer (by simp [DMA.CH_STAT.PC, DMA.CH_CNT.RD_OUT]), State.get_put_apart _ _ (by simp [DMA.CH_STAT.PC, DMA.CH_STAT.STATE]),
      clear (by simp [DMA.CH_STAT.PC]) (by simp [startFields])]
  · rw [outer (by simp [DMA.CH_STAT.ERR, DMA.CH_CNT.RD_OUT]), State.get_put_apart _ _ (by simp [DMA.CH_STAT.ERR, DMA.CH_STAT.STATE]),
      clear (by simp [DMA.CH_STAT.ERR]) (by simp [startFields])]
  · rw [outer (by simp [DMA.CH_STAT.PENDING, DMA.CH_CNT.RD_OUT]), State.get_put_apart _ _ (by simp [DMA.CH_STAT.PENDING, DMA.CH_STAT.STATE]),
      clear (by simp [DMA.CH_STAT.PENDING]) (by simp [startFields])]
  · have retries : (s.chBegun n).get (DMA.CH_CNT.RETRIES n) =
        ((s.clearAll (startFields n)).put (DMA.CH_STAT.STATE n) DMA.running).get (DMA.CH_CNT.RETRIES n) := by
      rw [State.chBegun, State.gateUpdate_get, State.setAcc_retries, State.setChan_get]
    rw [retries, State.get_put_ne _ _ (by simp [DMA.CH_CNT.RETRIES, DMA.CH_STAT.STATE]),
      clear (by simp [DMA.CH_CNT.RETRIES]) (by simp [startFields])]
  · rw [outer (by simp [DMA.CH_CNT_HI.BYTES_WRITTEN, DMA.CH_CNT.RD_OUT]), State.get_put_ne _ _ (by simp [DMA.CH_CNT_HI.BYTES_WRITTEN, DMA.CH_STAT.STATE]),
      clear (by simp [DMA.CH_CNT_HI.BYTES_WRITTEN]) (by simp [startFields])]

theorem State.chBegun_channelOnly : ChannelOnly s (s.chBegun n) :=
  (((((ChannelOnly.refl s).clearAll _).put _ _).setChan _ _).setAcc _ _).setChan _ _

theorem State.chBegun_chan (h : n < s.dma.length) : n < (s.chBegun n).dma.length ∧ ∃ g, (s.chBegun n).chan n = { gateShut := g } := by
  generalize hv : ((s.clearAll (startFields n)).put (DMA.CH_STAT.STATE n) DMA.running).setChan n (fun _ => {}) = v
  have dma : ((s.clearAll (startFields n)).put (DMA.CH_STAT.STATE n) DMA.running).dma = s.dma := by rw [State.put_dma, State.clearAll_dma]
  have len : n < v.dma.length := by
    rw [← hv, State.setChan_dma, List.length_modify, dma]
    exact h
  have chan : v.chan n = {} := by
    rw [← hv, State.setChan_chan (by rw [dma]; exact h)]
  have begun : s.chBegun n = (v.setAcc n []).gateUpdate n := by
    rw [State.chBegun, hv]
  rw [begun, State.gateUpdate, State.setChan_chan (by rwa [State.setAcc_length]), State.setAcc_own len, chan, State.setChan_dma, List.length_modify,
    State.setAcc_length]
  exact ⟨len, _, rfl⟩

theorem State.chBegun_counted (h : n < s.dma.length) : (s.chBegun n).Counted n := by
  obtain ⟨-, g, chan⟩ := s.chBegun_chan n h
  have counts : ∀ t : State, n < t.dma.length → ((t.setAcc n []).gateUpdate n).get (DMA.CH_CNT.RD_OUT n) = 0 ∧
      ((t.setAcc n []).gateUpdate n).get (DMA.CH_CNT.WR_OUT n) = 0 := fun t ht => by
    obtain ⟨rd, wr⟩ := State.setAcc_counted ht []
    rw [State.setAcc_own ht] at rd wr
    exact ⟨rd, wr⟩
  have len : n < (((s.clearAll (startFields n)).put (DMA.CH_STAT.STATE n) DMA.running).setChan n fun _ => {}).dma.length := by
    rw [State.setChan_dma, List.length_modify, State.put_dma, State.clearAll_dma]
    exact h
  rw [State.Counted, chan]
  exact counts _ len

end

/-! ### The first fetches (R376) -/

section
variable {s : State} {n : Nat}

theorem State.busy_reg (s : State) {k : Nat} (hk : k ≠ POWER.PWR_STAT.STATE.key) : s.busy.reg k = s.reg k := by
  unfold State.busy
  split
  · exact s.put_reg_ne _ (Ne.symm hk)
  · rfl
theorem State.busy_channelOnly (s : State) : ChannelOnly s s.busy := by
  unfold State.busy
  split
  · exact (ChannelOnly.refl s).put _ _
  · exact .refl s
theorem State.busy_dma (s : State) : s.busy.dma = s.dma := by
  unfold State.busy
  split
  · exact s.put_dma ..
  · rfl

theorem ChannelOnly.trans {s t u : State} (h : ChannelOnly s t) (h' : ChannelOnly t u) : ChannelOnly s u := by
  obtain ⟨r, d, rfl⟩ := h
  obtain ⟨r', d', rfl⟩ := h'
  exact ⟨r', d', rfl⟩

/-- What the channel's START keeps of the end up to the first fetch. -/
theorem State.begun_keeps (s : State) (hn : n < 4) : ChannelOnly s (s.busy.chBegun n) ∧ (s.busy.chBegun n).tables = s.tables ∧
    (s.busy.chBegun n).stkApplies = s.stkApplies ∧ (s.busy.chBegun n).get (DMA.CH_PROG.ADDR n) = s.get (DMA.CH_PROG.ADDR n) ∧
    (s.busy.chBegun n).get (DMA.CQ_TAIL.COUNT n) = s.get (DMA.CQ_TAIL.COUNT n) := by
  have reg {k : Nat} (h : k ≠ POWER.PWR_STAT.STATE.key) (hk : k ∉ startKeys n) : (s.busy.chBegun n).reg k = s.reg k :=
    (s.busy.chBegun_reg n hk).trans (s.busy_reg h)
  have get {f : Field} (h : f.key ≠ POWER.PWR_STAT.STATE.key) (hk : f.key ∉ startKeys n) : (s.busy.chBegun n).get f = s.get f := by
    rw [State.get, reg h hk, State.get]
  have outside {k : Nat} (h : k < 0xc000 ∨ 0xd000 ≤ k) : k ∉ startKeys n := by
    simp only [startKeys, List.mem_cons, List.not_mem_nil, or_false, DMA.CH_STAT.STATE, DMA.CH_CNT.RD_OUT, DMA.CH_CNT_HI.BYTES_WRITTEN]
    omega
  have only := s.busy_channelOnly.trans (s.busy.chBegun_channelOnly n)
  refine ⟨only, only.tables (reg (by decide) (outside (by decide))), only.stkApplies (reg (by decide) (outside (by decide)))
    (get (by decide) (outside (by decide))), get ?_ ?_, get ?_ ?_⟩
  all_goals
    simp only [startKeys, List.mem_cons, List.not_mem_nil, or_false, DMA.CH_STAT.STATE, DMA.CH_CNT.RD_OUT, DMA.CH_CNT_HI.BYTES_WRITTEN,
      DMA.CH_PROG.ADDR, DMA.CQ_TAIL.COUNT, POWER.PWR_STAT.STATE]
    omega

/-- A channel that holds nothing asks for its first five groups where their pages let them be fetched. -/
theorem State.fetchList_first (hm : (s.chan n).mov = none) (ha : (s.chan n).acc = []) (hg : (s.chan n).groups = []) (hp : s.get (DMA.CH_STAT.PC n) = 0)
    (hk : s.stkApplies = false) (hr : ∀ k, k < 5 → s.rawRouteN (s.get (DMA.CH_PROG.ADDR n) + 128 * k) 128 = .direct) :
    s.fetchList n = List.range 5 := by
  have groups : (List.range 5).map (0 / 8 + ·) = List.range 5 := rfl
  rw [State.fetchList, State.chNeed_still hm, hp, groups, List.takeWhile_eq_self_iff.mpr, List.filter_eq_self]
  · intro g hl
    have small : g < 2 ^ 21 := (List.mem_range.mp hl).trans (by decide)
    simp only [small, s.stkHeld_free hk, hg, ha, decide_true, Sparse.find, List.any_nil]
    rfl
  · intro g hl
    rw [hr g (List.mem_range.mp hl)]
    simp

/-- START runs the channel from PC 0 and asks for its first groups (R375, R376). -/
theorem State.chStart_starts {n : Fin 4} (hl : s.dma.length = 4) (hk : s.stkApplies = false)
    (hr : ∀ k, k < 5 → s.rawRouteN (s.get (DMA.CH_PROG.ADDR n) + 128 * k) 128 = .direct) :
    Issued n ((List.range 5).map (s.fetchAcc n)) (s.busy.chBegun n) (s.busy.chStart n) := by
  obtain ⟨only, tables, throttle, place, tail⟩ := s.begun_keeps n.isLt
  obtain ⟨state, pc, -⟩ := s.busy.chBegun_get n
  obtain ⟨len, g, chan⟩ := s.busy.chBegun_chan n (by rw [s.busy_dma, hl]; exact n.isLt)
  have route (k : Nat) (h : k < 5) : (s.busy.chBegun n).rawRouteN ((s.busy.chBegun n).get (DMA.CH_PROG.ADDR n) + 128 * k) 128 = .direct := by
    rw [place, State.rawRouteN_tables tables]
    exact hr k h
  have goes : (s.busy.chBegun n).chIssues n = true := by
    rw [State.chIssues, State.chBusy, State.chState, state, State.retrying, chan]
    rfl
  have issued := State.chFetch_issued len (by rw [chan]) (.inr (.inr (by rw [pc]; exact route 0 (by decide))))
  have same : (s.busy.chBegun n).fetchAcc n = s.fetchAcc n := by
    funext k
    rw [State.fetchAcc, place, State.fetchAcc]
  rwa [if_pos goes, State.fetchList_first (by rw [chan]) (by rw [chan]) (by rw [chan]) pc (throttle.trans hk) route, same] at issued

end

/-! ### DISABLE (R390) -/

section
variable (s : State) (n : Nat)

theorem State.setAcc_chan_ne {m : Nat} (h : m ≠ n) (l : List DmaAccess) : (s.setAcc n l).chan m = s.chan m := by
  rw [State.chan_congr (s := s.setChan n fun c => { c with acc := l }) (by rw [State.setAcc, State.put_dma, State.put_dma]), State.setChan_chan_ne h]

/-- What DISABLE does, but for the values that it leaves undefined: the channel, its accesses, and its registers. -/
def State.disabledWith (s : State) (n k : Nat) (f : DmaChan → DmaChan) (pending lo hi written : Nat) : State :=
  (((((((({ s with freeCtr := k } : State).setChan n f).setAcc n (giveUp (s.chan n).acc)).put (DMA.CH_STAT.STATE n) DMA.disabled).put
    (DMA.CH_STAT.WAIT_ON n) 0).put (DMA.CH_STAT.PENDING n) pending).put (DMA.CH_CNT.BYTES_READ_LO n) lo).put
    (DMA.CH_CNT_HI.BYTES_READ_HI n) hi).put (DMA.CH_CNT_HI.BYTES_WRITTEN n) written

theorem State.chDisable_eq : ∃ k f p lo hi w, s.chDisable n = s.disabledWith n k f p lo hi w := ⟨_, _, _, _, _, _, rfl⟩

section
variable {k : Nat} {f : DmaChan → DmaChan} {p lo hi w : Nat}

theorem State.disabledWith_mem : (s.disabledWith n k f p lo hi w).mem = s.mem := by
  simp only [State.disabledWith, State.put_mem, State.setAcc_mem, State.setChan_mem]
theorem State.disabledWith_out : (s.disabledWith n k f p lo hi w).out = s.out := by
  simp only [State.disabledWith, State.put_out, State.setAcc_out, State.setChan_out]

theorem State.disabledWith_dma {s : State} {n : Nat} :
    (s.disabledWith n k f p lo hi w).dma = ((({ s with freeCtr := k } : State).setChan n f).setAcc n (giveUp (s.chan n).acc)).dma := by
  simp only [State.disabledWith, State.put_dma]

theorem State.disabledWith_acc {s : State} {n : Nat} (h : n < s.dma.length) : ((s.disabledWith n k f p lo hi w).chan n).acc = giveUp (s.chan n).acc := by
  have len : n < (({ s with freeCtr := k } : State).setChan n f).dma.length := by
    rw [State.setChan_dma, List.length_modify]
    exact h
  rw [State.chan_congr State.disabledWith_dma, State.setAcc_own len]

theorem State.disabledWith_chan_ne {m : Nat} (h : m ≠ n) : (s.disabledWith n k f p lo hi w).chan m = s.chan m := by
  rw [State.chan_congr State.disabledWith_dma, State.setAcc_chan_ne _ _ h, State.setChan_chan_ne h]
  rfl

theorem State.disabledWith_state : (s.disabledWith n k f p lo hi w).get (DMA.CH_STAT.STATE n) = DMA.disabled := by
  rw [State.disabledWith, State.get_put_ne _ _ (by simp [DMA.CH_CNT_HI.BYTES_WRITTEN, DMA.CH_STAT.STATE]),
    State.get_put_ne _ _ (by simp [DMA.CH_CNT_HI.BYTES_READ_HI, DMA.CH_STAT.STATE]), State.get_put_ne _ _ (by simp [DMA.CH_CNT.BYTES_READ_LO, DMA.CH_STAT.STATE]),
    State.get_put_apart _ _ (by simp [DMA.CH_STAT.PENDING, DMA.CH_STAT.STATE]), State.get_put_apart _ _ (by simp [DMA.CH_STAT.WAIT_ON, DMA.CH_STAT.STATE]),
    State.get_put_same _ _ _ (by simp [DMA.CH_STAT.STATE])]
  rfl

/-- The fields that DISABLE keeps: ERR and PC of CH_STAT, and those of registers apart from the channel's status and counts. -/
theorem State.disabledWith_get {g : Field} (hg : g.lo + g.width ≤ 64) (hs : g.key ≠ (DMA.CH_STAT.STATE n).key ∨ 12 ≤ g.lo)
    (hc : g.key ≠ (DMA.CH_CNT.RD_OUT n).key) (hh : g.key ≠ (DMA.CH_CNT_HI.BYTES_WRITTEN n).key) :
    (s.disabledWith n k f p lo hi w).get g = s.get g := by
  have stat {x : Field} (hx : x.key = (DMA.CH_STAT.STATE n).key) (hw : x.lo + x.width ≤ 12) :
      g.lo + g.width ≤ 64 ∧ (x.key ≠ g.key ∨ x.lo + x.width ≤ g.lo ∨ g.lo + g.width ≤ x.lo) :=
    ⟨hg, hs.imp (fun h => hx ▸ Ne.symm h) fun h => .inl (hw.trans h)⟩
  rw [State.disabledWith, State.get_put_ne (f := DMA.CH_CNT_HI.BYTES_WRITTEN n) _ _ (Ne.symm hh),
    State.get_put_ne (f := DMA.CH_CNT_HI.BYTES_READ_HI n) _ _ (Ne.symm hh), State.get_put_ne (f := DMA.CH_CNT.BYTES_READ_LO n) _ _ (Ne.symm hc),
    State.get_put_apart _ _ (stat (x := DMA.CH_STAT.PENDING n) rfl (by simp [DMA.CH_STAT.PENDING])),
    State.get_put_apart _ _ (stat (x := DMA.CH_STAT.WAIT_ON n) rfl (by simp [DMA.CH_STAT.WAIT_ON])),
    State.get_put_apart _ _ (stat (x := DMA.CH_STAT.STATE n) rfl (by simp [DMA.CH_STAT.STATE])), State.setAcc_get _ _ _ hc]
  rfl

theorem State.disabledWith_retries : (s.disabledWith n k f p lo hi w).get (DMA.CH_CNT.RETRIES n) = s.get (DMA.CH_CNT.RETRIES n) := by
  rw [State.disabledWith, State.get_put_ne _ _ (by simp [DMA.CH_CNT_HI.BYTES_WRITTEN, DMA.CH_CNT.RETRIES]),
    State.get_put_ne _ _ (by simp [DMA.CH_CNT_HI.BYTES_READ_HI, DMA.CH_CNT.RETRIES]), State.get_put_apart _ _ (by simp [DMA.CH_CNT.BYTES_READ_LO, DMA.CH_CNT.RETRIES]),
    State.get_put_ne _ _ (by simp [DMA.CH_STAT.PENDING, DMA.CH_CNT.RETRIES]), State.get_put_ne _ _ (by simp [DMA.CH_STAT.WAIT_ON, DMA.CH_CNT.RETRIES]),
    State.get_put_ne _ _ (by simp [DMA.CH_STAT.STATE, DMA.CH_CNT.RETRIES]), State.setAcc_retries]
  rfl

end

end

section
variable {s : State} {n : Fin 4} (h : HostUp s (keyDomains (DMA.CH_CMD.START n).key)) (hm : s.isM = true)
include h hm

theorem execDmaDisable_eq : execDmaDisable n s = .next (s.chDisable n) := by
  simp only [execDmaDisable]
  rw [State.command_dma h (dmaKeys n).1 hm]

theorem execDmaStart_disable : execDmaStart n true s = .next ((s.chDisable n).refuse (DMA.CH_CMD.START n).key .state 3) := by
  simp only [execDmaStart]
  rw [State.command_dma h (dmaKeys n).1 hm]
  rfl

end

/-! ### The completion queue's registers (R386, R461) -/

section
variable {s : State} {n : Fin 4} {d : Word}

/-- Firmware's writes move nothing where no HALT record and no SIGNAL waits. -/
theorem State.headMoved_still {n : Nat} (hp : (s.chan n).haltPend = false) (hs : (s.chan n).signal = false) : s.headMoved n = s := by
  rw [State.headMoved, hp, State.signalTry, hs]
  rfl

def cqHeadRow : RegRow := { off := 0x218, count := 4, stride := 32, rw := [{ lo := 0, width := 17 }] }
def cqCtlRow : RegRow := { off := 0x208, count := 4, stride := 32, reset := 0x4, rw := [{ lo := 0, width := 5, min := 4, max := 16 }] }
def cqBaseRow : RegRow := { off := 0x200, count := 4, stride := 32, rw := [{ lo := 0, width := 40 }] }

theorem rowOf_cq (n : Fin 4) : rowOf (DMA.CQ_HEAD.COUNT n).key = some cqHeadRow ∧ rowOf (DMA.CQ_CTL.SIZE n).key = some cqCtlRow ∧
    rowOf (DMA.CQ_BASE.ADDR n).key = some cqBaseRow := by
  revert n
  decide

theorem cqHeadRow_takesAll : ∀ f ∈ cqHeadRow.rw, f.takesAll := by
  simp [cqHeadRow, RwField.takesAll]

/-- The rules of a register of the DMA page, by its offset in the channel's blocks. -/
theorem State.stateRefusal_dma {off m r : Nat} (ho : 0x100 ≤ off) (hd : dmaReg off = (m, r)) :
    s.stateRefusal 12 off d = if [0x00, 0x10, 0x100, 0x108].contains r && s.chBusy m then some .state else none := by
  simp only [State.stateRefusal, Nat.not_lt.mpr ho, hd, if_false]

theorem State.ownRefusal_cqHead {off m : Nat} (ho : 0x100 ≤ off) (hd : dmaReg off = (m, 0x118)) : s.ownRefusal 12 off d =
    if (s.get (DMA.CQ_TAIL.COUNT m) + 2 ^ 17 - d.toNat % 2 ^ 17) % 2 ^ 17 ≤ 2 ^ s.get (DMA.CQ_CTL.SIZE m) then none else some .range := by
  have low : bits d.toNat 0 17 = d.toNat % 2 ^ 17 := rfl
  simp only [State.ownRefusal, Nat.not_lt.mpr ho, hd, low, if_false, Nat.reduceEqDiff, if_true, decide_eq_true_eq]

theorem State.ownRefusal_cqCtl {off m : Nat} (ho : 0x100 ≤ off) (hd : dmaReg off = (m, 0x108)) : s.ownRefusal 12 off d = none := by
  simp only [State.ownRefusal, Nat.not_lt.mpr ho, hd, if_false, Nat.reduceEqDiff]

theorem State.afterWrite_cqHead {off m : Nat} (ho : 0x100 ≤ off) (hd : dmaReg off = (m, 0x118)) : s.afterWrite 12 off = s.headMoved m := by
  simp only [State.afterWrite, Nat.not_lt.mpr ho, hd, if_false, if_true]

theorem State.afterWrite_cqCtl {off m : Nat} (ho : 0x100 ≤ off) (hd : dmaReg off = (m, 0x108)) :
    s.afterWrite 12 off = ((s.put (DMA.CQ_TAIL.COUNT m) 0).put (DMA.CQ_HEAD.COUNT m) 0).headMoved m := by
  simp only [State.afterWrite, Nat.not_lt.mpr ho, hd, if_false, Nat.reduceEqDiff, decide_false, decide_true, Bool.or_true, if_true]

/-- A write that the state does not allow is refused whatever its data. -/
theorem State.hostWrite_stateRefused {key : Nat} {row : RegRow} {r : Reason} (hp : s.present (key / 4096) = true) (ho : 0x100 ≤ key % 4096)
    (hrow : rowOf key = some row) (hne : row.rw ≠ []) (hst : s.stateRefusal (key / 4096) (key % 4096) d = some r) :
    s.hostWrite key d = s.refuse key r d := by
  simp only [State.hostWrite, State.writeRefusal, hp, Nat.not_lt.mpr ho, hrow, hne, hst, Bool.not_true, Bool.false_eq_true, if_false]
  rfl

/-- An accepted write of a register of the DMA page leaves the merged word there and then has its effect. -/
theorem State.acceptWrite_dma {key : Nat} (hk : key / 4096 = 12) (rw : List RwField) :
    s.acceptWrite 12 (key % 4096) d rw = (s.setReg key (s.mergeRw (s.reg key) d rw)).afterWrite 12 (key % 4096) := by
  have sets := s.acceptWrite_sets (key := key) (fun h2 => absurd h2 (by omega)) (by omega)
    (fun he => absurd (congrArg (· / 4096) he) (by simp [hk, POWER.THR_CTL.STK_ALWAYS])) d rw
  rwa [hk] at sets

theorem execCqHeadWrite_takes (h : HostUp s (keyDomains (DMA.CQ_HEAD.COUNT n).key)) (hm : s.isM = true)
    (hp : (s.chan n).haltPend = false) (hs : (s.chan n).signal = false)
    (hr : (s.get (DMA.CQ_TAIL.COUNT n) + 2 ^ 17 - d.toNat % 2 ^ 17) % 2 ^ 17 ≤ 2 ^ s.get (DMA.CQ_CTL.SIZE n)) :
    execCqHeadWrite n d s = .next (s.setReg (DMA.CQ_HEAD.COUNT n).key (s.mergeRw (s.reg (DMA.CQ_HEAD.COUNT n).key) d cqHeadRow.rw)) := by
  obtain ⟨-, page, off, place, -⟩ := dmaKeys n
  have present : s.present ((DMA.CQ_HEAD.COUNT n).key / 4096) = true := by rw [page]; exact hm
  simp only [execCqHeadWrite]
  rw [s.access_eq h.needs, s.hostWrite_takesAll present off (rowOf_cq n).1 (by decide)
    (by rw [page, State.stateRefusal_dma off place]; rfl) cqHeadRow_takesAll (by rw [page, State.ownRefusal_cqHead off place, if_pos hr]),
    page, State.acceptWrite_dma page, State.afterWrite_cqHead off place, State.headMoved_still]
  · exact hp
  · exact hs

theorem execCqHeadWrite_refuses (h : HostUp s (keyDomains (DMA.CQ_HEAD.COUNT n).key)) (hm : s.isM = true)
    (hr : 2 ^ s.get (DMA.CQ_CTL.SIZE n) < (s.get (DMA.CQ_TAIL.COUNT n) + 2 ^ 17 - d.toNat % 2 ^ 17) % 2 ^ 17) :
    execCqHeadWrite n d s = .next (s.refuse (DMA.CQ_HEAD.COUNT n).key .range d) := by
  obtain ⟨-, page, off, place, -⟩ := dmaKeys n
  have present : s.present ((DMA.CQ_HEAD.COUNT n).key / 4096) = true := by rw [page]; exact hm
  simp only [execCqHeadWrite]
  rw [s.access_eq h.needs, s.hostWrite_refused present off (rowOf_cq n).1 (by decide)
    (by rw [page, State.stateRefusal_dma off place]; rfl) cqHeadRow_takesAll
    (by rw [page, State.ownRefusal_cqHead off place, if_neg (Nat.not_le.mpr hr)])]

theorem execCqConfigWrite_takes (h : HostUp s (keyDomains (DMA.CQ_CTL.SIZE n).key)) (hm : s.isM = true) (hb : s.chBusy n = false)
    (hp : (s.chan n).haltPend = false) (hs : (s.chan n).signal = false) (hlo : 4 ≤ d.toNat % 32) (hhi : d.toNat % 32 ≤ 16) :
    execCqConfigWrite n true d s = .next (((s.setReg (DMA.CQ_CTL.SIZE n).key (s.mergeRw (s.reg (DMA.CQ_CTL.SIZE n).key) d cqCtlRow.rw)).put
      (DMA.CQ_TAIL.COUNT n) 0).put (DMA.CQ_HEAD.COUNT n) 0) := by
  obtain ⟨-, -, -, -, page, off, place, -⟩ := dmaKeys n
  have present : s.present ((DMA.CQ_CTL.SIZE n).key / 4096) = true := by rw [page]; exact hm
  have serves : ∀ f ∈ cqCtlRow.rw, s.serves f.serves = true := by simp [cqCtlRow, State.serves]
  have range : ∀ f ∈ cqCtlRow.rw, f.min ≤ bits d.toNat f.lo f.width ∧ bits d.toNat f.lo f.width ≤ f.max := by
    intro f hf
    rw [List.mem_singleton.mp hf]
    exact ⟨hlo, hhi⟩
  simp only [execCqConfigWrite, if_true]
  rw [s.access_eq h.needs, s.hostWrite_fields present off (rowOf_cq n).2.1 (by decide)
    (by rw [page, State.stateRefusal_dma off place, hb, Bool.and_false]; rfl) (by rw [page, State.ownRefusal_cqCtl off place]) serves, if_pos range,
    page, State.acceptWrite_dma page, State.afterWrite_cqCtl off place, State.headMoved_still]
  · exact hp
  · exact hs

theorem execCqConfigWrite_refuses {ctl : Bool} (h : HostUp s (keyDomains (if ctl then (DMA.CQ_CTL.SIZE n).key else (DMA.CQ_BASE.ADDR n).key)))
    (hm : s.isM = true) (hb : s.chBusy n = true) : execCqConfigWrite n ctl d s =
      .next (s.refuse (if ctl then (DMA.CQ_CTL.SIZE n).key else (DMA.CQ_BASE.ADDR n).key) .state d) := by
  obtain ⟨-, -, -, -, ctlPage, ctlOff, ctlPlace, basePage, baseOff, basePlace⟩ := dmaKeys n
  simp only [execCqConfigWrite]
  rw [s.access_eq h.needs]
  cases ctl with
  | true => exact congrArg _ (State.hostWrite_stateRefused (by rw [if_pos rfl, ctlPage]; exact hm) ctlOff (rowOf_cq n).2.1 (by decide)
      (by rw [if_pos rfl, ctlPage, State.stateRefusal_dma ctlOff ctlPlace, hb]; rfl))
  | false => exact congrArg _ (State.hostWrite_stateRefused (by rw [if_neg (by decide), basePage]; exact hm) baseOff (rowOf_cq n).2.2 (by decide)
      (by rw [if_neg (by decide), basePage, State.stateRefusal_dma baseOff basePlace, hb]; rfl))

end

end Sys2Proof.Machine
end

section
/-!
PROOFS. Answers of memory to the DMA channels, their retries, and their pacing inputs (R379, R384, R388, R389, R391).
-/

namespace Sys2Proof.Machine

theorem exec_dmaWritesAccepted (n : Fin 4) (s : State) : exec (.dmaWritesAccepted n) s = execDmaWritesAccepted n s := rfl
theorem exec_dmaBusRetry (n : Fin 4) (now : Beat) (ans : MemAnswer) (s : State) : exec (.dmaBusRetry n now ans) s = execDmaBusRetry n now ans s := rfl
theorem exec_dmqReqEdge (n : Fin 4) (s : State) : exec (.dmqReqEdge n) s = execDmqReqEdge n s := rfl
theorem exec_dmqFillChange (n : Fin 4) (f : BitVec 12) (s : State) : exec (.dmqFillChange n f) s = execDmqFillChange n f s := rfl
theorem exec_dmaProgramFetch (n : Fin 4) (d : BitVec 1024) (ans : MemAnswer) (s : State) :
    exec (.dmaProgramFetch n d ans) s = execDmaProgramFetch n d ans s := rfl
theorem exec_memoryWriteError (o : WriteOwner) (ans : MemAnswer) (s : State) : exec (.memoryWriteError o ans) s = execMemoryWriteError o ans s := rfl

/-! ### A channel that goes on -/

section
variable {s t : State} {n : Nat}

theorem State.chFetch_idle (h : s.chIssues n = false) : s.chFetch n = s := by
  rw [State.chFetch, h]
  rfl

theorem State.signalTry_idle (h : (s.chan n).signal = false) : s.signalTry n = s := by
  rw [State.signalTry, h]
  rfl

/-- A channel without a MOVE reads nothing. -/
theorem State.dmaReads_still (h : (s.chan n).mov = none) : s.dmaReads n = s := by
  rw [State.dmaReads, State.dmaAsk, h]

theorem State.dmaResume_still (h : (s.chan n).mov = none) : s.dmaResume n = s := by
  rw [State.dmaResume, h]

/-- A channel without a MOVE and a SIGNAL goes on with its fetches alone. -/
theorem State.dmaGo_fetches (hf : s.chFetch n = t) (hm : (t.chan n).mov = none) (hs : (t.chan n).signal = false) : s.dmaGo n = t := by
  rw [State.dmaGo, hf, State.dmaReads_still hm, State.dmaResume_still hm, State.signalTry_idle hs]

theorem State.dmaReads_held (h : s.chIssues n = false) : s.dmaReads n = s := by
  rw [State.dmaReads, State.dmaAsk]
  simp only [h, Bool.not_false, Bool.or_true, Bool.true_or, if_true]
  split
  · rfl
  · split <;> rfl

theorem State.chIssues_retrying (h : s.retrying n = true) : s.chIssues n = false := by
  rw [State.chIssues, h, Bool.not_true, Bool.and_false]

theorem State.retrying_congr (h : t.dma = s.dma) : t.retrying n = s.retrying n := by
  rw [State.retrying, State.chan_congr h, State.retrying]

/-- A channel with an access that waits for its retry only moves between RUNNING and WAITING. -/
theorem State.dmaPump_retrying (h : s.retrying n = true) {w : DmaWrite} {ws : List DmaWrite} :
    s.dmaPump n (w :: ws) = s ∨ (∃ on, s.dmaPump n (w :: ws) = s.chWait n on) ∨ s.dmaPump n (w :: ws) = s.chRun n := by
  rw [State.dmaPump]
  split
  · exact .inl rfl
  · split
    · exact .inl rfl
    · exact .inr (.inl ⟨_, rfl⟩)
    · rw [h, Bool.true_or, if_pos rfl]
      exact .inr (.inr rfl)

theorem State.dmaResume_retrying (h : s.retrying n = true) : s.dmaResume n = s ∨ (∃ on, s.dmaResume n = s.chWait n on) ∨ s.dmaResume n = s.chRun n := by
  have reads {u : State} (hu : u.dma = s.dma) : u.dmaReads n = u :=
    State.dmaReads_held (State.chIssues_retrying ((State.retrying_congr hu).trans h))
  rw [State.dmaResume]
  split
  · exact .inl rfl
  · rename_i m hm
    split
    · exact .inl rfl
    · rename_i hgo
      cases hbuf : m.buf with
      | nil => simp [hbuf, h] at hgo
      | cons w ws =>
        rcases State.dmaPump_retrying h (w := w) (ws := ws) with e | ⟨on, e⟩ | e
        · rw [e, reads rfl]
          exact .inl rfl
        · rw [e, reads (by rw [State.chWait, State.put_dma, State.put_dma])]
          exact .inr (.inl ⟨on, rfl⟩)
        · rw [e, reads (State.chRun_keeps s State.dma State.put_dma)]
          exact .inr (.inr rfl)

/-- What such a channel keeps as it goes on. -/
theorem State.dmaGo_retrying (h : s.retrying n = true) : (s.dmaGo n).dma = s.dma ∧ (s.dmaGo n).mem = s.mem ∧
    ∀ f : Field, f.key ≠ (DMA.CH_STAT.STATE n).key → (s.dmaGo n).get f = s.get f := by
  have signal {u : State} (hu : u.dma = s.dma) : u.signalTry n = u := by
    rw [State.signalTry, State.retrying_congr hu, h, Bool.or_true, if_pos rfl]
  rw [State.dmaGo, State.chFetch_idle (State.chIssues_retrying h), State.dmaReads_held (State.chIssues_retrying h)]
  rcases State.dmaResume_retrying h with e | ⟨on, e⟩ | e
  · rw [e, signal rfl]
    exact ⟨rfl, rfl, fun _ _ => rfl⟩
  · have dma : (s.chWait n on).dma = s.dma := by rw [State.chWait, State.put_dma, State.put_dma]
    rw [e, signal dma]
    refine ⟨dma, by rw [State.chWait, State.put_mem, State.put_mem], fun f hf => ?_⟩
    rw [State.chWait, State.get_put_ne (f := DMA.CH_STAT.WAIT_ON n) _ _ (Ne.symm hf), State.get_put_ne _ _ (Ne.symm hf)]
  · have dma : (s.chRun n).dma = s.dma := State.chRun_keeps s State.dma State.put_dma
    rw [e, signal dma]
    refine ⟨dma, State.chRun_keeps s State.mem State.put_mem, fun f hf => ?_⟩
    unfold State.chRun
    split
    · rw [State.get_put_ne (f := DMA.CH_STAT.WAIT_ON n) _ _ (Ne.symm hf), State.get_put_ne _ _ (Ne.symm hf)]
    · rfl

theorem Fetchable.congr {s t : State} {n : Fin 4} {u : Nat} (h : Fetchable s n u) (hg : (t.chan n).groups = (s.chan n).groups)
    (ht : t.tables = s.tables) (hp : t.get (DMA.CH_PROG.ADDR n) = s.get (DMA.CH_PROG.ADDR n)) : Fetchable t n u := by
  rw [Fetchable, State.chUnit, hg, hp, State.rawRouteN_tables ht]
  exact h

end

/-! ### DMA_WRITES_ACCEPTED (R391) -/

/-- The writes that memory accepts now, those of them that carry bytes, and the accesses that stay. -/
def State.written (s : State) (n : Nat) : List DmaAccess :=
  ((s.chan n).acc.filter (fun x => !x.use.isRead && x.due.isNone)).filter (fun x => x.bytes != [])
def State.unwritten (s : State) (n : Nat) : List DmaAccess := (s.chan n).acc.filter (fun x => x.use.isRead || x.due.isSome)

/-- The channel once memory has accepted its writes. -/
def State.accepted (s : State) (n : Nat) : State := (s.takeAll (s.written n)).setAcc n (s.unwritten n)

section
variable {s : State} {n : Nat}

theorem execDmaWritesAccepted_eq {n : Fin 4} (h : s.dmaRuns = true) :
    execDmaWritesAccepted n s = .next ((((s.accepted n).dmaGo n).headMoved n).haltFinish n) := by
  simp only [execDmaWritesAccepted, h, Bool.not_true, Bool.false_eq_true, if_false]
  rfl

theorem State.mem_written {x : DmaAccess} (h : x ∈ s.written n) : x ∈ (s.chan n).acc ∧ x.use.isRead = false := by
  simp only [State.written, List.mem_filter, Bool.and_eq_true, Bool.not_eq_true'] at h
  exact ⟨h.1.1, h.1.2.1⟩

theorem State.written_mem {x : DmaAccess} (hx : x ∈ (s.chan n).acc) (hw : x.use.isRead = false) (hd : x.due = none) (hb : x.bytes ≠ []) :
    x ∈ s.written n := by
  simp [State.written, hx, hw, hd, hb]

theorem State.accepted_chan (hl : n < s.dma.length) : (s.accepted n).chan n = { s.chan n with acc := s.unwritten n } := by
  rw [State.accepted, State.setAcc_own (by rwa [State.takeAll_dma]), State.chan_congr (s.takeAll_dma _)]

theorem State.accepted_length : (s.accepted n).dma.length = s.dma.length := by
  rw [State.accepted, State.setAcc_length, State.takeAll_dma]

theorem State.accepted_mem : (s.accepted n).mem = (s.takeAll (s.written n)).mem := State.setAcc_mem ..

theorem State.accepted_tables : (s.accepted n).tables = s.tables := (State.setAcc_tables ..).trans (s.takeAll_tables _)

theorem State.accepted_get {f : Field} (h : f.key ≠ (DMA.CH_CNT.RD_OUT n).key) (hf : f.key ≠ DEFILE.RA_STAT.OVERFLOWS.key) :
    (s.accepted n).get f = s.get f := (State.setAcc_get _ n _ h).trans (s.takeAll_get _ hf)

/-- The channel's own status and program registers are not counters of its accesses, nor of the engine's. -/
theorem chanFields_kept (n : Nat) : (DMA.CH_STAT.STATE n).key ≠ (DMA.CH_CNT.RD_OUT n).key ∧ (DMA.CH_STAT.STATE n).key ≠ DEFILE.RA_STAT.OVERFLOWS.key ∧
    (DMA.CH_PROG.ADDR n).key ≠ (DMA.CH_CNT.RD_OUT n).key ∧ (DMA.CH_PROG.ADDR n).key ≠ DEFILE.RA_STAT.OVERFLOWS.key := by
  simp only [DMA.CH_STAT.STATE, DMA.CH_CNT.RD_OUT, DMA.CH_PROG.ADDR, DEFILE.RA_STAT.OVERFLOWS]
  omega

theorem State.unwritten_reads (hr : s.retrying n = false) : s.unwritten n = (s.chan n).acc.filter (·.use.isRead) := by
  refine List.filter_congr fun x hx => ?_
  rw [State.retrying, List.any_eq_false] at hr
  rw [Bool.eq_false_iff.mpr (hr x hx), Bool.or_false]

theorem fetchAccs_read {c : Prop} [Decidable c] {gs : List Nat} : ∀ a ∈ (if c then gs.map (s.fetchAcc n) else []), a.use.isRead = true := by
  intro a ha
  split at ha
  · obtain ⟨g, -, rfl⟩ := List.mem_map.mp ha
    rfl
  · cases ha

/-- A channel that goes on after its writes are accepted only fetches (R376). -/
theorem State.accepted_goes {n : Fin 4} (hl : s.dma.length = 4) (hm : (s.chan n).mov = none) (hs : (s.chan n).signal = false)
    (hh : (s.chan n).halting = none) (hp : (s.chan n).haltPend = false)
    (hf : s.chBusy n = false ∨ Fetchable s n (s.get (DMA.CH_STAT.PC n))) :
    ∃ l t, (∀ a ∈ l, a.use.isRead = true) ∧ Issued n l (s.accepted n) t ∧
      (((s.accepted n).dmaGo n).headMoved n).haltFinish n = t := by
  have len : n.val < s.dma.length := by omega
  have chan := State.accepted_chan (s := s) len
  obtain ⟨state, stateRa, place, placeRa⟩ := chanFields_kept n
  have fetches : (s.accepted n).chBusy n = false ∨ Fetchable (s.accepted n) n ((s.accepted n).get (DMA.CH_STAT.PC n)) := by
    rw [State.chBusy_congr (State.accepted_get state stateRa), State.accepted_get (f := DMA.CH_STAT.PC n) state stateRa]
    exact hf.imp_right fun h => h.congr (by rw [chan]) State.accepted_tables (State.accepted_get place placeRa)
  have issued := State.chFetch_issued (s := s.accepted n) (by rw [State.accepted_length]; exact len) (by rw [chan]; exact hm) fetches
  refine ⟨_, _, fetchAccs_read, issued, ?_⟩
  rw [State.dmaGo_fetches rfl (by rw [issued.chan, chan]; exact hm) (by rw [issued.chan, chan]; exact hs),
    State.headMoved_still (by rw [issued.chan, chan]; exact hp) (by rw [issued.chan, chan]; exact hs),
    State.haltFinish_running (by rw [issued.chan, chan]; exact hh)]

theorem State.accepted_kept {t : State} (hm : t.mem = (s.accepted n).mem) :
    MemoryKeptOutside s t (((s.chan n).acc.filter (fun a => !a.use.isRead)).map (fun a => (a.addr, a.bytes.length))) := by
  intro b hb
  rw [State.memByte_congr hm, State.memByte_congr State.accepted_mem]
  refine State.memByte_takeAll_apart _ _ fun x hx => ?_
  obtain ⟨acc, isWrite⟩ := State.mem_written hx
  exact hb (x.addr, x.bytes.length) (List.mem_map.mpr ⟨x, List.mem_filter.mpr ⟨acc, by rw [isWrite]; rfl⟩, rfl⟩)

theorem State.accepted_byte {t : State} (hm : t.mem = (s.accepted n).mem) (hr : s.retrying n = false) {x : DmaAccess} {i : Nat}
    (hx : x ∈ (s.chan n).acc) (hw : x.use.isRead = false) (hi : i < x.bytes.length)
    (ha : ∀ y ∈ (s.chan n).acc, y.use.isRead = false → y = x ∨ y.addr + y.bytes.length ≤ x.addr + i ∨ x.addr + i < y.addr) :
    t.memByte (x.addr + i) = x.bytes.getD i 0 := by
  rw [State.retrying, List.any_eq_false] at hr
  have due : x.due = none := by simpa using hr x hx
  have bytes : x.bytes ≠ [] := List.ne_nil_of_length_pos (Nat.zero_lt_of_lt hi)
  rw [State.memByte_congr hm, State.memByte_congr State.accepted_mem]
  refine State.memByte_takeAll _ _ (State.written_mem hx hw due bytes) hi fun y hy => ?_
  obtain ⟨acc, isWrite⟩ := State.mem_written hy
  exact ha y acc isWrite

/-- No write of the channel is outstanding any more. -/
theorem Issued.noWrites {t : State} {l : List DmaAccess} (h : Issued n l (s.accepted n) t) (hl : n < s.dma.length)
    (hr : s.retrying n = false) (hread : ∀ a ∈ l, a.use.isRead = true) : t.get (DMA.CH_CNT.WR_OUT n) = 0 := by
  have counted := (h.counted (State.setAcc_counted (by rwa [State.takeAll_dma]) _)).2
  have none : ((s.unwritten n) ++ l).filter (fun a => !a.use.isRead) = [] := by
    rw [State.unwritten_reads hr, List.filter_eq_nil_iff]
    intro a ha
    rcases List.mem_append.mp ha with h | h
    · simp [(List.mem_filter.mp h).2]
    · simp [hread a h]
  rw [counted, h.chan, State.accepted_chan hl, none]
  rfl

/-- A halting channel whose accesses are all accepted is HALTED (R389). -/
theorem State.accepted_halts (hn : n < 4) (hl : n < s.dma.length) (hm : (s.chan n).mov = none) (hs : (s.chan n).signal = false) {e : Nat}
    (hh : (s.chan n).halting = some e) (hp : (s.chan n).haltPend = false) (ha : ∀ a ∈ (s.chan n).acc, a.use.isRead = false ∧ a.due = none) :
    ((((s.accepted n).dmaGo n).headMoved n).haltFinish n).settled n = ((s.accepted n).mem, DMA.halted, e % 256, none, false, none) := by
  have rest : s.unwritten n = [] := by
    rw [State.unwritten, List.filter_eq_nil_iff]
    intro a h
    simp [ha a h]
  have chan := State.accepted_chan (s := s) hl
  rw [rest] at chan
  have idle : (s.accepted n).chIssues n = false := by
    rw [State.chIssues, chan, hh, Option.isNone_some, Bool.and_false, Bool.false_and]
  rw [State.dmaGo_fetches (State.chFetch_idle idle) (by rw [chan]; exact hm) (by rw [chan]; exact hs),
    State.headMoved_still (by rw [chan]; exact hp) (by rw [chan]; exact hs), State.haltFinish_settled hn (by rwa [State.accepted_length]) (e := e), chan, hm, hs]
  · rw [chan]; exact hh
  · rw [chan]

end

/-! ### DMA_BUS_RETRY (R388) -/

section
variable (s : State) (now : Beat) (n : Nat)

@[simp] theorem State.at_dma : (s.at now).dma = s.dma := by obtain ⟨_, _, h⟩ := s.at_eq now; rw [h]
@[simp] theorem State.at_chan : (s.at now).chan n = s.chan n := State.chan_congr (s.at_dma now) n
theorem State.at_tables : (s.at now).tables = s.tables := by obtain ⟨_, _, h⟩ := s.at_eq now; rw [h]; rfl
theorem State.at_dmaRuns : (s.at now).dmaRuns = s.dmaRuns := by rw [State.dmaRuns, State.at_isM, State.at_dieRst, State.at_clkOn, State.dmaRuns]

/-- The channel as its only access `x` is issued again as `y`. -/
def State.again (s : State) (n : Nat) (y : DmaAccess) : State := (s.bump (DMA.CH_CNT.RETRIES n)).setAcc n [y]

/-- An access that is issued again. -/
def DmaAccess.again (x : DmaAccess) : DmaAccess := { x with due := none, retries := x.retries + 1 }

variable {s now n} {x : DmaAccess}

theorem execDmaBusRetry_eq {n : Fin 4} {b : Beat} {ans : MemAnswer} (hr : s.dmaRuns = true) (ha : (s.chan n).acc = [x]) (hd : x.due = some b)
    (hb : (s.at now).reached b = true) (hh : (s.at now).accHeld n x = false) :
    execDmaBusRetry n now ans s = .next (((s.at now).dmaAgain n x ans).dmaGo n) := by
  simp only [execDmaBusRetry, State.at_chan, ha, List.find?_cons, hd, hb, hh, Bool.not_false, Bool.and_self, State.at_dmaRuns, hr, if_true]

section
variable {y : DmaAccess}

theorem State.again_chan (hl : n < s.dma.length) : (s.again n y).chan n = { s.chan n with acc := [y] } := by
  rw [State.again, State.setAcc_own (by rwa [State.bump_dma]), State.chan_congr (s.bump_dma _)]
theorem State.again_length : (s.again n y).dma.length = s.dma.length := by rw [State.again, State.setAcc_length, State.bump_dma]
theorem State.again_mem : (s.again n y).mem = s.mem := by rw [State.again, State.setAcc_mem, State.bump_mem]
theorem State.again_tables : (s.again n y).tables = s.tables :=
  (State.setAcc_tables ..).trans (State.put_tables _ (by simp only [DMA.CH_CNT.RETRIES, IDENT.CAP_AGREED.CAP]; omega) _)
theorem State.again_get {f : Field} (h : f.key ≠ (DMA.CH_CNT.RD_OUT n).key) : (s.again n y).get f = s.get f :=
  (State.setAcc_get _ n _ h).trans (State.get_put_ne _ _ (Ne.symm h))
theorem State.again_counts : CountedOne (DMA.CH_CNT.RETRIES n) s (s.again n y) := by
  rw [CountedOne, State.again, State.setAcc_retries, State.get_bump_same _ _ (by simp [DMA.CH_CNT.RETRIES])]
theorem State.again_beat : (s.again n y).beat = s.beat := by
  simp only [State.again, State.setAcc, State.put_beat, State.setChan_beat, State.bump, State.bumpBy]

end

/-- An access goes out: a read that its page does not turn away, or a write. -/
def State.goOut (s : State) (n : Nat) (y : DmaAccess) : State :=
  if y.use.isRead then
    let r := if y.tbl then .direct else if y.use = .read then s.dmaRoute n y.addr false else s.rawRouteN y.addr 128
    match r.err with
    | some e => (s.seeRoute r).accFails n y e
    | none =>
      let z : DmaAccess := { y with view := if r = .engine then s.entryOf (y.addr / 2 ^ 23) else none }
      (s.setAcc n ((s.chan n).acc.map (fun w => if w = y then z else w))).emit (.memRead (64 * (y.addr / 64)))
  else (s.giveWrite n y).2

theorem State.dmaAgain_eq (ha : (s.chan n).acc = [x]) (ans : MemAnswer) : s.dmaAgain n x ans =
    if ans ≠ .ok then (s.again n x.again).accFails n x.again (answerErr ans) else (s.again n x.again).goOut n x.again := by
  have alone : (s.chan n).acc.map (fun z => if z = x then x.again else z) = [x.again] := by
    rw [ha]
    simp
  rw [State.again, ← alone]
  rfl

/-- A fetch goes out where its page does not turn it away. -/
theorem State.goOut_fetch {y : DmaAccess} {g : Nat} (ha : (s.chan n).acc = [y]) (hu : y.use = .fetch g) (ht : y.tbl = false)
    (hr : s.rawRouteN y.addr 128 = .direct) :
    s.goOut n y = (s.setAcc n [{ y with view := none }]).emit (.memRead (64 * (y.addr / 64))) := by
  have read : y.use.isRead = true := by
    rw [hu]
    rfl
  have fetch : y.use ≠ .read := by
    rw [hu]
    exact DmaUse.noConfusion
  simp only [State.goOut, read, ht, fetch, hr, Route.err, ha, if_true, if_false, Bool.false_eq_true, List.map_cons, List.map_nil, reduceCtorEq]

/-- A fetch that is issued again goes out, and the channel goes on with its fetches (R376, R388). -/
theorem State.dmaAgain_fetch {n : Fin 4} {g : Nat} (hl : n.val < s.dma.length) (ha : (s.chan n).acc = [x]) (hu : x.use = .fetch g) (ht : x.tbl = false)
    (hm : (s.chan n).mov = none) (hs : (s.chan n).signal = false) (hr : s.rawRouteN x.addr 128 = .direct)
    (hf : s.chBusy n = false ∨ Fetchable s n (s.get (DMA.CH_STAT.PC n))) :
    ∃ l, Issued n l (((s.again n x.again).setAcc n [{ x.again with view := none }]).emit (.memRead (64 * (x.addr / 64)))) ((s.dmaAgain n x .ok).dmaGo n) := by
  have own := State.again_chan hl (y := x.again)
  have out : s.dmaAgain n x .ok = ((s.again n x.again).setAcc n [{ x.again with view := none }]).emit (.memRead (64 * (x.addr / 64))) := by
    rw [State.dmaAgain_eq ha, if_neg (by decide)]
    exact State.goOut_fetch (by rw [own]) hu ht ((State.rawRouteN_tables State.again_tables ..).trans hr)
  generalize hv : (s.again n x.again).setAcc n [{ x.again with view := none }] = v at out ⊢
  have len : n.val < v.dma.length := by rwa [← hv, State.setAcc_length, State.again_length]
  have chan : v.chan n = { s.chan n with acc := [{ x.again with view := none }] } := by
    rw [← hv, State.setAcc_own (by rwa [State.again_length]), own]
  have get {f : Field} (h : f.key ≠ (DMA.CH_CNT.RD_OUT n).key) : v.get f = s.get f := by
    rw [← hv, State.setAcc_get _ _ _ h, State.again_get h]
  have tables : v.tables = s.tables := by rw [← hv, State.setAcc_tables, State.again_tables]
  have still : ((v.emit (.memRead (64 * (x.addr / 64)))).chan n).mov = none := by
    rw [State.chan_congr (v.emit_dma _), chan]
    exact hm
  obtain ⟨state, -, place, -⟩ := chanFields_kept n
  have issued := State.chFetch_issued (s := v.emit (.memRead (64 * (x.addr / 64)))) (n := n) len still (by
    rw [State.get_emit, get (f := DMA.CH_STAT.PC n) state, State.chBusy_congr (s := s) ((State.get_emit ..).trans (get state))]
    exact hf.imp_right fun h => h.congr (by rw [State.chan_congr (v.emit_dma _), chan]) tables ((State.get_emit ..).trans (get place)))
  rw [out, State.dmaGo_fetches rfl (by rw [issued.chan]; exact still) (by rw [issued.chan, State.chan_congr (v.emit_dma _), chan]; exact hs)]
  exact ⟨_, issued⟩

/-- A retry that fails and may be retried waits 1,024 beats more (R388). -/
theorem State.dmaAgain_waits (hl : n < s.dma.length) (ha : (s.chan n).acc = [x]) (hh : (s.chan n).halting = none) (hb : s.chBusy n = true)
    (hr : x.retries + 1 < s.get (DMA.CH_CTL.RETRIES n)) :
    s.dmaAgain n x .error = (s.again n x.again).setAcc n [{ x with due := some (s.ahead 1024), retries := x.retries + 1 }] := by
  have own := State.again_chan hl (y := x.again)
  have may : (s.again n x.again).mayRetry n x.again = true := by
    rw [State.mayRetry, own, hh, State.chBusy_congr (State.again_get (by simp [DMA.CH_STAT.STATE, DMA.CH_CNT.RD_OUT])), hb,
      State.again_get (by simp [DMA.CH_CTL.RETRIES, DMA.CH_CNT.RD_OUT])]
    exact decide_eq_true hr
  have beat : (s.again n x.again).ahead 1024 = s.ahead 1024 := by rw [State.ahead, State.again_beat, State.ahead]
  rw [State.dmaAgain_eq ha, if_pos (by decide)]
  exact (State.accFails_retries (by rw [own]) may).trans (by rw [beat]; rfl)

/-- A retry that fails with none left halts the channel (R388). -/
theorem State.dmaAgain_halts (hn : n < 4) (hl : n < s.dma.length) (ha : (s.chan n).acc = [x]) (hh : (s.chan n).halting = none) (hb : s.chBusy n = true)
    (hr : s.get (DMA.CH_CTL.RETRIES n) ≤ x.retries + 1) :
    (s.dmaAgain n x .error).settled n = (s.mem, DMA.halted, 4, none, false, none) := by
  have own := State.again_chan hl (y := x.again)
  rw [State.dmaAgain_eq ha, if_pos (by decide), State.accFails_settled hn (by rwa [State.again_length]) (by rw [own]) ?_ (by rw [own]; exact hh), State.again_mem]
  · rfl
  · exact .inr ((State.again_get (by simp [DMA.CH_CTL.RETRIES, DMA.CH_CNT.RD_OUT])).trans_le hr)
  · rw [State.chBusy_congr (State.again_get (by simp [DMA.CH_STAT.STATE, DMA.CH_CNT.RD_OUT]))]
    exact hb

/-- A channel that has halted goes on with nothing. -/
theorem State.dmaGo_halted {m : List Host.Cell} {e : Nat} (h : s.settled n = (m, DMA.halted, e, none, false, none)) : s.dmaGo n = s := by
  simp only [State.settled, Prod.mk.injEq] at h
  obtain ⟨-, state, -, mov, signal, -⟩ := h
  refine State.dmaGo_fetches (State.chFetch_idle ?_) mov signal
  rw [State.chIssues, State.chBusy, State.chState, state]
  rfl

end

end Sys2Proof.Machine
end

section
/-!
PROOFS. Pacing inputs, writes that memory turns away (R353, R384, R388, R484), and the DMA channels' rows together.
-/

namespace Sys2Proof.Machine

/-! ### Pacing inputs (R384) -/

section
variable {s : State} {n : Fin 4}

/-- A request that no channel waits for is pending. -/
theorem execDmqReqEdge_counts (h : s.dmaRuns = true) (hf : s.paceByFill = false) (hp : s.get (DMA.CH_STAT.PENDING n) < 15)
    (hw : s.get (DMA.CH_STAT.STATE n) ≠ DMA.waiting ∨ s.get (DMA.CH_STAT.WAIT_ON n) ≠ 1) :
    execDmqReqEdge n s = .next (s.put (DMA.CH_STAT.PENDING n) (s.get (DMA.CH_STAT.PENDING n) + 1)) := by
  have state (v : Nat) : (s.put (DMA.CH_STAT.PENDING n) v).chState n = s.get (DMA.CH_STAT.STATE n) :=
    State.get_put_apart _ _ (by simp [DMA.CH_STAT.PENDING, DMA.CH_STAT.STATE])
  have wait (v : Nat) : (s.put (DMA.CH_STAT.PENDING n) v).get (DMA.CH_STAT.WAIT_ON n) = s.get (DMA.CH_STAT.WAIT_ON n) :=
    State.get_put_apart _ _ (by simp [DMA.CH_STAT.PENDING, DMA.CH_STAT.WAIT_ON])
  have others : ¬ (s.get (DMA.CH_STAT.STATE n) = DMA.waiting ∧ s.get (DMA.CH_STAT.WAIT_ON n) = 1) := fun he => hw.elim (· he.1) (· he.2)
  simp only [execDmqReqEdge, h, hf, Nat.ne_of_lt hp, state, wait, others, Bool.not_true, Bool.or_self, Bool.false_eq_true, if_false]

theorem execDmqReqEdge_overruns (h : s.dmaRuns = true) (hf : s.paceByFill = false) (hp : s.get (DMA.CH_STAT.PENDING n) = 15) :
    execDmqReqEdge n s = .next ((s.bump (DMA.CH_STAT.REQ_OVERRUN n)).raise (EV.DMA.DMA_REQ_OVERRUN n) 0) := by
  simp only [execDmqReqEdge, h, hf, hp, Bool.not_true, Bool.or_self, Bool.false_eq_true, if_false, if_true]

/-- The end with a channel's fill level. -/
def State.filled (s : State) (n f : Nat) : State := { s with inp := { s.inp with dmqFill := Sparse.set n (some f) s.inp.dmqFill } }

theorem execDmqFillChange_moves {f : BitVec 12} (h : s.dmaRuns = true) (hf : s.paceByFill = true)
    (hw : s.get (DMA.CH_STAT.STATE n) ≠ DMA.waiting ∨ s.get (DMA.CH_STAT.WAIT_ON n) ≠ 2) :
    execDmqFillChange n f s = .next ((s.filled n f.toNat).gateUpdate n) := by
  have runs : ¬ (!(s.filled n f.toNat).dmaRuns || !(s.filled n f.toNat).paceByFill) = true := by
    rw [show (s.filled n f.toNat).dmaRuns = true from h, show (s.filled n f.toNat).paceByFill = true from hf]
    decide
  have others : ¬ (((s.filled n f.toNat).gateUpdate n).chState n = DMA.waiting ∧ ((s.filled n f.toNat).gateUpdate n).get (DMA.CH_STAT.WAIT_ON n) = 2) :=
    fun he => hw.elim (· he.1) (· he.2)
  exact congrArg Host.Outcome.next ((if_neg runs).trans (if_neg others))

theorem State.fillOf_filled (s : State) (n f : Nat) : (s.filled n f).fillOf n = f := by
  rw [State.fillOf, State.filled, Sparse.find_set, if_pos rfl]
  rfl

/-- The pacing gate follows the level (R384). -/
theorem State.filled_gate (hl : s.dma.length = 4) (f : Nat) : (((s.filled n f).gateUpdate n).chan n).gateShut =
    (if s.get (DMA.CH_WM.HIGH n) ≤ f then true else if f ≤ s.get (DMA.CH_WM.LOW n) then false else (s.chan n).gateShut) := by
  have len : n.val < (s.filled n f).dma.length := by
    rw [show (s.filled n f).dma.length = 4 from hl]
    exact n.isLt
  rw [State.gateUpdate, State.setChan_chan len, State.fillOf_filled]
  rfl

end

/-! ### Writes that memory turns away (R353, R388, R484) -/

section
variable {s : State}

theorem execMemoryWriteError_dma {n : Fin 4} {x : DmaAccess} {ans : MemAnswer} (hans : ans ≠ .ok) (hr : s.engRuns = true) (hc : s.clkOn 1 = true)
    (ha : (s.chan n).acc = [x]) (hw : x.use.isRead = false) (hd : x.due = none) :
    execMemoryWriteError (.dma n) ans s = .next (s.accFails n x (answerErr ans)) := by
  simp only [execMemoryWriteError, hans, hr, hc, ha, hw, hd, List.find?_cons, decide_false, Bool.not_true, Bool.not_false, Bool.or_self,
    Option.isNone_none, Bool.and_self, Bool.false_eq_true, if_false, if_true]

theorem execDmaProgramFetch_fails {n : Fin 4} {x : DmaAccess} {d : BitVec 1024} {ans : MemAnswer} (hans : ans ≠ .ok) (hr : s.dmaRuns = true)
    (ha : (s.chan n).acc = [x]) (hu : ∃ g, x.use = .fetch g) (hg : x.gone = false) (hd : x.due = none) :
    execDmaProgramFetch n d ans s = .next (s.accFails n x (answerErr ans)) := by
  obtain ⟨g, hu⟩ := hu
  simp only [execDmaProgramFetch, hans, hr, ha, hu, hd, hg, List.find?_cons, Bool.not_true, Option.isNone_none, Bool.and_self, Bool.false_eq_true,
    if_false, if_true, ne_eq, not_false_eq_true]

/-- The close action stops: CLOSE_ERR and LOST (R353). -/
theorem State.closeErr_fails (s : State) (n : Nat) (r : Bool) : (s.closeErr n r).win n WIN.STATE = 5 ∧
    bit ((s.closeErr n r).win n WIN.OUTCOME) 6 = true ∧ bit ((s.closeErr n r).win n WIN.OUTCOME) 4 = true ∧ (s.closeErr n r).basin = s.basin := by
  unfold State.closeErr
  rw [State.win_reportLost, State.win_reportLost]
  exact ⟨State.failWindow_state .., State.failWindow_outcome _ _ _ _ (by decide) (by decide), State.failWindow_outcome _ _ _ _ (by decide) (by decide),
    (congrArg Calm.basin (State.reportLost_calm ..)).trans (State.failWindow_basin ..)⟩

/-- Its record is the only memory written, and only where its page may accept one. -/
theorem State.closeErr_kept (s : State) (n : Nat) (r : Bool) :
    MemoryKeptOutside s (s.closeErr n r) (if r then [(64 * s.win n WIN.REC_ADDR, 32)] else []) := by
  intro b hb
  rw [State.closeErr, State.memByte_calm (State.reportLost_calm ..)]
  refine State.failWindow_kept s n _ _ b fun x hx => hb x ?_
  cases r with
  | false => exact hx
  | true =>
    split at hx
    · exact hx
    · cases hx

theorem execMemoryWriteError_close {w : BitVec 10} {ans : MemAnswer} (hans : ans ≠ .ok) (hr : s.engRuns = true) (hst : s.win w.toNat WIN.STATE = 3)
    (hc : w.toNat ∈ s.eng.closing) : execMemoryWriteError (.close w) ans s = .next (s.closeErr w.toNat true) := by
  have closing : s.eng.closing.contains w.toNat = true := List.contains_iff_mem.mpr hc
  simp only [execMemoryWriteError, hans, hr, hst, closing, decide_false, decide_true, Bool.not_true, Bool.or_self, Bool.and_self, Bool.false_eq_true,
    if_false, if_true]

theorem execMemoryWriteError_record {w : BitVec 10} {ans : MemAnswer} (hans : ans ≠ .ok) (hr : s.engRuns = true) (hst : s.win w.toNat WIN.STATE = 3)
    (hc : w.toNat ∈ s.eng.closing) (hrec : s.win w.toNat WIN.CL_REC = 1) :
    execMemoryWriteError (.record w) ans s = .next (s.closeErr w.toNat (ans != .drained && ans != .denied)) := by
  have closing : s.eng.closing.contains w.toNat = true := List.contains_iff_mem.mpr hc
  simp only [execMemoryWriteError, hans, hr, hst, closing, hrec, decide_false, decide_true, beq_self_eq_true, Bool.not_true, Bool.or_self, Bool.and_self,
    Bool.false_eq_true, if_false, if_true]

/-! The escape slot of a block (R484) -/

/-- The context has lost an escape block: its slot is poisoned and the loss counted. -/
def State.escLost (s : State) (ctx a len slot : Nat) : State :=
  (({ s with eng := { s.eng with escWrites := s.eng.escWrites.erase (ctx, a, len, slot) } } : State).engWrite a (natBytes 0 len)).countNf ctx

/-- NEXT goes back over the slot where it has come just past it. -/
def State.escBack (s : State) (slot : Nat) : State := if s.get DEFILE.ESC_STAT.NEXT = slot + 1 then s.put DEFILE.ESC_STAT.NEXT slot else s

theorem execMemoryWriteError_escape {ctx : BitVec 14} {ans : MemAnswer} {a len slot : Nat} (hans : ans ≠ .ok) (hr : s.engRuns = true)
    (hf : s.eng.escWrites.find? (fun e => e.1 == ctx.toNat) = some (ctx.toNat, a, len, slot)) :
    execMemoryWriteError (.escape ctx) ans s = .next (((s.escLost ctx.toNat a len slot).escBack slot).reportLost ctx.toNat 2) := by
  have lost : s.escapeError ctx.toNat = ((s.escLost ctx.toNat a len slot).escBack slot).reportLost ctx.toNat 2 := by
    rw [State.escapeError, hf]
    rfl
  simp only [execMemoryWriteError, hans, hr, lost, decide_false, Bool.not_true, Bool.or_self, Bool.false_eq_true, if_false]

section
variable (s : State) (ctx a len slot : Nat)

theorem State.escBack_keeps : (s.escBack slot).mem = s.mem ∧ (s.escBack slot).lostQ = s.lostQ ∧ (s.escBack slot).beat = s.beat := by
  unfold State.escBack
  split
  · exact ⟨s.put_mem .., s.put_lostQ .., s.put_beat ..⟩
  · exact ⟨rfl, rfl, rfl⟩

theorem State.escBack_next (h : s.get DEFILE.ESC_STAT.NEXT = slot + 1) : (s.escBack slot).get DEFILE.ESC_STAT.NEXT = slot := by
  have small := s.get_lt DEFILE.ESC_STAT.NEXT
  rw [State.escBack, if_pos h, State.get_put_same _ _ _ (by decide)]
  exact Nat.mod_eq_of_lt (by omega)

/-- The slot reads zero, and no other byte changes. -/
theorem State.escError_memByte (b : Nat) : (((s.escLost ctx a len slot).escBack slot).reportLost ctx 2).memByte b =
    if a ≤ b ∧ b < a + len then 0 else s.memByte b := by
  rw [State.memByte_calm (State.reportLost_calm ..), State.memByte_congr (State.escBack_keeps ..).1, State.escLost,
    State.memByte_calm (State.countNf_calm ..)]
  split
  · rename_i h
    rw [State.memByte_engWrite, if_pos h.1, natBytes_getD (by omega), Nat.zero_div]
    rfl
  · rename_i h
    rw [State.memByte_engWrite_apart _ (by rw [natBytes_length]; omega)]
    rfl

/-- What the loss leaves of the end's bookkeeping. -/
def State.lossRecord (s : State) : Nat × List LostEntry × Beat := (s.get DEFILE.ESC_STAT.NEXT, s.lostQ, s.beat)

theorem State.escLost_lossRecord : (s.escLost ctx a len slot).lossRecord = s.lossRecord := by
  have note (t : State) (g : Nat) : (t.noteWrite g).lossRecord = t.lossRecord := by
    obtain ⟨f, h | h⟩ := t.noteWrite_cases g
    · rw [h]
      rfl
    · rw [h, State.lossRecord, State.get_bump_apart _ (by decide), State.bump_lostQ, State.bump_beat]
      rfl
  generalize hu : ({ s with eng := { s.eng with escWrites := s.eng.escWrites.erase (ctx, a, len, slot) } } : State) = u
  have written : (u.engWrite a (natBytes 0 len)).lossRecord = u.lossRecord := by
    obtain ⟨_, h⟩ := (u.emit (.memWrite a (natBytes 0 len))).setMemBytes_eq a (natBytes 0 len)
    rw [State.engWrite, State.memTake, h]
    exact foldl_keeps State.lossRecord note _ _
  have counted (t : State) (c : Nat) : (t.countNf c).lossRecord = t.lossRecord := by
    obtain ⟨_, _, h⟩ := t.setTblPart_eq (ctxIdx c 3) (setBits (t.tblWord (ctxIdx c 3)) 32 32 (min (bits (t.tblWord (ctxIdx c 3)).toNat 32 32 + 1) (2 ^ 32 - 1)))
    rw [State.countNf, State.ctxCount, State.setCtx, h]
    rfl
  rw [State.escLost, hu, counted, written, ← hu]
  rfl

theorem State.markLost_lostQ (c : Nat) : (s.markLost c).lostQ = s.lostQ ∧ (s.markLost c).beat = s.beat := by
  obtain ⟨_, _, h⟩ := s.markLost_eq c
  rw [h]
  exact ⟨rfl, rfl⟩

/-- A context that is lost is queued while there is room. -/
theorem State.reportLost_queues (c cause : Nat) (h : s.lostQ.length < 64) :
    (s.reportLost c cause).lostQ = s.lostQ ++ [⟨c, cause, s.beat.toNat % 2 ^ 32⟩] := by
  obtain ⟨queue, beat⟩ := s.markLost_lostQ c
  obtain ⟨_, _, hr⟩ := (s.lostQueued c cause).raise_eq EV.TXN.CTX_LOST (c + cause * 2 ^ 16)
  rw [State.reportLost_eq, hr, State.lostQueued, queue, if_pos h, beat]

theorem State.reportLost_next (c cause : Nat) : (s.reportLost c cause).get DEFILE.ESC_STAT.NEXT = s.get DEFILE.ESC_STAT.NEXT := by
  obtain ⟨_, _, _, _, h⟩ := s.lostQueued_frame c cause
  rw [State.reportLost_eq, State.raise_get _ _ _ _ (by decide), h]
  rfl

end

end

/-! ### The statement -/

/-- ERR of an answer that turns an access away for good (R388). -/
theorem answerErr_final {ans : MemAnswer} {e : Nat} (h : (ans, e) ∈ [(MemAnswer.denied, 5), (.drained, 7), (.poison, 8)]) :
    ans ≠ .ok ∧ answerErr ans = some e ∧ e < 256 := by
  simp only [List.mem_cons, List.not_mem_nil, or_false, Prod.mk.injEq] at h
  obtain ⟨rfl, rfl⟩ | ⟨rfl, rfl⟩ | ⟨rfl, rfl⟩ := h <;> decide

/-- What a channel that is settled as HALTED shows. -/
theorem State.settled_halted {s : State} {n e : Nat} {m : List Host.Cell} {mv : Option DmaMove} {sg : Bool}
    (h : s.settled n = (m, DMA.halted, e % 256, mv, sg, none)) (he : e < 256) :
    s.mem = m ∧ s.get (DMA.CH_STAT.STATE n) = DMA.halted ∧ s.get (DMA.CH_STAT.ERR n) = e ∧ (s.chan n).halting = none := by
  simp only [State.settled, Prod.mk.injEq, Nat.mod_eq_of_lt he] at h
  obtain ⟨mem, state, err, -, -, halting⟩ := h
  exact ⟨mem, state, err, halting⟩

/-- A channel that runs halts where its only access is turned away for good (R388, R484). -/
theorem State.accFails_turned {s : State} {n : Fin 4} {x : DmaAccess} {ans : MemAnswer} {e : Nat} (hl : s.dma.length = 4) (ha : (s.chan n).acc = [x])
    (hb : s.chBusy n = true) (hh : (s.chan n).halting = none) (hans : (ans, e) ∈ [(MemAnswer.denied, 5), (.drained, 7), (.poison, 8)]) :
    (s.accFails n x (answerErr ans)).get (DMA.CH_STAT.STATE n) = DMA.halted ∧ (s.accFails n x (answerErr ans)).get (DMA.CH_STAT.ERR n) = e ∧
      (s.accFails n x (answerErr ans)).mem = s.mem := by
  obtain ⟨-, err, small⟩ := answerErr_final hans
  rw [err]
  obtain ⟨mem, state, errIs, -⟩ := State.settled_halted (State.accFails_settled n.isLt (by omega) ha hb hh (err := some e) (.inl rfl)) small
  exact ⟨state, errIs, mem⟩

/-- Settles O56: START fetches the first groups, DISABLE and HALT end what a channel does, firmware's writes of the queue take effect or are refused,
memory's acceptance and its errors move the channel as R388 to R391 say, and pacing inputs are counted. -/
theorem dmaChannelsStartPaceRetryAndStop : Obligations.DmaChannelsStartPaceRetryAndStop := by
  unfold Obligations.DmaChannelsStartPaceRetryAndStop
  refine ⟨?start, ?startRefused, ?disable, ?startDisable, ?head, ?headRefused, ?ctl, ?ctlRefused, ?accepted, ?acceptedHalt, ?retry, ?retryWaits, ?retryHalts,
    ?edge, ?edgeOverrun, ?fill, ?writeHalts, ?writeWaits, ?fetchHalts, ?close, ?record, ?escape⟩
  case start =>
    intro s n hl h hm hb he hrd hwr hp hh ha hk hr
    have free : s.startRefusal n = none := by
      simp only [State.startRefusal, State.on, hb, he, hrd, hwr, hp, hh, ha, bne_self_eq_false, Option.isSome_none, Bool.or_self, Bool.false_eq_true,
        ne_eq, not_true_eq_false, if_false]
    have issued := State.chStart_starts hl hk hr
    obtain ⟨only, -, -, -, tail⟩ := s.begun_keeps n.isLt
    obtain ⟨state, pc, err, pending, retries, written⟩ := s.busy.chBegun_get n
    obtain ⟨-, g, chan⟩ := s.busy.chBegun_chan n (by rw [s.busy_dma, hl]; exact n.isLt)
    have counted := issued.counted (s.busy.chBegun_counted n (by rw [s.busy_dma, hl]; exact n.isLt))
    have acc : ((s.busy.chStart n).chan n).acc = (List.range 5).map (s.fetchAcc n) := by
      rw [issued.chan, chan]
      rfl
    have apart {f : Field} (hf : f.key = (DMA.CH_STAT.STATE n).key) : f.key ≠ (DMA.CH_CNT.RD_OUT n).key := by
      rw [hf]
      exact (chanFields_kept n).1
    rw [exec_dmaStart, execDmaStart_runs h hm free]
    refine ⟨_, rfl, issued.mem.trans only.mem, (issued.get (DMA.CH_STAT.STATE n) (apart rfl)).trans state,
      (issued.get (DMA.CH_STAT.PC n) (apart rfl)).trans pc, (issued.get (DMA.CH_STAT.ERR n) (apart rfl)).trans err,
      (issued.get (DMA.CH_STAT.PENDING n) (apart rfl)).trans pending, issued.retries.trans retries, ?_, acc, ?_, ?_⟩
    · exact (issued.get _ (by simp [DMA.CH_CNT_HI.BYTES_WRITTEN, DMA.CH_CNT.RD_OUT])).trans written
    · rw [counted.1, acc]
      rfl
    · exact (issued.get _ (by simp only [DMA.CQ_TAIL.COUNT, DMA.CH_CNT.RD_OUT]; omega)).trans tail
  case startRefused =>
    intro s n h hm hb
    have refused : s.startRefusal n = some .state := by
      rw [State.startRefusal, if_pos]
      simpa using hb
    rw [exec_dmaStart, execDmaStart_refused h hm refused]
    exact ⟨_, rfl, s.refuse_mem .., s.refuse_dma .., s.refuse_reason_dma (dmaKeys n).1 .., s.refuse_counts (dmaKeys n).1 ..,
      s.refuse_get (dmaKeys n).1 _ _ (by simp only [DMA.CH_STAT.STATE]; omega)⟩
  case disable =>
    intro s n h hm
    obtain ⟨k, f, p, lo, hi, w, eq⟩ := s.chDisable_eq n
    rw [exec_dmaDisable, execDmaDisable_eq h hm, eq]
    refine ⟨_, rfl, s.disabledWith_mem n, s.disabledWith_out n, s.disabledWith_state n, ?_, ?_, ?_, s.disabledWith_retries n,
      fun hl => State.disabledWith_acc (by omega), fun m hne => s.disabledWith_chan_ne n hne⟩
    all_goals
      refine s.disabledWith_get n ?_ ?_ ?_ ?_ <;>
        simp only [DMA.CH_STAT.PC, DMA.CH_STAT.ERR, DMA.CQ_TAIL.COUNT, DMA.CH_STAT.STATE, DMA.CH_CNT.RD_OUT, DMA.CH_CNT_HI.BYTES_WRITTEN] <;> omega
  case startDisable =>
    intro s n h hm
    obtain ⟨k, f, p, lo, hi, w, eq⟩ := s.chDisable_eq n
    rw [exec_dmaStart, execDmaStart_disable h hm, eq]
    refine ⟨_, rfl, (State.refuse_mem ..).trans (s.disabledWith_mem n), ?_, State.refuse_reason_dma _ (dmaKeys n).1 ..⟩
    exact (State.refuse_get _ (dmaKeys n).1 _ _ (by simp only [DMA.CH_STAT.STATE]; omega)).trans (s.disabledWith_state n)
  case head =>
    intro s n d h hm hp hs hr
    rw [exec_cqHeadWrite, execCqHeadWrite_takes h hm hp hs hr]
    exact ⟨_, rfl, s.get_merged d cqHeadRow_takesAll (by decide) (List.pairwise_singleton ..) (by simp [cqHeadRow, DMA.CQ_HEAD.COUNT]), rfl, rfl⟩
  case headRefused =>
    intro s n d h hm hr
    rw [exec_cqHeadWrite, execCqHeadWrite_refuses h hm hr]
    exact ⟨_, rfl, s.refuse_get (dmaKeys n).2.1 _ _ (by simp only [DMA.CQ_HEAD.COUNT]; omega), s.refuse_reason_dma (dmaKeys n).2.1 ..⟩
  case ctl =>
    intro s n d h hm hb hp hs hlo hhi
    have size : bits (s.mergeRw (s.reg (DMA.CQ_CTL.SIZE n).key) d cqCtlRow.rw).toNat 0 5 = d.toNat % 32 :=
      s.bits_mergeRw_same _ d cqCtlRow.rw (by simp [cqCtlRow, State.serves]) (by decide) (List.pairwise_singleton ..) _ List.mem_cons_self
    rw [exec_cqConfigWrite, execCqConfigWrite_takes h hm hb hp hs hlo hhi]
    refine ⟨_, rfl, ?_, ?_, ?_, rfl⟩
    · rw [State.get_put_ne _ _ (by simp only [DMA.CQ_HEAD.COUNT, DMA.CQ_CTL.SIZE]; omega),
        State.get_put_ne _ _ (by simp only [DMA.CQ_TAIL.COUNT, DMA.CQ_CTL.SIZE]; omega), State.get, State.setReg_reg_same]
      exact size
    · rw [State.get_put_ne _ _ (by simp only [DMA.CQ_HEAD.COUNT, DMA.CQ_TAIL.COUNT]; omega), State.get_put_same _ _ _ (by simp [DMA.CQ_TAIL.COUNT]),
        Nat.zero_mod]
    · rw [State.get_put_same _ _ _ (by simp [DMA.CQ_HEAD.COUNT]), Nat.zero_mod]
  case ctlRefused =>
    intro s n ctl d h hm hb
    have page : (if ctl then (DMA.CQ_CTL.SIZE n).key else (DMA.CQ_BASE.ADDR n).key) / 4096 = 12 := by
      obtain ⟨-, -, -, -, ctlPage, -, -, basePage, -⟩ := dmaKeys n
      cases ctl
      · exact basePage
      · exact ctlPage
    rw [exec_cqConfigWrite, execCqConfigWrite_refuses h hm hb]
    exact ⟨_, rfl, s.refuse_get page _ _ (by simp only [DMA.CQ_CTL.SIZE]; omega), s.refuse_get page _ _ (by simp only [DMA.CQ_BASE.ADDR]; omega),
      s.refuse_reason_dma page ..⟩
  case accepted =>
    intro s n hl hr hm hs hh hp hre hf
    obtain ⟨l, t, reads, issued, eq⟩ := State.accepted_goes hl hm hs hh hp hf
    rw [exec_dmaWritesAccepted, execDmaWritesAccepted_eq hr, eq]
    exact ⟨t, rfl, issued.noWrites (by omega) hre reads, State.accepted_kept issued.mem,
      fun x hx hw i hi ha => State.accepted_byte issued.mem hre hx hw hi ha⟩
  case acceptedHalt =>
    intro s n e hl hr hm hs hh he hp ha
    obtain ⟨-, state, err, halting⟩ := State.settled_halted (State.accepted_halts n.isLt (by omega) hm hs hh hp ha) he
    rw [exec_dmaWritesAccepted, execDmaWritesAccepted_eq hr]
    exact ⟨_, rfl, state, err, halting⟩
  case retry =>
    intro s n now b x g hl hr ha hu ht hd hb hh hm hs hroute hf
    have tables := s.at_tables now
    obtain ⟨l, issued⟩ := State.dmaAgain_fetch (s := s.at now) (n := n) (by rw [State.at_dma]; omega) (by rw [State.at_chan, ha]) hu ht (by rwa [State.at_chan])
      (by rwa [State.at_chan]) ((State.rawRouteN_tables tables ..).trans hroute) (by
        rw [State.at_get, State.chBusy_congr (s.at_get now _)]
        exact hf.imp_right fun h => h.congr (by rw [State.at_chan]) tables (s.at_get now _))
    have len : n.val < ((s.at now).again n x.again).dma.length := by
      rw [State.again_length, State.at_dma]
      omega
    rw [exec_dmaBusRetry, execDmaBusRetry_eq hr ha hd hb hh]
    refine ⟨_, rfl, ?_, issued.out _ List.mem_cons_self, ?_, ?_⟩
    · rw [issued.chan, State.chan_congr (State.emit_dma ..), State.setAcc_own len]
      exact List.mem_cons_self
    · refine (State.again_counts (s := s.at now) (n := n) (y := x.again)).congr (s.at_get now _) ?_
      rw [issued.retries, State.get_emit, State.setAcc_retries]
    · rw [issued.mem, State.emit_mem, State.setAcc_mem, State.again_mem, State.at_mem]
  case retryWaits =>
    intro s n now b x hl hr ha hd hb hh hhalt hbusy hret
    have eq := State.dmaAgain_waits (s := s.at now) (n := n) (by rw [State.at_dma]; omega) (by rw [State.at_chan, ha]) (by rwa [State.at_chan])
      (by rwa [State.chBusy_congr (s.at_get now _)]) (by rwa [State.at_get])
    have len : n.val < ((s.at now).again n x.again).dma.length := by
      rw [State.again_length, State.at_dma]
      omega
    have chan := State.setAcc_own len [{ x with due := some ((s.at now).ahead 1024), retries := x.retries + 1 }]
    rw [← eq] at chan
    obtain ⟨dma, mem, get⟩ := State.dmaGo_retrying (s := (s.at now).dmaAgain n x .error) (n := n) (by rw [State.retrying, chan]; rfl)
    rw [exec_dmaBusRetry, execDmaBusRetry_eq hr ha hd hb hh]
    refine ⟨_, rfl, by rw [State.chan_congr dma, chan], ?_, ?_⟩
    · refine (State.again_counts (s := s.at now) (n := n) (y := x.again)).congr (s.at_get now _) ?_
      rw [get _ (by simp [DMA.CH_CNT.RETRIES, DMA.CH_STAT.STATE]), eq, State.setAcc_retries]
    · rw [mem, eq, State.setAcc_mem, State.again_mem, State.at_mem]
  case retryHalts =>
    intro s n now b x hl hr ha hd hb hh hhalt hbusy hret
    have settled := State.dmaAgain_halts (s := s.at now) n.isLt (by rw [State.at_dma]; omega) (by rw [State.at_chan, ha]) (by rwa [State.at_chan])
      (by rwa [State.chBusy_congr (s.at_get now _)]) (by rwa [State.at_get])
    obtain ⟨mem, state, err, -⟩ := State.settled_halted (e := 4) settled (by decide)
    rw [exec_dmaBusRetry, execDmaBusRetry_eq hr ha hd hb hh, State.dmaGo_halted settled]
    exact ⟨_, rfl, state, err, mem.trans (s.at_mem now)⟩
  case edge =>
    intro s n hr hf hp hw
    rw [exec_dmqReqEdge, execDmqReqEdge_counts hr hf hp hw]
    refine ⟨_, rfl, ?_, s.put_mem .., s.put_dma ..⟩
    rw [State.get_put_same _ _ _ (by simp [DMA.CH_STAT.PENDING])]
    exact Nat.mod_eq_of_lt (show s.get (DMA.CH_STAT.PENDING n) + 1 < 16 by omega)
  case edgeOverrun =>
    intro s n hr hf hp
    have keys (f : Field) (hk : f.key = (DMA.CH_STAT.STATE n).key) : f.key % 4096 ≠ 0x018 ∧ f.key % 4096 ≠ 0x020 ∧ f.key % 4096 ≠ 0x038 ∧
        f.key ≠ RESET.XING_STAT.OVERRUN.key := by
      rw [hk]
      simp only [DMA.CH_STAT.STATE, RESET.XING_STAT.OVERRUN]
      omega
    rw [exec_dmqReqEdge, execDmqReqEdge_overruns hr hf hp]
    refine ⟨_, rfl, ?_, ?_, State.raise_raised _ _ _ (by simp only [EV.DMA.DMA_REQ_OVERRUN]; omega), by rw [State.raise_mem, State.bump_mem]⟩
    · rw [State.raise_get _ _ _ _ (keys (DMA.CH_STAT.PENDING n) rfl), State.get_bump_apart _ (by simp [DMA.CH_STAT.REQ_OVERRUN, DMA.CH_STAT.PENDING]), hp]
    · rw [CountedOne, State.raise_get _ _ _ _ (keys (DMA.CH_STAT.REQ_OVERRUN n) rfl), State.get_bump_same _ _ (by simp [DMA.CH_STAT.REQ_OVERRUN])]
  case fill =>
    intro s n f hl hr hf hw
    rw [exec_dmqFillChange, execDmqFillChange_moves hr hf hw]
    exact ⟨_, rfl, s.fillOf_filled n f.toNat, rfl, rfl, State.filled_gate hl f.toNat⟩
  case writeHalts =>
    intro s n x ans e hl hans hr hc hb hh ha hw hd
    rw [exec_memoryWriteError, execMemoryWriteError_dma (answerErr_final hans).1 hr hc ha hw hd]
    exact ⟨_, rfl, State.accFails_turned hl ha hb hh hans⟩
  case writeWaits =>
    intro s n x ans hl hans hr hc hb hh ha hw hd hret
    have ok : ans ≠ .ok ∧ answerErr ans = none := by
      obtain rfl | rfl := hans <;> decide
    have may : s.mayRetry n x = true := by
      rw [State.mayRetry, hh, hb]
      exact decide_eq_true hret
    have len : n.val < s.dma.length := by omega
    rw [exec_memoryWriteError, execMemoryWriteError_dma ok.1 hr hc ha hw hd, ok.2, State.accFails_retries ha may]
    refine ⟨_, rfl, by rw [State.setAcc_own len], s.setAcc_mem .., ?_⟩
    rw [(State.setAcc_counted len _).2, State.setAcc_own len]
    simp [hw]
  case fetchHalts =>
    intro s n x d ans e hl hans hr hb hh ha hu hg hd
    rw [exec_dmaProgramFetch, execDmaProgramFetch_fails (answerErr_final hans).1 hr ha hu hg hd]
    exact ⟨_, rfl, State.accFails_turned hl ha hb hh hans⟩
  case close =>
    intro s w ans hans hr hst hc
    rw [exec_memoryWriteError, execMemoryWriteError_close hans hr hst hc]
    exact ⟨_, rfl, s.closeErr_fails w.toNat true⟩
  case record =>
    intro s w ans hans hr hst hc hrec
    obtain ⟨state, -, -, basin⟩ := s.closeErr_fails w.toNat (ans != .drained && ans != .denied)
    rw [exec_memoryWriteError, execMemoryWriteError_record hans hr hst hc hrec]
    refine ⟨_, rfl, state, basin, ?_⟩
    have kept := s.closeErr_kept w.toNat (ans != .drained && ans != .denied)
    cases ans <;> exact kept
  case escape =>
    intro s ctx ans a len slot hans hr hf hq
    have loss := s.escLost_lossRecord ctx.toNat a len slot
    simp only [State.lossRecord, Prod.mk.injEq] at loss
    obtain ⟨next, queue, beat⟩ := loss
    obtain ⟨-, backQueue, backBeat⟩ := (s.escLost ctx.toNat a len slot).escBack_keeps slot
    rw [exec_memoryWriteError, execMemoryWriteError_escape hans hr hf]
    refine ⟨_, rfl, fun i hi => ?_, fun b hb => ?_, fun hn => ?_, ?_, State.reportLost_raised ..⟩
    · rw [State.escError_memByte, if_pos (by omega)]
    · have apart := hb (a, len) List.mem_cons_self
      rw [State.escError_memByte, if_neg (by simp only at apart; omega)]
    · rw [State.reportLost_next, State.escBack_next _ _ (next.trans hn)]
    · rw [State.reportLost_queues _ _ _ (by rw [backQueue, queue]; exact hq), backQueue, queue, backBeat, beat]

end Sys2Proof.Machine
end
